-- ==== Sys2Proof/Word.lean ====
section
/-! DEFINITION. The word types of the host view and the plainest arithmetic on them. -/

namespace Sys2Proof

/-- A register word of the host view (R824). -/
abbrev Word := BitVec 32

/-- One byte of a stored image, page, frame or RAM. -/
abbrev Byte := BitVec 8

/-- An audio sample as the exact integer its audio word stands for (R7). -/
abbrev Sample := Int

/-- Bits `[lo + width - 1 : lo]` of `w` (R10). -/
def bitsOf (w lo width : Nat) : Nat := w / 2 ^ lo % 2 ^ width

/-- Bit `n` of `w` (R10). -/
def bitOf (w n : Nat) : Bool := bitsOf w n 1 == 1

/-- A two's-complement field of `width` bits as an integer. -/
def signedOf (v width : Nat) : Int :=
  if v % 2 ^ width < 2 ^ (width - 1) then (v % 2 ^ width : Nat) else (v % 2 ^ width : Nat) - (2 ^ width : Nat)

/-- The two's-complement field of `width` bits that holds `i` modulo its range. -/
def unsignedOf (i : Int) (width : Nat) : Nat := (i % (2 ^ width : Nat)).toNat

/-- `a` put before the first element it is not above. -/
def insertBy {α : Type} (le : α → α → Bool) (a : α) : List α → List α
  | [] => [a]
  | b :: t => if le a b then a :: b :: t else b :: insertBy le a t

/-- A list in the order of `le`, equal elements in their order. -/
def sortBy {α : Type} (le : α → α → Bool) : List α → List α
  | [] => []
  | a :: t => insertBy le a (sortBy le t)

/-- The elements of a list, the last of equal ones kept. -/
def distinct {α : Type} [DecidableEq α] : List α → List α
  | [] => []
  | a :: t => if a ∈ t then distinct t else a :: distinct t

end Sys2Proof
end

