-- ==== Sys2Proof/Syntax.lean ====
section
/-! DEFINITION. The syntax of the block's commands: the operand types, and `Instr` with one constructor for each row
of the spec's table of operations and events.

A command that reports an event carries the EVIDENCE of it (a duration, a level, a verdict, a received frame): its
meaning holds the evidence against the rule's threshold, and evidence that does not meet the rule is no such event
(log entry 5). -/

namespace Sys2Proof

/-- The masters of register accesses (R546). -/
inductive Master where
  | steward | app | hostSpi | hostI2c | network | debug
deriving DecidableEq, Repr

/-- The code of a master (R546). -/
def Master.code : Master → Nat
  | .steward => 0
  | .app => 1
  | .hostSpi => 2
  | .hostI2c => 3
  | .network => 4
  | .debug => 5

/-- How a host transaction is framed (R552, R555, R558). -/
inductive Framing where
  /-- whole words, each bit clocked -/
  | whole
  /-- the last word is cut by the rise of HOST_CS_N -/
  | cutWord
  /-- a START or STOP inside the last word -/
  | misplaced
  /-- the opcode byte is none of R552's -/
  | badOpcode
deriving DecidableEq, Repr

/-- What a link that drops cuts on its port: a frame being received, a frame being sent (R517, R518). -/
structure Cut where
  receiving : Bool
  sending : Bool
deriving DecidableEq, Repr

/-- The evidence of REF_LOST: the mean pull of the media PLL's last 1 s, in 0.01 ppm, and what each port's link cuts (R817). -/
structure RefLoss where
  ppm : Int
  cuts : List Cut
deriving DecidableEq, Repr

/-- What the island makes for a challenge: nonce, ephemeral public key and signature, and the pairwise test of the key pair (R624,
R633). -/
structure Challenge where
  bytes : List Byte
  pairOk : Bool
deriving DecidableEq, Repr

/-- One audio block: a list of channels, each of six samples (R6). -/
abbrev Block := List (List Sample)

/-- What the cryptographic engines answer for a tack image: the verdict on its signature (R86) and on its GCM tag
(R87), the plaintext of its ciphertext (R87), and the first eight bytes of its digest (R59, R95). -/
structure ImgEv where
  sigOk : Bool
  tagOk : Bool
  plain : List Byte
  digest : List Byte
deriving DecidableEq, Repr

/-- What the wake stages measure over one frame: Walk's energy in 0.5 dB units, the scores of Trot and Canter, Gallop's
score for each wake model, whether Gallop hears voice, and where in Walk's earliest frame it places the onset (R184,
R193). -/
structure WakeFrame where
  energy : Nat
  trot : Fin 256
  canter : Fin 256
  gallop : List (Fin 256)
  voice : Bool
  onset : Fin 384
deriving DecidableEq, Repr

/-- A frame as a MAC port received it: its bytes from the destination address to the last byte before the ICV and FCS,
a SecTAG in its place and the bytes after it decrypted; the bytes after the SecTAG as they were on the wire; its FCS
(0 good, 1 bad, 2 poisoned, R403); whether its SecTAG is well formed and names the peer's channel; whether its ICV verifies; a PHY receive
error; and whether link loss cut it short. -/
structure RxFrame where
  bytes : List Byte
  cipher : List Byte
  fcs : Fin 3
  secOk : Bool
  icvOk : Bool
  phyErr : Bool
  cut : Bool
deriving DecidableEq, Repr

/-- What a call detector measures over one stride: the band level and the level in the band below it, in 0.1 dB below
nominal (below 0 dBFS for CALLDET), and the mean voltage of PL_x_AUD in mV (R443, R445, R452). -/
structure CallMeas where
  tone : Int
  below : Int
  dc : Int
deriving DecidableEq, Repr

/-- What the node's power meters read over one stride: VIN in mV, the active input's current in mA, the input power in
0.1 W, and the voltage in mV and current in mA of each party-line port and PSE port (R727, R733). -/
structure PowerMeas where
  vinMv : Nat
  vinMa : Nat
  watts : Nat
  lineMv : List Nat
  lineMa : List Int
  pseMv : List Nat
  pseMa : List Nat
deriving DecidableEq, Repr

/-- What a received MKPDU shows once the island has checked its ICV (R650, R651): whether the ICV verifies, whether this
node is key server on the link, the association number of a SAK it distributes, and whether the peer reports the newest
SA installed for receive. -/
structure MkaSeen where
  icvOk : Bool
  keyServer : Bool
  sak : Option (Fin 4)
  installed : Bool
deriving DecidableEq, Repr

/-- What a control datagram's header says, and what the application core finds of it (R597, R598): its fields, its size, that
each of its operations keeps R597 (`opsOk`), that its TAG verifies, and which of its operations this command is. -/
structure NetHdr where
  version : Nat
  flags : Nat
  session : Nat
  seq : Nat
  opCount : Nat
  reserved : Nat
  size : Nat
  opsOk : Bool
  tagOk : Bool
  index : Nat
deriving DecidableEq, Repr

/-- The strap balls as the node samples them 20 µs after reset release (R673). -/
structure Straps where
  persona : Fin 4
  bootSrc : Fin 4
  hostif : Bool
  approved : Bool
deriving DecidableEq, Repr

/-- What one stride brings to the node from outside, and what its application core does with the MAC queues in it: the
evidence of STRIDE_BOUNDARY (log entry 5). -/
structure StrideIn where
  /-- the six samples at the pin of each ADC channel 0–9 in the stride that ends, of a line channel at its hybrid's output (R266) -/
  adc : List (List Sample)
  /-- the 384 PDM bits of each microphone 0–7 in the stride that ends, bit j the one sampled j-th (R162, R163) -/
  mic : List Nat
  /-- what call inputs 0–19 measured -/
  calls : List CallMeas
  /-- what the power meters read -/
  power : PowerMeas
  /-- local PTP time at the boundary: seconds and nanoseconds -/
  ptp : Nat × Nat
  /-- the predicted advance of the read positions over the stride that begins, in 1/65,536 samples (R527) -/
  advance : Nat
  /-- the phase error of the media clock in ns (R798) -/
  phaseNs : Int
  /-- its pull in 0.01 ppm -/
  pull : Int
  /-- ticks of the real-time clock in the stride that ends -/
  ticks : Nat
  /-- receive queues that the application core reads: port, queue (8 the exception queue) and number of frames -/
  reads : List (Fin 3 × Fin 9 × Nat)
  /-- a full tack image that the application core has staged for the standby MRAM slot from the network (R90) -/
  staged : Option (List Byte)
  /-- frames that the application core queues: port, transmit queue and bytes without FCS -/
  sends : List (Fin 3 × Fin 8 × List Byte)
deriving DecidableEq, Repr

/-- One command for each row of the table of operations and events. -/
inductive Instr where
  /-- POWER_ON_RESET (R668): the straps; the QSPI flash's contents; the serial number and base MAC address of the identity
  record; SUPPLY_MODE as the line die sampled it (R676). -/
  | powerOnReset (straps : Straps) (flash : List (Nat × Byte)) (serial mac : Nat) (self : Bool)
  /-- PIN_RESET (R669): RST_N was asserted for `us` µs; the straps; the QSPI flash's contents. -/
  | pinReset (us : Nat) (straps : Straps) (flash : List (Nat × Byte))
  /-- WATCHDOG_EXPIRY (R671): Steward watchdog expiry puts the line die into its reset state within 10 µs and restarts the node as a WDT reset. -/
  | watchdogExpiry
  /-- SOFT_RESET (R670): a write of `w` to SYS_RESET by master `m`. -/
  | softReset (m : Master) (w : Word)
  /-- SELF_TESTS_COMPLETE (R622): the first test of R622 that failed, 0 for none; the oscillators that passed; for a start
  without a node identity, the new public key and its pairwise test (R661). -/
  | selfTestsComplete (failed : Fin 11) (osc : Nat) (ident : List Byte) (pairOk : Bool)
  /-- FULL_LOAD (R91, steps 1 to 9): the load of the wanted tack image, with what the island finds of it. -/
  | fullLoad (ev : ImgEv)
  /-- STALLS_START (R91 step 10): `ms` since reset release; the verdicts of the island on the wake models' signatures. -/
  | stallsStart (ms : Nat) (models : List Bool)
  /-- SWAP_GO (R100): a write of `w` to FAB_SWAP_CTRL by master `m`. -/
  | swapGo (m : Master) (w : Word)
  /-- SWAP_LANDED (R100): verification and loading end, with what the island finds of the staged image. -/
  | swapLanded (ev : ImgEv)
  /-- SWAP_BOUNDARY (R101): boundary S. -/
  | swapBoundary
  /-- SWAP_CROSSFADE_END (R102): boundary S + 40. -/
  | swapCrossfadeEnd
  /-- STRIDE_BOUNDARY (R137): a stride boundary, with what the stride that ends has brought. -/
  | strideBoundary (x : StrideIn)
  /-- STALL_START (R137): stall `n` starts its stride, if the blocks of all its inputs have reached it. -/
  | stallStart (n : Fin 128)
  /-- BLOCK_COMMIT (R130): stall `n` ends its work `commitAt` units of 125 ns after the boundary, having run at a mean
  clock of `mhz2` × 2 MHz. -/
  | blockCommit (n : Fin 128) (commitAt : Nat) (mhz2 : Nat)
  /-- LAYER_END (R139): the end of layer `k`. -/
  | layerEnd (k : Fin 8)
  /-- CLOCK_SLACK_CHECK_1S (R146): the 8,000-stride check of stall `n`. -/
  | clockSlackCheck1S (n : Fin 128)
  /-- CLOCK_SLACK_CHECK_64 (R146): the 64-stride check of stall `n`. -/
  | clockSlackCheck64 (n : Fin 128)
  /-- MIC_STUCK (R171): the data wire of a pair has shown no transition for `us` µs. -/
  | micStuck (pair : Fin 4) (us : Nat)
  /-- MIC_UNSTUCK (R171): the data wire of a pair has shown transitions for `us` µs. -/
  | micUnstuck (pair : Fin 4) (us : Nat)
  /-- WAKE_FRAME_END (R183): the end of an 8 ms frame, with what the stages measured. -/
  | wakeFrameEnd (f : WakeFrame)
  /-- STAGE_READY (R187): wake stage `stage` (2 Trot, 3 Canter, 4 Gallop) is ready. -/
  | stageReady (stage : Fin 5)
  /-- STAGE_TIMEOUT (R189): wake stage `stage` has reached its TIMEOUT. -/
  | stageTimeout (stage : Fin 5)
  /-- WAKE_HANG_EXPIRY (R194): Gallop has heard no voice for HANG_MS. -/
  | wakeHangExpiry
  /-- WAKE_FORCE (R209): a write of `w` to WAKE_CTRL by master `m`. -/
  | wakeForce (m : Master) (w : Word)
  /-- CATCHUP_START (R195): boundary W + 1. -/
  | catchupStart
  /-- CATCHUP_RING_SWITCH (R198): a group boundary with a lag of 12,000 samples or less. -/
  | catchupRingSwitch
  /-- CATCHUP_LIVE (R199): a group boundary at which the lag is 0. -/
  | catchupLive
  /-- CATCHUP_TALK_CLOSED (R201): all talk on the HCODEC output's crosspoints has closed. -/
  | catchupTalkClosed
  /-- MIC_MUTE_ASSERT (R212): MIC_MUTE_N is asserted. -/
  | micMuteAssert
  /-- MIC_MUTE_RELEASE (R213): MIC_MUTE_N has been released for `us` µs without a break. -/
  | micMuteRelease (us : Nat)
  /-- MUTE_SILENCE_END (R213): `us` µs have passed since the muted pairs' clocks started again. -/
  | muteSilenceEnd (us : Nat)
  /-- TERM_WRITE (R236): a write of `w` to HYB_CH_CFG of channel `c` by master `m`. -/
  | termWrite (m : Master) (c : Fin 4) (w : Word)
  /-- TRIM_WRITE (R244): a write of `w` to HYB_CH_TRIM of channel `c` by master `m`. -/
  | trimWrite (m : Master) (c : Fin 4) (w : Word)
  /-- LEVEL_WRITE (R272): a write of `w` to HYB_CH_CFG of channel `c` by master `m`. -/
  | levelWrite (m : Master) (c : Fin 4) (w : Word)
  /-- BALANCE_START (R240): a write of `w` to HYB_BAL_CTRL of channel `c` by master `m`. -/
  | balanceStart (m : Master) (c : Fin 4) (w : Word)
  /-- BALANCE_SILENCE (R240): boundary B of the balance of channel `c`. -/
  | balanceSilence (c : Fin 4)
  /-- BALANCE_NOISE_CHECK (R240): the receive level of channel `c` over 20 ms, in 0.1 dB relative to nominal. -/
  | balanceNoiseCheck (c : Fin 4) (level : Int)
  /-- BALANCE_FIT (R240): the resistance in 0.5 Ω and the capacitance in 0.1 nF that channel `c` was fitted with. -/
  | balanceFit (c : Fin 4) (lineR lineC : Nat)
  /-- BALANCE_MEASURE (R240): the adaptation of channel `c` ends. -/
  | balanceMeasure (c : Fin 4)
  /-- BALANCE_RESULT (R240): the trans-hybrid loss of channel `c`, in 0.1 dB. -/
  | balanceResult (c : Fin 4) (thl : Nat)
  /-- AUTO_BALANCE (R243): 1 s after a resolution of channel `c`'s port. -/
  | autoBalance (c : Fin 4)
  /-- HSMIC_GAIN_STEP (R250): a zero crossing of the headset microphone, or `ms` since the gain was written. -/
  | hsmicGainStep (zeroCross : Bool) (ms : Nat)
  /-- HP_LOAD_SENSE (R254): the loads sensed at the left and right headset outputs, in Ω. -/
  | hpLoadSense (left right : Nat)
  /-- HP_SHORT (R253): the right or left headset output is in current limit. -/
  | hpShort (right : Bool)
  /-- SPK_OVERCURRENT (R258): the peak current of a speaker output, in mA. -/
  | spkOvercurrent (ma : Nat)
  /-- SPK_RESTART (R258): `ms` have passed since the overcurrent. -/
  | spkRestart (ms : Nat)
  /-- TDM_FRAME (R264): a frame of `bclks` BCLK periods and the bits of its slots arrive at TDM port `t`. -/
  | tdmFrame (t : Fin 4) (bclks : Nat) (slots : List Nat)
  /-- DTD_HANG_EXPIRY (R284): double talk of an instance (0–15 LEC, 16–19 AEC) ends. -/
  | dtdHangExpiry (inst : Fin 20)
  /-- ECHO_DIVERGE (R285): the residual of an instance has exceeded its input for 100 ms. -/
  | echoDiverge (inst : Fin 20)
  /-- ECHO_CONVERGED (R290): the ERLE of an instance has stayed high for 500 ms. -/
  | echoConverged (inst : Fin 20)
  /-- ECHO_RESULT (R292): the measurement result of an instance falls due. -/
  | echoResult (inst : Fin 20)
  /-- ECHO_RESET (R293): a write of `w` to ECHO_CTRL of an instance by master `m`. -/
  | echoReset (m : Master) (inst : Fin 20) (w : Word)
  /-- KEY_DEBOUNCE (R308): ball GPIO_`gpio` has held `level` for `stableUs` µs. -/
  | keyDebounce (gpio : Fin 32) (level : Bool) (stableUs : Nat)
  /-- KEY_TOGGLE (R313): a write of `w` to TG_KEY_TOGGLE by master `m`. -/
  | keyToggle (m : Master) (w : Word)
  /-- TALK_CLOSE (R314): a write of `w` to TG_KEY_CLOSE by master `m`. -/
  | talkClose (m : Master) (w : Word)
  /-- XP_WRITE (R321): a write of `w` to TG_XP_WRITE by master `m`. -/
  | xpWrite (m : Master) (w : Word)
  /-- SIDETONE_WRITE (R335): a write of `w` to TG_SIDETONE by master `m`. -/
  | sidetoneWrite (m : Master) (w : Word)
  /-- FOGHORN_ACK (R332): a write of `w` to TG_FOGHORN by master `m`. -/
  | foghornAck (m : Master) (w : Word)
  /-- DUCK_HANG_EXPIRY (R325): the attenuation of row `kind` of R324's table for mix output `output`. -/
  | duckHangExpiry (kind : Fin 3) (output : Fin 256)
  /-- BEAM_LAUNCH (R362): 4 µs after a boundary. -/
  | beamLaunch
  /-- OUT_RECEIVED (R365): frame `f` on ring port `p`, its SFD `at_` ns after the last boundary. -/
  | outReceived (p : Fin 2) (f : RxFrame) (at_ : Nat)
  /-- ICV_VERDICT (R655): the verdict on the beam that port `p` received last. -/
  | icvVerdict (p : Fin 2) (ok : Bool)
  /-- RET_RECEIVED (R368). -/
  | retReceived (p : Fin 2) (f : RxFrame) (at_ : Nat)
  /-- TURN_RECEIVED (R415). -/
  | turnReceived (p : Fin 2) (f : RxFrame) (at_ : Nat)
  /-- GATE_RECEIVED (R385). -/
  | gateReceived (p : Fin 2) (f : RxFrame)
  /-- MUSTER_RECEIVED (R384). -/
  | musterReceived (p : Fin 2) (f : RxFrame)
  /-- MUSTER_SEND (R383). -/
  | musterSend
  /-- MUSTER_PHASE_CHECK (R375). -/
  | musterPhaseCheck
  /-- ADMISSION_EFFECT (R386). -/
  | admissionEffect
  /-- NODE_ID_RELEASE (R389): node ID `id`. -/
  | nodeIdRelease (id : Fin 256)
  /-- PEER_DELAY (R360): the delay measured on ring port `p`, in ns. -/
  | peerDelay (p : Fin 2) (ns : Nat)
  /-- RING_LOCKED (R373): the boundary has stayed within `maxNs` ns of the ring's time for `ms`, and is `nowNs` away. -/
  | ringLocked (maxNs nowNs ms : Nat)
  /-- LIGHTHOUSE_CLAIM (R377). -/
  | lighthouseClaim
  /-- CLAIM_SEND (R378). -/
  | claimSend
  /-- RING_DISABLE (R390): a write of `w` to RING_CTRL by master `m`. -/
  | ringDisable (m : Master) (w : Word)
  /-- SLACK_ENTER (R392). -/
  | slackEnter
  /-- SLACK_LEAVE (R393). -/
  | slackLeave
  /-- LINK_DOWN (R517, R518): the link of port `p` drops, with what that cuts. -/
  | linkDown (p : Fin 3) (cut : Cut)
  /-- SILENT_PORT (R412). -/
  | silentPort (p : Fin 2)
  /-- WRAP_ENTRY (R418): at a boundary. -/
  | wrapEntry
  /-- RET_MISSING (R422): the beam of stride `k`. -/
  | retMissing (k : Nat)
  /-- RING_HEAL_CLOSE (R428): at a boundary. -/
  | ringHealClose
  /-- LIGHTHOUSE_LOSS (R430). -/
  | lighthouseLoss
  /-- FOGHORN_REPEAT (R434). -/
  | foghornRepeat
  /-- FOGHORN_RELEASE (R434). -/
  | foghornRelease
  /-- FOGHORN_RECEIVED (R437). -/
  | foghornReceived (p : Fin 2) (f : RxFrame)
  /-- FOGHORN_EXPIRY (R438): the announcement of node `origin`. -/
  | foghornExpiry (origin : Nat)
  /-- CALL_START (R444, R446): the tone or DC (`dc`) detector of call input `input` detects a call. -/
  | callStart (input : Fin 20) (dc : Bool)
  /-- CALL_END (R444, R446): the call of that detector ends. -/
  | callEnd (input : Fin 20) (dc : Bool)
  /-- CALL_STUCK (R447): the DC call of line channel `c` has lasted 10 s. -/
  | callStuck (c : Fin 4)
  /-- CALL_GEN_MIN_END (R454): the call generated on line channel `c` has lasted 100 ms. -/
  | callGenMinEnd (c : Fin 4)
  /-- BLANK_END (R458): 320 strides after line channel `c` stopped generating. -/
  | blankEnd (c : Fin 4)
  /-- CALL_SEND_TIMEOUT (R469): the CALL_SEND bit of group `g` has been 1 for SEND_MAX_S. -/
  | callSendTimeout (g : Fin 64)
  /-- LAMP_FOLDBACK (R465): lamp pin `n` has stayed at `mv` mV for `us` µs while its sink is on. -/
  | lampFoldback (n : Fin 4) (mv us : Nat)
  /-- LAMP_FOLDBACK_END (R465): lamp pin `n` is at `mv` mV. -/
  | lampFoldbackEnd (n : Fin 4) (mv : Nat)
  /-- FRAME_RECEIVED (R475): frame `f` on port `p`, its SFD `at_` ns after the last boundary; `mka` for an MKPDU. -/
  | frameReceived (p : Fin 3) (f : RxFrame) (at_ : Nat) (mka : Option MkaSeen)
  /-- PAUSE_EXPIRY (R485): bit times since the pause frame ended. -/
  | pauseExpiry (bitTimes : Nat)
  /-- PAUSE_WATCHDOG (R486): the pause has been in force for `ms` without a break. -/
  | pauseWatchdog (ms : Nat)
  /-- TX_FRAME_START (R501): on port `p`, `at_` ns after the last boundary, with `queued` bytes of the next frame in its
  queue; `dry`: the queue runs dry while it is sent; the next beam is expected on the port in `beamNs` ns. -/
  | txFrameStart (p : Fin 3) (queued : Nat) (dry : Bool) (beamNs at_ : Nat)
  /-- SA_SWITCH (R651): port `p` at a frame boundary. -/
  | saSwitch (p : Fin 3)
  /-- LPI_ENTER (R507): port C's queues have been idle for `us`. -/
  | lpiEnter (us : Nat)
  /-- LPI_LEAVE (R509): port `p`, for cause 0 a queued frame, 1 its PHY, 2 the other ring port, 3 the end of slack, `at_`
  ns after the last boundary and `us` after it entered. -/
  | lpiLeave (p : Fin 3) (cause : Fin 4) (at_ us : Nat)
  /-- STAT_SNAPSHOT (R515): a write of `w` to STAT_SNAP_CTRL by master `m`. -/
  | statSnapshot (m : Master) (w : Word)
  /-- SNAPSHOT_DONE (R515). -/
  | snapshotDone
  /-- IOP_STREAM_ENABLE (R522): a write of `w` to the CFG register of transmit or receive stream `k` by master `m`. -/
  | iopStreamEnable (m : Master) (tx : Bool) (k : Fin 32) (w : Word)
  /-- SSRC_TIMEOUT (R525): receive stream `k`. -/
  | ssrcTimeout (k : Fin 32)
  /-- PTP_LOCK (R539): the servo's offset `nowNs`, whose magnitude has been at most `maxNs` for `ms`, the mean path delay
  and the port state. -/
  | ptpLock (nowNs : Int) (maxNs ms path : Nat) (state : Fin 9)
  /-- MEDIA_ALIGN (R541): D(k) in 1/65,536 samples. -/
  | mediaAlign (d : Nat)
  /-- PTP_CLOCK_STEP (R544): the local clock now reads `sec` and `ns` at the last boundary. -/
  | ptpClockStep (sec ns : Nat)
  /-- PTP_CAPTURE (R537): a write of `w` to PTP_CAPTURE by master `m`, with the local PTP time. -/
  | ptpCapture (m : Master) (w : Word) (sec ns : Nat)
  /-- HOST_WRITE (R555): a WRITE transaction: how it was framed, its address, its whole data words. -/
  | hostWrite (fr : Framing) (addr : Nat) (words : List Word)
  /-- HOST_READ (R554): a READ transaction of `count` whole words from an address. -/
  | hostRead (fr : Framing) (addr : Nat) (count : Nat)
  /-- PAGE_READ (R571): a transaction that takes `count` whole words of the page. -/
  | pageRead (fr : Framing) (count : Nat)
  /-- READ_CONTINUE (R574): a transaction that takes `count` whole words more. -/
  | readContinue (fr : Framing) (count : Nat)
  /-- PAGE_WRITE (R583): a transaction that carries bytes of the next page of a load. -/
  | pageWrite (fr : Framing) (bytes : List Byte)
  /-- WRITE_CONTINUE (R583): a transaction that carries more bytes of a part-written page. -/
  | writeContinue (fr : Framing) (bytes : List Byte)
  /-- ENTER_QUAD (R556). -/
  | enterQuad
  /-- EXIT_QUAD (R556). -/
  | exitQuad
  /-- PAGE_HOLD_EXPIRY (R576): `ms` have passed since the transaction that left a page held. -/
  | pageHoldExpiry (ms : Nat)
  /-- LOAD_START (R582): a write of `w` to HOST_LOAD_CTRL by master `m`. -/
  | loadStart (m : Master) (w : Word)
  /-- LOAD_HOLD_EXPIRY (R115): `ms` have passed since the last transaction of the load. -/
  | loadHoldExpiry (ms : Nat)
  /-- RESULT_ACK (R566): a write of `w` by master `m` to the ACK register of result cell `cell`: 0 the wake result, 1–4 the
  hybrids, 5–24 the echo instances, 25–28 the line channels' calls, 29–32 the call detectors. -/
  | resultAck (m : Master) (cell : Fin 33) (w : Word)
  /-- REINS_TAKE (R586): a write of `w` by master `m`. -/
  | reinsTake (m : Master) (w : Word)
  /-- REINS_GIVE (R588): a write of `w` by master `m`. -/
  | reinsGive (m : Master) (w : Word)
  /-- NET_READ (R599): a READ operation of a control datagram: `count` words from `addr`. -/
  | netRead (h : NetHdr) (addr count : Nat)
  /-- NET_WRITE (R599): a WRITE operation of a control datagram. -/
  | netWrite (h : NetHdr) (addr : Nat) (words : List Word)
  /-- NET_KEY (R599): a KEY operation, ADDR the request of each slot. -/
  | netKey (h : NetHdr) (addr : Word)
  /-- NET_REINS_TAKE (R599): ADDR the group mask. -/
  | netReinsTake (h : NetHdr) (addr : Word)
  /-- NET_REINS_GIVE (R599): ADDR the group mask. -/
  | netReinsGive (h : NetHdr) (addr : Word)
  /-- NET_GET_CHALLENGE (R636): `out` what the island makes. -/
  | netGetChallenge (h : NetHdr) (out : Challenge)
  /-- NET_AUTHENTICATE (R636): the request's 195-byte body; `sigOk`: the operator's signature verifies; `session`: the number
  the island gives the session. -/
  | netAuthenticate (h : NetHdr) (body : List Byte) (sigOk : Bool) (session : Nat)
  /-- NET_SESSION_EXPIRY (R600): session `session` has had no accepted datagram for `secs` seconds. -/
  | netSessionExpiry (session secs : Nat)
  /-- COPY_GO (R608): a write of `w` to COPY_CH_n_CTRL of channel `ch` by master `m`. -/
  | copyGo (m : Master) (ch : Fin 4) (w : Word)
  /-- COPY_ABORT (R608): a write of `w` to COPY_CH_n_CTRL of channel `ch` by master `m`. -/
  | copyAbort (m : Master) (ch : Fin 4) (w : Word)
  /-- COPY_ROW (R604): the engine serves the channel whose turn it is. -/
  | copyRow
  /-- GPIO_EDGE (R612): ball GPIO_`gpio` has changed to `level` and held it for `us` µs. -/
  | gpioEdge (gpio : Fin 32) (level : Bool) (us : Nat)
  /-- GPIO_OUT_SET (R613): a write of `w` by master `m`. -/
  | gpioOutSet (m : Master) (w : Word)
  /-- GPIO_OUT_CLR (R613): a write of `w` by master `m`. -/
  | gpioOutClr (m : Master) (w : Word)
  /-- ENCODER_DETENT (R617): a detent of encoder `k`, clockwise or not. -/
  | encoderDetent (k : Fin 4) (clockwise : Bool)
  /-- GET_CHALLENGE (R633): the mailbox service, `out` what the island makes. -/
  | getChallenge (out : Challenge)
  /-- AUTHENTICATE (R633): the mailbox service; `sigOk`: the operator's signature verifies; `session`: the number the island
  gives the session. -/
  | authenticate (sigOk : Bool) (session : Nat)
  /-- CLOSE_SESSION (R635): The CLOSE_SESSION service closes the caller's session. -/
  | closeSession
  /-- GET_IDENTITY (R638): The GET_IDENTITY service returns the node identity public key. -/
  | getIdentity
  /-- ENROL_OPERATOR (R639): The ENROL_OPERATOR service enrols an operator public key and role in a slot. -/
  | enrolOperator
  /-- REMOVE_OPERATOR (R640): The REMOVE_OPERATOR service removes an operator slot unless it is the last CO. -/
  | removeOperator
  /-- ENROL_IMAGE_KEY (R638): the mailbox service. -/
  | enrolImageKey
  /-- LOAD_KEY (R638): the mailbox service; `unwrapOk`: the wrapped key passes its integrity check. -/
  | loadKey (unwrapOk : Bool)
  /-- DELETE_KEY (R638): The DELETE_KEY service destroys a tack image key or CAK. -/
  | deleteKey
  /-- GEN_IDENTITY (R638): the mailbox service, the new public key and its pairwise test. -/
  | genIdentity (pub : List Byte) (pairOk : Bool)
  /-- SET_MACSEC (R641): The SET_MACSEC service sets a port's cipher suite, CAK slot and key-server priority. -/
  | setMacsec
  /-- COMMIT_APPROVED (R629): The COMMIT_APPROVED service burns the APPROVED fuse. -/
  | commitApproved
  /-- ZEROISE (R658): The ZEROISE service starts zeroisation. -/
  | zeroise
  /-- CHALLENGE_EXPIRY (R634): the challenge of master `m` is `ms` old. -/
  | challengeExpiry (m : Master) (ms : Nat)
  /-- LOCKOUT_END (R634): the failed AUTHENTICATE of master `m` is `ms` old. -/
  | lockoutEnd (m : Master) (ms : Nat)
  /-- ENTROPY_HEALTH_FAIL (R624): oscillator `osc` gave `run` equal samples in a row, or one value `count` times in a window
  of 1,024. -/
  | entropyHealthFail (osc : Fin 16) (run count : Nat)
  /-- MKA_LIFE_EXPIRY (R653): port `p` has heard no MKPDU of its peer for `ms`. -/
  | mkaLifeExpiry (p : Fin 3) (ms : Nat)
  /-- ZERO_PIN (R658): ZERO_N has been asserted without a break for `cycles` island cycles. -/
  | zeroPin (cycles : Nat)
  /-- SHIELD_BREACH (R663): A breach found by the active shield check starts zeroisation. -/
  | shieldBreach
  /-- ENV_FAILURE (R664): `kind` 0 VDD_CORE in mV low, 1 VDD_CORE in mV high, 2 the island's junction in °C, 3 its clock in
  kHz, for `us`. -/
  | envFailure (kind : Fin 4) (value : Int) (us : Nat)
  /-- ZEROISATION_COMPLETE (R659): Zeroisation finishes erasing the CSPs, writes the cause and triggers a ZERO reset into halter mode. -/
  | zeroisationComplete
  /-- COMMIT_TACK_NOW (R710): a write of `w` to BOOT_COMMIT by master `m`, with what the island finds of the image. -/
  | commitTackNow (m : Master) (w : Word) (ev : ImgEv)
  /-- COMMIT_TACK_NEXT_BOOT (R710). -/
  | commitTackNextBoot (m : Master) (w : Word) (ev : ImgEv)
  /-- COMMIT_FIRMWARE (R710): `sigOk`: the signature verifies. -/
  | commitFirmware (m : Master) (w : Word) (sigOk : Bool)
  /-- COMMIT_WAKE_MODEL (R710). -/
  | commitWakeModel (m : Master) (w : Word) (sigOk : Bool)
  /-- BOOT_CONFIRM (R711): a write of `w` by master `m`. -/
  | bootConfirm (m : Master) (w : Word)
  /-- TRIAL_AUTO_CONFIRM (R711): audio has run for 30 s. -/
  | trialAutoConfirm
  /-- RECOVER (R713): a write of `w` to SYS_RESET by master `m`. -/
  | recover (m : Master) (w : Word)
  /-- HOST_API_DECLARE (R705): a write of `w` to SYS_HOST_API by master `m`. -/
  | hostApiDeclare (m : Master) (w : Word)
  /-- JOURNAL_SETTING_WRITE (R684): the journalled field at `addr` with `mask` has been unchanged for 2 s; `value` names the
  crosspoint where the field is TG_XP_WRITE. -/
  | journalSettingWrite (addr mask value : Nat)
  /-- AUTO_LISTEN_END (R37): the highest voltage at PL_x_PWR of port `p` in its 50 ms listen, in mV. -/
  | autoListenEnd (p : Fin 2) (maxMv : Nat)
  /-- AUTO_RELISTEN (R39): PL_x_PWR of port `p` has stayed at or below `mv` for `ms`. -/
  | autoRelisten (p : Fin 2) (mv ms : Nat)
  /-- HOST_WDOG_EXPIRY (R50): `ms` since the last write of SYS_HOST_ALIVE. -/
  | hostWdogExpiry (ms : Nat)
  /-- HOST_ALIVE (R51): a write of `w` to SYS_HOST_ALIVE by master `m`. -/
  | hostAlive (m : Master) (w : Word)
  /-- INPUT_QUALIFY (R715): input `i` has stood at `mv` or more for `ms`; for the PD input, its hot-swap switch is fully on. -/
  | inputQualify (n : Fin 4) (mv ms : Nat)
  /-- INPUT_DISQUALIFY (R715): input `i` is at `mv`. -/
  | inputDisqualify (n : Fin 4) (mv : Nat)
  /-- PD_CLASSIFY (R723): the class that PD_CLS requests and the class that the PSE's class events grant. -/
  | pdClassify (req grant : Fin 9)
  /-- PD_INRUSH_END (R724): `ms` since the hot-swap switch was fully on. -/
  | pdInrushEnd (ms : Nat)
  /-- OUTPUT_REQUEST (R730): outputs about to start. -/
  | outputRequest (outs : List (Fin 4))
  /-- BUDGET_SHED (R731): P_AVAIL is below the reserved sum. -/
  | budgetShed
  /-- BUDGET_RECHECK (R732): P_AVAIL has been unchanged for `steadyMs`. -/
  | budgetRecheck (steadyMs : Nat)
  /-- INPUT_OVERLOAD (R733): the input power in 0.1 W that has been exceeded for `ms`. -/
  | inputOverload (watts ms : Nat)
  /-- VIN_VALID (R737): VIN stands at `mv` with the active input's switch fully on; `self` is SUPPLY_MODE as sampled. -/
  | vinValid (mv : Nat) (self : Bool)
  /-- RAIL_TIMEOUT (R738): rail `r` has not reached 90 % `ms` after its start. -/
  | railTimeout (r : Fin 6) (ms : Nat)
  /-- RAIL_RETRY (R738): `ms` since the rails were turned off. -/
  | railRetry (ms : Nat)
  /-- SEQ_VIOLATION (R743): rule `r` + 1 of R742 is broken. -/
  | seqViolation (r : Fin 5)
  /-- SEQ_LEGAL (R743): the rails have reached a legal state. -/
  | seqLegal
  /-- AVS_ADJUST (R740): the steward's look at the stalls' clocks, `ms` after its last step. -/
  | avsAdjust (ms : Nat)
  /-- APP_SLEEP (R747): the application core is to sleep. -/
  | appSleep
  /-- APP_WAKE (R747): a wake event, wake-pattern match, panel input change or host write. -/
  | appWake
  /-- BROWNOUT_WARNING (R749): VIN has stayed at or below `mv` for `us` µs. -/
  | brownoutWarning (mv us : Nat)
  /-- BROWNOUT_END (R751): VIN has stayed at or above `mv` for `ms`. -/
  | brownoutEnd (mv ms : Nat)
  /-- VIN_LOSS (R752): VIN has stayed at or below `mv` for `us` µs. -/
  | vinLoss (mv us : Nat)
  /-- TETHER_LOSS (R754): `us` µs without a valid frame, or `crc` frames in a row with a bad CRC. -/
  | tetherLoss (us crc : Nat)
  /-- TETHER_RETRAIN (R757): the steward has retrained the link. -/
  | tetherRetrain
  /-- SOURCE_START (R765): sourcing of port `p` is permitted and granted. -/
  | sourceStart (p : Fin 2)
  /-- SOURCE_LISTEN_END (R765): the highest voltage in the 50 ms listen of port `p`, in mV. -/
  | sourceListenEnd (p : Fin 2) (maxMv : Nat)
  /-- ALREADY_POWERED_RELISTEN (R766): the highest voltage in a further listen of port `p`. -/
  | alreadyPoweredRelisten (p : Fin 2) (maxMv : Nat)
  /-- SOFT_START_DONE (R765): the output of port `p` stands at `mv`, with VIN at `vin`, at most `ms` after the soft start. -/
  | softStartDone (p : Fin 2) (mv vin ms : Nat)
  /-- SOFT_START_TIMEOUT (R765): the output of port `p` stands at `mv` `ms` after the soft start. -/
  | softStartTimeout (p : Fin 2) (mv ms : Nat)
  /-- LINE_OVERLOAD (R768): port `p` has been at its limit for `limitMs`, or below 12.0 V for `lowMs`. -/
  | lineOverload (p : Fin 2) (limitMs lowMs : Nat)
  /-- LINE_CONTENTION (R769): a current of `ma` into port `p` for `ms`. -/
  | lineContention (p : Fin 2) (ma ms : Nat)
  /-- RETRY_WAIT_END (R773): `ms` of the retry wait of port `p` have passed, with `maxMv` the highest voltage in them. -/
  | retryWaitEnd (p : Fin 2) (ms maxMv : Nat)
  /-- RETRY_RESET (R775): port `p` has sourced for 600 s. -/
  | retryReset (p : Fin 2)
  /-- LINE_LATCH_CLEAR (R776): a write of `w` to LINE_x_RETRY of port `p` by master `m`. -/
  | lineLatchClear (m : Master) (p : Fin 2) (w : Word)
  /-- SHORT_TO_SUPPLY_BEGIN (R777): the magnitude at monitored pin `pin` (LINE_SHORT bit) has exceeded `mv` for `ms`. -/
  | shortToSupplyBegin (pin : Fin 10) (mv ms : Nat)
  /-- SHORT_TO_SUPPLY_END (R777): the magnitude at `pin` has stayed at or below `mv` for `ms`. -/
  | shortToSupplyEnd (pin : Fin 10) (mv ms : Nat)
  /-- SHORT_RECOVER (R779): `ms` since SHORT_TO_SUPPLY of `pin` ended. -/
  | shortRecover (pin : Fin 10) (ms : Nat)
  /-- PSE_DETECTION (R782): PSE port `n` + 1 saw at most `maxMv` and a signature of `sig` × 0.1 kΩ. -/
  | pseDetection (n : Fin 2) (maxMv sig : Nat)
  /-- PSE_CLASSIFICATION (R781): the class measured at PSE port `n` + 1. -/
  | pseClassification (n : Fin 2) (cls : Fin 5)
  /-- PSE_POWER_UP (R782): PSE port `n` + 1 stands at `mv` with VIN at `vin`, `ms` after step 4. -/
  | psePowerUp (n : Fin 2) (mv vin ms : Nat)
  /-- PSE_FAULT (R784): fault `kind` (0 OVERLOAD in 0.1 W, 1 ILIM and 2 SHORT in mA, 3 VIN_RANGE in mV) of `value` for `ms`. -/
  | pseFault (n : Fin 2) (kind : Fin 4) (value ms : Nat)
  /-- PSE_DISCONNECT (R784): PSE port `n` + 1 has drawn `ma` for `ms`. -/
  | pseDisconnect (n : Fin 2) (ma ms : Nat)
  /-- PSE_RETRY_WAIT_END (R785): `ms` of the wait of PSE port `n` + 1 have passed. -/
  | pseRetryWaitEnd (n : Fin 2) (ms : Nat)
  /-- PSE_LATCH_CLEAR (R785): a write of `w` to PSE_n_RETRY by master `m`. -/
  | pseLatchClear (m : Master) (n : Fin 2) (w : Word)
  /-- THERM_SAMPLE (R787): the sensors of the logic die and of the line die, in 0.25 °C. -/
  | thermSample (logic line : List Int)
  /-- THERM_LEVEL_CHANGE (R788): a die (0 logic, 1 line) changes level. -/
  | thermLevelChange (die : Fin 2)
  /-- THERM_SHUTDOWN (R792): the hottest line-die sensor, in 0.25 °C. -/
  | thermShutdown (hottest : Int)
  /-- THERM_SHUTDOWN_END (R792): the hottest line-die sensor, in 0.25 °C. -/
  | thermShutdownEnd (hottest : Int)
  /-- MEDIA_PLL_LOCK (R800). -/
  | mediaPllLock
  /-- MEDIA_MODE_CHANGE (R797): the phase error in ns against the target that now governs, and the PLL's pull in 0.01 ppm
  (entering HOLDOVER: the mean pull of its last 1 s). -/
  | mediaModeChange (phaseNs ppm : Int)
  /-- REF_LOST (R817): XTAL_IN has shown no edge for `us` µs, with its evidence. -/
  | refLost (us : Nat) (loss : RefLoss)
  /-- REF_RESTORED (R817): the reference has run for `ms`, and the PLLs have returned to it. -/
  | refRestored (ms : Nat)
  /-- ACCESS_TIMEOUT (R809): an access of master `m` to address `addr` has not completed 8 µs after its acceptance. -/
  | accessTimeout (m : Master) (addr : Nat)
  /-- RTC_SET (R813): a write of `w` to CLK_RTC_SEC by master `m`. -/
  | rtcSet (m : Master) (w : Word)
  /-- RTC_XTAL_SWITCH (R815): crystal oscillation is detected `ms` after VDD_AON became valid. -/
  | rtcXtalSwitch (ms : Nat)
  /-- STRIDE_CAPTURE (R800): a write of `w` to CLK_CAPTURE by master `m`. -/
  | strideCapture (m : Master) (w : Word)
  /-- REGISTER_WRITE (R826): a write of `w` to address `addr` by master `m`; `rivals`: the writes of other masters that reach
  their registers in the same register cycle. -/
  | registerWrite (m : Master) (addr : Nat) (w : Word) (rivals : List (Master × Nat × Word))
  /-- LINK_UP: the link of port `p` comes up at `speed` (0 10, 1 100, 2 1000 Mb/s), at full duplex or not. -/
  | linkUp (p : Fin 3) (speed : Fin 3) (full : Bool)
  /-- HP_SHORT_END (R253): the right or left headset output leaves current limit. -/
  | hpShortEnd (right : Bool)
  /-- PHY_RX_LPI_ENTRY (R512): the PHY of port `p`. -/
  | phyRxLpiEntry (p : Fin 3)
  /-- MKA_HELLO (R650). -/
  | mkaHello
  /-- MBOX_SERVICE_DONE (R638): A running SEC mailbox service finishes, writing its output and code, clearing BUSY and setting SEC_IRQ.MBOX_DONE. -/
  | mboxServiceDone
  /-- DOMAIN_POWER_UP_DONE (R748): `us` µs since the power-up of the domain or block first in the queue began. -/
  | domainPowerUpDone (us : Nat)
deriving DecidableEq, Repr

end Sys2Proof
end

