-- ==== Sys2Proof/Config.lean ====
section
/-! DEFINITION. The free values: what the spec leaves open and the node goes on with. None has a body, so nothing can
prove a value of one (log entry 4). -/

namespace Sys2Proof.Config

/-- An audio sample that the spec gives no rule for, as the 24 bits of an audio word. -/
opaque freeSample : Nat → BitVec 24

/-- A truth value the spec leaves open. -/
opaque freeBool : Nat → Bool

/-- A 32-bit value the spec leaves open. -/
opaque freeWord : Nat → BitVec 32

/-- A sample that an echo canceller gives, as the 24 bits of an audio word: output port 0 or 1, how many subbands it works in
and the decimation of each (R276), the decimation phase of the sample, its taps, and the samples of the near end and of the
references that reach it (R280). Beyond those, the spec does not give the filterbank or its arithmetic. -/
opaque echoSample : (port bands decim phase taps : Nat) → (near refs : List Int) → BitVec 24

/-- The taps that one LMS step leaves (R283), scaled by STEP / 256: the arithmetic of the step is not given. 0 stands for
cleared taps. -/
opaque echoTaps : (bands decim step taps : Nat) → (near refs : List Int) → Nat

/-- The power of one of an NLP's 32 subbands of 750 Hz over 24 samples (R286): the filterbank is not given. -/
opaque bandPower : (band : Nat) → (x : List Int) → BitVec 64

/-- A sample that an NLP gives in MODE 1 or 2: the attenuations of its 32 subbands in 0.1 dB, the powers of the noise that
fills them, its input, and the sample's place in the block (R286, R288). -/
opaque nlpSample : (atts noise : List Nat) → (x : List Int) → (j : Nat) → BitVec 24

/-- What a microphone's two half-band stages and its compensating FIR make of 161 outputs of its CIC stage, the centre being 20
samples at 48 kHz back (R165–R168), in units of 1/256 of the CIC's: `rising` says whether the fractional delay of R168 is in
force. The spec binds the response, not the coefficients. -/
opaque decimate : (rising : Bool) → (cic : List Int) → BitVec 40

/-- A sample at 16 kHz of a microphone, given its last 48 kHz samples, as the always-on front end keeps it for Trot and Canter
(R188): the spec gives no decimator. -/
opaque frontSample : (past : List Int) → BitVec 24

/-- The state that the decimator of the compressed ring is left in by three samples, 0 standing for a filter at rest, and what it
puts out in units of 1/256 of an audio word's step (R178): its response is bound, not its arithmetic. -/
opaque histDecim : (state : Nat) → (x : List Int) → Nat
opaque histSample : (state : Nat) → (x : List Int) → BitVec 40

/-- What a BEAM input's fractional-delay filter of the given phase, 0 to 7, makes of 17 samples whose middle one is the sample
delayed, in units of 1/65,536 of an audio word's step (R173): the coefficients are not bound. -/
opaque fracDelay : (phase : Nat) → (x : List Int) → BitVec 48

/-- A sample of a balance's probe noise, as an audio word: its PROBE code, and how many samples have passed since boundary B
(R240). The spec gives its band and its level, not its samples. -/
opaque probeSample : (probe k : Nat) → BitVec 24

/-- A sample of a call tone, as an audio word before its amplitude bounds it: FREQ and the number of the sample (R455). The spec
gives neither the phase of the sine nor how its values round. -/
opaque toneSample : (freq k : Nat) → BitVec 24

/-- A sample that an ASRC interpolates, as an audio word: the fraction of its position in 1/65,536 samples, and the ring samples
within ±8 of it (R530). The spec bounds ripple and images, not the interpolator. -/
opaque asrcSample : (fraction : Nat) → (x : List Int) → BitVec 24

/-- The pattern, as LAMP_CFG.HOST_PATTERN codes it, that source 0xFE has on the panel lamp of a GPIO (R461): a panel record has no
HOST_PATTERN. -/
opaque panelHostPattern : (gpio : Nat) → BitVec 2

/-- The level that a read of GPIO_IN finds on a ball that a PWM channel drives (R612, R614): the stride and the transaction say
when, not where in the period. -/
opaque pwmLevel : (gpio stride txn : Nat) → Bool

/-- The `n`-th block of 512 bits that the entropy source conditions (R644). -/
opaque entropyBlock : (n : Nat) → BitVec 512

/-- V and Key of the CTR_DRBG (SP 800-90A), which R643 names and the spec does not compute: as instantiated with an entropy input
and a nonce, as reseeded, and after one generate request (R645). -/
opaque drbgSeed : (entropy nonce : BitVec 512) → BitVec 384
opaque drbgReseed : (vKey : BitVec 384) → (entropy : BitVec 512) → BitVec 384
opaque drbgNext : (vKey : BitVec 384) → BitVec 384

/-- The bytes of the identity public key that a node leaves manufacture with (R883). -/
opaque factoryIdentity : Nat → BitVec 8

/-- The node's own IP addresses, which its application core configures and the spec does not give: word 0 the IPv4
address, words 1 to 4 the IPv6 address. -/
opaque nodeAddress : Nat → BitVec 32

/-- The vector of the ROM firmware, which the spec does not give: word 0 its steward charter, 1 its application charter, 2
the highest tack schema it reads, 3 and 4 the ends of its host API range. -/
opaque romVector : Nat → BitVec 16

/-- What FAB_IMAGE_ID (0), FAB_IMAGE_VER (1) and the two FAB_IMAGE_DIGEST registers (2, 3) read for the ROM tack image, which
the spec does not give. -/
opaque romImageId : Nat → BitVec 32

end Sys2Proof.Config
end

