-- ==== Sys2Proof/Machine/RegKinds.lean ====
section
/-! DEFINITION. What a register table of the spec says of a field and of a register (R15–R23, R585, R823, R826). -/

namespace Sys2Proof.Machine

/-- One field of one register: the word's address, the place of its lowest bit, its width and its reset value. -/
structure Fld where
  addr : Nat
  lo : Nat
  width : Nat
  rst : Nat
deriving DecidableEq, Repr

/-- The access codes of R17. -/
inductive Acc where
  | rw | ro | wo | w1c | w1s | rwl | rws
deriving DecidableEq, Repr

/-- The reset codes of R21: the weakest reset type that restores a field. -/
inductive Rst where
  | por | pin | wdt | zero | soft
deriving DecidableEq, Repr

/-- The values a field's table refuses (R826), told by the values it takes. -/
inductive Chk where
  /-- every value of the field's width -/
  | any
  /-- the values from `lo` to `hi` -/
  | range (lo hi : Nat)
  /-- the signed values from `-n` to `n` -/
  | signed (n : Nat)
  /-- exactly two bits set (WAKE_CANTER_CFG.PAIRS) -/
  | twoBits
  /-- 0–255 or 0xFFFF (RING_ID.NODE_ID) -/
  | nodeId
  /-- a signal source code of R461 -/
  | lampSrc
  /-- a stall or a source endpoint code of R72 -/
  | capSrc
  /-- an encoder control code of R615 -/
  | encTarget
  /-- LINE_x_SRC_CFG.ILIM: the range that PASS_EN of line port `p` selects (R762) -/
  | lineIlim (p : Nat)
  /-- MAC_x_TXQ_q_THRESH.CURRENT: the values R503 takes for port `p`, queue `q` -/
  | txqCurrent (p q : Nat)
deriving DecidableEq, Repr

/-- The domain named on a register's heading line. -/
inductive Dom where
  | aon | steward | hostIf | conv | walk | hcodec | iop | interconnect | island | pd | media
  /-- the line die's block of line port `p` -/
  | port (p : Nat)
  /-- stall `n` and its stall group -/
  | stall (n : Nat)
  /-- the slice 0 stall of echo instance `i` (0–15 LEC, 16–19 AEC) -/
  | echo (i : Nat)
  /-- the stall of CALLDET detector `d` -/
  | callDet (d : Nat)
  | tdm (t : Nat)
  | mac (p : Nat)
  /-- PSE port `n + 1` -/
  | pse (n : Nat)
deriving DecidableEq, Repr

/-- What must be instantiated for a register to be present (R93, R104, R108, R109). -/
inductive Owner where
  | always
  | stall (n : Nat)
  | echo (i : Nat)
  | nlp (i : Nat)
  | callDet (d : Nat)
  | hcodec
  | txq (p q : Nat)
  | xpRead
deriving DecidableEq, Repr

/-- One row of a register's table. `stride`: an audio-control field of R591. `quiet`: the quiet value of a
safety-quiet field (R593). -/
structure FieldRow where
  fld : Fld
  acc : Acc
  rst : Rst
  chk : Chk
  stride : Bool
  quiet : Option Nat
deriving DecidableEq, Repr

/-- One register word: its domain, its rein group (none: reins none), its owner, whether only the host's writes have
effect, and its fields. A bit in no field is reserved: it reads 0 (R16) and a 1 written to it is ignored (R825). -/
structure RegRow where
  dom : Dom
  rein : Option Nat
  owner : Owner
  hostOnly : Bool
  fields : List FieldRow
deriving DecidableEq, Repr

/-- An array of registers: element (i, j, k) lies at `base + i * s1 + j * s2 + k * s3`. -/
structure RowPat where
  base : Nat
  n1 : Nat
  s1 : Nat
  n2 : Nat
  s2 : Nat
  n3 : Nat
  s3 : Nat
  row : Nat → Nat → Nat → RegRow

end Sys2Proof.Machine
end

