-- ==== Sys2Proof/Machine/RegsAudio.lean ====
section
/-! DEFINITION. The registers of the blocks LINE, CONV, HYB, ECHO, CALL, MIC, TDM: one `Fld` for each field the spec's register
tables give, one row function for each register (or word of a multi-word register), and the blocks' address
patterns (R819, R822). Every field's reset value is the one its table states, 0 where the table states none
(log entry 2). -/

namespace Sys2Proof.Machine

/-! ### LINE (chapter 17) -/

def F.LINE_SRC_CFG_EN (a : Nat) : Fld := ⟨0xa0000 + 0x100 * a, 31, 1, 1⟩
def F.LINE_SRC_CFG_PASS_EN (a : Nat) : Fld := ⟨0xa0000 + 0x100 * a, 30, 1, 0⟩
def F.LINE_SRC_CFG_ILIM (a : Nat) : Fld := ⟨0xa0000 + 0x100 * a, 16, 6, 10⟩
def F.LINE_SRC_CFG_VOLTS (a : Nat) : Fld := ⟨0xa0000 + 0x100 * a, 0, 6, 0⟩
def F.LINE_STATUS_HOT_LIMIT (a : Nat) : Fld := ⟨0xa0004 + 0x100 * a, 10, 1, 0⟩
def F.LINE_STATUS_IN_LIMIT (a : Nat) : Fld := ⟨0xa0004 + 0x100 * a, 9, 1, 0⟩
def F.LINE_STATUS_HEADROOM (a : Nat) : Fld := ⟨0xa0004 + 0x100 * a, 8, 1, 0⟩
def F.LINE_STATUS_STATE (a : Nat) : Fld := ⟨0xa0004 + 0x100 * a, 0, 4, 0⟩
def F.LINE_MEAS_MA (a : Nat) : Fld := ⟨0xa0008 + 0x100 * a, 16, 16, 0⟩
def F.LINE_MEAS_MV (a : Nat) : Fld := ⟨0xa0008 + 0x100 * a, 0, 16, 0⟩
def F.LINE_RETRY_CLEAR (a : Nat) : Fld := ⟨0xa000c + 0x100 * a, 31, 1, 0⟩
def F.LINE_RETRY_RETRIES (a : Nat) : Fld := ⟨0xa000c + 0x100 * a, 8, 4, 0⟩
def F.LINE_RETRY_LATCHED (a : Nat) : Fld := ⟨0xa000c + 0x100 * a, 0, 1, 0⟩
def F.LINE_FAULT_OVERLOAD (a : Nat) : Fld := ⟨0xa0010 + 0x100 * a, 2, 1, 0⟩
def F.LINE_FAULT_CONTENTION (a : Nat) : Fld := ⟨0xa0010 + 0x100 * a, 1, 1, 0⟩
def F.LINE_FAULT_ALREADY_POWERED (a : Nat) : Fld := ⟨0xa0010 + 0x100 * a, 0, 1, 0⟩
def F.LINE_FAULT_CNT_CONTENTION (a : Nat) : Fld := ⟨0xa0014 + 0x100 * a, 16, 16, 0⟩
def F.LINE_FAULT_CNT_OVERLOAD (a : Nat) : Fld := ⟨0xa0014 + 0x100 * a, 0, 16, 0⟩
def F.LINE_SHORT_SEEN : Fld := ⟨0xa0200, 16, 10, 0⟩
def F.LINE_SHORT_NOW : Fld := ⟨0xa0200, 0, 10, 0⟩
def F.PSE_CFG_EN (a : Nat) : Fld := ⟨0xa0400 + 0x100 * a, 31, 1, 0⟩
def F.PSE_CFG_MAX_CLASS (a : Nat) : Fld := ⟨0xa0400 + 0x100 * a, 0, 3, 4⟩
def F.PSE_STATUS_SIGNATURE (a : Nat) : Fld := ⟨0xa0404 + 0x100 * a, 16, 16, 0⟩
def F.PSE_STATUS_CLASS (a : Nat) : Fld := ⟨0xa0404 + 0x100 * a, 4, 3, 0⟩
def F.PSE_STATUS_STATE (a : Nat) : Fld := ⟨0xa0404 + 0x100 * a, 0, 4, 0⟩
def F.PSE_MEAS_MA (a : Nat) : Fld := ⟨0xa0408 + 0x100 * a, 16, 16, 0⟩
def F.PSE_MEAS_MV (a : Nat) : Fld := ⟨0xa0408 + 0x100 * a, 0, 16, 0⟩
def F.PSE_FAULT_VIN_RANGE (a : Nat) : Fld := ⟨0xa040c + 0x100 * a, 5, 1, 0⟩
def F.PSE_FAULT_EXT_POWERED (a : Nat) : Fld := ⟨0xa040c + 0x100 * a, 4, 1, 0⟩
def F.PSE_FAULT_START (a : Nat) : Fld := ⟨0xa040c + 0x100 * a, 3, 1, 0⟩
def F.PSE_FAULT_SHORT (a : Nat) : Fld := ⟨0xa040c + 0x100 * a, 2, 1, 0⟩
def F.PSE_FAULT_ILIM (a : Nat) : Fld := ⟨0xa040c + 0x100 * a, 1, 1, 0⟩
def F.PSE_FAULT_OVERLOAD (a : Nat) : Fld := ⟨0xa040c + 0x100 * a, 0, 1, 0⟩
def F.PSE_RETRY_CLEAR (a : Nat) : Fld := ⟨0xa0410 + 0x100 * a, 31, 1, 0⟩
def F.PSE_RETRY_FAULTS (a : Nat) : Fld := ⟨0xa0410 + 0x100 * a, 8, 4, 0⟩
def F.PSE_RETRY_LATCHED (a : Nat) : Fld := ⟨0xa0410 + 0x100 * a, 0, 1, 0⟩
def F.PSE_BUDGET_EFFECTIVE : Fld := ⟨0xa0600, 16, 16, 0⟩
def F.PSE_BUDGET_WATTS : Fld := ⟨0xa0600, 0, 10, 600⟩
def F.LINE_IRQ_PSE_LATCHED : Fld := ⟨0xa0700, 4, 1, 0⟩
def F.LINE_IRQ_PSE_FAULT : Fld := ⟨0xa0700, 3, 1, 0⟩
def F.LINE_IRQ_SHORT : Fld := ⟨0xa0700, 2, 1, 0⟩
def F.LINE_IRQ_LATCHED : Fld := ⟨0xa0700, 1, 1, 0⟩
def F.LINE_IRQ_SRC_FAULT : Fld := ⟨0xa0700, 0, 1, 0⟩
def F.LINE_IRQ_EN_EN : Fld := ⟨0xa0704, 0, 5, 0⟩

def row_LINE_SRC_CFG (a : Nat) : RegRow :=
  ⟨(.port a), (some 4), .always, false, [⟨F.LINE_SRC_CFG_EN a, .rw, .soft, .any, false, (some 0)⟩,
   ⟨F.LINE_SRC_CFG_PASS_EN a, .rwl, .por, .any, false, none⟩,
   ⟨F.LINE_SRC_CFG_ILIM a, .rw, .soft, (.lineIlim a), false, none⟩,
   ⟨F.LINE_SRC_CFG_VOLTS a, .rw, .soft, (.range 0 60), false, none⟩]⟩
def row_LINE_STATUS (a : Nat) : RegRow :=
  ⟨(.port a), none, .always, false, [⟨F.LINE_STATUS_HOT_LIMIT a, .ro, .soft, .any, false, none⟩,
   ⟨F.LINE_STATUS_IN_LIMIT a, .ro, .soft, .any, false, none⟩,
   ⟨F.LINE_STATUS_HEADROOM a, .ro, .soft, .any, false, none⟩,
   ⟨F.LINE_STATUS_STATE a, .ro, .soft, .any, false, none⟩]⟩
def row_LINE_MEAS (a : Nat) : RegRow :=
  ⟨(.port a), none, .always, false, [⟨F.LINE_MEAS_MA a, .ro, .soft, .any, false, none⟩,
   ⟨F.LINE_MEAS_MV a, .ro, .soft, .any, false, none⟩]⟩
def row_LINE_RETRY (a : Nat) : RegRow :=
  ⟨(.port a), (some 4), .always, false, [⟨F.LINE_RETRY_CLEAR a, .wo, .pin, .any, false, none⟩,
   ⟨F.LINE_RETRY_RETRIES a, .ro, .pin, .any, false, none⟩,
   ⟨F.LINE_RETRY_LATCHED a, .ro, .pin, .any, false, none⟩]⟩
def row_LINE_FAULT (a : Nat) : RegRow :=
  ⟨(.port a), (some 4), .always, false, [⟨F.LINE_FAULT_OVERLOAD a, .w1c, .soft, .any, false, none⟩,
   ⟨F.LINE_FAULT_CONTENTION a, .w1c, .soft, .any, false, none⟩,
   ⟨F.LINE_FAULT_ALREADY_POWERED a, .w1c, .soft, .any, false, none⟩]⟩
def row_LINE_FAULT_CNT (a : Nat) : RegRow :=
  ⟨(.port a), none, .always, false, [⟨F.LINE_FAULT_CNT_CONTENTION a, .ro, .pin, .any, false, none⟩,
   ⟨F.LINE_FAULT_CNT_OVERLOAD a, .ro, .pin, .any, false, none⟩]⟩
def row_LINE_SHORT : RegRow :=
  ⟨.conv, (some 4), .always, false, [⟨F.LINE_SHORT_SEEN, .w1c, .soft, .any, false, none⟩,
   ⟨F.LINE_SHORT_NOW, .ro, .soft, .any, false, none⟩]⟩
def row_PSE_CFG (a : Nat) : RegRow :=
  ⟨(.pse a), (some 4), .always, false, [⟨F.PSE_CFG_EN a, .rw, .soft, .any, false, (some 0)⟩,
   ⟨F.PSE_CFG_MAX_CLASS a, .rw, .soft, (.range 0 4), false, none⟩]⟩
def row_PSE_STATUS (a : Nat) : RegRow :=
  ⟨(.pse a), none, .always, false, [⟨F.PSE_STATUS_SIGNATURE a, .ro, .soft, .any, false, none⟩,
   ⟨F.PSE_STATUS_CLASS a, .ro, .soft, .any, false, none⟩,
   ⟨F.PSE_STATUS_STATE a, .ro, .soft, .any, false, none⟩]⟩
def row_PSE_MEAS (a : Nat) : RegRow :=
  ⟨(.pse a), none, .always, false, [⟨F.PSE_MEAS_MA a, .ro, .soft, .any, false, none⟩,
   ⟨F.PSE_MEAS_MV a, .ro, .soft, .any, false, none⟩]⟩
def row_PSE_FAULT (a : Nat) : RegRow :=
  ⟨(.pse a), (some 4), .always, false, [⟨F.PSE_FAULT_VIN_RANGE a, .w1c, .soft, .any, false, none⟩,
   ⟨F.PSE_FAULT_EXT_POWERED a, .w1c, .soft, .any, false, none⟩,
   ⟨F.PSE_FAULT_START a, .w1c, .soft, .any, false, none⟩,
   ⟨F.PSE_FAULT_SHORT a, .w1c, .soft, .any, false, none⟩,
   ⟨F.PSE_FAULT_ILIM a, .w1c, .soft, .any, false, none⟩,
   ⟨F.PSE_FAULT_OVERLOAD a, .w1c, .soft, .any, false, none⟩]⟩
def row_PSE_RETRY (a : Nat) : RegRow :=
  ⟨(.pse a), (some 4), .always, false, [⟨F.PSE_RETRY_CLEAR a, .wo, .pin, .any, false, none⟩,
   ⟨F.PSE_RETRY_FAULTS a, .ro, .pin, .any, false, none⟩,
   ⟨F.PSE_RETRY_LATCHED a, .ro, .pin, .any, false, none⟩]⟩
def row_PSE_BUDGET : RegRow :=
  ⟨.steward, (some 4), .always, false, [⟨F.PSE_BUDGET_EFFECTIVE, .ro, .soft, .any, false, none⟩,
   ⟨F.PSE_BUDGET_WATTS, .rw, .soft, (.range 0 600), false, none⟩]⟩
def row_LINE_IRQ : RegRow :=
  ⟨.steward, (some 4), .always, false, [⟨F.LINE_IRQ_PSE_LATCHED, .w1c, .soft, .any, false, none⟩,
   ⟨F.LINE_IRQ_PSE_FAULT, .w1c, .soft, .any, false, none⟩,
   ⟨F.LINE_IRQ_SHORT, .w1c, .soft, .any, false, none⟩,
   ⟨F.LINE_IRQ_LATCHED, .w1c, .soft, .any, false, none⟩,
   ⟨F.LINE_IRQ_SRC_FAULT, .w1c, .soft, .any, false, none⟩]⟩
def row_LINE_IRQ_EN : RegRow :=
  ⟨.steward, (some 4), .always, false, [⟨F.LINE_IRQ_EN_EN, .rw, .soft, .any, false, none⟩]⟩

/-- The address patterns of block LINE. -/
def rows_LINE : List RowPat :=
  [⟨0xa0000, 2, 0x100, 1, 0x4, 1, 0x4, fun a _ _ => row_LINE_SRC_CFG a⟩,
   ⟨0xa0004, 2, 0x100, 1, 0x4, 1, 0x4, fun a _ _ => row_LINE_STATUS a⟩,
   ⟨0xa0008, 2, 0x100, 1, 0x4, 1, 0x4, fun a _ _ => row_LINE_MEAS a⟩,
   ⟨0xa000c, 2, 0x100, 1, 0x4, 1, 0x4, fun a _ _ => row_LINE_RETRY a⟩,
   ⟨0xa0010, 2, 0x100, 1, 0x4, 1, 0x4, fun a _ _ => row_LINE_FAULT a⟩,
   ⟨0xa0014, 2, 0x100, 1, 0x4, 1, 0x4, fun a _ _ => row_LINE_FAULT_CNT a⟩,
   ⟨0xa0200, 1, 0x4, 1, 0x4, 1, 0x4, fun _ _ _ => row_LINE_SHORT⟩,
   ⟨0xa0400, 2, 0x100, 1, 0x4, 1, 0x4, fun a _ _ => row_PSE_CFG a⟩,
   ⟨0xa0404, 2, 0x100, 1, 0x4, 1, 0x4, fun a _ _ => row_PSE_STATUS a⟩,
   ⟨0xa0408, 2, 0x100, 1, 0x4, 1, 0x4, fun a _ _ => row_PSE_MEAS a⟩,
   ⟨0xa040c, 2, 0x100, 1, 0x4, 1, 0x4, fun a _ _ => row_PSE_FAULT a⟩,
   ⟨0xa0410, 2, 0x100, 1, 0x4, 1, 0x4, fun a _ _ => row_PSE_RETRY a⟩,
   ⟨0xa0600, 1, 0x4, 1, 0x4, 1, 0x4, fun _ _ _ => row_PSE_BUDGET⟩,
   ⟨0xa0700, 1, 0x4, 1, 0x4, 1, 0x4, fun _ _ _ => row_LINE_IRQ⟩,
   ⟨0xa0704, 1, 0x4, 1, 0x4, 1, 0x4, fun _ _ _ => row_LINE_IRQ_EN⟩]

/-! ### CONV (chapter 05) -/

def F.CONV_FW_CFG_RANGE_3 : Fld := ⟨0xb0000, 14, 2, 0⟩
def F.CONV_FW_CFG_RANGE_2 : Fld := ⟨0xb0000, 12, 2, 0⟩
def F.CONV_FW_CFG_RANGE_1 : Fld := ⟨0xb0000, 10, 2, 0⟩
def F.CONV_FW_CFG_RANGE_0 : Fld := ⟨0xb0000, 8, 2, 0⟩
def F.CONV_FW_CFG_EN : Fld := ⟨0xb0000, 0, 4, 0⟩
def F.CONV_HSMIC_BIAS : Fld := ⟨0xb0010, 8, 1, 0⟩
def F.CONV_HSMIC_GAIN : Fld := ⟨0xb0010, 0, 6, 0⟩
def F.CONV_HP_OPEN_R : Fld := ⟨0xb0014, 7, 1, 0⟩
def F.CONV_HP_OPEN_L : Fld := ⟨0xb0014, 6, 1, 0⟩
def F.CONV_HP_SHORT_R : Fld := ⟨0xb0014, 5, 1, 0⟩
def F.CONV_HP_SHORT_L : Fld := ⟨0xb0014, 4, 1, 0⟩
def F.CONV_HP_FS : Fld := ⟨0xb0014, 0, 2, 0⟩
def F.CONV_SPK_LATCHED : Fld := ⟨0xb0018, 2, 1, 0⟩
def F.CONV_SPK_RUNNING : Fld := ⟨0xb0018, 1, 1, 0⟩
def F.CONV_SPK_EN : Fld := ⟨0xb0018, 0, 1, 0⟩
def F.CONV_MUTE_DAC : Fld := ⟨0xb0020, 16, 11, 0⟩
def F.CONV_MUTE_ADC : Fld := ⟨0xb0020, 0, 10, 0⟩
def F.CONV_CLIP_ADC : Fld := ⟨0xb0024, 0, 10, 0⟩

def row_CONV_FW_CFG : RegRow :=
  ⟨.conv, (some 5), .always, false, [⟨F.CONV_FW_CFG_RANGE_3, .rw, .soft, (.range 0 2), false, none⟩,
   ⟨F.CONV_FW_CFG_RANGE_2, .rw, .soft, (.range 0 2), false, none⟩,
   ⟨F.CONV_FW_CFG_RANGE_1, .rw, .soft, (.range 0 2), false, none⟩,
   ⟨F.CONV_FW_CFG_RANGE_0, .rw, .soft, (.range 0 2), false, none⟩,
   ⟨F.CONV_FW_CFG_EN, .rw, .soft, .any, false, none⟩]⟩
def row_CONV_HSMIC : RegRow :=
  ⟨.conv, (some 5), .always, false, [⟨F.CONV_HSMIC_BIAS, .rw, .soft, .any, false, none⟩,
   ⟨F.CONV_HSMIC_GAIN, .rw, .soft, (.range 0 60), false, none⟩]⟩
def row_CONV_HP : RegRow :=
  ⟨.conv, (some 5), .always, false, [⟨F.CONV_HP_OPEN_R, .ro, .soft, .any, false, none⟩,
   ⟨F.CONV_HP_OPEN_L, .ro, .soft, .any, false, none⟩,
   ⟨F.CONV_HP_SHORT_R, .ro, .soft, .any, false, none⟩,
   ⟨F.CONV_HP_SHORT_L, .ro, .soft, .any, false, none⟩,
   ⟨F.CONV_HP_FS, .rw, .soft, .any, false, none⟩]⟩
def row_CONV_SPK : RegRow :=
  ⟨.conv, (some 5), .always, false, [⟨F.CONV_SPK_LATCHED, .ro, .soft, .any, false, none⟩,
   ⟨F.CONV_SPK_RUNNING, .ro, .soft, .any, false, none⟩,
   ⟨F.CONV_SPK_EN, .rw, .soft, .any, false, none⟩]⟩
def row_CONV_MUTE : RegRow :=
  ⟨.conv, (some 5), .always, false, [⟨F.CONV_MUTE_DAC, .rw, .soft, .any, true, (some 2047)⟩,
   ⟨F.CONV_MUTE_ADC, .rw, .soft, .any, true, (some 1023)⟩]⟩
def row_CONV_CLIP : RegRow :=
  ⟨.conv, (some 5), .always, false, [⟨F.CONV_CLIP_ADC, .w1c, .soft, .any, false, none⟩]⟩

/-- The address patterns of block CONV. -/
def rows_CONV : List RowPat :=
  [⟨0xb0000, 1, 0x4, 1, 0x4, 1, 0x4, fun _ _ _ => row_CONV_FW_CFG⟩,
   ⟨0xb0010, 1, 0x4, 1, 0x4, 1, 0x4, fun _ _ _ => row_CONV_HSMIC⟩,
   ⟨0xb0014, 1, 0x4, 1, 0x4, 1, 0x4, fun _ _ _ => row_CONV_HP⟩,
   ⟨0xb0018, 1, 0x4, 1, 0x4, 1, 0x4, fun _ _ _ => row_CONV_SPK⟩,
   ⟨0xb0020, 1, 0x4, 1, 0x4, 1, 0x4, fun _ _ _ => row_CONV_MUTE⟩,
   ⟨0xb0024, 1, 0x4, 1, 0x4, 1, 0x4, fun _ _ _ => row_CONV_CLIP⟩]

/-! ### HYB (chapter 05) -/

def F.HYB_CH_CFG_AUTO_BAL (a : Nat) : Fld := ⟨0xc0000 + 0x100 * a, 17, 1, 0⟩
def F.HYB_CH_CFG_ADAPT (a : Nat) : Fld := ⟨0xc0000 + 0x100 * a, 16, 1, 1⟩
def F.HYB_CH_CFG_LEVEL (a : Nat) : Fld := ⟨0xc0000 + 0x100 * a, 8, 5, 20⟩
def F.HYB_CH_CFG_TERM (a : Nat) : Fld := ⟨0xc0000 + 0x100 * a, 0, 5, 8⟩
def F.HYB_CH_TRIM_C_TRIM (a : Nat) : Fld := ⟨0xc0004 + 0x100 * a, 8, 5, 0⟩
def F.HYB_CH_TRIM_R_TRIM (a : Nat) : Fld := ⟨0xc0004 + 0x100 * a, 0, 5, 10⟩
def F.HYB_CH_STATUS_DRIVE_LIMIT (a : Nat) : Fld := ⟨0xc0008 + 0x100 * a, 4, 1, 0⟩
def F.HYB_CH_STATUS_STALE (a : Nat) : Fld := ⟨0xc0008 + 0x100 * a, 3, 1, 1⟩
def F.HYB_CH_STATUS_ADAPTING (a : Nat) : Fld := ⟨0xc0008 + 0x100 * a, 2, 1, 0⟩
def F.HYB_CH_STATUS_TERM_ON (a : Nat) : Fld := ⟨0xc0008 + 0x100 * a, 1, 1, 0⟩
def F.HYB_CH_STATUS_SWITCH_CLOSED (a : Nat) : Fld := ⟨0xc0008 + 0x100 * a, 0, 1, 0⟩
def F.HYB_BAL_CTRL_PROBE (a : Nat) : Fld := ⟨0xc0010 + 0x100 * a, 4, 3, 2⟩
def F.HYB_BAL_CTRL_START (a : Nat) : Fld := ⟨0xc0010 + 0x100 * a, 0, 1, 0⟩
def F.HYB_BAL_STATUS_STEP (a : Nat) : Fld := ⟨0xc0014 + 0x100 * a, 1, 3, 0⟩
def F.HYB_BAL_STATUS_BUSY (a : Nat) : Fld := ⟨0xc0014 + 0x100 * a, 0, 1, 0⟩
def F.HYB_BAL_RESULT_ERR_CODE (a : Nat) : Fld := ⟨0xc0020 + 0x100 * a, 16, 4, 0⟩
def F.HYB_BAL_RESULT_SEQ (a : Nat) : Fld := ⟨0xc0020 + 0x100 * a, 0, 8, 0⟩
def F.HYB_BAL_RESULT_READY (a : Nat) : Fld := ⟨0xc0020 + 0x100 * a, 8, 1, 0⟩
def F.HYB_BAL_RESULT_FRESH (a : Nat) : Fld := ⟨0xc0020 + 0x100 * a, 9, 1, 0⟩
def F.HYB_BAL_RESULT_ERR (a : Nat) : Fld := ⟨0xc0020 + 0x100 * a, 10, 1, 0⟩
def F.HYB_BAL_RESULT_LOST_PREV (a : Nat) : Fld := ⟨0xc0020 + 0x100 * a, 11, 1, 0⟩
def F.HYB_BAL_RESULT_THL (a : Nat) : Fld := ⟨0xc0024 + 0x100 * a, 0, 16, 0⟩
def F.HYB_BAL_RESULT_LINE_C (a : Nat) : Fld := ⟨0xc0028 + 0x100 * a, 16, 16, 0⟩
def F.HYB_BAL_RESULT_LINE_R (a : Nat) : Fld := ⟨0xc0028 + 0x100 * a, 0, 16, 0⟩
def F.HYB_BAL_RESULT_DRIVE_PK (a : Nat) : Fld := ⟨0xc002c + 0x100 * a, 16, 16, 0⟩
def F.HYB_BAL_RESULT_C_TRIM (a : Nat) : Fld := ⟨0xc002c + 0x100 * a, 8, 5, 0⟩
def F.HYB_BAL_RESULT_R_TRIM (a : Nat) : Fld := ⟨0xc002c + 0x100 * a, 0, 5, 0⟩
def F.HYB_BAL_ACK_SEQ (a : Nat) : Fld := ⟨0xc0030 + 0x100 * a, 0, 8, 0⟩

def row_HYB_CH_CFG (a : Nat) : RegRow :=
  ⟨(.port (a / 2)), (some 4), .always, false, [⟨F.HYB_CH_CFG_AUTO_BAL a, .rw, .soft, .any, false, none⟩,
   ⟨F.HYB_CH_CFG_ADAPT a, .rw, .soft, .any, false, none⟩,
   ⟨F.HYB_CH_CFG_LEVEL a, .rw, .soft, (.range 0 28), true, none⟩,
   ⟨F.HYB_CH_CFG_TERM a, .rw, .soft, (.range 0 24), true, none⟩]⟩
def row_HYB_CH_TRIM (a : Nat) : RegRow :=
  ⟨(.port (a / 2)), (some 4), .always, false, [⟨F.HYB_CH_TRIM_C_TRIM a, .rw, .soft, .any, true, none⟩,
   ⟨F.HYB_CH_TRIM_R_TRIM a, .rw, .soft, .any, true, none⟩]⟩
def row_HYB_CH_STATUS (a : Nat) : RegRow :=
  ⟨(.port (a / 2)), (some 4), .always, false, [⟨F.HYB_CH_STATUS_DRIVE_LIMIT a, .w1c, .soft, .any, false, none⟩,
   ⟨F.HYB_CH_STATUS_STALE a, .ro, .soft, .any, false, none⟩,
   ⟨F.HYB_CH_STATUS_ADAPTING a, .ro, .soft, .any, false, none⟩,
   ⟨F.HYB_CH_STATUS_TERM_ON a, .ro, .soft, .any, false, none⟩,
   ⟨F.HYB_CH_STATUS_SWITCH_CLOSED a, .ro, .soft, .any, false, none⟩]⟩
def row_HYB_BAL_CTRL (a : Nat) : RegRow :=
  ⟨(.port (a / 2)), (some 4), .always, false, [⟨F.HYB_BAL_CTRL_PROBE a, .rw, .soft, (.range 0 4), false, none⟩,
   ⟨F.HYB_BAL_CTRL_START a, .wo, .soft, .any, true, none⟩]⟩
def row_HYB_BAL_STATUS (a : Nat) : RegRow :=
  ⟨(.port (a / 2)), none, .always, false, [⟨F.HYB_BAL_STATUS_STEP a, .ro, .soft, .any, false, none⟩,
   ⟨F.HYB_BAL_STATUS_BUSY a, .ro, .soft, .any, false, none⟩]⟩
def row_HYB_BAL_RESULT_W0 (a : Nat) : RegRow :=
  ⟨.conv, none, .always, false, [⟨F.HYB_BAL_RESULT_ERR_CODE a, .ro, .soft, .any, false, none⟩,
   ⟨F.HYB_BAL_RESULT_SEQ a, .ro, .soft, .any, false, none⟩,
   ⟨F.HYB_BAL_RESULT_READY a, .ro, .soft, .any, false, none⟩,
   ⟨F.HYB_BAL_RESULT_FRESH a, .ro, .soft, .any, false, none⟩,
   ⟨F.HYB_BAL_RESULT_ERR a, .ro, .soft, .any, false, none⟩,
   ⟨F.HYB_BAL_RESULT_LOST_PREV a, .ro, .soft, .any, false, none⟩]⟩
def row_HYB_BAL_RESULT_W1 (a : Nat) : RegRow :=
  ⟨.conv, none, .always, false, [⟨F.HYB_BAL_RESULT_THL a, .ro, .soft, .any, false, none⟩]⟩
def row_HYB_BAL_RESULT_W2 (a : Nat) : RegRow :=
  ⟨.conv, none, .always, false, [⟨F.HYB_BAL_RESULT_LINE_C a, .ro, .soft, .any, false, none⟩,
   ⟨F.HYB_BAL_RESULT_LINE_R a, .ro, .soft, .any, false, none⟩]⟩
def row_HYB_BAL_RESULT_W3 (a : Nat) : RegRow :=
  ⟨.conv, none, .always, false, [⟨F.HYB_BAL_RESULT_DRIVE_PK a, .ro, .soft, .any, false, none⟩,
   ⟨F.HYB_BAL_RESULT_C_TRIM a, .ro, .soft, .any, false, none⟩,
   ⟨F.HYB_BAL_RESULT_R_TRIM a, .ro, .soft, .any, false, none⟩]⟩
def row_HYB_BAL_ACK (a : Nat) : RegRow :=
  ⟨.conv, (some 4), .always, false, [⟨F.HYB_BAL_ACK_SEQ a, .wo, .soft, .any, false, none⟩]⟩

/-- The address patterns of block HYB. -/
def rows_HYB : List RowPat :=
  [⟨0xc0000, 4, 0x100, 1, 0x4, 1, 0x4, fun a _ _ => row_HYB_CH_CFG a⟩,
   ⟨0xc0004, 4, 0x100, 1, 0x4, 1, 0x4, fun a _ _ => row_HYB_CH_TRIM a⟩,
   ⟨0xc0008, 4, 0x100, 1, 0x4, 1, 0x4, fun a _ _ => row_HYB_CH_STATUS a⟩,
   ⟨0xc0010, 4, 0x100, 1, 0x4, 1, 0x4, fun a _ _ => row_HYB_BAL_CTRL a⟩,
   ⟨0xc0014, 4, 0x100, 1, 0x4, 1, 0x4, fun a _ _ => row_HYB_BAL_STATUS a⟩,
   ⟨0xc0020, 4, 0x100, 1, 0x4, 1, 0x4, fun a _ _ => row_HYB_BAL_RESULT_W0 a⟩,
   ⟨0xc0024, 4, 0x100, 1, 0x4, 1, 0x4, fun a _ _ => row_HYB_BAL_RESULT_W1 a⟩,
   ⟨0xc0028, 4, 0x100, 1, 0x4, 1, 0x4, fun a _ _ => row_HYB_BAL_RESULT_W2 a⟩,
   ⟨0xc002c, 4, 0x100, 1, 0x4, 1, 0x4, fun a _ _ => row_HYB_BAL_RESULT_W3 a⟩,
   ⟨0xc0030, 4, 0x100, 1, 0x4, 1, 0x4, fun a _ _ => row_HYB_BAL_ACK a⟩]

/-! ### ECHO (chapter 06) -/

def F.ECHO_CTRL_STEP (a : Nat) : Fld := ⟨0xd0000 + 0x100 * a, 8, 9, 0⟩
def F.ECHO_CTRL_RESET (a : Nat) : Fld := ⟨0xd0000 + 0x100 * a, 1, 1, 0⟩
def F.ECHO_CTRL_FREEZE (a : Nat) : Fld := ⟨0xd0000 + 0x100 * a, 0, 1, 0⟩
def F.ECHO_DTD_HANG (a : Nat) : Fld := ⟨0xd0004 + 0x100 * a, 16, 9, 0⟩
def F.ECHO_DTD_MARGIN (a : Nat) : Fld := ⟨0xd0004 + 0x100 * a, 0, 6, 0⟩
def F.ECHO_NLP_COMFORT (a : Nat) : Fld := ⟨0xd0008 + 0x100 * a, 12, 1, 0⟩
def F.ECHO_NLP_MODE (a : Nat) : Fld := ⟨0xd0008 + 0x100 * a, 8, 2, 0⟩
def F.ECHO_NLP_SUPPRESS_MAX (a : Nat) : Fld := ⟨0xd0008 + 0x100 * a, 0, 6, 0⟩
def F.ECHO_STATUS_ERLE (a : Nat) : Fld := ⟨0xd0010 + 0x100 * a, 24, 8, 0⟩
def F.ECHO_STATUS_DIVERGED (a : Nat) : Fld := ⟨0xd0010 + 0x100 * a, 8, 1, 0⟩
def F.ECHO_STATUS_AUTO_FREEZE (a : Nat) : Fld := ⟨0xd0010 + 0x100 * a, 6, 1, 0⟩
def F.ECHO_STATUS_REF_LOW (a : Nat) : Fld := ⟨0xd0010 + 0x100 * a, 5, 1, 0⟩
def F.ECHO_STATUS_DTD (a : Nat) : Fld := ⟨0xd0010 + 0x100 * a, 4, 1, 0⟩
def F.ECHO_STATUS_STATE (a : Nat) : Fld := ⟨0xd0010 + 0x100 * a, 0, 3, 0⟩
def F.ECHO_DIVERGE_COUNT_COUNT (a : Nat) : Fld := ⟨0xd0014 + 0x100 * a, 0, 32, 0⟩
def F.ECHO_RESULT_SEQ (a : Nat) : Fld := ⟨0xd0020 + 0x100 * a, 0, 8, 0⟩
def F.ECHO_RESULT_READY (a : Nat) : Fld := ⟨0xd0020 + 0x100 * a, 8, 1, 0⟩
def F.ECHO_RESULT_FRESH (a : Nat) : Fld := ⟨0xd0020 + 0x100 * a, 9, 1, 0⟩
def F.ECHO_RESULT_ERR (a : Nat) : Fld := ⟨0xd0020 + 0x100 * a, 10, 1, 0⟩
def F.ECHO_RESULT_LOST_PREV (a : Nat) : Fld := ⟨0xd0020 + 0x100 * a, 11, 1, 0⟩
def F.ECHO_RESULT_ERL (a : Nat) : Fld := ⟨0xd0024 + 0x100 * a, 16, 16, 0⟩
def F.ECHO_RESULT_ERLE (a : Nat) : Fld := ⟨0xd0024 + 0x100 * a, 0, 16, 0⟩
def F.ECHO_RESULT_NLP_ATTEN (a : Nat) : Fld := ⟨0xd0028 + 0x100 * a, 16, 16, 0⟩
def F.ECHO_RESULT_PEAK_DELAY (a : Nat) : Fld := ⟨0xd0028 + 0x100 * a, 0, 16, 0⟩
def F.ECHO_RESULT_ADAPT_PM (a : Nat) : Fld := ⟨0xd002c + 0x100 * a, 16, 16, 0⟩
def F.ECHO_RESULT_DTD_PM (a : Nat) : Fld := ⟨0xd002c + 0x100 * a, 0, 16, 0⟩
def F.ECHO_ACK_SEQ (a : Nat) : Fld := ⟨0xd0030 + 0x100 * a, 0, 8, 0⟩

def row_ECHO_CTRL (a : Nat) : RegRow :=
  ⟨(.echo a), (some 6), (.echo a), false, [⟨F.ECHO_CTRL_STEP a, .rw, .soft, (.range 1 256), false, none⟩,
   ⟨F.ECHO_CTRL_RESET a, .wo, .soft, .any, true, none⟩,
   ⟨F.ECHO_CTRL_FREEZE a, .rw, .soft, .any, false, none⟩]⟩
def row_ECHO_DTD (a : Nat) : RegRow :=
  ⟨(.echo a), (some 6), (.echo a), false, [⟨F.ECHO_DTD_HANG a, .rw, .soft, (.range 0 500), false, none⟩,
   ⟨F.ECHO_DTD_MARGIN a, .rw, .soft, (.range 0 40), false, none⟩]⟩
def row_ECHO_NLP (a : Nat) : RegRow :=
  ⟨(.echo a), (some 6), (.nlp a), false, [⟨F.ECHO_NLP_COMFORT a, .rw, .soft, .any, false, none⟩,
   ⟨F.ECHO_NLP_MODE a, .rw, .soft, (.range 0 2), false, none⟩,
   ⟨F.ECHO_NLP_SUPPRESS_MAX a, .rw, .soft, (.range 0 60), false, none⟩]⟩
def row_ECHO_STATUS (a : Nat) : RegRow :=
  ⟨(.echo a), (some 6), (.echo a), false, [⟨F.ECHO_STATUS_ERLE a, .ro, .soft, .any, false, none⟩,
   ⟨F.ECHO_STATUS_DIVERGED a, .w1c, .soft, .any, false, none⟩,
   ⟨F.ECHO_STATUS_AUTO_FREEZE a, .ro, .soft, .any, false, none⟩,
   ⟨F.ECHO_STATUS_REF_LOW a, .ro, .soft, .any, false, none⟩,
   ⟨F.ECHO_STATUS_DTD a, .ro, .soft, .any, false, none⟩,
   ⟨F.ECHO_STATUS_STATE a, .ro, .soft, .any, false, none⟩]⟩
def row_ECHO_DIVERGE_COUNT (a : Nat) : RegRow :=
  ⟨(.echo a), none, (.echo a), false, [⟨F.ECHO_DIVERGE_COUNT_COUNT a, .ro, .soft, .any, false, none⟩]⟩
def row_ECHO_RESULT_W0 (a : Nat) : RegRow :=
  ⟨(.echo a), none, (.echo a), false, [⟨F.ECHO_RESULT_SEQ a, .ro, .soft, .any, false, none⟩,
   ⟨F.ECHO_RESULT_READY a, .ro, .soft, .any, false, none⟩,
   ⟨F.ECHO_RESULT_FRESH a, .ro, .soft, .any, false, none⟩,
   ⟨F.ECHO_RESULT_ERR a, .ro, .soft, .any, false, none⟩,
   ⟨F.ECHO_RESULT_LOST_PREV a, .ro, .soft, .any, false, none⟩]⟩
def row_ECHO_RESULT_W1 (a : Nat) : RegRow :=
  ⟨(.echo a), none, (.echo a), false, [⟨F.ECHO_RESULT_ERL a, .ro, .soft, .any, false, none⟩,
   ⟨F.ECHO_RESULT_ERLE a, .ro, .soft, .any, false, none⟩]⟩
def row_ECHO_RESULT_W2 (a : Nat) : RegRow :=
  ⟨(.echo a), none, (.echo a), false, [⟨F.ECHO_RESULT_NLP_ATTEN a, .ro, .soft, .any, false, none⟩,
   ⟨F.ECHO_RESULT_PEAK_DELAY a, .ro, .soft, .any, false, none⟩]⟩
def row_ECHO_RESULT_W3 (a : Nat) : RegRow :=
  ⟨(.echo a), none, (.echo a), false, [⟨F.ECHO_RESULT_ADAPT_PM a, .ro, .soft, .any, false, none⟩,
   ⟨F.ECHO_RESULT_DTD_PM a, .ro, .soft, .any, false, none⟩]⟩
def row_ECHO_ACK (a : Nat) : RegRow :=
  ⟨(.echo a), (some 6), (.echo a), false, [⟨F.ECHO_ACK_SEQ a, .wo, .soft, .any, false, none⟩]⟩

/-- The address patterns of block ECHO. -/
def rows_ECHO : List RowPat :=
  [⟨0xd0000, 20, 0x100, 1, 0x4, 1, 0x4, fun a _ _ => row_ECHO_CTRL a⟩,
   ⟨0xd0004, 20, 0x100, 1, 0x4, 1, 0x4, fun a _ _ => row_ECHO_DTD a⟩,
   ⟨0xd0008, 20, 0x100, 1, 0x4, 1, 0x4, fun a _ _ => row_ECHO_NLP a⟩,
   ⟨0xd0010, 20, 0x100, 1, 0x4, 1, 0x4, fun a _ _ => row_ECHO_STATUS a⟩,
   ⟨0xd0014, 20, 0x100, 1, 0x4, 1, 0x4, fun a _ _ => row_ECHO_DIVERGE_COUNT a⟩,
   ⟨0xd0020, 20, 0x100, 1, 0x4, 1, 0x4, fun a _ _ => row_ECHO_RESULT_W0 a⟩,
   ⟨0xd0024, 20, 0x100, 1, 0x4, 1, 0x4, fun a _ _ => row_ECHO_RESULT_W1 a⟩,
   ⟨0xd0028, 20, 0x100, 1, 0x4, 1, 0x4, fun a _ _ => row_ECHO_RESULT_W2 a⟩,
   ⟨0xd002c, 20, 0x100, 1, 0x4, 1, 0x4, fun a _ _ => row_ECHO_RESULT_W3 a⟩,
   ⟨0xd0030, 20, 0x100, 1, 0x4, 1, 0x4, fun a _ _ => row_ECHO_ACK a⟩]

/-! ### CALL (chapter 10) -/

def F.CALL_CH_CFG_FREQ (a : Nat) : Fld := ⟨0xe0000 + 0x40 * a, 24, 8, 200⟩
def F.CALL_CH_CFG_THRESH (a : Nat) : Fld := ⟨0xe0000 + 0x40 * a, 18, 6, 20⟩
def F.CALL_CH_CFG_DC_EN (a : Nat) : Fld := ⟨0xe0000 + 0x40 * a, 17, 1, a % 2⟩
def F.CALL_CH_CFG_TONE_EN (a : Nat) : Fld := ⟨0xe0000 + 0x40 * a, 16, 1, 1⟩
def F.CALL_CH_CFG_DC_V (a : Nat) : Fld := ⟨0xe0000 + 0x40 * a, 8, 8, 60⟩
def F.CALL_CH_CFG_TONE_LVL (a : Nat) : Fld := ⟨0xe0000 + 0x40 * a, 1, 5, 10⟩
def F.CALL_CH_CFG_GEN_MODE (a : Nat) : Fld := ⟨0xe0000 + 0x40 * a, 0, 1, 0⟩
def F.CALL_CH_STATUS_GEN_BLOCKED (a : Nat) : Fld := ⟨0xe0004 + 0x40 * a, 7, 1, 0⟩
def F.CALL_CH_STATUS_GENERATING (a : Nat) : Fld := ⟨0xe0004 + 0x40 * a, 6, 1, 0⟩
def F.CALL_CH_STATUS_BLANKED (a : Nat) : Fld := ⟨0xe0004 + 0x40 * a, 5, 1, 0⟩
def F.CALL_CH_STATUS_SUSPENDED (a : Nat) : Fld := ⟨0xe0004 + 0x40 * a, 4, 1, 0⟩
def F.CALL_CH_STATUS_OVER_WINDOW (a : Nat) : Fld := ⟨0xe0004 + 0x40 * a, 3, 1, 0⟩
def F.CALL_CH_STATUS_STUCK (a : Nat) : Fld := ⟨0xe0004 + 0x40 * a, 2, 1, 0⟩
def F.CALL_CH_STATUS_DC_CALL (a : Nat) : Fld := ⟨0xe0004 + 0x40 * a, 1, 1, 0⟩
def F.CALL_CH_STATUS_TONE_CALL (a : Nat) : Fld := ⟨0xe0004 + 0x40 * a, 0, 1, 0⟩
def F.CALL_RESULT_KIND (a : Nat) : Fld := ⟨0xe0010 + 0x40 * a, 18, 2, 0⟩
def F.CALL_RESULT_EVENT (a : Nat) : Fld := ⟨0xe0010 + 0x40 * a, 16, 2, 0⟩
def F.CALL_RESULT_SEQ (a : Nat) : Fld := ⟨0xe0010 + 0x40 * a, 0, 8, 0⟩
def F.CALL_RESULT_READY (a : Nat) : Fld := ⟨0xe0010 + 0x40 * a, 8, 1, 0⟩
def F.CALL_RESULT_FRESH (a : Nat) : Fld := ⟨0xe0010 + 0x40 * a, 9, 1, 0⟩
def F.CALL_RESULT_ERR (a : Nat) : Fld := ⟨0xe0010 + 0x40 * a, 10, 1, 0⟩
def F.CALL_RESULT_LOST_PREV (a : Nat) : Fld := ⟨0xe0010 + 0x40 * a, 11, 1, 0⟩
def F.CALL_RESULT_STRIDE (a : Nat) : Fld := ⟨0xe0014 + 0x40 * a, 0, 32, 0⟩
def F.CALL_RESULT_DURATION (a : Nat) : Fld := ⟨0xe0018 + 0x40 * a, 16, 16, 0⟩
def F.CALL_RESULT_LEVEL (a : Nat) : Fld := ⟨0xe0018 + 0x40 * a, 0, 16, 0⟩
def F.CALL_RESULT_GROUP (a : Nat) : Fld := ⟨0xe001c + 0x40 * a, 8, 8, 0⟩
def F.CALL_RESULT_INPUT (a : Nat) : Fld := ⟨0xe001c + 0x40 * a, 0, 8, 0⟩
def F.CALLDET_RESULT_KIND (a : Nat) : Fld := ⟨0xe0300 + 0x40 * a, 18, 2, 0⟩
def F.CALLDET_RESULT_EVENT (a : Nat) : Fld := ⟨0xe0300 + 0x40 * a, 16, 2, 0⟩
def F.CALLDET_RESULT_SEQ (a : Nat) : Fld := ⟨0xe0300 + 0x40 * a, 0, 8, 0⟩
def F.CALLDET_RESULT_READY (a : Nat) : Fld := ⟨0xe0300 + 0x40 * a, 8, 1, 0⟩
def F.CALLDET_RESULT_FRESH (a : Nat) : Fld := ⟨0xe0300 + 0x40 * a, 9, 1, 0⟩
def F.CALLDET_RESULT_ERR (a : Nat) : Fld := ⟨0xe0300 + 0x40 * a, 10, 1, 0⟩
def F.CALLDET_RESULT_LOST_PREV (a : Nat) : Fld := ⟨0xe0300 + 0x40 * a, 11, 1, 0⟩
def F.CALLDET_RESULT_STRIDE (a : Nat) : Fld := ⟨0xe0304 + 0x40 * a, 0, 32, 0⟩
def F.CALLDET_RESULT_DURATION (a : Nat) : Fld := ⟨0xe0308 + 0x40 * a, 16, 16, 0⟩
def F.CALLDET_RESULT_LEVEL (a : Nat) : Fld := ⟨0xe0308 + 0x40 * a, 0, 16, 0⟩
def F.CALLDET_RESULT_GROUP (a : Nat) : Fld := ⟨0xe030c + 0x40 * a, 8, 8, 0⟩
def F.CALLDET_RESULT_INPUT (a : Nat) : Fld := ⟨0xe030c + 0x40 * a, 0, 8, 0⟩
def F.CALL_ACK_SEQ (a : Nat) : Fld := ⟨0xe0020 + 0x40 * a, 0, 8, 0⟩
def F.CALLDET_ACK_SEQ (a : Nat) : Fld := ⟨0xe0310 + 0x40 * a, 0, 8, 0⟩
def F.CALL_MAP_GEN_EN (a : Nat) : Fld := ⟨0xe0100 + 0x4 * a, 9, 1, 0⟩
def F.CALL_MAP_RAISE_EN (a : Nat) : Fld := ⟨0xe0100 + 0x4 * a, 8, 1, 0⟩
def F.CALL_MAP_GROUP (a : Nat) : Fld := ⟨0xe0100 + 0x4 * a, 0, 6, 0⟩
def F.CALL_SEND_SEND (a : Nat) : Fld := ⟨0xe0180 + 0x4 * a, 0, 32, 0⟩
def F.CALL_LINE_SEND_SEND : Fld := ⟨0xe0188, 0, 4, 0⟩
def F.CALL_TIMING_SEND_MAX_S : Fld := ⟨0xe018c, 0, 6, 10⟩
def F.CALL_RAISED_RAISED (a : Nat) : Fld := ⟨0xe0190 + 0x4 * a, 0, 32, 0⟩
def F.LAMP_CFG_HOST_PATTERN (a : Nat) : Fld := ⟨0xe0200 + 0x4 * a, 16, 2, 0⟩
def F.LAMP_CFG_CURRENT (a : Nat) : Fld := ⟨0xe0200 + 0x4 * a, 8, 6, 10⟩
def F.LAMP_CFG_SRC (a : Nat) : Fld := ⟨0xe0200 + 0x4 * a, 0, 8, 255⟩
def F.LAMP_STATUS_FOLDBACK : Fld := ⟨0xe0210, 4, 4, 0⟩
def F.LAMP_STATUS_ON : Fld := ⟨0xe0210, 0, 4, 0⟩
def F.CALL_IRQ_TIMEOUT : Fld := ⟨0xe0220, 4, 1, 0⟩
def F.CALL_IRQ_FOLDBACK : Fld := ⟨0xe0220, 3, 1, 0⟩
def F.CALL_IRQ_STUCK : Fld := ⟨0xe0220, 2, 1, 0⟩
def F.CALL_IRQ_END : Fld := ⟨0xe0220, 1, 1, 0⟩
def F.CALL_IRQ_START : Fld := ⟨0xe0220, 0, 1, 0⟩
def F.CALL_IRQ_EN_EN : Fld := ⟨0xe0224, 0, 5, 0⟩

def row_CALL_CH_CFG (a : Nat) : RegRow :=
  ⟨(.port (a / 2)), (some 10), .always, false, [⟨F.CALL_CH_CFG_FREQ a, .rw, .soft, (.range 160 240), false, none⟩,
   ⟨F.CALL_CH_CFG_THRESH a, .rw, .soft, (.range 6 40), false, none⟩,
   ⟨F.CALL_CH_CFG_DC_EN a, (if a % 2 = 1 then .rw else .ro), .soft, .any, false, none⟩,
   ⟨F.CALL_CH_CFG_TONE_EN a, .rw, .soft, .any, false, none⟩,
   ⟨F.CALL_CH_CFG_DC_V a, .rw, .soft, (.range 30 100), false, none⟩,
   ⟨F.CALL_CH_CFG_TONE_LVL a, .rw, .soft, (.range 0 30), false, none⟩,
   ⟨F.CALL_CH_CFG_GEN_MODE a, .rw, .soft, (.range 0 (a % 2)), false, none⟩]⟩
def row_CALL_CH_STATUS (a : Nat) : RegRow :=
  ⟨(.port (a / 2)), none, .always, false, [⟨F.CALL_CH_STATUS_GEN_BLOCKED a, .ro, .soft, .any, false, none⟩,
   ⟨F.CALL_CH_STATUS_GENERATING a, .ro, .soft, .any, false, none⟩,
   ⟨F.CALL_CH_STATUS_BLANKED a, .ro, .soft, .any, false, none⟩,
   ⟨F.CALL_CH_STATUS_SUSPENDED a, .ro, .soft, .any, false, none⟩,
   ⟨F.CALL_CH_STATUS_OVER_WINDOW a, .ro, .soft, .any, false, none⟩,
   ⟨F.CALL_CH_STATUS_STUCK a, .ro, .soft, .any, false, none⟩,
   ⟨F.CALL_CH_STATUS_DC_CALL a, .ro, .soft, .any, false, none⟩,
   ⟨F.CALL_CH_STATUS_TONE_CALL a, .ro, .soft, .any, false, none⟩]⟩
def row_CALL_RESULT_W0 (a : Nat) : RegRow :=
  ⟨.conv, none, .always, false, [⟨F.CALL_RESULT_KIND a, .ro, .soft, .any, false, none⟩,
   ⟨F.CALL_RESULT_EVENT a, .ro, .soft, .any, false, none⟩,
   ⟨F.CALL_RESULT_SEQ a, .ro, .soft, .any, false, none⟩,
   ⟨F.CALL_RESULT_READY a, .ro, .soft, .any, false, none⟩,
   ⟨F.CALL_RESULT_FRESH a, .ro, .soft, .any, false, none⟩,
   ⟨F.CALL_RESULT_ERR a, .ro, .soft, .any, false, none⟩,
   ⟨F.CALL_RESULT_LOST_PREV a, .ro, .soft, .any, false, none⟩]⟩
def row_CALL_RESULT_W1 (a : Nat) : RegRow :=
  ⟨.conv, none, .always, false, [⟨F.CALL_RESULT_STRIDE a, .ro, .soft, .any, false, none⟩]⟩
def row_CALL_RESULT_W2 (a : Nat) : RegRow :=
  ⟨.conv, none, .always, false, [⟨F.CALL_RESULT_DURATION a, .ro, .soft, .any, false, none⟩,
   ⟨F.CALL_RESULT_LEVEL a, .ro, .soft, .any, false, none⟩]⟩
def row_CALL_RESULT_W3 (a : Nat) : RegRow :=
  ⟨.conv, none, .always, false, [⟨F.CALL_RESULT_GROUP a, .ro, .soft, .any, false, none⟩,
   ⟨F.CALL_RESULT_INPUT a, .ro, .soft, .any, false, none⟩]⟩
def row_CALLDET_RESULT_W0 (a : Nat) : RegRow :=
  ⟨(.callDet a), none, (.callDet a), false, [⟨F.CALLDET_RESULT_KIND a, .ro, .soft, .any, false, none⟩,
   ⟨F.CALLDET_RESULT_EVENT a, .ro, .soft, .any, false, none⟩,
   ⟨F.CALLDET_RESULT_SEQ a, .ro, .soft, .any, false, none⟩,
   ⟨F.CALLDET_RESULT_READY a, .ro, .soft, .any, false, none⟩,
   ⟨F.CALLDET_RESULT_FRESH a, .ro, .soft, .any, false, none⟩,
   ⟨F.CALLDET_RESULT_ERR a, .ro, .soft, .any, false, none⟩,
   ⟨F.CALLDET_RESULT_LOST_PREV a, .ro, .soft, .any, false, none⟩]⟩
def row_CALLDET_RESULT_W1 (a : Nat) : RegRow :=
  ⟨(.callDet a), none, (.callDet a), false, [⟨F.CALLDET_RESULT_STRIDE a, .ro, .soft, .any, false, none⟩]⟩
def row_CALLDET_RESULT_W2 (a : Nat) : RegRow :=
  ⟨(.callDet a), none, (.callDet a), false, [⟨F.CALLDET_RESULT_DURATION a, .ro, .soft, .any, false, none⟩,
   ⟨F.CALLDET_RESULT_LEVEL a, .ro, .soft, .any, false, none⟩]⟩
def row_CALLDET_RESULT_W3 (a : Nat) : RegRow :=
  ⟨(.callDet a), none, (.callDet a), false, [⟨F.CALLDET_RESULT_GROUP a, .ro, .soft, .any, false, none⟩,
   ⟨F.CALLDET_RESULT_INPUT a, .ro, .soft, .any, false, none⟩]⟩
def row_CALL_ACK (a : Nat) : RegRow :=
  ⟨.conv, (some 10), .always, false, [⟨F.CALL_ACK_SEQ a, .wo, .soft, .any, false, none⟩]⟩
def row_CALLDET_ACK (a : Nat) : RegRow :=
  ⟨(.callDet a), (some 10), (.callDet a), false, [⟨F.CALLDET_ACK_SEQ a, .wo, .soft, .any, false, none⟩]⟩
def row_CALL_MAP (a : Nat) : RegRow :=
  ⟨.steward, (some 10), .always, false, [⟨F.CALL_MAP_GEN_EN a, (if a < 4 then .rw else .ro), .soft, .any, false, none⟩,
   ⟨F.CALL_MAP_RAISE_EN a, .rw, .soft, .any, false, none⟩,
   ⟨F.CALL_MAP_GROUP a, .rw, .soft, (.range 0 62), false, none⟩]⟩
def row_CALL_SEND (a : Nat) : RegRow :=
  ⟨.steward, (some 11), .always, false, [⟨F.CALL_SEND_SEND a, .rw, .soft, .any, true, none⟩]⟩
def row_CALL_LINE_SEND : RegRow :=
  ⟨.steward, (some 11), .always, false, [⟨F.CALL_LINE_SEND_SEND, .rw, .soft, .any, true, none⟩]⟩
def row_CALL_TIMING : RegRow :=
  ⟨.steward, (some 10), .always, false, [⟨F.CALL_TIMING_SEND_MAX_S, .rw, .soft, (.range 0 60), false, none⟩]⟩
def row_CALL_RAISED (a : Nat) : RegRow :=
  ⟨.steward, none, .always, false, [⟨F.CALL_RAISED_RAISED a, .ro, .soft, .any, false, none⟩]⟩
def row_LAMP_CFG (a : Nat) : RegRow :=
  ⟨.aon, (some 10), .always, false, [⟨F.LAMP_CFG_HOST_PATTERN a, .rw, .soft, .any, false, none⟩,
   ⟨F.LAMP_CFG_CURRENT a, .rw, .soft, (.range 0 50), false, none⟩,
   ⟨F.LAMP_CFG_SRC a, .rw, .soft, .lampSrc, false, none⟩]⟩
def row_LAMP_STATUS : RegRow :=
  ⟨.aon, none, .always, false, [⟨F.LAMP_STATUS_FOLDBACK, .ro, .soft, .any, false, none⟩,
   ⟨F.LAMP_STATUS_ON, .ro, .soft, .any, false, none⟩]⟩
def row_CALL_IRQ : RegRow :=
  ⟨.steward, (some 10), .always, false, [⟨F.CALL_IRQ_TIMEOUT, .w1c, .soft, .any, false, none⟩,
   ⟨F.CALL_IRQ_FOLDBACK, .w1c, .soft, .any, false, none⟩,
   ⟨F.CALL_IRQ_STUCK, .w1c, .soft, .any, false, none⟩,
   ⟨F.CALL_IRQ_END, .w1c, .soft, .any, false, none⟩,
   ⟨F.CALL_IRQ_START, .w1c, .soft, .any, false, none⟩]⟩
def row_CALL_IRQ_EN : RegRow :=
  ⟨.steward, (some 10), .always, false, [⟨F.CALL_IRQ_EN_EN, .rw, .soft, .any, false, none⟩]⟩

/-- The address patterns of block CALL. -/
def rows_CALL : List RowPat :=
  [⟨0xe0000, 4, 0x40, 1, 0x4, 1, 0x4, fun a _ _ => row_CALL_CH_CFG a⟩,
   ⟨0xe0004, 4, 0x40, 1, 0x4, 1, 0x4, fun a _ _ => row_CALL_CH_STATUS a⟩,
   ⟨0xe0010, 4, 0x40, 1, 0x4, 1, 0x4, fun a _ _ => row_CALL_RESULT_W0 a⟩,
   ⟨0xe0014, 4, 0x40, 1, 0x4, 1, 0x4, fun a _ _ => row_CALL_RESULT_W1 a⟩,
   ⟨0xe0018, 4, 0x40, 1, 0x4, 1, 0x4, fun a _ _ => row_CALL_RESULT_W2 a⟩,
   ⟨0xe001c, 4, 0x40, 1, 0x4, 1, 0x4, fun a _ _ => row_CALL_RESULT_W3 a⟩,
   ⟨0xe0300, 4, 0x40, 1, 0x4, 1, 0x4, fun a _ _ => row_CALLDET_RESULT_W0 a⟩,
   ⟨0xe0304, 4, 0x40, 1, 0x4, 1, 0x4, fun a _ _ => row_CALLDET_RESULT_W1 a⟩,
   ⟨0xe0308, 4, 0x40, 1, 0x4, 1, 0x4, fun a _ _ => row_CALLDET_RESULT_W2 a⟩,
   ⟨0xe030c, 4, 0x40, 1, 0x4, 1, 0x4, fun a _ _ => row_CALLDET_RESULT_W3 a⟩,
   ⟨0xe0020, 4, 0x40, 1, 0x4, 1, 0x4, fun a _ _ => row_CALL_ACK a⟩,
   ⟨0xe0310, 4, 0x40, 1, 0x4, 1, 0x4, fun a _ _ => row_CALLDET_ACK a⟩,
   ⟨0xe0100, 20, 0x4, 1, 0x4, 1, 0x4, fun a _ _ => row_CALL_MAP a⟩,
   ⟨0xe0180, 2, 0x4, 1, 0x4, 1, 0x4, fun a _ _ => row_CALL_SEND a⟩,
   ⟨0xe0188, 1, 0x4, 1, 0x4, 1, 0x4, fun _ _ _ => row_CALL_LINE_SEND⟩,
   ⟨0xe018c, 1, 0x4, 1, 0x4, 1, 0x4, fun _ _ _ => row_CALL_TIMING⟩,
   ⟨0xe0190, 2, 0x4, 1, 0x4, 1, 0x4, fun a _ _ => row_CALL_RAISED a⟩,
   ⟨0xe0200, 4, 0x4, 1, 0x4, 1, 0x4, fun a _ _ => row_LAMP_CFG a⟩,
   ⟨0xe0210, 1, 0x4, 1, 0x4, 1, 0x4, fun _ _ _ => row_LAMP_STATUS⟩,
   ⟨0xe0220, 1, 0x4, 1, 0x4, 1, 0x4, fun _ _ _ => row_CALL_IRQ⟩,
   ⟨0xe0224, 1, 0x4, 1, 0x4, 1, 0x4, fun _ _ _ => row_CALL_IRQ_EN⟩]

/-! ### MIC (chapter 04) -/

def F.MIC_CFG_EN : Fld := ⟨0xf0000, 0, 8, 255⟩
def F.MIC_TRIM_TRIM (a : Nat) : Fld := ⟨0xf0010 + 0x4 * a, 0, 8, 0⟩
def F.MIC_STATUS_MUTED : Fld := ⟨0xf0030, 8, 8, 0⟩
def F.MIC_STATUS_STUCK : Fld := ⟨0xf0030, 0, 8, 0⟩
def F.MIC_PRIV_LOCKED : Fld := ⟨0xf0040, 31, 1, 0⟩
def F.MIC_PRIV_MUTE : Fld := ⟨0xf0040, 4, 4, 0⟩
def F.MIC_PRIV_SEAL : Fld := ⟨0xf0040, 0, 4, 15⟩
def F.MIC_PRIV_STATUS_APPROVED_SEAL : Fld := ⟨0xf0044, 4, 1, 0⟩
def F.MIC_PRIV_STATUS_WINDOW : Fld := ⟨0xf0044, 3, 1, 0⟩
def F.MIC_PRIV_STATUS_SEALED : Fld := ⟨0xf0044, 2, 1, 0⟩
def F.MIC_PRIV_STATUS_IND : Fld := ⟨0xf0044, 1, 1, 0⟩
def F.MIC_PRIV_STATUS_PIN : Fld := ⟨0xf0044, 0, 1, 0⟩
def F.WAKE_CTRL_FORCE : Fld := ⟨0xf0100, 1, 1, 0⟩
def F.WAKE_CTRL_ENABLE : Fld := ⟨0xf0100, 0, 1, 0⟩
def F.WAKE_WALK_CFG_FRAMES : Fld := ⟨0xf0104, 16, 4, 2⟩
def F.WAKE_WALK_CFG_THRESH : Fld := ⟨0xf0104, 8, 8, 24⟩
def F.WAKE_WALK_CFG_MIC : Fld := ⟨0xf0104, 0, 3, 0⟩
def F.WAKE_TROT_CFG_TIMEOUT : Fld := ⟨0xf0108, 24, 8, 63⟩
def F.WAKE_TROT_CFG_FRAMES : Fld := ⟨0xf0108, 16, 4, 3⟩
def F.WAKE_TROT_CFG_THRESH : Fld := ⟨0xf0108, 8, 8, 160⟩
def F.WAKE_TROT_CFG_PAIR : Fld := ⟨0xf0108, 0, 2, 0⟩
def F.WAKE_CANTER_CFG_TIMEOUT : Fld := ⟨0xf010c, 24, 8, 94⟩
def F.WAKE_CANTER_CFG_FRAMES : Fld := ⟨0xf010c, 16, 4, 2⟩
def F.WAKE_CANTER_CFG_THRESH : Fld := ⟨0xf010c, 8, 8, 192⟩
def F.WAKE_CANTER_CFG_PAIRS : Fld := ⟨0xf010c, 0, 4, 3⟩
def F.WAKE_CANTER_DLY_DLY_3 : Fld := ⟨0xf0110, 24, 5, 0⟩
def F.WAKE_CANTER_DLY_DLY_2 : Fld := ⟨0xf0110, 16, 5, 0⟩
def F.WAKE_CANTER_DLY_DLY_1 : Fld := ⟨0xf0110, 8, 5, 0⟩
def F.WAKE_CANTER_DLY_DLY_0 : Fld := ⟨0xf0110, 0, 5, 0⟩
def F.WAKE_GALLOP_CFG_TIMEOUT : Fld := ⟨0xf0114, 24, 8, 125⟩
def F.WAKE_GALLOP_CFG_FRAMES : Fld := ⟨0xf0114, 16, 4, 1⟩
def F.WAKE_GALLOP_CFG_THRESH : Fld := ⟨0xf0114, 8, 8, 216⟩
def F.WAKE_GALLOP_CFG_MODELS : Fld := ⟨0xf0114, 0, 4, 1⟩
def F.WAKE_HANG_HANG_MS : Fld := ⟨0xf0118, 0, 16, 1500⟩
def F.WAKE_STATUS_TALK : Fld := ⟨0xf0120, 4, 1, 0⟩
def F.WAKE_STATUS_MUTED : Fld := ⟨0xf0120, 3, 1, 0⟩
def F.WAKE_STATUS_STAGE : Fld := ⟨0xf0120, 0, 3, 0⟩
def F.WAKE_CONF_GALLOP : Fld := ⟨0xf0124, 24, 8, 0⟩
def F.WAKE_CONF_CANTER : Fld := ⟨0xf0124, 16, 8, 0⟩
def F.WAKE_CONF_TROT : Fld := ⟨0xf0124, 8, 8, 0⟩
def F.WAKE_CONF_WALK : Fld := ⟨0xf0124, 0, 8, 0⟩
def F.WAKE_RESULT_NO_PREROLL : Fld := ⟨0xf0130, 19, 1, 0⟩
def F.WAKE_RESULT_TRIMMED : Fld := ⟨0xf0130, 18, 1, 0⟩
def F.WAKE_RESULT_FORCED : Fld := ⟨0xf0130, 17, 1, 0⟩
def F.WAKE_RESULT_SEQ : Fld := ⟨0xf0130, 0, 8, 0⟩
def F.WAKE_RESULT_READY : Fld := ⟨0xf0130, 8, 1, 0⟩
def F.WAKE_RESULT_FRESH : Fld := ⟨0xf0130, 9, 1, 0⟩
def F.WAKE_RESULT_ERR : Fld := ⟨0xf0130, 10, 1, 0⟩
def F.WAKE_RESULT_LOST_PREV : Fld := ⟨0xf0130, 11, 1, 0⟩
def F.WAKE_RESULT_ONSET_LO : Fld := ⟨0xf0134, 0, 32, 0⟩
def F.WAKE_RESULT_CONF : Fld := ⟨0xf0138, 24, 8, 0⟩
def F.WAKE_RESULT_MODEL : Fld := ⟨0xf0138, 16, 2, 0⟩
def F.WAKE_RESULT_ONSET_HI : Fld := ⟨0xf0138, 0, 16, 0⟩
def F.WAKE_RESULT_LAG : Fld := ⟨0xf013c, 0, 32, 0⟩
def F.WAKE_ACK_SEQ : Fld := ⟨0xf0140, 0, 8, 0⟩
def F.WAKE_EVENTS_COUNT : Fld := ⟨0xf0144, 0, 32, 0⟩
def F.HIST_STATUS_LAG : Fld := ⟨0xf0200, 8, 24, 0⟩
def F.HIST_STATUS_MODE : Fld := ⟨0xf0200, 0, 2, 0⟩

def row_MIC_CFG : RegRow :=
  ⟨.conv, (some 2), .always, false, [⟨F.MIC_CFG_EN, .rw, .soft, .any, false, none⟩]⟩
def row_MIC_TRIM (a : Nat) : RegRow :=
  ⟨.conv, (some 2), .always, false, [⟨F.MIC_TRIM_TRIM a, .rw, .soft, (.signed 60), false, none⟩]⟩
def row_MIC_STATUS : RegRow :=
  ⟨.conv, none, .always, false, [⟨F.MIC_STATUS_MUTED, .ro, .soft, .any, false, none⟩,
   ⟨F.MIC_STATUS_STUCK, .ro, .soft, .any, false, none⟩]⟩
def row_MIC_PRIV : RegRow :=
  ⟨.aon, none, .always, false, [⟨F.MIC_PRIV_LOCKED, .ro, .pin, .any, false, none⟩,
   ⟨F.MIC_PRIV_MUTE, .rws, .pin, .any, false, none⟩,
   ⟨F.MIC_PRIV_SEAL, .rws, .pin, .any, false, none⟩]⟩
def row_MIC_PRIV_STATUS : RegRow :=
  ⟨.aon, none, .always, false, [⟨F.MIC_PRIV_STATUS_APPROVED_SEAL, .ro, .pin, .any, false, none⟩,
   ⟨F.MIC_PRIV_STATUS_WINDOW, .ro, .soft, .any, false, none⟩,
   ⟨F.MIC_PRIV_STATUS_SEALED, .ro, .soft, .any, false, none⟩,
   ⟨F.MIC_PRIV_STATUS_IND, .ro, .pin, .any, false, none⟩,
   ⟨F.MIC_PRIV_STATUS_PIN, .ro, .pin, .any, false, none⟩]⟩
def row_WAKE_CTRL : RegRow :=
  ⟨.walk, (some 3), .always, false, [⟨F.WAKE_CTRL_FORCE, .wo, .soft, .any, false, none⟩,
   ⟨F.WAKE_CTRL_ENABLE, .rw, .soft, .any, false, none⟩]⟩
def row_WAKE_WALK_CFG : RegRow :=
  ⟨.walk, (some 3), .always, false, [⟨F.WAKE_WALK_CFG_FRAMES, .rw, .soft, (.range 1 8), false, none⟩,
   ⟨F.WAKE_WALK_CFG_THRESH, .rw, .soft, .any, false, none⟩,
   ⟨F.WAKE_WALK_CFG_MIC, .rw, .soft, .any, false, none⟩]⟩
def row_WAKE_TROT_CFG : RegRow :=
  ⟨.walk, (some 3), .always, false, [⟨F.WAKE_TROT_CFG_TIMEOUT, .rw, .soft, (.range 1 255), false, none⟩,
   ⟨F.WAKE_TROT_CFG_FRAMES, .rw, .soft, (.range 1 8), false, none⟩,
   ⟨F.WAKE_TROT_CFG_THRESH, .rw, .soft, .any, false, none⟩,
   ⟨F.WAKE_TROT_CFG_PAIR, .rw, .soft, .any, false, none⟩]⟩
def row_WAKE_CANTER_CFG : RegRow :=
  ⟨.walk, (some 3), .always, false, [⟨F.WAKE_CANTER_CFG_TIMEOUT, .rw, .soft, (.range 1 255), false, none⟩,
   ⟨F.WAKE_CANTER_CFG_FRAMES, .rw, .soft, (.range 1 8), false, none⟩,
   ⟨F.WAKE_CANTER_CFG_THRESH, .rw, .soft, .any, false, none⟩,
   ⟨F.WAKE_CANTER_CFG_PAIRS, .rw, .soft, .twoBits, false, none⟩]⟩
def row_WAKE_CANTER_DLY : RegRow :=
  ⟨.walk, (some 3), .always, false, [⟨F.WAKE_CANTER_DLY_DLY_3, .rw, .soft, .any, false, none⟩,
   ⟨F.WAKE_CANTER_DLY_DLY_2, .rw, .soft, .any, false, none⟩,
   ⟨F.WAKE_CANTER_DLY_DLY_1, .rw, .soft, .any, false, none⟩,
   ⟨F.WAKE_CANTER_DLY_DLY_0, .rw, .soft, .any, false, none⟩]⟩
def row_WAKE_GALLOP_CFG : RegRow :=
  ⟨.walk, (some 3), .always, false, [⟨F.WAKE_GALLOP_CFG_TIMEOUT, .rw, .soft, (.range 1 255), false, none⟩,
   ⟨F.WAKE_GALLOP_CFG_FRAMES, .rw, .soft, (.range 1 8), false, none⟩,
   ⟨F.WAKE_GALLOP_CFG_THRESH, .rw, .soft, .any, false, none⟩,
   ⟨F.WAKE_GALLOP_CFG_MODELS, .rw, .soft, .any, false, none⟩]⟩
def row_WAKE_HANG : RegRow :=
  ⟨.walk, (some 3), .always, false, [⟨F.WAKE_HANG_HANG_MS, .rw, .soft, (.range 100 10000), false, none⟩]⟩
def row_WAKE_STATUS : RegRow :=
  ⟨.walk, none, .always, false, [⟨F.WAKE_STATUS_TALK, .ro, .soft, .any, false, none⟩,
   ⟨F.WAKE_STATUS_MUTED, .ro, .soft, .any, false, none⟩,
   ⟨F.WAKE_STATUS_STAGE, .ro, .soft, .any, false, none⟩]⟩
def row_WAKE_CONF : RegRow :=
  ⟨.walk, none, .always, false, [⟨F.WAKE_CONF_GALLOP, .ro, .soft, .any, false, none⟩,
   ⟨F.WAKE_CONF_CANTER, .ro, .soft, .any, false, none⟩,
   ⟨F.WAKE_CONF_TROT, .ro, .soft, .any, false, none⟩,
   ⟨F.WAKE_CONF_WALK, .ro, .soft, .any, false, none⟩]⟩
def row_WAKE_RESULT_W0 : RegRow :=
  ⟨.walk, none, .always, false, [⟨F.WAKE_RESULT_NO_PREROLL, .ro, .soft, .any, false, none⟩,
   ⟨F.WAKE_RESULT_TRIMMED, .ro, .soft, .any, false, none⟩,
   ⟨F.WAKE_RESULT_FORCED, .ro, .soft, .any, false, none⟩,
   ⟨F.WAKE_RESULT_SEQ, .ro, .soft, .any, false, none⟩,
   ⟨F.WAKE_RESULT_READY, .ro, .soft, .any, false, none⟩,
   ⟨F.WAKE_RESULT_FRESH, .ro, .soft, .any, false, none⟩,
   ⟨F.WAKE_RESULT_ERR, .ro, .soft, .any, false, none⟩,
   ⟨F.WAKE_RESULT_LOST_PREV, .ro, .soft, .any, false, none⟩]⟩
def row_WAKE_RESULT_W1 : RegRow :=
  ⟨.walk, none, .always, false, [⟨F.WAKE_RESULT_ONSET_LO, .ro, .soft, .any, false, none⟩]⟩
def row_WAKE_RESULT_W2 : RegRow :=
  ⟨.walk, none, .always, false, [⟨F.WAKE_RESULT_CONF, .ro, .soft, .any, false, none⟩,
   ⟨F.WAKE_RESULT_MODEL, .ro, .soft, .any, false, none⟩,
   ⟨F.WAKE_RESULT_ONSET_HI, .ro, .soft, .any, false, none⟩]⟩
def row_WAKE_RESULT_W3 : RegRow :=
  ⟨.walk, none, .always, false, [⟨F.WAKE_RESULT_LAG, .ro, .soft, .any, false, none⟩]⟩
def row_WAKE_ACK : RegRow :=
  ⟨.walk, (some 3), .always, false, [⟨F.WAKE_ACK_SEQ, .wo, .soft, .any, false, none⟩]⟩
def row_WAKE_EVENTS : RegRow :=
  ⟨.walk, none, .always, false, [⟨F.WAKE_EVENTS_COUNT, .ro, .soft, .any, false, none⟩]⟩
def row_HIST_STATUS : RegRow :=
  ⟨.hcodec, none, .hcodec, false, [⟨F.HIST_STATUS_LAG, .ro, .soft, .any, false, none⟩,
   ⟨F.HIST_STATUS_MODE, .ro, .soft, .any, false, none⟩]⟩

/-- The address patterns of block MIC. -/
def rows_MIC : List RowPat :=
  [⟨0xf0000, 1, 0x4, 1, 0x4, 1, 0x4, fun _ _ _ => row_MIC_CFG⟩,
   ⟨0xf0010, 8, 0x4, 1, 0x4, 1, 0x4, fun a _ _ => row_MIC_TRIM a⟩,
   ⟨0xf0030, 1, 0x4, 1, 0x4, 1, 0x4, fun _ _ _ => row_MIC_STATUS⟩,
   ⟨0xf0040, 1, 0x4, 1, 0x4, 1, 0x4, fun _ _ _ => row_MIC_PRIV⟩,
   ⟨0xf0044, 1, 0x4, 1, 0x4, 1, 0x4, fun _ _ _ => row_MIC_PRIV_STATUS⟩,
   ⟨0xf0100, 1, 0x4, 1, 0x4, 1, 0x4, fun _ _ _ => row_WAKE_CTRL⟩,
   ⟨0xf0104, 1, 0x4, 1, 0x4, 1, 0x4, fun _ _ _ => row_WAKE_WALK_CFG⟩,
   ⟨0xf0108, 1, 0x4, 1, 0x4, 1, 0x4, fun _ _ _ => row_WAKE_TROT_CFG⟩,
   ⟨0xf010c, 1, 0x4, 1, 0x4, 1, 0x4, fun _ _ _ => row_WAKE_CANTER_CFG⟩,
   ⟨0xf0110, 1, 0x4, 1, 0x4, 1, 0x4, fun _ _ _ => row_WAKE_CANTER_DLY⟩,
   ⟨0xf0114, 1, 0x4, 1, 0x4, 1, 0x4, fun _ _ _ => row_WAKE_GALLOP_CFG⟩,
   ⟨0xf0118, 1, 0x4, 1, 0x4, 1, 0x4, fun _ _ _ => row_WAKE_HANG⟩,
   ⟨0xf0120, 1, 0x4, 1, 0x4, 1, 0x4, fun _ _ _ => row_WAKE_STATUS⟩,
   ⟨0xf0124, 1, 0x4, 1, 0x4, 1, 0x4, fun _ _ _ => row_WAKE_CONF⟩,
   ⟨0xf0130, 1, 0x4, 1, 0x4, 1, 0x4, fun _ _ _ => row_WAKE_RESULT_W0⟩,
   ⟨0xf0134, 1, 0x4, 1, 0x4, 1, 0x4, fun _ _ _ => row_WAKE_RESULT_W1⟩,
   ⟨0xf0138, 1, 0x4, 1, 0x4, 1, 0x4, fun _ _ _ => row_WAKE_RESULT_W2⟩,
   ⟨0xf013c, 1, 0x4, 1, 0x4, 1, 0x4, fun _ _ _ => row_WAKE_RESULT_W3⟩,
   ⟨0xf0140, 1, 0x4, 1, 0x4, 1, 0x4, fun _ _ _ => row_WAKE_ACK⟩,
   ⟨0xf0144, 1, 0x4, 1, 0x4, 1, 0x4, fun _ _ _ => row_WAKE_EVENTS⟩,
   ⟨0xf0200, 1, 0x4, 1, 0x4, 1, 0x4, fun _ _ _ => row_HIST_STATUS⟩]

/-! ### TDM (chapter 05) -/

def F.TDM_CFG_EN (a : Nat) : Fld := ⟨0x170000 + 0x100 * a, 31, 1, 0⟩
def F.TDM_CFG_MASTER (a : Nat) : Fld := ⟨0x170000 + 0x100 * a, 30, 1, 0⟩
def F.TDM_CFG_SLOTS (a : Nat) : Fld := ⟨0x170000 + 0x100 * a, 24, 4, 7⟩
def F.TDM_CFG_SLOT_BITS (a : Nat) : Fld := ⟨0x170000 + 0x100 * a, 23, 1, 1⟩
def F.TDM_CFG_FS_WIDTH (a : Nat) : Fld := ⟨0x170000 + 0x100 * a, 20, 2, 0⟩
def F.TDM_CFG_FS_POL (a : Nat) : Fld := ⟨0x170000 + 0x100 * a, 19, 1, 0⟩
def F.TDM_CFG_DELAY (a : Nat) : Fld := ⟨0x170000 + 0x100 * a, 18, 1, 0⟩
def F.TDM_STATUS_SLIP (a : Nat) : Fld := ⟨0x170004 + 0x100 * a, 2, 1, 0⟩
def F.TDM_STATUS_FRAME_ERR (a : Nat) : Fld := ⟨0x170004 + 0x100 * a, 1, 1, 0⟩
def F.TDM_STATUS_SYNC (a : Nat) : Fld := ⟨0x170004 + 0x100 * a, 0, 1, 0⟩
def F.TDM_IRQ_EN_EN (a : Nat) : Fld := ⟨0x170008 + 0x100 * a, 1, 2, 0⟩
def F.TDM_CNT_SLIPS (a : Nat) : Fld := ⟨0x17000c + 0x100 * a, 16, 16, 0⟩
def F.TDM_CNT_FRAME_ERRS (a : Nat) : Fld := ⟨0x17000c + 0x100 * a, 0, 16, 0⟩
def F.TDM_SLOT_JUSTIFY (a b : Nat) : Fld := ⟨0x170040 + 0x100 * a + 0x4 * b, 2, 1, 0⟩
def F.TDM_SLOT_TX_EN (a b : Nat) : Fld := ⟨0x170040 + 0x100 * a + 0x4 * b, 1, 1, 0⟩
def F.TDM_SLOT_RX_EN (a b : Nat) : Fld := ⟨0x170040 + 0x100 * a + 0x4 * b, 0, 1, 0⟩

def row_TDM_CFG (a : Nat) : RegRow :=
  ⟨(.tdm a), (some 5), .always, false, [⟨F.TDM_CFG_EN a, .rw, .soft, .any, false, none⟩,
   ⟨F.TDM_CFG_MASTER a, .rw, .soft, .any, false, none⟩,
   ⟨F.TDM_CFG_SLOTS a, .rw, .soft, .any, false, none⟩,
   ⟨F.TDM_CFG_SLOT_BITS a, .rw, .soft, .any, false, none⟩,
   ⟨F.TDM_CFG_FS_WIDTH a, .rw, .soft, (.range 0 2), false, none⟩,
   ⟨F.TDM_CFG_FS_POL a, .rw, .soft, .any, false, none⟩,
   ⟨F.TDM_CFG_DELAY a, .rw, .soft, .any, false, none⟩]⟩
def row_TDM_STATUS (a : Nat) : RegRow :=
  ⟨(.tdm a), (some 5), .always, false, [⟨F.TDM_STATUS_SLIP a, .w1c, .soft, .any, false, none⟩,
   ⟨F.TDM_STATUS_FRAME_ERR a, .w1c, .soft, .any, false, none⟩,
   ⟨F.TDM_STATUS_SYNC a, .ro, .soft, .any, false, none⟩]⟩
def row_TDM_IRQ_EN (a : Nat) : RegRow :=
  ⟨(.tdm a), (some 5), .always, false, [⟨F.TDM_IRQ_EN_EN a, .rw, .soft, .any, false, none⟩]⟩
def row_TDM_CNT (a : Nat) : RegRow :=
  ⟨(.tdm a), none, .always, false, [⟨F.TDM_CNT_SLIPS a, .ro, .soft, .any, false, none⟩,
   ⟨F.TDM_CNT_FRAME_ERRS a, .ro, .soft, .any, false, none⟩]⟩
def row_TDM_SLOT (a b : Nat) : RegRow :=
  ⟨(.tdm a), (some 5), .always, false, [⟨F.TDM_SLOT_JUSTIFY a b, .rw, .soft, .any, false, none⟩,
   ⟨F.TDM_SLOT_TX_EN a b, .rw, .soft, .any, false, none⟩,
   ⟨F.TDM_SLOT_RX_EN a b, .rw, .soft, .any, false, none⟩]⟩

/-- The address patterns of block TDM. -/
def rows_TDM : List RowPat :=
  [⟨0x170000, 4, 0x100, 1, 0x4, 1, 0x4, fun a _ _ => row_TDM_CFG a⟩,
   ⟨0x170004, 4, 0x100, 1, 0x4, 1, 0x4, fun a _ _ => row_TDM_STATUS a⟩,
   ⟨0x170008, 4, 0x100, 1, 0x4, 1, 0x4, fun a _ _ => row_TDM_IRQ_EN a⟩,
   ⟨0x17000c, 4, 0x100, 1, 0x4, 1, 0x4, fun a _ _ => row_TDM_CNT a⟩,
   ⟨0x170040, 4, 0x100, 16, 0x4, 1, 0x4, fun a b _ => row_TDM_SLOT a b⟩]

end Sys2Proof.Machine
end

