-- ==== Sys2Proof/Machine/RegsFab.lean ====
section
/-! DEFINITION. The registers of the blocks FAB, TG: one `Fld` for each field the spec's register
tables give, one row function for each register (or word of a multi-word register), and the blocks' address
patterns (R819, R822). Every field's reset value is the one its table states, 0 where the table states none
(log entry 2). -/

namespace Sys2Proof.Machine

/-! ### FAB (chapters 02 and 03) -/

def F.FAB_IMAGE_ID_IMAGE_ID : Fld := ⟨0x108000, 0, 32, 0⟩
def F.FAB_IMAGE_VER_IMAGE_VERSION : Fld := ⟨0x108004, 0, 32, 0⟩
def F.FAB_IMAGE_DIGEST_HI_DIGEST_0_3 : Fld := ⟨0x108008, 0, 32, 0⟩
def F.FAB_IMAGE_DIGEST_LO_DIGEST_4_7 : Fld := ⟨0x10800c, 0, 32, 0⟩
def F.FAB_IMAGE_INFO_REGIONS : Fld := ⟨0x108010, 16, 5, 0⟩
def F.FAB_IMAGE_INFO_ENCRYPTED : Fld := ⟨0x108010, 8, 1, 0⟩
def F.FAB_IMAGE_INFO_SLOT : Fld := ⟨0x108010, 4, 1, 0⟩
def F.FAB_IMAGE_INFO_SOURCE : Fld := ⟨0x108010, 0, 2, 0⟩
def F.FAB_SWAP_CTRL_AT_STRIDE : Fld := ⟨0x108020, 16, 16, 0⟩
def F.FAB_SWAP_CTRL_AT_STRIDE_EN : Fld := ⟨0x108020, 1, 1, 0⟩
def F.FAB_SWAP_CTRL_GO : Fld := ⟨0x108020, 0, 1, 0⟩
def F.FAB_SWAP_STATUS_SWAPPED_MASK : Fld := ⟨0x108024, 16, 16, 0⟩
def F.FAB_SWAP_STATUS_RESULT : Fld := ⟨0x108024, 8, 4, 0⟩
def F.FAB_SWAP_STATUS_STATE : Fld := ⟨0x108024, 0, 3, 0⟩
def F.FAB_STALL_INFO_LAYER (a : Nat) : Fld := ⟨0x100000 + 0x100 * a, 28, 3, 0⟩
def F.FAB_STALL_INFO_SLICE_COUNT (a : Nat) : Fld := ⟨0x100000 + 0x100 * a, 24, 4, 0⟩
def F.FAB_STALL_INFO_SLICE (a : Nat) : Fld := ⟨0x100000 + 0x100 * a, 20, 3, 0⟩
def F.FAB_STALL_INFO_INSTANCE (a : Nat) : Fld := ⟨0x100000 + 0x100 * a, 16, 4, 0⟩
def F.FAB_STALL_INFO_REGION (a : Nat) : Fld := ⟨0x100000 + 0x100 * a, 8, 4, 0⟩
def F.FAB_STALL_INFO_FALLBACK (a : Nat) : Fld := ⟨0x100000 + 0x100 * a, 4, 2, 0⟩
def F.FAB_STALL_INFO_TEMPLATE (a : Nat) : Fld := ⟨0x100000 + 0x100 * a, 0, 4, 0⟩
def F.FAB_STALL_STATUS_SAT (a : Nat) : Fld := ⟨0x100004 + 0x100 * a, 8, 1, 0⟩
def F.FAB_STALL_STATUS_FALLBACK_ACTIVE (a : Nat) : Fld := ⟨0x100004 + 0x100 * a, 5, 1, 0⟩
def F.FAB_STALL_STATUS_LATE_LAST (a : Nat) : Fld := ⟨0x100004 + 0x100 * a, 4, 1, 0⟩
def F.FAB_STALL_STATUS_STATE (a : Nat) : Fld := ⟨0x100004 + 0x100 * a, 0, 3, 0⟩
def F.FAB_STALL_CLK_MEASURED (a : Nat) : Fld := ⟨0x100008 + 0x100 * a, 24, 8, 0⟩
def F.FAB_STALL_CLK_CAP (a : Nat) : Fld := ⟨0x100008 + 0x100 * a, 16, 7, 0⟩
def F.FAB_STALL_CLK_CLOCK_MIN (a : Nat) : Fld := ⟨0x100008 + 0x100 * a, 8, 7, 0⟩
def F.FAB_STALL_CLK_SETPOINT (a : Nat) : Fld := ⟨0x100008 + 0x100 * a, 0, 7, 0⟩
def F.FAB_STALL_LATE_TOTAL (a : Nat) : Fld := ⟨0x10000c + 0x100 * a, 0, 32, 0⟩
def F.FAB_STALL_WINDOW_MIN_SLACK (a : Nat) : Fld := ⟨0x100010 + 0x100 * a, 16, 10, 0⟩
def F.FAB_STALL_WINDOW_LATE_1S (a : Nat) : Fld := ⟨0x100010 + 0x100 * a, 0, 7, 0⟩
def F.FAB_STALL_CTRL_FORCE_FALLBACK (a : Nat) : Fld := ⟨0x100020 + 0x100 * a, 0, 1, 0⟩
def F.FAB_LAYERS_COUNT : Fld := ⟨0x108040, 0, 4, 0⟩
def F.FAB_LAYER_END_END (a : Nat) : Fld := ⟨0x108044 + 0x4 * a, 0, 10, 0⟩
def F.FAB_CLK_CAP_ACTIVE_CAP : Fld := ⟨0x108064, 16, 7, 0⟩
def F.FAB_CLK_CAP_WARM_CAP : Fld := ⟨0x108064, 0, 7, 35⟩
def F.FAB_GROUP_PWR_ON : Fld := ⟨0x108068, 0, 16, 0⟩
def F.FAB_LAME_MASK_LAME (a : Nat) : Fld := ⟨0x108070 + 0x4 * a, 0, 32, 0⟩
def F.FAB_LATE_STRIDES_COUNT : Fld := ⟨0x108080, 0, 32, 0⟩
def F.FAB_IRQ_SAT : Fld := ⟨0x108084, 2, 1, 0⟩
def F.FAB_IRQ_LAME : Fld := ⟨0x108084, 1, 1, 0⟩
def F.FAB_IRQ_LATE : Fld := ⟨0x108084, 0, 1, 0⟩
def F.FAB_IRQ_EN_EN : Fld := ⟨0x108088, 0, 3, 0⟩

def row_FAB_IMAGE_ID : RegRow :=
  ⟨.steward, none, .always, false, [⟨F.FAB_IMAGE_ID_IMAGE_ID, .ro, .soft, .any, false, none⟩]⟩
def row_FAB_IMAGE_VER : RegRow :=
  ⟨.steward, none, .always, false, [⟨F.FAB_IMAGE_VER_IMAGE_VERSION, .ro, .soft, .any, false, none⟩]⟩
def row_FAB_IMAGE_DIGEST_HI : RegRow :=
  ⟨.steward, none, .always, false, [⟨F.FAB_IMAGE_DIGEST_HI_DIGEST_0_3, .ro, .soft, .any, false, none⟩]⟩
def row_FAB_IMAGE_DIGEST_LO : RegRow :=
  ⟨.steward, none, .always, false, [⟨F.FAB_IMAGE_DIGEST_LO_DIGEST_4_7, .ro, .soft, .any, false, none⟩]⟩
def row_FAB_IMAGE_INFO : RegRow :=
  ⟨.steward, none, .always, false, [⟨F.FAB_IMAGE_INFO_REGIONS, .ro, .soft, .any, false, none⟩,
   ⟨F.FAB_IMAGE_INFO_ENCRYPTED, .ro, .soft, .any, false, none⟩,
   ⟨F.FAB_IMAGE_INFO_SLOT, .ro, .soft, .any, false, none⟩,
   ⟨F.FAB_IMAGE_INFO_SOURCE, .ro, .soft, .any, false, none⟩]⟩
def row_FAB_SWAP_CTRL : RegRow :=
  ⟨.steward, (some 1), .always, false, [⟨F.FAB_SWAP_CTRL_AT_STRIDE, .rw, .soft, .any, false, none⟩,
   ⟨F.FAB_SWAP_CTRL_AT_STRIDE_EN, .rw, .soft, .any, false, none⟩,
   ⟨F.FAB_SWAP_CTRL_GO, .wo, .soft, .any, false, none⟩]⟩
def row_FAB_SWAP_STATUS : RegRow :=
  ⟨.steward, none, .always, false, [⟨F.FAB_SWAP_STATUS_SWAPPED_MASK, .ro, .soft, .any, false, none⟩,
   ⟨F.FAB_SWAP_STATUS_RESULT, .ro, .soft, .any, false, none⟩,
   ⟨F.FAB_SWAP_STATUS_STATE, .ro, .soft, .any, false, none⟩]⟩
def row_FAB_STALL_INFO (a : Nat) : RegRow :=
  ⟨(.stall a), none, (.stall a), false, [⟨F.FAB_STALL_INFO_LAYER a, .ro, .soft, .any, false, none⟩,
   ⟨F.FAB_STALL_INFO_SLICE_COUNT a, .ro, .soft, .any, false, none⟩,
   ⟨F.FAB_STALL_INFO_SLICE a, .ro, .soft, .any, false, none⟩,
   ⟨F.FAB_STALL_INFO_INSTANCE a, .ro, .soft, .any, false, none⟩,
   ⟨F.FAB_STALL_INFO_REGION a, .ro, .soft, .any, false, none⟩,
   ⟨F.FAB_STALL_INFO_FALLBACK a, .ro, .soft, .any, false, none⟩,
   ⟨F.FAB_STALL_INFO_TEMPLATE a, .ro, .soft, .any, false, none⟩]⟩
def row_FAB_STALL_STATUS (a : Nat) : RegRow :=
  ⟨(.stall a), (some 1), (.stall a), false, [⟨F.FAB_STALL_STATUS_SAT a, .w1c, .soft, .any, false, none⟩,
   ⟨F.FAB_STALL_STATUS_FALLBACK_ACTIVE a, .ro, .soft, .any, false, none⟩,
   ⟨F.FAB_STALL_STATUS_LATE_LAST a, .ro, .soft, .any, false, none⟩,
   ⟨F.FAB_STALL_STATUS_STATE a, .ro, .soft, .any, false, none⟩]⟩
def row_FAB_STALL_CLK (a : Nat) : RegRow :=
  ⟨(.stall a), none, (.stall a), false, [⟨F.FAB_STALL_CLK_MEASURED a, .ro, .soft, .any, false, none⟩,
   ⟨F.FAB_STALL_CLK_CAP a, .ro, .soft, .any, false, none⟩,
   ⟨F.FAB_STALL_CLK_CLOCK_MIN a, .ro, .soft, .any, false, none⟩,
   ⟨F.FAB_STALL_CLK_SETPOINT a, .ro, .soft, .any, false, none⟩]⟩
def row_FAB_STALL_LATE (a : Nat) : RegRow :=
  ⟨(.stall a), none, (.stall a), false, [⟨F.FAB_STALL_LATE_TOTAL a, .ro, .soft, .any, false, none⟩]⟩
def row_FAB_STALL_WINDOW (a : Nat) : RegRow :=
  ⟨(.stall a), none, (.stall a), false, [⟨F.FAB_STALL_WINDOW_MIN_SLACK a, .ro, .soft, .any, false, none⟩,
   ⟨F.FAB_STALL_WINDOW_LATE_1S a, .ro, .soft, .any, false, none⟩]⟩
def row_FAB_STALL_CTRL (a : Nat) : RegRow :=
  ⟨(.stall a), (some 1), (.stall a), false, [⟨F.FAB_STALL_CTRL_FORCE_FALLBACK a, .rw, .soft, .any, false, none⟩]⟩
def row_FAB_LAYERS : RegRow :=
  ⟨.steward, none, .always, false, [⟨F.FAB_LAYERS_COUNT, .ro, .soft, .any, false, none⟩]⟩
def row_FAB_LAYER_END (a : Nat) : RegRow :=
  ⟨.steward, (some 1), .always, false, [⟨F.FAB_LAYER_END_END a, .rws, .soft, .any, false, none⟩]⟩
def row_FAB_CLK_CAP : RegRow :=
  ⟨.steward, (some 1), .always, false, [⟨F.FAB_CLK_CAP_ACTIVE_CAP, .ro, .soft, .any, false, none⟩,
   ⟨F.FAB_CLK_CAP_WARM_CAP, .rw, .soft, (.range 15 50), false, none⟩]⟩
def row_FAB_GROUP_PWR : RegRow :=
  ⟨.steward, none, .always, false, [⟨F.FAB_GROUP_PWR_ON, .ro, .soft, .any, false, none⟩]⟩
def row_FAB_LAME_MASK (a : Nat) : RegRow :=
  ⟨.steward, none, .always, false, [⟨F.FAB_LAME_MASK_LAME a, .ro, .soft, .any, false, none⟩]⟩
def row_FAB_LATE_STRIDES : RegRow :=
  ⟨.steward, none, .always, false, [⟨F.FAB_LATE_STRIDES_COUNT, .ro, .soft, .any, false, none⟩]⟩
def row_FAB_IRQ : RegRow :=
  ⟨.steward, (some 1), .always, false, [⟨F.FAB_IRQ_SAT, .w1c, .soft, .any, false, none⟩,
   ⟨F.FAB_IRQ_LAME, .w1c, .soft, .any, false, none⟩,
   ⟨F.FAB_IRQ_LATE, .w1c, .soft, .any, false, none⟩]⟩
def row_FAB_IRQ_EN : RegRow :=
  ⟨.steward, (some 1), .always, false, [⟨F.FAB_IRQ_EN_EN, .rw, .soft, .any, false, none⟩]⟩

/-- The address patterns of block FAB. -/
def rows_FAB : List RowPat :=
  [⟨0x108000, 1, 0x4, 1, 0x4, 1, 0x4, fun _ _ _ => row_FAB_IMAGE_ID⟩,
   ⟨0x108004, 1, 0x4, 1, 0x4, 1, 0x4, fun _ _ _ => row_FAB_IMAGE_VER⟩,
   ⟨0x108008, 1, 0x4, 1, 0x4, 1, 0x4, fun _ _ _ => row_FAB_IMAGE_DIGEST_HI⟩,
   ⟨0x10800c, 1, 0x4, 1, 0x4, 1, 0x4, fun _ _ _ => row_FAB_IMAGE_DIGEST_LO⟩,
   ⟨0x108010, 1, 0x4, 1, 0x4, 1, 0x4, fun _ _ _ => row_FAB_IMAGE_INFO⟩,
   ⟨0x108020, 1, 0x4, 1, 0x4, 1, 0x4, fun _ _ _ => row_FAB_SWAP_CTRL⟩,
   ⟨0x108024, 1, 0x4, 1, 0x4, 1, 0x4, fun _ _ _ => row_FAB_SWAP_STATUS⟩,
   ⟨0x100000, 128, 0x100, 1, 0x4, 1, 0x4, fun a _ _ => row_FAB_STALL_INFO a⟩,
   ⟨0x100004, 128, 0x100, 1, 0x4, 1, 0x4, fun a _ _ => row_FAB_STALL_STATUS a⟩,
   ⟨0x100008, 128, 0x100, 1, 0x4, 1, 0x4, fun a _ _ => row_FAB_STALL_CLK a⟩,
   ⟨0x10000c, 128, 0x100, 1, 0x4, 1, 0x4, fun a _ _ => row_FAB_STALL_LATE a⟩,
   ⟨0x100010, 128, 0x100, 1, 0x4, 1, 0x4, fun a _ _ => row_FAB_STALL_WINDOW a⟩,
   ⟨0x100020, 128, 0x100, 1, 0x4, 1, 0x4, fun a _ _ => row_FAB_STALL_CTRL a⟩,
   ⟨0x108040, 1, 0x4, 1, 0x4, 1, 0x4, fun _ _ _ => row_FAB_LAYERS⟩,
   ⟨0x108044, 8, 0x4, 1, 0x4, 1, 0x4, fun a _ _ => row_FAB_LAYER_END a⟩,
   ⟨0x108064, 1, 0x4, 1, 0x4, 1, 0x4, fun _ _ _ => row_FAB_CLK_CAP⟩,
   ⟨0x108068, 1, 0x4, 1, 0x4, 1, 0x4, fun _ _ _ => row_FAB_GROUP_PWR⟩,
   ⟨0x108070, 4, 0x4, 1, 0x4, 1, 0x4, fun a _ _ => row_FAB_LAME_MASK a⟩,
   ⟨0x108080, 1, 0x4, 1, 0x4, 1, 0x4, fun _ _ _ => row_FAB_LATE_STRIDES⟩,
   ⟨0x108084, 1, 0x4, 1, 0x4, 1, 0x4, fun _ _ _ => row_FAB_IRQ⟩,
   ⟨0x108088, 1, 0x4, 1, 0x4, 1, 0x4, fun _ _ _ => row_FAB_IRQ_EN⟩]

/-! ### TG (chapter 07) -/

def F.TG_GROUP_TALK_VALID (a : Nat) : Fld := ⟨0x110000 + 0x4 * a, 17, 1, 0⟩
def F.TG_GROUP_LISTEN_VALID (a : Nat) : Fld := ⟨0x110000 + 0x4 * a, 16, 1, 0⟩
def F.TG_GROUP_TALK_OUT (a : Nat) : Fld := ⟨0x110000 + 0x4 * a, 8, 8, 0⟩
def F.TG_GROUP_LISTEN_IN (a : Nat) : Fld := ⟨0x110000 + 0x4 * a, 0, 8, 0⟩
def F.TG_KEY_SLOT_PRESENT (a : Nat) : Fld := ⟨0x110100 + 0x4 * a, 31, 1, 0⟩
def F.TG_KEY_SLOT_PRIORITY (a : Nat) : Fld := ⟨0x110100 + 0x4 * a, 24, 2, 0⟩
def F.TG_KEY_SLOT_MODE (a : Nat) : Fld := ⟨0x110100 + 0x4 * a, 20, 2, 0⟩
def F.TG_KEY_SLOT_SOURCE (a : Nat) : Fld := ⟨0x110100 + 0x4 * a, 16, 3, 0⟩
def F.TG_KEY_SLOT_SOURCE_INDEX (a : Nat) : Fld := ⟨0x110100 + 0x4 * a, 8, 8, 0⟩
def F.TG_KEY_SLOT_LISTEN (a : Nat) : Fld := ⟨0x110100 + 0x4 * a, 7, 1, 0⟩
def F.TG_KEY_SLOT_TALK (a : Nat) : Fld := ⟨0x110100 + 0x4 * a, 6, 1, 0⟩
def F.TG_KEY_SLOT_GROUP (a : Nat) : Fld := ⟨0x110100 + 0x4 * a, 0, 6, 0⟩
def F.TG_KEY_HOST_REQ : Fld := ⟨0x110180, 0, 32, 0⟩
def F.TG_KEY_TOGGLE_TOGGLE : Fld := ⟨0x110184, 0, 32, 0⟩
def F.TG_KEY_CLOSE_CLOSE : Fld := ⟨0x110188, 0, 32, 0⟩
def F.TG_KEY_LISTEN_OFF_OFF : Fld := ⟨0x11018c, 0, 32, 0⟩
def F.TG_KEY_STATE_TALK : Fld := ⟨0x110190, 0, 32, 0⟩
def F.TG_KEY_LISTEN_STATE_LISTEN : Fld := ⟨0x110194, 0, 32, 0⟩
def F.TG_KEY_LATCH_LATCH : Fld := ⟨0x110198, 0, 32, 0⟩
def F.TG_KEY_TIMING_TAP_MS : Fld := ⟨0x11019c, 0, 10, 300⟩
def F.TG_XP_WRITE_INPUT : Fld := ⟨0x1101a0, 16, 8, 0⟩
def F.TG_XP_WRITE_OUTPUT : Fld := ⟨0x1101a0, 8, 8, 0⟩
def F.TG_XP_WRITE_GAIN : Fld := ⟨0x1101a0, 0, 8, 0⟩
def F.TG_XP_SEL_INPUT : Fld := ⟨0x1101a4, 8, 8, 0⟩
def F.TG_XP_SEL_OUTPUT : Fld := ⟨0x1101a4, 0, 8, 0⟩
def F.TG_XP_READ_EFFECTIVE : Fld := ⟨0x1101a8, 16, 8, 0⟩
def F.TG_XP_READ_STORED : Fld := ⟨0x1101a8, 8, 8, 0⟩
def F.TG_XP_READ_DUCKED : Fld := ⟨0x1101a8, 1, 1, 0⟩
def F.TG_XP_READ_GATE_OPEN : Fld := ⟨0x1101a8, 0, 1, 0⟩
def F.TG_PROG_MASK_PROG (a : Nat) : Fld := ⟨0x1101c0 + 0x4 * a, 0, 32, 0⟩
def F.TG_PRIO_HANG_MS : Fld := ⟨0x1101e0, 16, 16, 500⟩
def F.TG_PRIO_ALLCALL_DUCK : Fld := ⟨0x1101e0, 8, 8, 24⟩
def F.TG_PRIO_INTERRUPT_DIM : Fld := ⟨0x1101e0, 0, 8, 40⟩
def F.TG_FOGHORN_ACTIVE : Fld := ⟨0x1101e4, 31, 1, 0⟩
def F.TG_FOGHORN_ACKED : Fld := ⟨0x1101e4, 30, 1, 0⟩
def F.TG_FOGHORN_ACK : Fld := ⟨0x1101e4, 24, 1, 0⟩
def F.TG_FOGHORN_DUCK : Fld := ⟨0x1101e4, 8, 8, 60⟩
def F.TG_FOGHORN_FLOOR : Fld := ⟨0x1101e4, 0, 8, 192⟩
def F.TG_SIDETONE_MODE : Fld := ⟨0x1101e8, 24, 2, 1⟩
def F.TG_SIDETONE_GAIN : Fld := ⟨0x1101e8, 8, 8, 168⟩
def F.TG_SIDETONE_IN : Fld := ⟨0x1101e8, 0, 8, 0⟩
def F.TG_GROUP_CLASS_CLASS (g : Nat) : Fld := ⟨0x110200 + 4 * (g / 16), 2 * (g % 16), 2, 0⟩
def F.TG_STATUS_NO_ROUTE : Fld := ⟨0x110210, 2, 1, 0⟩
def F.TG_STATUS_ALLCALL : Fld := ⟨0x110210, 1, 1, 0⟩
def F.TG_STATUS_XP_ERR : Fld := ⟨0x110210, 0, 1, 0⟩

def row_TG_GROUP (a : Nat) : RegRow :=
  ⟨.steward, (some 7), .always, false, [⟨F.TG_GROUP_TALK_VALID a, (if a = 63 then .ro else .rws), .soft, .any, true, none⟩,
   ⟨F.TG_GROUP_LISTEN_VALID a, (if a = 63 then .ro else .rws), .soft, .any, true, none⟩,
   ⟨F.TG_GROUP_TALK_OUT a, (if a = 63 then .ro else .rws), .soft, .any, true, none⟩,
   ⟨F.TG_GROUP_LISTEN_IN a, (if a = 63 then .ro else .rws), .soft, .any, true, none⟩]⟩
def row_TG_KEY_SLOT (a : Nat) : RegRow :=
  ⟨.steward, none, .always, false, [⟨F.TG_KEY_SLOT_PRESENT a, .ro, .soft, .any, false, none⟩,
   ⟨F.TG_KEY_SLOT_PRIORITY a, .ro, .soft, .any, false, none⟩,
   ⟨F.TG_KEY_SLOT_MODE a, .ro, .soft, .any, false, none⟩,
   ⟨F.TG_KEY_SLOT_SOURCE a, .ro, .soft, .any, false, none⟩,
   ⟨F.TG_KEY_SLOT_SOURCE_INDEX a, .ro, .soft, .any, false, none⟩,
   ⟨F.TG_KEY_SLOT_LISTEN a, .ro, .soft, .any, false, none⟩,
   ⟨F.TG_KEY_SLOT_TALK a, .ro, .soft, .any, false, none⟩,
   ⟨F.TG_KEY_SLOT_GROUP a, .ro, .soft, .any, false, none⟩]⟩
def row_TG_KEY_HOST : RegRow :=
  ⟨.steward, none, .always, false, [⟨F.TG_KEY_HOST_REQ, .rw, .soft, .any, true, none⟩]⟩
def row_TG_KEY_TOGGLE : RegRow :=
  ⟨.steward, (some 8), .always, false, [⟨F.TG_KEY_TOGGLE_TOGGLE, .wo, .soft, .any, true, none⟩]⟩
def row_TG_KEY_CLOSE : RegRow :=
  ⟨.steward, (some 8), .always, false, [⟨F.TG_KEY_CLOSE_CLOSE, .wo, .soft, .any, true, (some 4294967295)⟩]⟩
def row_TG_KEY_LISTEN_OFF : RegRow :=
  ⟨.steward, (some 8), .always, false, [⟨F.TG_KEY_LISTEN_OFF_OFF, .rw, .soft, .any, true, (some 4294967295)⟩]⟩
def row_TG_KEY_STATE : RegRow :=
  ⟨.steward, none, .always, false, [⟨F.TG_KEY_STATE_TALK, .ro, .soft, .any, false, none⟩]⟩
def row_TG_KEY_LISTEN_STATE : RegRow :=
  ⟨.steward, none, .always, false, [⟨F.TG_KEY_LISTEN_STATE_LISTEN, .ro, .soft, .any, false, none⟩]⟩
def row_TG_KEY_LATCH : RegRow :=
  ⟨.steward, none, .always, false, [⟨F.TG_KEY_LATCH_LATCH, .ro, .soft, .any, false, none⟩]⟩
def row_TG_KEY_TIMING : RegRow :=
  ⟨.steward, (some 7), .always, false, [⟨F.TG_KEY_TIMING_TAP_MS, .rw, .soft, (.range 100 1000), true, none⟩]⟩
def row_TG_XP_WRITE : RegRow :=
  ⟨.steward, (some 9), .always, false, [⟨F.TG_XP_WRITE_INPUT, .wo, .soft, .any, true, none⟩,
   ⟨F.TG_XP_WRITE_OUTPUT, .wo, .soft, .any, true, none⟩,
   ⟨F.TG_XP_WRITE_GAIN, .wo, .soft, .any, true, none⟩]⟩
def row_TG_XP_SEL : RegRow :=
  ⟨.steward, (some 9), .always, false, [⟨F.TG_XP_SEL_INPUT, .rw, .soft, .any, true, none⟩,
   ⟨F.TG_XP_SEL_OUTPUT, .rw, .soft, .any, true, none⟩]⟩
def row_TG_XP_READ : RegRow :=
  ⟨.steward, none, .xpRead, false, [⟨F.TG_XP_READ_EFFECTIVE, .ro, .soft, .any, false, none⟩,
   ⟨F.TG_XP_READ_STORED, .ro, .soft, .any, false, none⟩,
   ⟨F.TG_XP_READ_DUCKED, .ro, .soft, .any, false, none⟩,
   ⟨F.TG_XP_READ_GATE_OPEN, .ro, .soft, .any, false, none⟩]⟩
def row_TG_PROG_MASK (a : Nat) : RegRow :=
  ⟨.steward, (some 9), .always, false, [⟨F.TG_PROG_MASK_PROG a, .rw, .soft, .any, true, none⟩]⟩
def row_TG_PRIO : RegRow :=
  ⟨.steward, (some 7), .always, false, [⟨F.TG_PRIO_HANG_MS, .rw, .soft, (.range 0 5000), true, none⟩,
   ⟨F.TG_PRIO_ALLCALL_DUCK, .rw, .soft, (.range 0 120), true, none⟩,
   ⟨F.TG_PRIO_INTERRUPT_DIM, .rw, .soft, (.range 0 120), true, none⟩]⟩
def row_TG_FOGHORN : RegRow :=
  ⟨.steward, (some 7), .always, false, [⟨F.TG_FOGHORN_ACTIVE, .ro, .soft, .any, true, none⟩,
   ⟨F.TG_FOGHORN_ACKED, .ro, .soft, .any, true, none⟩,
   ⟨F.TG_FOGHORN_ACK, .wo, .soft, .any, true, none⟩,
   ⟨F.TG_FOGHORN_DUCK, .rws, .soft, (.range 40 120), true, none⟩,
   ⟨F.TG_FOGHORN_FLOOR, .rws, .soft, (.range 144 216), true, none⟩]⟩
def row_TG_SIDETONE : RegRow :=
  ⟨.steward, (some 9), .always, false, [⟨F.TG_SIDETONE_MODE, .rw, .soft, (.range 0 2), true, none⟩,
   ⟨F.TG_SIDETONE_GAIN, .rw, .soft, (.range 0 216), true, none⟩,
   ⟨F.TG_SIDETONE_IN, .rw, .soft, .any, true, none⟩]⟩
def row_TG_GROUP_CLASS (a : Nat) : RegRow :=
  ⟨.steward, none, .always, false, [⟨F.TG_GROUP_CLASS_CLASS (16 * a + 0), .ro, .soft, .any, false, none⟩, ⟨F.TG_GROUP_CLASS_CLASS (16 * a + 1), .ro, .soft, .any, false, none⟩, ⟨F.TG_GROUP_CLASS_CLASS (16 * a + 2), .ro, .soft, .any, false, none⟩, ⟨F.TG_GROUP_CLASS_CLASS (16 * a + 3), .ro, .soft, .any, false, none⟩, ⟨F.TG_GROUP_CLASS_CLASS (16 * a + 4), .ro, .soft, .any, false, none⟩, ⟨F.TG_GROUP_CLASS_CLASS (16 * a + 5), .ro, .soft, .any, false, none⟩, ⟨F.TG_GROUP_CLASS_CLASS (16 * a + 6), .ro, .soft, .any, false, none⟩, ⟨F.TG_GROUP_CLASS_CLASS (16 * a + 7), .ro, .soft, .any, false, none⟩, ⟨F.TG_GROUP_CLASS_CLASS (16 * a + 8), .ro, .soft, .any, false, none⟩, ⟨F.TG_GROUP_CLASS_CLASS (16 * a + 9), .ro, .soft, .any, false, none⟩, ⟨F.TG_GROUP_CLASS_CLASS (16 * a + 10), .ro, .soft, .any, false, none⟩, ⟨F.TG_GROUP_CLASS_CLASS (16 * a + 11), .ro, .soft, .any, false, none⟩, ⟨F.TG_GROUP_CLASS_CLASS (16 * a + 12), .ro, .soft, .any, false, none⟩, ⟨F.TG_GROUP_CLASS_CLASS (16 * a + 13), .ro, .soft, .any, false, none⟩, ⟨F.TG_GROUP_CLASS_CLASS (16 * a + 14), .ro, .soft, .any, false, none⟩, ⟨F.TG_GROUP_CLASS_CLASS (16 * a + 15), .ro, .soft, .any, false, none⟩]⟩
def row_TG_STATUS : RegRow :=
  ⟨.steward, (some 7), .always, false, [⟨F.TG_STATUS_NO_ROUTE, .ro, .soft, .any, true, none⟩,
   ⟨F.TG_STATUS_ALLCALL, .ro, .soft, .any, true, none⟩,
   ⟨F.TG_STATUS_XP_ERR, .w1c, .soft, .any, true, none⟩]⟩

/-- The address patterns of block TG. -/
def rows_TG : List RowPat :=
  [⟨0x110000, 64, 0x4, 1, 0x4, 1, 0x4, fun a _ _ => row_TG_GROUP a⟩,
   ⟨0x110100, 32, 0x4, 1, 0x4, 1, 0x4, fun a _ _ => row_TG_KEY_SLOT a⟩,
   ⟨0x110180, 1, 0x4, 1, 0x4, 1, 0x4, fun _ _ _ => row_TG_KEY_HOST⟩,
   ⟨0x110184, 1, 0x4, 1, 0x4, 1, 0x4, fun _ _ _ => row_TG_KEY_TOGGLE⟩,
   ⟨0x110188, 1, 0x4, 1, 0x4, 1, 0x4, fun _ _ _ => row_TG_KEY_CLOSE⟩,
   ⟨0x11018c, 1, 0x4, 1, 0x4, 1, 0x4, fun _ _ _ => row_TG_KEY_LISTEN_OFF⟩,
   ⟨0x110190, 1, 0x4, 1, 0x4, 1, 0x4, fun _ _ _ => row_TG_KEY_STATE⟩,
   ⟨0x110194, 1, 0x4, 1, 0x4, 1, 0x4, fun _ _ _ => row_TG_KEY_LISTEN_STATE⟩,
   ⟨0x110198, 1, 0x4, 1, 0x4, 1, 0x4, fun _ _ _ => row_TG_KEY_LATCH⟩,
   ⟨0x11019c, 1, 0x4, 1, 0x4, 1, 0x4, fun _ _ _ => row_TG_KEY_TIMING⟩,
   ⟨0x1101a0, 1, 0x4, 1, 0x4, 1, 0x4, fun _ _ _ => row_TG_XP_WRITE⟩,
   ⟨0x1101a4, 1, 0x4, 1, 0x4, 1, 0x4, fun _ _ _ => row_TG_XP_SEL⟩,
   ⟨0x1101a8, 1, 0x4, 1, 0x4, 1, 0x4, fun _ _ _ => row_TG_XP_READ⟩,
   ⟨0x1101c0, 8, 0x4, 1, 0x4, 1, 0x4, fun a _ _ => row_TG_PROG_MASK a⟩,
   ⟨0x1101e0, 1, 0x4, 1, 0x4, 1, 0x4, fun _ _ _ => row_TG_PRIO⟩,
   ⟨0x1101e4, 1, 0x4, 1, 0x4, 1, 0x4, fun _ _ _ => row_TG_FOGHORN⟩,
   ⟨0x1101e8, 1, 0x4, 1, 0x4, 1, 0x4, fun _ _ _ => row_TG_SIDETONE⟩,
   ⟨0x110200, 4, 0x4, 1, 0x4, 1, 0x4, fun a _ _ => row_TG_GROUP_CLASS a⟩,
   ⟨0x110210, 1, 0x4, 1, 0x4, 1, 0x4, fun _ _ _ => row_TG_STATUS⟩]

end Sys2Proof.Machine
end

