-- ==== Sys2Proof/Machine/RegsHost.lean ====
section
/-! DEFINITION. The registers of the blocks REINS, HOST, COPY, GPIO, SEC: one `Fld` for each field the spec's register
tables give, one row function for each register (or word of a multi-word register), and the blocks' address
patterns (R819, R822). Every field's reset value is the one its table states, 0 where the table states none
(log entry 2). -/

namespace Sys2Proof.Machine

/-! ### REINS (chapter 13) -/

def F.REINS_TAKE_GROUPS : Fld := ⟨0x50000, 0, 16, 0⟩
def F.REINS_GIVE_GROUPS : Fld := ⟨0x50004, 0, 16, 0⟩
def F.REINS_MINE_GROUPS : Fld := ⟨0x50008, 0, 16, 0⟩
def F.REINS_HOLDER_HOLDER (g : Nat) : Fld := ⟨0x50010 + 4 * (g / 8), 4 * (g % 8), 4, 15⟩
def F.REINS_CONFLICT_CNT_COUNT : Fld := ⟨0x50020, 0, 32, 0⟩

def row_REINS_TAKE : RegRow :=
  ⟨.steward, none, .always, false, [⟨F.REINS_TAKE_GROUPS, .wo, .soft, .any, false, none⟩]⟩
def row_REINS_GIVE : RegRow :=
  ⟨.steward, none, .always, false, [⟨F.REINS_GIVE_GROUPS, .wo, .soft, .any, false, none⟩]⟩
def row_REINS_MINE : RegRow :=
  ⟨.steward, none, .always, false, [⟨F.REINS_MINE_GROUPS, .ro, .soft, .any, false, none⟩]⟩
def row_REINS_HOLDER (a : Nat) : RegRow :=
  ⟨.steward, none, .always, false, [⟨F.REINS_HOLDER_HOLDER (8 * a + 0), .ro, .soft, .any, false, none⟩, ⟨F.REINS_HOLDER_HOLDER (8 * a + 1), .ro, .soft, .any, false, none⟩, ⟨F.REINS_HOLDER_HOLDER (8 * a + 2), .ro, .soft, .any, false, none⟩, ⟨F.REINS_HOLDER_HOLDER (8 * a + 3), .ro, .soft, .any, false, none⟩, ⟨F.REINS_HOLDER_HOLDER (8 * a + 4), .ro, .soft, .any, false, none⟩, ⟨F.REINS_HOLDER_HOLDER (8 * a + 5), .ro, .soft, .any, false, none⟩, ⟨F.REINS_HOLDER_HOLDER (8 * a + 6), .ro, .soft, .any, false, none⟩, ⟨F.REINS_HOLDER_HOLDER (8 * a + 7), .ro, .soft, .any, false, none⟩]⟩
def row_REINS_CONFLICT_CNT : RegRow :=
  ⟨.steward, none, .always, false, [⟨F.REINS_CONFLICT_CNT_COUNT, .ro, .soft, .any, false, none⟩]⟩

/-- The address patterns of block REINS. -/
def rows_REINS : List RowPat :=
  [⟨0x50000, 1, 0x4, 1, 0x4, 1, 0x4, fun _ _ _ => row_REINS_TAKE⟩,
   ⟨0x50004, 1, 0x4, 1, 0x4, 1, 0x4, fun _ _ _ => row_REINS_GIVE⟩,
   ⟨0x50008, 1, 0x4, 1, 0x4, 1, 0x4, fun _ _ _ => row_REINS_MINE⟩,
   ⟨0x50010, 2, 0x4, 1, 0x4, 1, 0x4, fun a _ _ => row_REINS_HOLDER a⟩,
   ⟨0x50020, 1, 0x4, 1, 0x4, 1, 0x4, fun _ _ _ => row_REINS_CONFLICT_CNT⟩]

/-! ### HOST (chapter 13) -/

def F.HOST_STATUS_MASTER : Fld := ⟨0x60000, 12, 4, 0⟩
def F.HOST_STATUS_QUAD : Fld := ⟨0x60000, 11, 1, 0⟩
def F.HOST_STATUS_I2C : Fld := ⟨0x60000, 10, 1, 0⟩
def F.HOST_STATUS_STATUS : Fld := ⟨0x60000, 0, 8, 0⟩
def F.HOST_IRQ_CAUSE_CAUSE : Fld := ⟨0x60004, 0, 16, 0⟩
def F.HOST_IRQ_MASK_MASK : Fld := ⟨0x60008, 0, 16, 0⟩
def F.HOST_IRQ_NET_EXPIRED : Fld := ⟨0x60010, 6, 1, 0⟩
def F.HOST_IRQ_REINS_TAKEN : Fld := ⟨0x60010, 5, 1, 0⟩
def F.HOST_IRQ_CONFLICT : Fld := ⟨0x60010, 4, 1, 0⟩
def F.HOST_IRQ_EVENT : Fld := ⟨0x60010, 3, 1, 0⟩
def F.HOST_IRQ_LOAD_ABORT : Fld := ⟨0x60010, 2, 1, 0⟩
def F.HOST_IRQ_OVERRUN : Fld := ⟨0x60010, 1, 1, 0⟩
def F.HOST_IRQ_TORN : Fld := ⟨0x60010, 0, 1, 0⟩
def F.HOST_IRQ_EN_EN : Fld := ⟨0x60014, 0, 7, 0⟩
def F.HOST_RESULT_EN_EN : Fld := ⟨0x60018, 0, 4, 0⟩
def F.HOST_PAGE_SEL_HOLD_MS : Fld := ⟨0x60020, 24, 8, 20⟩
def F.HOST_PAGE_SEL_SEQ : Fld := ⟨0x60020, 8, 16, 0⟩
def F.HOST_PAGE_SEL_MODE : Fld := ⟨0x60020, 4, 2, 0⟩
def F.HOST_PAGE_SEL_SOURCE : Fld := ⟨0x60020, 0, 4, 3⟩
def F.HOST_PAGE_STATUS_TORN_CNT : Fld := ⟨0x60024, 24, 8, 0⟩
def F.HOST_PAGE_STATUS_OPEN_SEQ : Fld := ⟨0x60024, 8, 16, 0⟩
def F.HOST_PAGE_STATUS_POSITION : Fld := ⟨0x60024, 1, 7, 0⟩
def F.HOST_PAGE_STATUS_HELD : Fld := ⟨0x60024, 0, 1, 0⟩
def F.HOST_OVERRUN_CNT_SRC_4 : Fld := ⟨0x60028, 24, 8, 0⟩
def F.HOST_OVERRUN_CNT_SRC_3 : Fld := ⟨0x60028, 16, 8, 0⟩
def F.HOST_OVERRUN_CNT_SRC_2 : Fld := ⟨0x60028, 8, 8, 0⟩
def F.HOST_OVERRUN_CNT_SRC_1 : Fld := ⟨0x60028, 0, 8, 0⟩
def F.HOST_EVT_COUNT_COUNT : Fld := ⟨0x6002c, 0, 32, 0⟩
def F.HOST_CAP_CTRL_EN : Fld := ⟨0x60030, 31, 1, 0⟩
def F.HOST_CAP_CTRL_CHANNEL : Fld := ⟨0x60030, 24, 3, 0⟩
def F.HOST_CAP_CTRL_PORT : Fld := ⟨0x60030, 16, 8, 0⟩
def F.HOST_CAP_CTRL_SRC : Fld := ⟨0x60030, 0, 8, 0⟩
def F.HOST_LOAD_CTRL_LENGTH : Fld := ⟨0x60040, 8, 24, 0⟩
def F.HOST_LOAD_CTRL_START : Fld := ⟨0x60040, 4, 1, 0⟩
def F.HOST_LOAD_CTRL_SINK : Fld := ⟨0x60040, 0, 4, 0⟩
def F.HOST_LOAD_STATUS_PAGES : Fld := ⟨0x60044, 16, 16, 0⟩
def F.HOST_LOAD_STATUS_CODE : Fld := ⟨0x60044, 8, 4, 0⟩
def F.HOST_LOAD_STATUS_STATE : Fld := ⟨0x60044, 0, 2, 0⟩
def F.HOST_NET_CFG_EN : Fld := ⟨0x60050, 31, 1, 0⟩
def F.HOST_NET_CFG_HOLD_S : Fld := ⟨0x60050, 16, 8, 5⟩
def F.HOST_NET_CFG_UDP_PORT : Fld := ⟨0x60050, 0, 16, 7716⟩
def F.HOST_NET_CNT_DISCARDED : Fld := ⟨0x60054, 16, 16, 0⟩
def F.HOST_NET_CNT_ACCEPTED : Fld := ⟨0x60054, 0, 16, 0⟩

def row_HOST_STATUS : RegRow :=
  ⟨.hostIf, none, .always, false, [⟨F.HOST_STATUS_MASTER, .ro, .soft, .any, false, none⟩,
   ⟨F.HOST_STATUS_QUAD, .ro, .soft, .any, false, none⟩,
   ⟨F.HOST_STATUS_I2C, .ro, .pin, .any, false, none⟩,
   ⟨F.HOST_STATUS_STATUS, .ro, .soft, .any, false, none⟩]⟩
def row_HOST_IRQ_CAUSE : RegRow :=
  ⟨.hostIf, none, .always, false, [⟨F.HOST_IRQ_CAUSE_CAUSE, .ro, .soft, .any, false, none⟩]⟩
def row_HOST_IRQ_MASK : RegRow :=
  ⟨.hostIf, (some 0), .always, false, [⟨F.HOST_IRQ_MASK_MASK, .rw, .soft, .any, false, none⟩]⟩
def row_HOST_IRQ : RegRow :=
  ⟨.hostIf, (some 0), .always, false, [⟨F.HOST_IRQ_NET_EXPIRED, .w1c, .soft, .any, false, none⟩,
   ⟨F.HOST_IRQ_REINS_TAKEN, .w1c, .soft, .any, false, none⟩,
   ⟨F.HOST_IRQ_CONFLICT, .w1c, .soft, .any, false, none⟩,
   ⟨F.HOST_IRQ_EVENT, .w1c, .soft, .any, false, none⟩,
   ⟨F.HOST_IRQ_LOAD_ABORT, .w1c, .soft, .any, false, none⟩,
   ⟨F.HOST_IRQ_OVERRUN, .w1c, .soft, .any, false, none⟩,
   ⟨F.HOST_IRQ_TORN, .w1c, .soft, .any, false, none⟩]⟩
def row_HOST_IRQ_EN : RegRow :=
  ⟨.hostIf, (some 0), .always, false, [⟨F.HOST_IRQ_EN_EN, .rw, .soft, .any, false, none⟩]⟩
def row_HOST_RESULT_EN : RegRow :=
  ⟨.hostIf, (some 0), .always, false, [⟨F.HOST_RESULT_EN_EN, .rw, .soft, .any, false, none⟩]⟩
def row_HOST_PAGE_SEL : RegRow :=
  ⟨.hostIf, none, .always, false, [⟨F.HOST_PAGE_SEL_HOLD_MS, .rw, .soft, (.range 1 250), false, none⟩,
   ⟨F.HOST_PAGE_SEL_SEQ, .rw, .soft, .any, false, none⟩,
   ⟨F.HOST_PAGE_SEL_MODE, .rw, .soft, (.range 0 2), false, none⟩,
   ⟨F.HOST_PAGE_SEL_SOURCE, .rw, .soft, (.range 1 5), false, none⟩]⟩
def row_HOST_PAGE_STATUS : RegRow :=
  ⟨.hostIf, none, .always, false, [⟨F.HOST_PAGE_STATUS_TORN_CNT, .ro, .soft, .any, false, none⟩,
   ⟨F.HOST_PAGE_STATUS_OPEN_SEQ, .ro, .soft, .any, false, none⟩,
   ⟨F.HOST_PAGE_STATUS_POSITION, .ro, .soft, .any, false, none⟩,
   ⟨F.HOST_PAGE_STATUS_HELD, .ro, .soft, .any, false, none⟩]⟩
def row_HOST_OVERRUN_CNT : RegRow :=
  ⟨.hostIf, none, .always, false, [⟨F.HOST_OVERRUN_CNT_SRC_4, .ro, .soft, .any, false, none⟩,
   ⟨F.HOST_OVERRUN_CNT_SRC_3, .ro, .soft, .any, false, none⟩,
   ⟨F.HOST_OVERRUN_CNT_SRC_2, .ro, .soft, .any, false, none⟩,
   ⟨F.HOST_OVERRUN_CNT_SRC_1, .ro, .soft, .any, false, none⟩]⟩
def row_HOST_EVT_COUNT : RegRow :=
  ⟨.hostIf, none, .always, false, [⟨F.HOST_EVT_COUNT_COUNT, .ro, .pin, .any, false, none⟩]⟩
def row_HOST_CAP_CTRL : RegRow :=
  ⟨.hostIf, (some 0), .always, false, [⟨F.HOST_CAP_CTRL_EN, .rw, .soft, .any, false, none⟩,
   ⟨F.HOST_CAP_CTRL_CHANNEL, .rw, .soft, .any, false, none⟩,
   ⟨F.HOST_CAP_CTRL_PORT, .rw, .soft, .any, false, none⟩,
   ⟨F.HOST_CAP_CTRL_SRC, .rw, .soft, .capSrc, false, none⟩]⟩
def row_HOST_LOAD_CTRL : RegRow :=
  ⟨.hostIf, (some 0), .always, false, [⟨F.HOST_LOAD_CTRL_LENGTH, .rw, .soft, .any, false, none⟩,
   ⟨F.HOST_LOAD_CTRL_START, .wo, .soft, .any, false, none⟩,
   ⟨F.HOST_LOAD_CTRL_SINK, .rw, .soft, (.range 1 4), false, none⟩]⟩
def row_HOST_LOAD_STATUS : RegRow :=
  ⟨.hostIf, none, .always, false, [⟨F.HOST_LOAD_STATUS_PAGES, .ro, .soft, .any, false, none⟩,
   ⟨F.HOST_LOAD_STATUS_CODE, .ro, .soft, .any, false, none⟩,
   ⟨F.HOST_LOAD_STATUS_STATE, .ro, .soft, .any, false, none⟩]⟩
def row_HOST_NET_CFG : RegRow :=
  ⟨.hostIf, (some 0), .always, false, [⟨F.HOST_NET_CFG_EN, .rw, .soft, .any, false, none⟩,
   ⟨F.HOST_NET_CFG_HOLD_S, .rw, .soft, (.range 1 60), false, none⟩,
   ⟨F.HOST_NET_CFG_UDP_PORT, .rw, .soft, .any, false, none⟩]⟩
def row_HOST_NET_CNT : RegRow :=
  ⟨.hostIf, none, .always, false, [⟨F.HOST_NET_CNT_DISCARDED, .ro, .soft, .any, false, none⟩,
   ⟨F.HOST_NET_CNT_ACCEPTED, .ro, .soft, .any, false, none⟩]⟩

/-- The address patterns of block HOST. -/
def rows_HOST : List RowPat :=
  [⟨0x60000, 1, 0x4, 1, 0x4, 1, 0x4, fun _ _ _ => row_HOST_STATUS⟩,
   ⟨0x60004, 1, 0x4, 1, 0x4, 1, 0x4, fun _ _ _ => row_HOST_IRQ_CAUSE⟩,
   ⟨0x60008, 1, 0x4, 1, 0x4, 1, 0x4, fun _ _ _ => row_HOST_IRQ_MASK⟩,
   ⟨0x60010, 1, 0x4, 1, 0x4, 1, 0x4, fun _ _ _ => row_HOST_IRQ⟩,
   ⟨0x60014, 1, 0x4, 1, 0x4, 1, 0x4, fun _ _ _ => row_HOST_IRQ_EN⟩,
   ⟨0x60018, 1, 0x4, 1, 0x4, 1, 0x4, fun _ _ _ => row_HOST_RESULT_EN⟩,
   ⟨0x60020, 1, 0x4, 1, 0x4, 1, 0x4, fun _ _ _ => row_HOST_PAGE_SEL⟩,
   ⟨0x60024, 1, 0x4, 1, 0x4, 1, 0x4, fun _ _ _ => row_HOST_PAGE_STATUS⟩,
   ⟨0x60028, 1, 0x4, 1, 0x4, 1, 0x4, fun _ _ _ => row_HOST_OVERRUN_CNT⟩,
   ⟨0x6002c, 1, 0x4, 1, 0x4, 1, 0x4, fun _ _ _ => row_HOST_EVT_COUNT⟩,
   ⟨0x60030, 1, 0x4, 1, 0x4, 1, 0x4, fun _ _ _ => row_HOST_CAP_CTRL⟩,
   ⟨0x60040, 1, 0x4, 1, 0x4, 1, 0x4, fun _ _ _ => row_HOST_LOAD_CTRL⟩,
   ⟨0x60044, 1, 0x4, 1, 0x4, 1, 0x4, fun _ _ _ => row_HOST_LOAD_STATUS⟩,
   ⟨0x60050, 1, 0x4, 1, 0x4, 1, 0x4, fun _ _ _ => row_HOST_NET_CFG⟩,
   ⟨0x60054, 1, 0x4, 1, 0x4, 1, 0x4, fun _ _ _ => row_HOST_NET_CNT⟩]

/-! ### COPY (chapter 13) -/

def F.COPY_CH_SRC_ADDR (a : Nat) : Fld := ⟨0x70000 + 0x40 * a, 0, 32, 0⟩
def F.COPY_CH_DST_ADDR (a : Nat) : Fld := ⟨0x70004 + 0x40 * a, 0, 32, 0⟩
def F.COPY_CH_SIZE_HEIGHT (a : Nat) : Fld := ⟨0x70008 + 0x40 * a, 16, 16, 0⟩
def F.COPY_CH_SIZE_WIDTH (a : Nat) : Fld := ⟨0x70008 + 0x40 * a, 0, 16, 0⟩
def F.COPY_CH_STRIDE_DST_STRIDE (a : Nat) : Fld := ⟨0x7000c + 0x40 * a, 16, 16, 0⟩
def F.COPY_CH_STRIDE_SRC_STRIDE (a : Nat) : Fld := ⟨0x7000c + 0x40 * a, 0, 16, 0⟩
def F.COPY_CH_CTRL_ABORT (a : Nat) : Fld := ⟨0x70010 + 0x40 * a, 1, 1, 0⟩
def F.COPY_CH_CTRL_GO (a : Nat) : Fld := ⟨0x70010 + 0x40 * a, 0, 1, 0⟩
def F.COPY_CH_STATUS_ROWS (a : Nat) : Fld := ⟨0x70014 + 0x40 * a, 16, 16, 0⟩
def F.COPY_CH_STATUS_MASTER (a : Nat) : Fld := ⟨0x70014 + 0x40 * a, 12, 4, 0⟩
def F.COPY_CH_STATUS_CODE (a : Nat) : Fld := ⟨0x70014 + 0x40 * a, 8, 4, 0⟩
def F.COPY_CH_STATUS_ORDER (a : Nat) : Fld := ⟨0x70014 + 0x40 * a, 7, 1, 0⟩
def F.COPY_CH_STATUS_STATE (a : Nat) : Fld := ⟨0x70014 + 0x40 * a, 0, 2, 0⟩
def F.COPY_IRQ_ERR : Fld := ⟨0x70100, 4, 4, 0⟩
def F.COPY_IRQ_DONE : Fld := ⟨0x70100, 0, 4, 0⟩
def F.COPY_IRQ_EN_EN : Fld := ⟨0x70104, 0, 8, 0⟩

def row_COPY_CH_SRC (a : Nat) : RegRow :=
  ⟨.interconnect, none, .always, false, [⟨F.COPY_CH_SRC_ADDR a, .rw, .soft, .any, false, none⟩]⟩
def row_COPY_CH_DST (a : Nat) : RegRow :=
  ⟨.interconnect, none, .always, false, [⟨F.COPY_CH_DST_ADDR a, .rw, .soft, .any, false, none⟩]⟩
def row_COPY_CH_SIZE (a : Nat) : RegRow :=
  ⟨.interconnect, none, .always, false, [⟨F.COPY_CH_SIZE_HEIGHT a, .rw, .soft, (.range 1 65535), false, none⟩,
   ⟨F.COPY_CH_SIZE_WIDTH a, .rw, .soft, (.range 4 65532), false, none⟩]⟩
def row_COPY_CH_STRIDE (a : Nat) : RegRow :=
  ⟨.interconnect, none, .always, false, [⟨F.COPY_CH_STRIDE_DST_STRIDE a, .rw, .soft, .any, false, none⟩,
   ⟨F.COPY_CH_STRIDE_SRC_STRIDE a, .rw, .soft, .any, false, none⟩]⟩
def row_COPY_CH_CTRL (a : Nat) : RegRow :=
  ⟨.interconnect, none, .always, false, [⟨F.COPY_CH_CTRL_ABORT a, .wo, .soft, .any, false, none⟩,
   ⟨F.COPY_CH_CTRL_GO a, .wo, .soft, .any, false, none⟩]⟩
def row_COPY_CH_STATUS (a : Nat) : RegRow :=
  ⟨.interconnect, none, .always, false, [⟨F.COPY_CH_STATUS_ROWS a, .ro, .soft, .any, false, none⟩,
   ⟨F.COPY_CH_STATUS_MASTER a, .ro, .soft, .any, false, none⟩,
   ⟨F.COPY_CH_STATUS_CODE a, .ro, .soft, .any, false, none⟩,
   ⟨F.COPY_CH_STATUS_ORDER a, .ro, .soft, .any, false, none⟩,
   ⟨F.COPY_CH_STATUS_STATE a, .ro, .soft, .any, false, none⟩]⟩
def row_COPY_IRQ : RegRow :=
  ⟨.interconnect, (some 0), .always, false, [⟨F.COPY_IRQ_ERR, .w1c, .soft, .any, false, none⟩,
   ⟨F.COPY_IRQ_DONE, .w1c, .soft, .any, false, none⟩]⟩
def row_COPY_IRQ_EN : RegRow :=
  ⟨.interconnect, (some 0), .always, false, [⟨F.COPY_IRQ_EN_EN, .rw, .soft, .any, false, none⟩]⟩

/-- The address patterns of block COPY. -/
def rows_COPY : List RowPat :=
  [⟨0x70000, 4, 0x40, 1, 0x4, 1, 0x4, fun a _ _ => row_COPY_CH_SRC a⟩,
   ⟨0x70004, 4, 0x40, 1, 0x4, 1, 0x4, fun a _ _ => row_COPY_CH_DST a⟩,
   ⟨0x70008, 4, 0x40, 1, 0x4, 1, 0x4, fun a _ _ => row_COPY_CH_SIZE a⟩,
   ⟨0x7000c, 4, 0x40, 1, 0x4, 1, 0x4, fun a _ _ => row_COPY_CH_STRIDE a⟩,
   ⟨0x70010, 4, 0x40, 1, 0x4, 1, 0x4, fun a _ _ => row_COPY_CH_CTRL a⟩,
   ⟨0x70014, 4, 0x40, 1, 0x4, 1, 0x4, fun a _ _ => row_COPY_CH_STATUS a⟩,
   ⟨0x70100, 1, 0x4, 1, 0x4, 1, 0x4, fun _ _ _ => row_COPY_IRQ⟩,
   ⟨0x70104, 1, 0x4, 1, 0x4, 1, 0x4, fun _ _ _ => row_COPY_IRQ_EN⟩]

/-! ### GPIO (chapter 13) -/

def F.GPIO_PIN_PWM_CH (a : Nat) : Fld := ⟨0x80000 + 0x4 * a, 8, 3, 0⟩
def F.GPIO_PIN_EDGE (a : Nat) : Fld := ⟨0x80000 + 0x4 * a, 4, 2, 0⟩
def F.GPIO_PIN_FUNC (a : Nat) : Fld := ⟨0x80000 + 0x4 * a, 0, 3, 0⟩
def F.GPIO_IN_LEVEL : Fld := ⟨0x80100, 0, 32, 0⟩
def F.GPIO_OUT_OUT : Fld := ⟨0x80104, 0, 32, 0⟩
def F.GPIO_OUT_SET_SET : Fld := ⟨0x80108, 0, 32, 0⟩
def F.GPIO_OUT_CLR_CLR : Fld := ⟨0x8010c, 0, 32, 0⟩
def F.GPIO_IRQ_EDGE : Fld := ⟨0x80110, 0, 32, 0⟩
def F.GPIO_IRQ_EN_EN : Fld := ⟨0x80114, 0, 32, 0⟩
def F.GPIO_DEBOUNCE_MS : Fld := ⟨0x80118, 0, 8, 0⟩
def F.GPIO_PANEL_PANEL : Fld := ⟨0x8011c, 0, 32, 0⟩
def F.GPIO_PWM_CFG_FREQ : Fld := ⟨0x80120, 0, 2, 2⟩
def F.GPIO_PWM_DUTY (a : Nat) : Fld := ⟨0x80140 + 0x4 * a, 0, 10, 500⟩
def F.GPIO_ENC_CFG_EN (a : Nat) : Fld := ⟨0x80180 + 0x4 * a, 31, 1, 0⟩
def F.GPIO_ENC_CFG_STEP (a : Nat) : Fld := ⟨0x80180 + 0x4 * a, 24, 4, 2⟩
def F.GPIO_ENC_CFG_DETENT (a : Nat) : Fld := ⟨0x80180 + 0x4 * a, 20, 2, 0⟩
def F.GPIO_ENC_CFG_PHASE_B (a : Nat) : Fld := ⟨0x80180 + 0x4 * a, 13, 5, 0⟩
def F.GPIO_ENC_CFG_PHASE_A (a : Nat) : Fld := ⟨0x80180 + 0x4 * a, 8, 5, 0⟩
def F.GPIO_ENC_CFG_TARGET (a : Nat) : Fld := ⟨0x80180 + 0x4 * a, 0, 8, 0⟩
def F.GPIO_ENC_COUNT_COUNT (a : Nat) : Fld := ⟨0x80190 + 0x4 * a, 0, 16, 0⟩

def row_GPIO_PIN (a : Nat) : RegRow :=
  ⟨.steward, (some 0), .always, false, [⟨F.GPIO_PIN_PWM_CH a, .rw, .soft, .any, false, none⟩,
   ⟨F.GPIO_PIN_EDGE a, .rw, .soft, .any, false, none⟩,
   ⟨F.GPIO_PIN_FUNC a, .rw, .soft, (.range 0 4), false, none⟩]⟩
def row_GPIO_IN : RegRow :=
  ⟨.steward, none, .always, false, [⟨F.GPIO_IN_LEVEL, .ro, .soft, .any, false, none⟩]⟩
def row_GPIO_OUT : RegRow :=
  ⟨.steward, (some 0), .always, false, [⟨F.GPIO_OUT_OUT, .rw, .soft, .any, false, none⟩]⟩
def row_GPIO_OUT_SET : RegRow :=
  ⟨.steward, (some 0), .always, false, [⟨F.GPIO_OUT_SET_SET, .w1s, .soft, .any, false, none⟩]⟩
def row_GPIO_OUT_CLR : RegRow :=
  ⟨.steward, (some 0), .always, false, [⟨F.GPIO_OUT_CLR_CLR, .w1c, .soft, .any, false, none⟩]⟩
def row_GPIO_IRQ : RegRow :=
  ⟨.steward, (some 0), .always, false, [⟨F.GPIO_IRQ_EDGE, .w1c, .soft, .any, false, none⟩]⟩
def row_GPIO_IRQ_EN : RegRow :=
  ⟨.steward, (some 0), .always, false, [⟨F.GPIO_IRQ_EN_EN, .rw, .soft, .any, false, none⟩]⟩
def row_GPIO_DEBOUNCE : RegRow :=
  ⟨.steward, (some 0), .always, false, [⟨F.GPIO_DEBOUNCE_MS, .rw, .soft, .any, false, none⟩]⟩
def row_GPIO_PANEL : RegRow :=
  ⟨.steward, none, .always, false, [⟨F.GPIO_PANEL_PANEL, .ro, .soft, .any, false, none⟩]⟩
def row_GPIO_PWM_CFG : RegRow :=
  ⟨.steward, (some 0), .always, false, [⟨F.GPIO_PWM_CFG_FREQ, .rw, .soft, .any, false, none⟩]⟩
def row_GPIO_PWM (a : Nat) : RegRow :=
  ⟨.steward, (some 0), .always, false, [⟨F.GPIO_PWM_DUTY a, .rw, .soft, (.range 0 1000), false, none⟩]⟩
def row_GPIO_ENC_CFG (a : Nat) : RegRow :=
  ⟨.steward, (some 0), .always, false, [⟨F.GPIO_ENC_CFG_EN a, .ro, .soft, .any, false, none⟩,
   ⟨F.GPIO_ENC_CFG_STEP a, .rw, .soft, (.range 1 12), false, none⟩,
   ⟨F.GPIO_ENC_CFG_DETENT a, .rw, .soft, (.range 0 2), false, none⟩,
   ⟨F.GPIO_ENC_CFG_PHASE_B a, .ro, .soft, .any, false, none⟩,
   ⟨F.GPIO_ENC_CFG_PHASE_A a, .ro, .soft, .any, false, none⟩,
   ⟨F.GPIO_ENC_CFG_TARGET a, .rw, .soft, .encTarget, false, none⟩]⟩
def row_GPIO_ENC_COUNT (a : Nat) : RegRow :=
  ⟨.steward, none, .always, false, [⟨F.GPIO_ENC_COUNT_COUNT a, .ro, .soft, .any, false, none⟩]⟩

/-- The address patterns of block GPIO. -/
def rows_GPIO : List RowPat :=
  [⟨0x80000, 32, 0x4, 1, 0x4, 1, 0x4, fun a _ _ => row_GPIO_PIN a⟩,
   ⟨0x80100, 1, 0x4, 1, 0x4, 1, 0x4, fun _ _ _ => row_GPIO_IN⟩,
   ⟨0x80104, 1, 0x4, 1, 0x4, 1, 0x4, fun _ _ _ => row_GPIO_OUT⟩,
   ⟨0x80108, 1, 0x4, 1, 0x4, 1, 0x4, fun _ _ _ => row_GPIO_OUT_SET⟩,
   ⟨0x8010c, 1, 0x4, 1, 0x4, 1, 0x4, fun _ _ _ => row_GPIO_OUT_CLR⟩,
   ⟨0x80110, 1, 0x4, 1, 0x4, 1, 0x4, fun _ _ _ => row_GPIO_IRQ⟩,
   ⟨0x80114, 1, 0x4, 1, 0x4, 1, 0x4, fun _ _ _ => row_GPIO_IRQ_EN⟩,
   ⟨0x80118, 1, 0x4, 1, 0x4, 1, 0x4, fun _ _ _ => row_GPIO_DEBOUNCE⟩,
   ⟨0x8011c, 1, 0x4, 1, 0x4, 1, 0x4, fun _ _ _ => row_GPIO_PANEL⟩,
   ⟨0x80120, 1, 0x4, 1, 0x4, 1, 0x4, fun _ _ _ => row_GPIO_PWM_CFG⟩,
   ⟨0x80140, 8, 0x4, 1, 0x4, 1, 0x4, fun a _ _ => row_GPIO_PWM a⟩,
   ⟨0x80180, 4, 0x4, 1, 0x4, 1, 0x4, fun a _ _ => row_GPIO_ENC_CFG a⟩,
   ⟨0x80190, 4, 0x4, 1, 0x4, 1, 0x4, fun a _ _ => row_GPIO_ENC_COUNT a⟩]

/-! ### SEC (chapter 14) -/

def F.SEC_STATUS_FUSE : Fld := ⟨0x90000, 7, 1, 0⟩
def F.SEC_STATUS_REQ_UNCONFIRMED : Fld := ⟨0x90000, 6, 1, 0⟩
def F.SEC_STATUS_STRAP : Fld := ⟨0x90000, 5, 1, 0⟩
def F.SEC_STATUS_APPROVED : Fld := ⟨0x90000, 4, 1, 0⟩
def F.SEC_STATUS_STATE : Fld := ⟨0x90000, 0, 3, 0⟩
def F.SEC_ERROR_OSC_ON : Fld := ⟨0x90004, 16, 4, 0⟩
def F.SEC_ERROR_TEST : Fld := ⟨0x90004, 0, 8, 0⟩
def F.SEC_ZERO_CAUSE_CAUSE : Fld := ⟨0x90008, 0, 3, 0⟩
def F.SEC_VERSION_STEP : Fld := ⟨0x9000c, 24, 8, 0xB0⟩
def F.SEC_VERSION_FW : Fld := ⟨0x9000c, 0, 24, 0⟩
def F.SEC_KEYS_OPERATORS : Fld := ⟨0x90010, 16, 12, 0⟩
def F.SEC_KEYS_IMAGE_KEYS : Fld := ⟨0x90010, 12, 4, 0⟩
def F.SEC_KEYS_CAKS : Fld := ⟨0x90010, 8, 4, 0⟩
def F.SEC_KEYS_TACK_KEY : Fld := ⟨0x90010, 1, 1, 0⟩
def F.SEC_KEYS_IDENTITY : Fld := ⟨0x90010, 0, 1, 0⟩
def F.SEC_SESSIONS_NET : Fld := ⟨0x90014, 4, 4, 0⟩
def F.SEC_SESSIONS_HOST : Fld := ⟨0x90014, 0, 2, 0⟩
def F.SEC_MACSEC_REKEYS (a : Nat) : Fld := ⟨0x90020 + 0x4 * a, 16, 16, 0⟩
def F.SEC_MACSEC_KEY_SERVER (a : Nat) : Fld := ⟨0x90020 + 0x4 * a, 7, 1, 0⟩
def F.SEC_MACSEC_PEER_LIVE (a : Nat) : Fld := ⟨0x90020 + 0x4 * a, 6, 1, 0⟩
def F.SEC_MACSEC_TX_AN (a : Nat) : Fld := ⟨0x90020 + 0x4 * a, 4, 2, 0⟩
def F.SEC_MACSEC_SUITE (a : Nat) : Fld := ⟨0x90020 + 0x4 * a, 2, 2, if a < 2 then 2 else 1⟩
def F.SEC_MACSEC_RX_SECURED (a : Nat) : Fld := ⟨0x90020 + 0x4 * a, 1, 1, 0⟩
def F.SEC_MACSEC_TX_SECURED (a : Nat) : Fld := ⟨0x90020 + 0x4 * a, 0, 1, 0⟩
def F.SEC_IRQ_MACSEC : Fld := ⟨0x90030, 3, 1, 0⟩
def F.SEC_IRQ_ZEROISED : Fld := ⟨0x90030, 2, 1, 0⟩
def F.SEC_IRQ_ERROR : Fld := ⟨0x90030, 1, 1, 0⟩
def F.SEC_IRQ_MBOX_DONE : Fld := ⟨0x90030, 0, 1, 0⟩
def F.SEC_IRQ_EN_EN : Fld := ⟨0x90034, 0, 4, 0⟩
def F.SEC_MBOX_CTRL_GO : Fld := ⟨0x90100, 31, 1, 0⟩
def F.SEC_MBOX_CTRL_SERVICE : Fld := ⟨0x90100, 16, 8, 0⟩
def F.SEC_MBOX_CTRL_LENGTH : Fld := ⟨0x90100, 0, 9, 0⟩
def F.SEC_MBOX_STATUS_BUSY : Fld := ⟨0x90104, 31, 1, 0⟩
def F.SEC_MBOX_STATUS_OUT_LENGTH : Fld := ⟨0x90104, 16, 9, 0⟩
def F.SEC_MBOX_STATUS_CODE : Fld := ⟨0x90104, 0, 4, 0⟩
def F.SEC_MBOX_IN_DATA (a : Nat) : Fld := ⟨0x90200 + 0x4 * a, 0, 32, 0⟩
def F.SEC_MBOX_OUT_DATA (a : Nat) : Fld := ⟨0x90300 + 0x4 * a, 0, 32, 0⟩

def row_SEC_STATUS : RegRow :=
  ⟨.island, none, .always, false, [⟨F.SEC_STATUS_FUSE, .ro, .por, .any, false, none⟩,
   ⟨F.SEC_STATUS_REQ_UNCONFIRMED, .ro, .pin, .any, false, none⟩,
   ⟨F.SEC_STATUS_STRAP, .ro, .pin, .any, false, none⟩,
   ⟨F.SEC_STATUS_APPROVED, .ro, .zero, .any, false, none⟩,
   ⟨F.SEC_STATUS_STATE, .ro, .zero, .any, false, none⟩]⟩
def row_SEC_ERROR : RegRow :=
  ⟨.island, none, .always, false, [⟨F.SEC_ERROR_OSC_ON, .ro, .pin, .any, false, none⟩,
   ⟨F.SEC_ERROR_TEST, .ro, .pin, .any, false, none⟩]⟩
def row_SEC_ZERO_CAUSE : RegRow :=
  ⟨.island, none, .always, false, [⟨F.SEC_ZERO_CAUSE_CAUSE, .ro, .por, .any, false, none⟩]⟩
def row_SEC_VERSION : RegRow :=
  ⟨.island, none, .always, false, [⟨F.SEC_VERSION_STEP, .ro, .por, .any, false, none⟩,
   ⟨F.SEC_VERSION_FW, .ro, .pin, .any, false, none⟩]⟩
def row_SEC_KEYS : RegRow :=
  ⟨.island, none, .always, false, [⟨F.SEC_KEYS_OPERATORS, .ro, .por, .any, false, none⟩,
   ⟨F.SEC_KEYS_IMAGE_KEYS, .ro, .por, .any, false, none⟩,
   ⟨F.SEC_KEYS_CAKS, .ro, .zero, .any, false, none⟩,
   ⟨F.SEC_KEYS_TACK_KEY, .ro, .zero, .any, false, none⟩,
   ⟨F.SEC_KEYS_IDENTITY, .ro, .zero, .any, false, none⟩]⟩
def row_SEC_SESSIONS : RegRow :=
  ⟨.island, none, .always, false, [⟨F.SEC_SESSIONS_NET, .ro, .soft, .any, false, none⟩,
   ⟨F.SEC_SESSIONS_HOST, .ro, .soft, .any, false, none⟩]⟩
def row_SEC_MACSEC (a : Nat) : RegRow :=
  ⟨.island, none, .always, false, [⟨F.SEC_MACSEC_REKEYS a, .ro, .soft, .any, false, none⟩,
   ⟨F.SEC_MACSEC_KEY_SERVER a, .ro, .soft, .any, false, none⟩,
   ⟨F.SEC_MACSEC_PEER_LIVE a, .ro, .soft, .any, false, none⟩,
   ⟨F.SEC_MACSEC_TX_AN a, .ro, .soft, .any, false, none⟩,
   ⟨F.SEC_MACSEC_SUITE a, .ro, .soft, .any, false, none⟩,
   ⟨F.SEC_MACSEC_RX_SECURED a, .ro, .soft, .any, false, none⟩,
   ⟨F.SEC_MACSEC_TX_SECURED a, .ro, .soft, .any, false, none⟩]⟩
def row_SEC_IRQ : RegRow :=
  ⟨.island, none, .always, false, [⟨F.SEC_IRQ_MACSEC, .w1c, .soft, .any, false, none⟩,
   ⟨F.SEC_IRQ_ZEROISED, .w1c, .por, .any, false, none⟩,
   ⟨F.SEC_IRQ_ERROR, .w1c, .pin, .any, false, none⟩,
   ⟨F.SEC_IRQ_MBOX_DONE, .w1c, .soft, .any, false, none⟩]⟩
def row_SEC_IRQ_EN : RegRow :=
  ⟨.island, none, .always, false, [⟨F.SEC_IRQ_EN_EN, .rw, .soft, .any, false, none⟩]⟩
def row_SEC_MBOX_CTRL : RegRow :=
  ⟨.island, none, .always, true, [⟨F.SEC_MBOX_CTRL_GO, .wo, .soft, .any, false, none⟩,
   ⟨F.SEC_MBOX_CTRL_SERVICE, .rw, .soft, .any, false, none⟩,
   ⟨F.SEC_MBOX_CTRL_LENGTH, .rw, .soft, (.range 0 256), false, none⟩]⟩
def row_SEC_MBOX_STATUS : RegRow :=
  ⟨.island, none, .always, false, [⟨F.SEC_MBOX_STATUS_BUSY, .ro, .soft, .any, false, none⟩,
   ⟨F.SEC_MBOX_STATUS_OUT_LENGTH, .ro, .soft, .any, false, none⟩,
   ⟨F.SEC_MBOX_STATUS_CODE, .ro, .soft, .any, false, none⟩]⟩
def row_SEC_MBOX_IN (a : Nat) : RegRow :=
  ⟨.island, none, .always, true, [⟨F.SEC_MBOX_IN_DATA a, .rw, .soft, .any, false, none⟩]⟩
def row_SEC_MBOX_OUT (a : Nat) : RegRow :=
  ⟨.island, none, .always, false, [⟨F.SEC_MBOX_OUT_DATA a, .ro, .soft, .any, false, none⟩]⟩

/-- The address patterns of block SEC. -/
def rows_SEC : List RowPat :=
  [⟨0x90000, 1, 0x4, 1, 0x4, 1, 0x4, fun _ _ _ => row_SEC_STATUS⟩,
   ⟨0x90004, 1, 0x4, 1, 0x4, 1, 0x4, fun _ _ _ => row_SEC_ERROR⟩,
   ⟨0x90008, 1, 0x4, 1, 0x4, 1, 0x4, fun _ _ _ => row_SEC_ZERO_CAUSE⟩,
   ⟨0x9000c, 1, 0x4, 1, 0x4, 1, 0x4, fun _ _ _ => row_SEC_VERSION⟩,
   ⟨0x90010, 1, 0x4, 1, 0x4, 1, 0x4, fun _ _ _ => row_SEC_KEYS⟩,
   ⟨0x90014, 1, 0x4, 1, 0x4, 1, 0x4, fun _ _ _ => row_SEC_SESSIONS⟩,
   ⟨0x90020, 3, 0x4, 1, 0x4, 1, 0x4, fun a _ _ => row_SEC_MACSEC a⟩,
   ⟨0x90030, 1, 0x4, 1, 0x4, 1, 0x4, fun _ _ _ => row_SEC_IRQ⟩,
   ⟨0x90034, 1, 0x4, 1, 0x4, 1, 0x4, fun _ _ _ => row_SEC_IRQ_EN⟩,
   ⟨0x90100, 1, 0x4, 1, 0x4, 1, 0x4, fun _ _ _ => row_SEC_MBOX_CTRL⟩,
   ⟨0x90104, 1, 0x4, 1, 0x4, 1, 0x4, fun _ _ _ => row_SEC_MBOX_STATUS⟩,
   ⟨0x90200, 64, 0x4, 1, 0x4, 1, 0x4, fun a _ _ => row_SEC_MBOX_IN a⟩,
   ⟨0x90300, 64, 0x4, 1, 0x4, 1, 0x4, fun a _ _ => row_SEC_MBOX_OUT a⟩]

end Sys2Proof.Machine
end

