-- ==== Sys2Proof/Machine/RegsNet.lean ====
section
/-! DEFINITION. The registers of the blocks RING, MAC, STAT, IOP, PTP: one `Fld` for each field the spec's register
tables give, one row function for each register (or word of a multi-word register), and the blocks' address
patterns (R819, R822). Every field's reset value is the one its table states, 0 where the table states none
(log entry 2). -/

namespace Sys2Proof.Machine

/-! ### RING (chapters 08 and 09) -/

def F.RING_CTRL_PRECEDENCE : Fld := ⟨0x120000, 8, 8, 0⟩
def F.RING_CTRL_CANDIDATE : Fld := ⟨0x120000, 2, 1, 0⟩
def F.RING_CTRL_SLACK_EN : Fld := ⟨0x120000, 1, 1, 1⟩
def F.RING_CTRL_ENABLE : Fld := ⟨0x120000, 0, 1, 0⟩
def F.RING_ID_RING_NUMBER : Fld := ⟨0x120004, 16, 8, 0⟩
def F.RING_ID_NODE_ID : Fld := ⟨0x120004, 0, 16, 0⟩
def F.RING_ETYPE_ETYPE : Fld := ⟨0x120008, 0, 16, 34997⟩
def F.RING_STATE_EPOCH : Fld := ⟨0x120010, 24, 8, 0⟩
def F.RING_STATE_LIGHTHOUSE : Fld := ⟨0x120010, 16, 8, 0⟩
def F.RING_STATE_RING_MISMATCH : Fld := ⟨0x120010, 8, 1, 0⟩
def F.RING_STATE_SLACK : Fld := ⟨0x120010, 7, 1, 0⟩
def F.RING_STATE_LOCKED : Fld := ⟨0x120010, 6, 1, 0⟩
def F.RING_STATE_STABLE_REASON : Fld := ⟨0x120010, 2, 3, 0⟩
def F.RING_STATE_STATE : Fld := ⟨0x120010, 0, 2, 0⟩
def F.RING_NODE_MEMBERS : Fld := ⟨0x120014, 16, 9, 0⟩
def F.RING_NODE_ASSIGNED : Fld := ⟨0x120014, 8, 1, 0⟩
def F.RING_NODE_NODE : Fld := ⟨0x120014, 0, 8, 0⟩
def F.RING_PHASE_P : Fld := ⟨0x120018, 8, 5, 0⟩
def F.RING_PHASE_Q : Fld := ⟨0x120018, 0, 5, 0⟩
def F.RING_ARRIVAL_A : Fld := ⟨0x12001c, 0, 24, 0⟩
def F.RING_LINK_CORR (a : Nat) : Fld := ⟨0x120020 + 0x4 * a, 24, 8, 0⟩
def F.RING_LINK_DELAY (a : Nat) : Fld := ⟨0x120020 + 0x4 * a, 0, 24, 0⟩
def F.RING_MAP_MAP (a : Nat) : Fld := ⟨0x120030 + 0x4 * a, 0, 32, 0⟩
def F.RING_CALL_RX_CALL (a : Nat) : Fld := ⟨0x120038 + 0x4 * a, 0, 32, 0⟩
def F.RING_CNT_COUNT (a : Nat) : Fld := ⟨0x120040 + 0x4 * a, 0, 32, 0⟩
def F.RING_LISTEN_NOT_CARRIED (a : Nat) : Fld := ⟨0x120100 + 0x4 * a, 16, 1, 0⟩
def F.RING_LISTEN_LIMIT (a : Nat) : Fld := ⟨0x120100 + 0x4 * a, 8, 1, 1⟩
def F.RING_LISTEN_SHIFT (a : Nat) : Fld := ⟨0x120100 + 0x4 * a, 0, 4, 0⟩
def F.RING_IRQ_LH_CHANGE : Fld := ⟨0x120060, 3, 1, 0⟩
def F.RING_IRQ_PHASE_SLIP : Fld := ⟨0x120060, 2, 1, 0⟩
def F.RING_IRQ_STABLED : Fld := ⟨0x120060, 1, 1, 0⟩
def F.RING_IRQ_STATE : Fld := ⟨0x120060, 0, 1, 0⟩
def F.RING_IRQ_EN_EN : Fld := ⟨0x120064, 0, 4, 0⟩
def F.RING_MUSTER_ANSWERED : Fld := ⟨0x12006c, 16, 8, 0⟩
def F.RING_MUSTER_WAITING : Fld := ⟨0x12006c, 0, 9, 0⟩
def F.RING_WRAP_END_B : Fld := ⟨0x120068, 3, 1, 0⟩
def F.RING_WRAP_END_A : Fld := ⟨0x120068, 2, 1, 0⟩
def F.RING_WRAP_SEGMENT : Fld := ⟨0x120068, 1, 1, 0⟩
def F.RING_WRAP_WRAPPED : Fld := ⟨0x120068, 0, 1, 0⟩
def F.RING_PORT_SCORE (a : Nat) : Fld := ⟨0x120070 + 0x4 * a, 16, 8, 0⟩
def F.RING_PORT_CAUSE (a : Nat) : Fld := ⟨0x120070 + 0x4 * a, 8, 5, 0⟩
def F.RING_PORT_MENDED (a : Nat) : Fld := ⟨0x120070 + 0x4 * a, 4, 1, 0⟩
def F.RING_PORT_ROLE (a : Nat) : Fld := ⟨0x120070 + 0x4 * a, 2, 2, 0⟩
def F.RING_PORT_STATE (a : Nat) : Fld := ⟨0x120070 + 0x4 * a, 0, 2, 0⟩
def F.RING_LAP_LAP : Fld := ⟨0x120078, 0, 24, 0⟩
def F.RING_FOGHORN_ACKS : Fld := ⟨0x12007c, 24, 8, 0⟩
def F.RING_FOGHORN_LIVE : Fld := ⟨0x12007c, 16, 1, 0⟩
def F.RING_FOGHORN_FSEQ : Fld := ⟨0x12007c, 0, 16, 0⟩
def F.RING_FAULT_CNT_COUNT (a : Nat) : Fld := ⟨0x120080 + 0x4 * a, 0, 32, 0⟩
def F.RING_FAULT_IRQ_FOGHORN : Fld := ⟨0x1200c0, 4, 1, 0⟩
def F.RING_FAULT_IRQ_LH_LOSS : Fld := ⟨0x1200c0, 3, 1, 0⟩
def F.RING_FAULT_IRQ_HEAL : Fld := ⟨0x1200c0, 2, 1, 0⟩
def F.RING_FAULT_IRQ_WRAP : Fld := ⟨0x1200c0, 1, 1, 0⟩
def F.RING_FAULT_IRQ_PORT_STATE : Fld := ⟨0x1200c0, 0, 1, 0⟩
def F.RING_FAULT_IRQ_EN_EN : Fld := ⟨0x1200c4, 0, 5, 0⟩

def row_RING_CTRL : RegRow :=
  ⟨(.mac 0), (some 12), .always, false, [⟨F.RING_CTRL_PRECEDENCE, .rw, .soft, .any, false, none⟩,
   ⟨F.RING_CTRL_CANDIDATE, .rw, .soft, .any, false, none⟩,
   ⟨F.RING_CTRL_SLACK_EN, .rw, .soft, .any, false, none⟩,
   ⟨F.RING_CTRL_ENABLE, .rw, .soft, .any, false, none⟩]⟩
def row_RING_ID : RegRow :=
  ⟨(.mac 0), (some 12), .always, false, [⟨F.RING_ID_RING_NUMBER, .rw, .soft, .any, false, none⟩,
   ⟨F.RING_ID_NODE_ID, .rw, .soft, .nodeId, false, none⟩]⟩
def row_RING_ETYPE : RegRow :=
  ⟨(.mac 0), (some 12), .always, false, [⟨F.RING_ETYPE_ETYPE, .rwl, .por, .any, false, none⟩]⟩
def row_RING_STATE : RegRow :=
  ⟨(.mac 0), none, .always, false, [⟨F.RING_STATE_EPOCH, .ro, .soft, .any, false, none⟩,
   ⟨F.RING_STATE_LIGHTHOUSE, .ro, .soft, .any, false, none⟩,
   ⟨F.RING_STATE_RING_MISMATCH, .ro, .soft, .any, false, none⟩,
   ⟨F.RING_STATE_SLACK, .ro, .soft, .any, false, none⟩,
   ⟨F.RING_STATE_LOCKED, .ro, .soft, .any, false, none⟩,
   ⟨F.RING_STATE_STABLE_REASON, .ro, .soft, .any, false, none⟩,
   ⟨F.RING_STATE_STATE, .ro, .soft, .any, false, none⟩]⟩
def row_RING_NODE : RegRow :=
  ⟨(.mac 0), none, .always, false, [⟨F.RING_NODE_MEMBERS, .ro, .soft, .any, false, none⟩,
   ⟨F.RING_NODE_ASSIGNED, .ro, .soft, .any, false, none⟩,
   ⟨F.RING_NODE_NODE, .ro, .soft, .any, false, none⟩]⟩
def row_RING_PHASE : RegRow :=
  ⟨(.mac 0), none, .always, false, [⟨F.RING_PHASE_P, .ro, .soft, .any, false, none⟩,
   ⟨F.RING_PHASE_Q, .ro, .soft, .any, false, none⟩]⟩
def row_RING_ARRIVAL : RegRow :=
  ⟨(.mac 0), none, .always, false, [⟨F.RING_ARRIVAL_A, .ro, .soft, .any, false, none⟩]⟩
def row_RING_LINK (a : Nat) : RegRow :=
  ⟨(.mac 0), (some 12), .always, false, [⟨F.RING_LINK_CORR a, .rw, .soft, .any, false, none⟩,
   ⟨F.RING_LINK_DELAY a, .ro, .soft, .any, false, none⟩]⟩
def row_RING_MAP (a : Nat) : RegRow :=
  ⟨(.mac 0), none, .always, false, [⟨F.RING_MAP_MAP a, .ro, .soft, .any, false, none⟩]⟩
def row_RING_CALL_RX (a : Nat) : RegRow :=
  ⟨(.mac 0), none, .always, false, [⟨F.RING_CALL_RX_CALL a, .ro, .soft, .any, false, none⟩]⟩
def row_RING_CNT (a : Nat) : RegRow :=
  ⟨(.mac 0), none, .always, false, [⟨F.RING_CNT_COUNT a, .ro, .soft, .any, false, none⟩]⟩
def row_RING_LISTEN (a : Nat) : RegRow :=
  ⟨(.mac 0), (some 12), .always, false, [⟨F.RING_LISTEN_NOT_CARRIED a, .ro, .soft, .any, false, none⟩,
   ⟨F.RING_LISTEN_LIMIT a, .rw, .soft, .any, false, none⟩,
   ⟨F.RING_LISTEN_SHIFT a, .rw, .soft, (.range 0 8), false, none⟩]⟩
def row_RING_IRQ : RegRow :=
  ⟨(.mac 0), (some 12), .always, false, [⟨F.RING_IRQ_LH_CHANGE, .w1c, .soft, .any, false, none⟩,
   ⟨F.RING_IRQ_PHASE_SLIP, .w1c, .soft, .any, false, none⟩,
   ⟨F.RING_IRQ_STABLED, .w1c, .soft, .any, false, none⟩,
   ⟨F.RING_IRQ_STATE, .w1c, .soft, .any, false, none⟩]⟩
def row_RING_IRQ_EN : RegRow :=
  ⟨(.mac 0), (some 12), .always, false, [⟨F.RING_IRQ_EN_EN, .rw, .soft, .any, false, none⟩]⟩
def row_RING_MUSTER : RegRow :=
  ⟨(.mac 0), none, .always, false, [⟨F.RING_MUSTER_ANSWERED, .ro, .soft, .any, false, none⟩,
   ⟨F.RING_MUSTER_WAITING, .ro, .soft, .any, false, none⟩]⟩
def row_RING_WRAP : RegRow :=
  ⟨(.mac 0), none, .always, false, [⟨F.RING_WRAP_END_B, .ro, .soft, .any, false, none⟩,
   ⟨F.RING_WRAP_END_A, .ro, .soft, .any, false, none⟩,
   ⟨F.RING_WRAP_SEGMENT, .ro, .soft, .any, false, none⟩,
   ⟨F.RING_WRAP_WRAPPED, .ro, .soft, .any, false, none⟩]⟩
def row_RING_PORT (a : Nat) : RegRow :=
  ⟨(.mac 0), none, .always, false, [⟨F.RING_PORT_SCORE a, .ro, .soft, .any, false, none⟩,
   ⟨F.RING_PORT_CAUSE a, .ro, .soft, .any, false, none⟩,
   ⟨F.RING_PORT_MENDED a, .ro, .soft, .any, false, none⟩,
   ⟨F.RING_PORT_ROLE a, .ro, .soft, .any, false, none⟩,
   ⟨F.RING_PORT_STATE a, .ro, .soft, .any, false, none⟩]⟩
def row_RING_LAP : RegRow :=
  ⟨(.mac 0), none, .always, false, [⟨F.RING_LAP_LAP, .ro, .soft, .any, false, none⟩]⟩
def row_RING_FOGHORN : RegRow :=
  ⟨(.mac 0), none, .always, false, [⟨F.RING_FOGHORN_ACKS, .ro, .soft, .any, false, none⟩,
   ⟨F.RING_FOGHORN_LIVE, .ro, .soft, .any, false, none⟩,
   ⟨F.RING_FOGHORN_FSEQ, .ro, .soft, .any, false, none⟩]⟩
def row_RING_FAULT_CNT (a : Nat) : RegRow :=
  ⟨(.mac 0), none, .always, false, [⟨F.RING_FAULT_CNT_COUNT a, .ro, .soft, .any, false, none⟩]⟩
def row_RING_FAULT_IRQ : RegRow :=
  ⟨(.mac 0), (some 12), .always, false, [⟨F.RING_FAULT_IRQ_FOGHORN, .w1c, .soft, .any, false, none⟩,
   ⟨F.RING_FAULT_IRQ_LH_LOSS, .w1c, .soft, .any, false, none⟩,
   ⟨F.RING_FAULT_IRQ_HEAL, .w1c, .soft, .any, false, none⟩,
   ⟨F.RING_FAULT_IRQ_WRAP, .w1c, .soft, .any, false, none⟩,
   ⟨F.RING_FAULT_IRQ_PORT_STATE, .w1c, .soft, .any, false, none⟩]⟩
def row_RING_FAULT_IRQ_EN : RegRow :=
  ⟨(.mac 0), (some 12), .always, false, [⟨F.RING_FAULT_IRQ_EN_EN, .rw, .soft, .any, false, none⟩]⟩

/-- The address patterns of block RING. -/
def rows_RING : List RowPat :=
  [⟨0x120000, 1, 0x4, 1, 0x4, 1, 0x4, fun _ _ _ => row_RING_CTRL⟩,
   ⟨0x120004, 1, 0x4, 1, 0x4, 1, 0x4, fun _ _ _ => row_RING_ID⟩,
   ⟨0x120008, 1, 0x4, 1, 0x4, 1, 0x4, fun _ _ _ => row_RING_ETYPE⟩,
   ⟨0x120010, 1, 0x4, 1, 0x4, 1, 0x4, fun _ _ _ => row_RING_STATE⟩,
   ⟨0x120014, 1, 0x4, 1, 0x4, 1, 0x4, fun _ _ _ => row_RING_NODE⟩,
   ⟨0x120018, 1, 0x4, 1, 0x4, 1, 0x4, fun _ _ _ => row_RING_PHASE⟩,
   ⟨0x12001c, 1, 0x4, 1, 0x4, 1, 0x4, fun _ _ _ => row_RING_ARRIVAL⟩,
   ⟨0x120020, 2, 0x4, 1, 0x4, 1, 0x4, fun a _ _ => row_RING_LINK a⟩,
   ⟨0x120030, 2, 0x4, 1, 0x4, 1, 0x4, fun a _ _ => row_RING_MAP a⟩,
   ⟨0x120038, 2, 0x4, 1, 0x4, 1, 0x4, fun a _ _ => row_RING_CALL_RX a⟩,
   ⟨0x120040, 6, 0x4, 1, 0x4, 1, 0x4, fun a _ _ => row_RING_CNT a⟩,
   ⟨0x120100, 64, 0x4, 1, 0x4, 1, 0x4, fun a _ _ => row_RING_LISTEN a⟩,
   ⟨0x120060, 1, 0x4, 1, 0x4, 1, 0x4, fun _ _ _ => row_RING_IRQ⟩,
   ⟨0x120064, 1, 0x4, 1, 0x4, 1, 0x4, fun _ _ _ => row_RING_IRQ_EN⟩,
   ⟨0x12006c, 1, 0x4, 1, 0x4, 1, 0x4, fun _ _ _ => row_RING_MUSTER⟩,
   ⟨0x120068, 1, 0x4, 1, 0x4, 1, 0x4, fun _ _ _ => row_RING_WRAP⟩,
   ⟨0x120070, 2, 0x4, 1, 0x4, 1, 0x4, fun a _ _ => row_RING_PORT a⟩,
   ⟨0x120078, 1, 0x4, 1, 0x4, 1, 0x4, fun _ _ _ => row_RING_LAP⟩,
   ⟨0x12007c, 1, 0x4, 1, 0x4, 1, 0x4, fun _ _ _ => row_RING_FOGHORN⟩,
   ⟨0x120080, 12, 0x4, 1, 0x4, 1, 0x4, fun a _ _ => row_RING_FAULT_CNT a⟩,
   ⟨0x1200c0, 1, 0x4, 1, 0x4, 1, 0x4, fun _ _ _ => row_RING_FAULT_IRQ⟩,
   ⟨0x1200c4, 1, 0x4, 1, 0x4, 1, 0x4, fun _ _ _ => row_RING_FAULT_IRQ_EN⟩]

/-! ### MAC (chapter 11) -/

def F.MAC_CFG_MAX_LEN (a : Nat) : Fld := ⟨0x130000 + 0x4000 * a, 16, 16, 1558⟩
def F.MAC_CFG_MACSEC_REQ (a : Nat) : Fld := ⟨0x130000 + 0x4000 * a, 8, 1, 0⟩
def F.MAC_CFG_RX_DLY (a : Nat) : Fld := ⟨0x130000 + 0x4000 * a, 6, 1, 0⟩
def F.MAC_CFG_TX_DLY (a : Nat) : Fld := ⟨0x130000 + 0x4000 * a, 5, 1, 0⟩
def F.MAC_CFG_PROMISC (a : Nat) : Fld := ⟨0x130000 + 0x4000 * a, 4, 1, 0⟩
def F.MAC_CFG_BCAST_EN (a : Nat) : Fld := ⟨0x130000 + 0x4000 * a, 3, 1, 1⟩
def F.MAC_CFG_PHY_IF (a : Nat) : Fld := ⟨0x130000 + 0x4000 * a, 0, 2, 0⟩
def F.MAC_STATUS_PAUSED (a : Nat) : Fld := ⟨0x130004 + 0x4000 * a, 7, 1, 0⟩
def F.MAC_STATUS_LPI_RX (a : Nat) : Fld := ⟨0x130004 + 0x4000 * a, 6, 1, 0⟩
def F.MAC_STATUS_LPI_TX (a : Nat) : Fld := ⟨0x130004 + 0x4000 * a, 5, 1, 0⟩
def F.MAC_STATUS_HALF_DUPLEX (a : Nat) : Fld := ⟨0x130004 + 0x4000 * a, 4, 1, 0⟩
def F.MAC_STATUS_SPEED (a : Nat) : Fld := ⟨0x130004 + 0x4000 * a, 1, 2, 0⟩
def F.MAC_STATUS_LINK (a : Nat) : Fld := ⟨0x130004 + 0x4000 * a, 0, 1, 0⟩
def F.MAC_UCAST_ADDR_2_5 (a b : Nat) : Fld := ⟨0x130010 + 0x4000 * a + 0x8 * b, 0, 32, 0⟩
def F.MAC_UCAST_EN (a b : Nat) : Fld := ⟨0x130014 + 0x4000 * a + 0x8 * b, 31, 1, 0⟩
def F.MAC_UCAST_ADDR_0_1 (a b : Nat) : Fld := ⟨0x130014 + 0x4000 * a + 0x8 * b, 0, 16, 0⟩
def F.MAC_HASH_HASH (a b : Nat) : Fld := ⟨0x130100 + 0x4000 * a + 0x4 * b, 0, 32, 0⟩
def F.MAC_WAKE_MASK_MASK (a b c : Nat) : Fld := ⟨0x130200 + 0x4000 * a + 0x20 * b + 0x4 * c, 0, 32, 0⟩
def F.MAC_WAKE_CRC_EN (a b : Nat) : Fld := ⟨0x130210 + 0x4000 * a + 0x20 * b, 31, 1, 0⟩
def F.MAC_WAKE_CRC_CRC (a b : Nat) : Fld := ⟨0x130210 + 0x4000 * a + 0x20 * b, 0, 16, 0⟩
def F.MAC_WAKE_STATUS_MATCH (a : Nat) : Fld := ⟨0x130300 + 0x4000 * a, 0, 8, 0⟩
def F.MAC_EEE_EN (a : Nat) : Fld := ⟨0x130400 + 0x4000 * a, 31, 1, 0⟩
def F.MAC_EEE_IDLE_US (a : Nat) : Fld := ⟨0x130400 + 0x4000 * a, 16, 10, 200⟩
def F.MAC_EEE_TW_APPLIED (a : Nat) : Fld := ⟨0x130400 + 0x4000 * a, 8, 8, 0⟩
def F.MAC_EEE_TW_US (a : Nat) : Fld := ⟨0x130400 + 0x4000 * a, 0, 8, 0⟩
def F.MAC_PAUSE_REMAIN (a : Nat) : Fld := ⟨0x130410 + 0x4000 * a, 16, 16, 0⟩
def F.MAC_PAUSE_WATCHDOG_MS (a : Nat) : Fld := ⟨0x130410 + 0x4000 * a, 0, 8, 10⟩
def F.MAC_TXQ_THRESH_START (a b : Nat) : Fld := ⟨0x130500 + 0x4000 * a + 0x4 * b, 16, 6, 0⟩
def F.MAC_TXQ_THRESH_CURRENT (a b : Nat) : Fld := ⟨0x130500 + 0x4000 * a + 0x4 * b, 0, 6, 0⟩
def F.MAC_RXQ_STATUS_FRAMES (a b : Nat) : Fld := ⟨0x130540 + 0x4000 * a + 0x4 * b, 16, 16, 0⟩
def F.MAC_RXQ_STATUS_LEVEL (a b : Nat) : Fld := ⟨0x130540 + 0x4000 * a + 0x4 * b, 0, 11, 0⟩
def F.MAC_EXC_STATUS_FRAMES (a : Nat) : Fld := ⟨0x130580 + 0x4000 * a, 16, 16, 0⟩
def F.MAC_EXC_STATUS_LEVEL (a : Nat) : Fld := ⟨0x130580 + 0x4000 * a, 0, 8, 0⟩
def F.MAC_IRQ_DEEP (a : Nat) : Fld := ⟨0x130700 + 0x4000 * a, 5, 1, 0⟩
def F.MAC_IRQ_LINK (a : Nat) : Fld := ⟨0x130700 + 0x4000 * a, 4, 1, 0⟩
def F.MAC_IRQ_PAUSE_BROKEN (a : Nat) : Fld := ⟨0x130700 + 0x4000 * a, 3, 1, 0⟩
def F.MAC_IRQ_OVERFLOW (a : Nat) : Fld := ⟨0x130700 + 0x4000 * a, 2, 1, 0⟩
def F.MAC_IRQ_UNDERRUN (a : Nat) : Fld := ⟨0x130700 + 0x4000 * a, 1, 1, 0⟩
def F.MAC_IRQ_WAKE (a : Nat) : Fld := ⟨0x130700 + 0x4000 * a, 0, 1, 0⟩
def F.MAC_IRQ_EN_EN (a : Nat) : Fld := ⟨0x130704 + 0x4000 * a, 0, 6, 0⟩

def row_MAC_CFG (a : Nat) : RegRow :=
  ⟨(.mac a), (some 13), .always, false, [⟨F.MAC_CFG_MAX_LEN a, .rw, .soft, (.range 1518 2000), false, none⟩,
   ⟨F.MAC_CFG_MACSEC_REQ a, .rw, .soft, .any, false, none⟩,
   ⟨F.MAC_CFG_RX_DLY a, .rwl, .por, .any, false, none⟩,
   ⟨F.MAC_CFG_TX_DLY a, .rwl, .por, .any, false, none⟩,
   ⟨F.MAC_CFG_PROMISC a, (if a = 2 then .rw else .ro), .soft, .any, false, none⟩,
   ⟨F.MAC_CFG_BCAST_EN a, .rw, .soft, .any, false, none⟩,
   ⟨F.MAC_CFG_PHY_IF a, .rwl, .por, (.range 0 1), false, none⟩]⟩
def row_MAC_STATUS (a : Nat) : RegRow :=
  ⟨(.mac a), none, .always, false, [⟨F.MAC_STATUS_PAUSED a, .ro, .soft, .any, false, none⟩,
   ⟨F.MAC_STATUS_LPI_RX a, .ro, .soft, .any, false, none⟩,
   ⟨F.MAC_STATUS_LPI_TX a, .ro, .soft, .any, false, none⟩,
   ⟨F.MAC_STATUS_HALF_DUPLEX a, .ro, .soft, .any, false, none⟩,
   ⟨F.MAC_STATUS_SPEED a, .ro, .soft, .any, false, none⟩,
   ⟨F.MAC_STATUS_LINK a, .ro, .soft, .any, false, none⟩]⟩
def row_MAC_UCAST_W0 (a b : Nat) : RegRow :=
  ⟨(.mac a), (some 13), .always, false, [⟨F.MAC_UCAST_ADDR_2_5 a b, .rw, .soft, .any, false, none⟩]⟩
def row_MAC_UCAST_W1 (a b : Nat) : RegRow :=
  ⟨(.mac a), (some 13), .always, false, [⟨F.MAC_UCAST_EN a b, .rw, .soft, .any, false, none⟩,
   ⟨F.MAC_UCAST_ADDR_0_1 a b, .rw, .soft, .any, false, none⟩]⟩
def row_MAC_HASH (a b : Nat) : RegRow :=
  ⟨(.mac a), (some 13), .always, false, [⟨F.MAC_HASH_HASH a b, .rw, .soft, .any, false, none⟩]⟩
def row_MAC_WAKE_MASK (a b c : Nat) : RegRow :=
  ⟨(.mac a), (some 13), .always, false, [⟨F.MAC_WAKE_MASK_MASK a b c, .rw, .soft, .any, false, none⟩]⟩
def row_MAC_WAKE_CRC (a b : Nat) : RegRow :=
  ⟨(.mac a), (some 13), .always, false, [⟨F.MAC_WAKE_CRC_EN a b, .rw, .soft, .any, false, none⟩,
   ⟨F.MAC_WAKE_CRC_CRC a b, .rw, .soft, .any, false, none⟩]⟩
def row_MAC_WAKE_STATUS (a : Nat) : RegRow :=
  ⟨(.mac a), (some 13), .always, false, [⟨F.MAC_WAKE_STATUS_MATCH a, .w1c, .soft, .any, false, none⟩]⟩
def row_MAC_EEE (a : Nat) : RegRow :=
  ⟨(.mac a), (some 13), .always, false, [⟨F.MAC_EEE_EN a, .rw, .soft, .any, false, none⟩,
   ⟨F.MAC_EEE_IDLE_US a, .rw, .soft, (.range 10 1000), false, none⟩,
   ⟨F.MAC_EEE_TW_APPLIED a, .ro, .soft, .any, false, none⟩,
   ⟨F.MAC_EEE_TW_US a, .rw, .soft, .any, false, none⟩]⟩
def row_MAC_PAUSE (a : Nat) : RegRow :=
  ⟨(.mac a), (some 13), .always, false, [⟨F.MAC_PAUSE_REMAIN a, .ro, .soft, .any, false, none⟩,
   ⟨F.MAC_PAUSE_WATCHDOG_MS a, .rw, .soft, (.range 1 250), false, none⟩]⟩
def row_MAC_TXQ_THRESH (a b : Nat) : RegRow :=
  ⟨(.mac a), (some 13), (.txq a b), false, [⟨F.MAC_TXQ_THRESH_START a b, .ro, .soft, .any, false, none⟩,
   ⟨F.MAC_TXQ_THRESH_CURRENT a b, .rw, .soft, (.txqCurrent a b), false, none⟩]⟩
def row_MAC_RXQ_STATUS (a b : Nat) : RegRow :=
  ⟨(.mac a), none, .always, false, [⟨F.MAC_RXQ_STATUS_FRAMES a b, .ro, .soft, .any, false, none⟩,
   ⟨F.MAC_RXQ_STATUS_LEVEL a b, .ro, .soft, .any, false, none⟩]⟩
def row_MAC_EXC_STATUS (a : Nat) : RegRow :=
  ⟨(.mac a), none, .always, false, [⟨F.MAC_EXC_STATUS_FRAMES a, .ro, .soft, .any, false, none⟩,
   ⟨F.MAC_EXC_STATUS_LEVEL a, .ro, .soft, .any, false, none⟩]⟩
def row_MAC_IRQ (a : Nat) : RegRow :=
  ⟨(.mac a), (some 13), .always, false, [⟨F.MAC_IRQ_DEEP a, .w1c, .soft, .any, false, none⟩,
   ⟨F.MAC_IRQ_LINK a, .w1c, .soft, .any, false, none⟩,
   ⟨F.MAC_IRQ_PAUSE_BROKEN a, .w1c, .soft, .any, false, none⟩,
   ⟨F.MAC_IRQ_OVERFLOW a, .w1c, .soft, .any, false, none⟩,
   ⟨F.MAC_IRQ_UNDERRUN a, .w1c, .soft, .any, false, none⟩,
   ⟨F.MAC_IRQ_WAKE a, .w1c, .soft, .any, false, none⟩]⟩
def row_MAC_IRQ_EN (a : Nat) : RegRow :=
  ⟨(.mac a), (some 13), .always, false, [⟨F.MAC_IRQ_EN_EN a, .rw, .soft, .any, false, none⟩]⟩

/-- The address patterns of block MAC. -/
def rows_MAC : List RowPat :=
  [⟨0x130000, 3, 0x4000, 1, 0x4, 1, 0x4, fun a _ _ => row_MAC_CFG a⟩,
   ⟨0x130004, 3, 0x4000, 1, 0x4, 1, 0x4, fun a _ _ => row_MAC_STATUS a⟩,
   ⟨0x130010, 3, 0x4000, 16, 0x8, 1, 0x4, fun a b _ => row_MAC_UCAST_W0 a b⟩,
   ⟨0x130014, 3, 0x4000, 16, 0x8, 1, 0x4, fun a b _ => row_MAC_UCAST_W1 a b⟩,
   ⟨0x130100, 3, 0x4000, 16, 0x4, 1, 0x4, fun a b _ => row_MAC_HASH a b⟩,
   ⟨0x130200, 3, 0x4000, 8, 0x20, 4, 0x4, fun a b c => row_MAC_WAKE_MASK a b c⟩,
   ⟨0x130210, 3, 0x4000, 8, 0x20, 1, 0x4, fun a b _ => row_MAC_WAKE_CRC a b⟩,
   ⟨0x130300, 3, 0x4000, 1, 0x4, 1, 0x4, fun a _ _ => row_MAC_WAKE_STATUS a⟩,
   ⟨0x130400, 3, 0x4000, 1, 0x4, 1, 0x4, fun a _ _ => row_MAC_EEE a⟩,
   ⟨0x130410, 3, 0x4000, 1, 0x4, 1, 0x4, fun a _ _ => row_MAC_PAUSE a⟩,
   ⟨0x130500, 3, 0x4000, 8, 0x4, 1, 0x4, fun a b _ => row_MAC_TXQ_THRESH a b⟩,
   ⟨0x130540, 3, 0x4000, 8, 0x4, 1, 0x4, fun a b _ => row_MAC_RXQ_STATUS a b⟩,
   ⟨0x130580, 3, 0x4000, 1, 0x4, 1, 0x4, fun a _ _ => row_MAC_EXC_STATUS a⟩,
   ⟨0x130700, 3, 0x4000, 1, 0x4, 1, 0x4, fun a _ _ => row_MAC_IRQ a⟩,
   ⟨0x130704, 3, 0x4000, 1, 0x4, 1, 0x4, fun a _ _ => row_MAC_IRQ_EN a⟩]

/-! ### STAT (chapter 11) -/

def F.STAT_CNT_COUNT (a b : Nat) : Fld := ⟨0x140000 + 0x100 * a + 0x4 * b, 0, 32, 0⟩
def F.STAT_SNAP_COUNT (a b : Nat) : Fld := ⟨0x140400 + 0x100 * a + 0x4 * b, 0, 32, 0⟩
def F.STAT_SNAP_CTRL_TAKE : Fld := ⟨0x140800, 0, 3, 0⟩
def F.STAT_SNAP_STATUS_BUSY : Fld := ⟨0x140804, 16, 1, 0⟩
def F.STAT_SNAP_STATUS_SEQ : Fld := ⟨0x140804, 8, 8, 0⟩
def F.STAT_SNAP_STATUS_VALID : Fld := ⟨0x140804, 0, 3, 0⟩
def F.STAT_HALF_LO_HALF (a : Nat) : Fld := ⟨0x140810 + 0x8 * a, 0, 32, 0⟩
def F.STAT_HALF_HI_HALF (a : Nat) : Fld := ⟨0x140814 + 0x8 * a, 0, 20, 0⟩
def F.STAT_HALF_EN_LO_EN (a : Nat) : Fld := ⟨0x140830 + 0x8 * a, 0, 32, 0⟩
def F.STAT_HALF_EN_HI_EN (a : Nat) : Fld := ⟨0x140834 + 0x8 * a, 0, 20, 0⟩

def row_STAT_CNT (a b : Nat) : RegRow :=
  ⟨(.mac a), none, .always, false, [⟨F.STAT_CNT_COUNT a b, .ro, .soft, .any, false, none⟩]⟩
def row_STAT_SNAP (a b : Nat) : RegRow :=
  ⟨(.mac a), none, .always, false, [⟨F.STAT_SNAP_COUNT a b, .ro, .soft, .any, false, none⟩]⟩
def row_STAT_SNAP_CTRL : RegRow :=
  ⟨.steward, (some 13), .always, false, [⟨F.STAT_SNAP_CTRL_TAKE, .wo, .soft, .any, false, none⟩]⟩
def row_STAT_SNAP_STATUS : RegRow :=
  ⟨.steward, none, .always, false, [⟨F.STAT_SNAP_STATUS_BUSY, .ro, .soft, .any, false, none⟩,
   ⟨F.STAT_SNAP_STATUS_SEQ, .ro, .soft, .any, false, none⟩,
   ⟨F.STAT_SNAP_STATUS_VALID, .ro, .soft, .any, false, none⟩]⟩
def row_STAT_HALF_LO (a : Nat) : RegRow :=
  ⟨(.mac a), (some 13), .always, false, [⟨F.STAT_HALF_LO_HALF a, .w1c, .soft, .any, false, none⟩]⟩
def row_STAT_HALF_HI (a : Nat) : RegRow :=
  ⟨(.mac a), (some 13), .always, false, [⟨F.STAT_HALF_HI_HALF a, .w1c, .soft, .any, false, none⟩]⟩
def row_STAT_HALF_EN_LO (a : Nat) : RegRow :=
  ⟨(.mac a), (some 13), .always, false, [⟨F.STAT_HALF_EN_LO_EN a, .rw, .soft, .any, false, none⟩]⟩
def row_STAT_HALF_EN_HI (a : Nat) : RegRow :=
  ⟨(.mac a), (some 13), .always, false, [⟨F.STAT_HALF_EN_HI_EN a, .rw, .soft, .any, false, none⟩]⟩

/-- The address patterns of block STAT. -/
def rows_STAT : List RowPat :=
  [⟨0x140000, 3, 0x100, 52, 0x4, 1, 0x4, fun a b _ => row_STAT_CNT a b⟩,
   ⟨0x140400, 3, 0x100, 52, 0x4, 1, 0x4, fun a b _ => row_STAT_SNAP a b⟩,
   ⟨0x140800, 1, 0x4, 1, 0x4, 1, 0x4, fun _ _ _ => row_STAT_SNAP_CTRL⟩,
   ⟨0x140804, 1, 0x4, 1, 0x4, 1, 0x4, fun _ _ _ => row_STAT_SNAP_STATUS⟩,
   ⟨0x140810, 3, 0x8, 1, 0x4, 1, 0x4, fun a _ _ => row_STAT_HALF_LO a⟩,
   ⟨0x140814, 3, 0x8, 1, 0x4, 1, 0x4, fun a _ _ => row_STAT_HALF_HI a⟩,
   ⟨0x140830, 3, 0x8, 1, 0x4, 1, 0x4, fun a _ _ => row_STAT_HALF_EN_LO a⟩,
   ⟨0x140834, 3, 0x8, 1, 0x4, 1, 0x4, fun a _ _ => row_STAT_HALF_EN_HI a⟩]

/-! ### IOP (chapter 12) -/

def F.IOP_RX_CFG_EN (a : Nat) : Fld := ⟨0x150000 + 0x40 * a, 31, 1, 0⟩
def F.IOP_RX_CFG_IPV6 (a : Nat) : Fld := ⟨0x150000 + 0x40 * a, 30, 1, 0⟩
def F.IOP_RX_CFG_FORMAT (a : Nat) : Fld := ⟨0x150000 + 0x40 * a, 29, 1, 0⟩
def F.IOP_RX_CFG_PT (a : Nat) : Fld := ⟨0x150000 + 0x40 * a, 16, 8, 96⟩
def F.IOP_RX_CFG_CHANNELS (a : Nat) : Fld := ⟨0x150000 + 0x40 * a, 8, 4, 2⟩
def F.IOP_RX_CFG_CH_BASE (a : Nat) : Fld := ⟨0x150000 + 0x40 * a, 0, 6, 0⟩
def F.IOP_RX_ADDR_ADDR (a b : Nat) : Fld := ⟨0x150004 + 0x40 * a + 0x4 * b, 0, 32, 0⟩
def F.IOP_RX_PORT_UDP (a : Nat) : Fld := ⟨0x150014 + 0x40 * a, 0, 16, 5004⟩
def F.IOP_RX_OFFSET_RTP_OFFSET (a : Nat) : Fld := ⟨0x150018 + 0x40 * a, 0, 32, 0⟩
def F.IOP_RX_LATENCY_LATENCY (a : Nat) : Fld := ⟨0x15001c + 0x40 * a, 0, 10, 96⟩
def F.IOP_RX_STATUS_RATIO (a : Nat) : Fld := ⟨0x150020 + 0x40 * a, 16, 16, 0⟩
def F.IOP_RX_STATUS_CLAMPED (a : Nat) : Fld := ⟨0x150020 + 0x40 * a, 2, 1, 0⟩
def F.IOP_RX_STATUS_SSRC_LOCKED (a : Nat) : Fld := ⟨0x150020 + 0x40 * a, 1, 1, 0⟩
def F.IOP_RX_STATUS_ACTIVE (a : Nat) : Fld := ⟨0x150020 + 0x40 * a, 0, 1, 0⟩
def F.IOP_RX_SSRC_SSRC (a : Nat) : Fld := ⟨0x150024 + 0x40 * a, 0, 32, 0⟩
def F.IOP_RX_CNT_COUNT (a b : Nat) : Fld := ⟨0x150028 + 0x40 * a + 0x4 * b, 0, 32, 0⟩
def F.IOP_TX_CFG_EN (a : Nat) : Fld := ⟨0x150800 + 0x40 * a, 31, 1, 0⟩
def F.IOP_TX_CFG_IPV6 (a : Nat) : Fld := ⟨0x150800 + 0x40 * a, 30, 1, 0⟩
def F.IOP_TX_CFG_FORMAT (a : Nat) : Fld := ⟨0x150800 + 0x40 * a, 29, 1, 0⟩
def F.IOP_TX_CFG_PTIME (a : Nat) : Fld := ⟨0x150800 + 0x40 * a, 24, 2, 2⟩
def F.IOP_TX_CFG_PT (a : Nat) : Fld := ⟨0x150800 + 0x40 * a, 16, 8, 96⟩
def F.IOP_TX_CFG_CHANNELS (a : Nat) : Fld := ⟨0x150800 + 0x40 * a, 8, 4, 2⟩
def F.IOP_TX_CFG_CH_BASE (a : Nat) : Fld := ⟨0x150800 + 0x40 * a, 0, 6, 0⟩
def F.IOP_TX_ADDR_ADDR (a b : Nat) : Fld := ⟨0x150804 + 0x40 * a + 0x4 * b, 0, 32, 0⟩
def F.IOP_TX_PORTS_SRC (a : Nat) : Fld := ⟨0x150814 + 0x40 * a, 16, 16, 5004⟩
def F.IOP_TX_PORTS_DST (a : Nat) : Fld := ⟨0x150814 + 0x40 * a, 0, 16, 5004⟩
def F.IOP_TX_OFFSET_OFFSET (a : Nat) : Fld := ⟨0x150818 + 0x40 * a, 0, 32, 0⟩
def F.IOP_TX_SSRC_SSRC (a : Nat) : Fld := ⟨0x15081c + 0x40 * a, 0, 32, 0⟩
def F.IOP_TX_IP_PCP (a : Nat) : Fld := ⟨0x150820 + 0x40 * a, 28, 3, 5⟩
def F.IOP_TX_IP_VID (a : Nat) : Fld := ⟨0x150820 + 0x40 * a, 16, 12, 0⟩
def F.IOP_TX_IP_TTL (a : Nat) : Fld := ⟨0x150820 + 0x40 * a, 8, 8, 16⟩
def F.IOP_TX_IP_DSCP (a : Nat) : Fld := ⟨0x150820 + 0x40 * a, 0, 6, 34⟩
def F.IOP_TX_STATUS_UNRESOLVED (a : Nat) : Fld := ⟨0x150824 + 0x40 * a, 1, 1, 0⟩
def F.IOP_TX_STATUS_SENDING (a : Nat) : Fld := ⟨0x150824 + 0x40 * a, 0, 1, 0⟩
def F.IOP_TX_CNT_COUNT (a : Nat) : Fld := ⟨0x150828 + 0x40 * a, 0, 32, 0⟩
def F.IOP_IRQ_SLIP : Fld := ⟨0x151000, 2, 1, 0⟩
def F.IOP_IRQ_CFG_ERR : Fld := ⟨0x151000, 1, 1, 0⟩
def F.IOP_IRQ_RX_LOSS : Fld := ⟨0x151000, 0, 1, 0⟩
def F.IOP_IRQ_EN_EN : Fld := ⟨0x151004, 0, 3, 0⟩

def row_IOP_RX_CFG (a : Nat) : RegRow :=
  ⟨.iop, (some 14), .always, false, [⟨F.IOP_RX_CFG_EN a, .rw, .soft, .any, false, none⟩,
   ⟨F.IOP_RX_CFG_IPV6 a, .rw, .soft, .any, false, none⟩,
   ⟨F.IOP_RX_CFG_FORMAT a, .rw, .soft, .any, false, none⟩,
   ⟨F.IOP_RX_CFG_PT a, .rw, .soft, (.range 96 127), false, none⟩,
   ⟨F.IOP_RX_CFG_CHANNELS a, .rw, .soft, (.range 1 8), false, none⟩,
   ⟨F.IOP_RX_CFG_CH_BASE a, .rw, .soft, .any, false, none⟩]⟩
def row_IOP_RX_ADDR (a b : Nat) : RegRow :=
  ⟨.iop, (some 14), .always, false, [⟨F.IOP_RX_ADDR_ADDR a b, .rw, .soft, .any, false, none⟩]⟩
def row_IOP_RX_PORT (a : Nat) : RegRow :=
  ⟨.iop, (some 14), .always, false, [⟨F.IOP_RX_PORT_UDP a, .rw, .soft, .any, false, none⟩]⟩
def row_IOP_RX_OFFSET (a : Nat) : RegRow :=
  ⟨.iop, (some 14), .always, false, [⟨F.IOP_RX_OFFSET_RTP_OFFSET a, .rw, .soft, .any, false, none⟩]⟩
def row_IOP_RX_LATENCY (a : Nat) : RegRow :=
  ⟨.iop, (some 14), .always, false, [⟨F.IOP_RX_LATENCY_LATENCY a, .rw, .soft, (.range 12 960), false, none⟩]⟩
def row_IOP_RX_STATUS (a : Nat) : RegRow :=
  ⟨.iop, none, .always, false, [⟨F.IOP_RX_STATUS_RATIO a, .ro, .soft, .any, false, none⟩,
   ⟨F.IOP_RX_STATUS_CLAMPED a, .ro, .soft, .any, false, none⟩,
   ⟨F.IOP_RX_STATUS_SSRC_LOCKED a, .ro, .soft, .any, false, none⟩,
   ⟨F.IOP_RX_STATUS_ACTIVE a, .ro, .soft, .any, false, none⟩]⟩
def row_IOP_RX_SSRC (a : Nat) : RegRow :=
  ⟨.iop, none, .always, false, [⟨F.IOP_RX_SSRC_SSRC a, .ro, .soft, .any, false, none⟩]⟩
def row_IOP_RX_CNT (a b : Nat) : RegRow :=
  ⟨.iop, none, .always, false, [⟨F.IOP_RX_CNT_COUNT a b, .ro, .soft, .any, false, none⟩]⟩
def row_IOP_TX_CFG (a : Nat) : RegRow :=
  ⟨.iop, (some 14), .always, false, [⟨F.IOP_TX_CFG_EN a, .rw, .soft, .any, false, none⟩,
   ⟨F.IOP_TX_CFG_IPV6 a, .rw, .soft, .any, false, none⟩,
   ⟨F.IOP_TX_CFG_FORMAT a, .rw, .soft, .any, false, none⟩,
   ⟨F.IOP_TX_CFG_PTIME a, .rw, .soft, (.range 0 2), false, none⟩,
   ⟨F.IOP_TX_CFG_PT a, .rw, .soft, (.range 96 127), false, none⟩,
   ⟨F.IOP_TX_CFG_CHANNELS a, .rw, .soft, (.range 1 8), false, none⟩,
   ⟨F.IOP_TX_CFG_CH_BASE a, .rw, .soft, .any, false, none⟩]⟩
def row_IOP_TX_ADDR (a b : Nat) : RegRow :=
  ⟨.iop, (some 14), .always, false, [⟨F.IOP_TX_ADDR_ADDR a b, .rw, .soft, .any, false, none⟩]⟩
def row_IOP_TX_PORTS (a : Nat) : RegRow :=
  ⟨.iop, (some 14), .always, false, [⟨F.IOP_TX_PORTS_SRC a, .rw, .soft, .any, false, none⟩,
   ⟨F.IOP_TX_PORTS_DST a, .rw, .soft, .any, false, none⟩]⟩
def row_IOP_TX_OFFSET (a : Nat) : RegRow :=
  ⟨.iop, (some 14), .always, false, [⟨F.IOP_TX_OFFSET_OFFSET a, .rw, .soft, .any, false, none⟩]⟩
def row_IOP_TX_SSRC (a : Nat) : RegRow :=
  ⟨.iop, (some 14), .always, false, [⟨F.IOP_TX_SSRC_SSRC a, .rw, .soft, .any, false, none⟩]⟩
def row_IOP_TX_IP (a : Nat) : RegRow :=
  ⟨.iop, (some 14), .always, false, [⟨F.IOP_TX_IP_PCP a, .rw, .soft, .any, false, none⟩,
   ⟨F.IOP_TX_IP_VID a, .rw, .soft, .any, false, none⟩,
   ⟨F.IOP_TX_IP_TTL a, .rw, .soft, .any, false, none⟩,
   ⟨F.IOP_TX_IP_DSCP a, .rw, .soft, .any, false, none⟩]⟩
def row_IOP_TX_STATUS (a : Nat) : RegRow :=
  ⟨.iop, none, .always, false, [⟨F.IOP_TX_STATUS_UNRESOLVED a, .ro, .soft, .any, false, none⟩,
   ⟨F.IOP_TX_STATUS_SENDING a, .ro, .soft, .any, false, none⟩]⟩
def row_IOP_TX_CNT (a : Nat) : RegRow :=
  ⟨.iop, none, .always, false, [⟨F.IOP_TX_CNT_COUNT a, .ro, .soft, .any, false, none⟩]⟩
def row_IOP_IRQ : RegRow :=
  ⟨.iop, (some 14), .always, false, [⟨F.IOP_IRQ_SLIP, .w1c, .soft, .any, false, none⟩,
   ⟨F.IOP_IRQ_CFG_ERR, .w1c, .soft, .any, false, none⟩,
   ⟨F.IOP_IRQ_RX_LOSS, .w1c, .soft, .any, false, none⟩]⟩
def row_IOP_IRQ_EN : RegRow :=
  ⟨.iop, (some 14), .always, false, [⟨F.IOP_IRQ_EN_EN, .rw, .soft, .any, false, none⟩]⟩

/-- The address patterns of block IOP. -/
def rows_IOP : List RowPat :=
  [⟨0x150000, 32, 0x40, 1, 0x4, 1, 0x4, fun a _ _ => row_IOP_RX_CFG a⟩,
   ⟨0x150004, 32, 0x40, 4, 0x4, 1, 0x4, fun a b _ => row_IOP_RX_ADDR a b⟩,
   ⟨0x150014, 32, 0x40, 1, 0x4, 1, 0x4, fun a _ _ => row_IOP_RX_PORT a⟩,
   ⟨0x150018, 32, 0x40, 1, 0x4, 1, 0x4, fun a _ _ => row_IOP_RX_OFFSET a⟩,
   ⟨0x15001c, 32, 0x40, 1, 0x4, 1, 0x4, fun a _ _ => row_IOP_RX_LATENCY a⟩,
   ⟨0x150020, 32, 0x40, 1, 0x4, 1, 0x4, fun a _ _ => row_IOP_RX_STATUS a⟩,
   ⟨0x150024, 32, 0x40, 1, 0x4, 1, 0x4, fun a _ _ => row_IOP_RX_SSRC a⟩,
   ⟨0x150028, 32, 0x40, 5, 0x4, 1, 0x4, fun a b _ => row_IOP_RX_CNT a b⟩,
   ⟨0x150800, 32, 0x40, 1, 0x4, 1, 0x4, fun a _ _ => row_IOP_TX_CFG a⟩,
   ⟨0x150804, 32, 0x40, 4, 0x4, 1, 0x4, fun a b _ => row_IOP_TX_ADDR a b⟩,
   ⟨0x150814, 32, 0x40, 1, 0x4, 1, 0x4, fun a _ _ => row_IOP_TX_PORTS a⟩,
   ⟨0x150818, 32, 0x40, 1, 0x4, 1, 0x4, fun a _ _ => row_IOP_TX_OFFSET a⟩,
   ⟨0x15081c, 32, 0x40, 1, 0x4, 1, 0x4, fun a _ _ => row_IOP_TX_SSRC a⟩,
   ⟨0x150820, 32, 0x40, 1, 0x4, 1, 0x4, fun a _ _ => row_IOP_TX_IP a⟩,
   ⟨0x150824, 32, 0x40, 1, 0x4, 1, 0x4, fun a _ _ => row_IOP_TX_STATUS a⟩,
   ⟨0x150828, 32, 0x40, 1, 0x4, 1, 0x4, fun a _ _ => row_IOP_TX_CNT a⟩,
   ⟨0x151000, 1, 0x4, 1, 0x4, 1, 0x4, fun _ _ _ => row_IOP_IRQ⟩,
   ⟨0x151004, 1, 0x4, 1, 0x4, 1, 0x4, fun _ _ _ => row_IOP_IRQ_EN⟩]

/-! ### PTP (chapter 12) -/

def F.PTP_CFG_EN : Fld := ⟨0x160000, 31, 1, 0⟩
def F.PTP_CFG_DOMAIN : Fld := ⟨0x160000, 16, 7, 0⟩
def F.PTP_CFG_TRANSPORT : Fld := ⟨0x160000, 8, 2, 1⟩
def F.PTP_CFG_PROFILE : Fld := ⟨0x160000, 4, 1, 1⟩
def F.PTP_CFG_DELAY : Fld := ⟨0x160000, 3, 1, 0⟩
def F.PTP_CFG_ONE_STEP : Fld := ⟨0x160000, 2, 1, 0⟩
def F.PTP_CFG_GM_CAPABLE : Fld := ⟨0x160000, 1, 1, 0⟩
def F.PTP_DS_PRIORITY1 : Fld := ⟨0x160004, 16, 8, 128⟩
def F.PTP_DS_PRIORITY2 : Fld := ⟨0x160004, 8, 8, 128⟩
def F.PTP_DS_CLASS : Fld := ⟨0x160004, 0, 8, 248⟩
def F.PTP_STATUS_STEPPED : Fld := ⟨0x160008, 6, 1, 0⟩
def F.PTP_STATUS_GM_SELF : Fld := ⟨0x160008, 5, 1, 0⟩
def F.PTP_STATUS_LOCKED : Fld := ⟨0x160008, 4, 1, 0⟩
def F.PTP_STATUS_PORT_STATE : Fld := ⟨0x160008, 0, 4, 0⟩
def F.PTP_OFFSET_NS : Fld := ⟨0x16000c, 0, 32, 0⟩
def F.PTP_PATH_NS : Fld := ⟨0x160010, 0, 32, 0⟩
def F.PTP_CAPTURE_GO : Fld := ⟨0x160020, 0, 1, 0⟩
def F.PTP_TIME_SEC_HI_SEQ : Fld := ⟨0x160024, 24, 8, 0⟩
def F.PTP_TIME_SEC_HI_SEC_HI : Fld := ⟨0x160024, 0, 16, 0⟩
def F.PTP_TIME_SEC_LO_SEC : Fld := ⟨0x160028, 0, 32, 0⟩
def F.PTP_TIME_NS_NS : Fld := ⟨0x16002c, 0, 32, 0⟩
def F.PTP_PORT_EGRESS (a : Nat) : Fld := ⟨0x160040 + 0x4 * a, 16, 16, 0⟩
def F.PTP_PORT_INGRESS (a : Nat) : Fld := ⟨0x160040 + 0x4 * a, 0, 16, 0⟩
def F.PTP_MEDIA_SLIPS : Fld := ⟨0x160050, 16, 16, 0⟩
def F.PTP_MEDIA_ALIGNED : Fld := ⟨0x160050, 2, 1, 0⟩
def F.PTP_MEDIA_TRACEABLE : Fld := ⟨0x160050, 1, 1, 0⟩
def F.PTP_MEDIA_SOURCE : Fld := ⟨0x160050, 0, 1, 0⟩
def F.PTP_MEDIA_O_O : Fld := ⟨0x160054, 0, 32, 0⟩

def row_PTP_CFG : RegRow :=
  ⟨.iop, (some 15), .always, false, [⟨F.PTP_CFG_EN, .rw, .soft, .any, false, none⟩,
   ⟨F.PTP_CFG_DOMAIN, .rw, .soft, .any, false, none⟩,
   ⟨F.PTP_CFG_TRANSPORT, .rw, .soft, (.range 0 2), false, none⟩,
   ⟨F.PTP_CFG_PROFILE, .rw, .soft, .any, false, none⟩,
   ⟨F.PTP_CFG_DELAY, .rw, .soft, .any, false, none⟩,
   ⟨F.PTP_CFG_ONE_STEP, .rw, .soft, .any, false, none⟩,
   ⟨F.PTP_CFG_GM_CAPABLE, .rw, .soft, .any, false, none⟩]⟩
def row_PTP_DS : RegRow :=
  ⟨.iop, (some 15), .always, false, [⟨F.PTP_DS_PRIORITY1, .rw, .soft, .any, false, none⟩,
   ⟨F.PTP_DS_PRIORITY2, .rw, .soft, .any, false, none⟩,
   ⟨F.PTP_DS_CLASS, .rw, .soft, .any, false, none⟩]⟩
def row_PTP_STATUS : RegRow :=
  ⟨.iop, (some 15), .always, false, [⟨F.PTP_STATUS_STEPPED, .w1c, .soft, .any, false, none⟩,
   ⟨F.PTP_STATUS_GM_SELF, .ro, .soft, .any, false, none⟩,
   ⟨F.PTP_STATUS_LOCKED, .ro, .soft, .any, false, none⟩,
   ⟨F.PTP_STATUS_PORT_STATE, .ro, .soft, .any, false, none⟩]⟩
def row_PTP_OFFSET : RegRow :=
  ⟨.iop, none, .always, false, [⟨F.PTP_OFFSET_NS, .ro, .soft, .any, false, none⟩]⟩
def row_PTP_PATH : RegRow :=
  ⟨.iop, none, .always, false, [⟨F.PTP_PATH_NS, .ro, .soft, .any, false, none⟩]⟩
def row_PTP_CAPTURE : RegRow :=
  ⟨.iop, none, .always, false, [⟨F.PTP_CAPTURE_GO, .wo, .soft, .any, false, none⟩]⟩
def row_PTP_TIME_SEC_HI : RegRow :=
  ⟨.iop, none, .always, false, [⟨F.PTP_TIME_SEC_HI_SEQ, .ro, .soft, .any, false, none⟩,
   ⟨F.PTP_TIME_SEC_HI_SEC_HI, .ro, .soft, .any, false, none⟩]⟩
def row_PTP_TIME_SEC_LO : RegRow :=
  ⟨.iop, none, .always, false, [⟨F.PTP_TIME_SEC_LO_SEC, .ro, .soft, .any, false, none⟩]⟩
def row_PTP_TIME_NS : RegRow :=
  ⟨.iop, none, .always, false, [⟨F.PTP_TIME_NS_NS, .ro, .soft, .any, false, none⟩]⟩
def row_PTP_PORT (a : Nat) : RegRow :=
  ⟨.iop, (some 15), .always, false, [⟨F.PTP_PORT_EGRESS a, .rw, .soft, .any, false, none⟩,
   ⟨F.PTP_PORT_INGRESS a, .rw, .soft, .any, false, none⟩]⟩
def row_PTP_MEDIA : RegRow :=
  ⟨.iop, (some 15), .always, false, [⟨F.PTP_MEDIA_SLIPS, .ro, .soft, .any, false, none⟩,
   ⟨F.PTP_MEDIA_ALIGNED, .ro, .soft, .any, false, none⟩,
   ⟨F.PTP_MEDIA_TRACEABLE, .ro, .soft, .any, false, none⟩,
   ⟨F.PTP_MEDIA_SOURCE, .rw, .soft, .any, false, none⟩]⟩
def row_PTP_MEDIA_O : RegRow :=
  ⟨.iop, none, .always, false, [⟨F.PTP_MEDIA_O_O, .ro, .soft, .any, false, none⟩]⟩

/-- The address patterns of block PTP. -/
def rows_PTP : List RowPat :=
  [⟨0x160000, 1, 0x4, 1, 0x4, 1, 0x4, fun _ _ _ => row_PTP_CFG⟩,
   ⟨0x160004, 1, 0x4, 1, 0x4, 1, 0x4, fun _ _ _ => row_PTP_DS⟩,
   ⟨0x160008, 1, 0x4, 1, 0x4, 1, 0x4, fun _ _ _ => row_PTP_STATUS⟩,
   ⟨0x16000c, 1, 0x4, 1, 0x4, 1, 0x4, fun _ _ _ => row_PTP_OFFSET⟩,
   ⟨0x160010, 1, 0x4, 1, 0x4, 1, 0x4, fun _ _ _ => row_PTP_PATH⟩,
   ⟨0x160020, 1, 0x4, 1, 0x4, 1, 0x4, fun _ _ _ => row_PTP_CAPTURE⟩,
   ⟨0x160024, 1, 0x4, 1, 0x4, 1, 0x4, fun _ _ _ => row_PTP_TIME_SEC_HI⟩,
   ⟨0x160028, 1, 0x4, 1, 0x4, 1, 0x4, fun _ _ _ => row_PTP_TIME_SEC_LO⟩,
   ⟨0x16002c, 1, 0x4, 1, 0x4, 1, 0x4, fun _ _ _ => row_PTP_TIME_NS⟩,
   ⟨0x160040, 3, 0x4, 1, 0x4, 1, 0x4, fun a _ _ => row_PTP_PORT a⟩,
   ⟨0x160050, 1, 0x4, 1, 0x4, 1, 0x4, fun _ _ _ => row_PTP_MEDIA⟩,
   ⟨0x160054, 1, 0x4, 1, 0x4, 1, 0x4, fun _ _ _ => row_PTP_MEDIA_O⟩]

end Sys2Proof.Machine
end

