-- ==== Sys2Proof/Machine/RegsSys.lean ====
section
/-! DEFINITION. The registers of the blocks SYS, BOOT, PWR, THERM, CLK: one `Fld` for each field the spec's register
tables give, one row function for each register (or word of a multi-word register), and the blocks' address
patterns (R819, R822). Every field's reset value is the one its table states, 0 where the table states none
(log entry 2). -/

namespace Sys2Proof.Machine

/-! ### SYS (chapters 01, 15 and 19) -/

def F.SYS_PERSONA_PORT_B_ROLE : Fld := ⟨0x20, 26, 2, 0⟩
def F.SYS_PERSONA_PORT_A_ROLE : Fld := ⟨0x20, 24, 2, 0⟩
def F.SYS_PERSONA_OVERRIDDEN : Fld := ⟨0x20, 20, 1, 0⟩
def F.SYS_PERSONA_HALTER : Fld := ⟨0x20, 19, 1, 0⟩
def F.SYS_PERSONA_HOST_LOST : Fld := ⟨0x20, 18, 1, 0⟩
def F.SYS_PERSONA_HOST_MODE : Fld := ⟨0x20, 16, 1, 0⟩
def F.SYS_PERSONA_CAP_HEADSET : Fld := ⟨0x20, 13, 1, 0⟩
def F.SYS_PERSONA_CAP_SPEAKER : Fld := ⟨0x20, 12, 1, 0⟩
def F.SYS_PERSONA_CAP_PSE : Fld := ⟨0x20, 11, 1, 0⟩
def F.SYS_PERSONA_CAP_PD : Fld := ⟨0x20, 10, 1, 0⟩
def F.SYS_PERSONA_CAP_PL_SOURCE : Fld := ⟨0x20, 9, 1, 0⟩
def F.SYS_PERSONA_CAP_PL_SINK : Fld := ⟨0x20, 8, 1, 0⟩
def F.SYS_PERSONA_EFFECTIVE : Fld := ⟨0x20, 2, 2, 0⟩
def F.SYS_PERSONA_STRAP : Fld := ⟨0x20, 0, 2, 0⟩
def F.SYS_HOST_WDOG_TIMEOUT : Fld := ⟨0x24, 0, 16, 2000⟩
def F.SYS_HOST_ALIVE_ALIVE : Fld := ⟨0x28, 0, 32, 0⟩
def F.SYS_RESET_KEY : Fld := ⟨0x10, 16, 16, 0⟩
def F.SYS_RESET_RECOVER : Fld := ⟨0x10, 1, 1, 0⟩
def F.SYS_RESET_SOFT : Fld := ⟨0x10, 0, 1, 0⟩
def F.SYS_RESET_CAUSE_WDT_COUNT : Fld := ⟨0x14, 8, 8, 0⟩
def F.SYS_RESET_CAUSE_LAST : Fld := ⟨0x14, 0, 3, 0⟩
def F.SYS_STRAPS_APPROVED : Fld := ⟨0x18, 7, 1, 0⟩
def F.SYS_STRAPS_HOSTIF : Fld := ⟨0x18, 6, 1, 0⟩
def F.SYS_STRAPS_BOOT_SRC : Fld := ⟨0x18, 4, 2, 0⟩
def F.SYS_STRAPS_SUPPLY_MODE : Fld := ⟨0x18, 2, 1, 0⟩
def F.SYS_STRAPS_PERSONA : Fld := ⟨0x18, 0, 2, 0⟩
def F.SYS_HOST_API_MISMATCH : Fld := ⟨0x1c, 17, 1, 0⟩
def F.SYS_HOST_API_DECLARED : Fld := ⟨0x1c, 16, 1, 0⟩
def F.SYS_HOST_API_LEVEL : Fld := ⟨0x1c, 0, 16, 0⟩
def F.SYS_ID_PART : Fld := ⟨0x0, 16, 16, 0x4816⟩
def F.SYS_ID_STEP : Fld := ⟨0x0, 8, 8, 0xB0⟩
def F.SYS_SERIAL_SERIAL : Fld := ⟨0x4, 0, 32, 0⟩
def F.SYS_MAC_HI_BASE_0_1 : Fld := ⟨0x8, 0, 16, 0⟩
def F.SYS_MAC_LO_BASE_2_5 : Fld := ⟨0xc, 0, 32, 0⟩
def F.SYS_ACCESS_ERR_COUNT : Fld := ⟨0x30, 24, 8, 0⟩
def F.SYS_ACCESS_ERR_TIMEOUT : Fld := ⟨0x30, 11, 1, 0⟩
def F.SYS_ACCESS_ERR_BAD_ADDR : Fld := ⟨0x30, 10, 1, 0⟩
def F.SYS_ACCESS_ERR_NOT_PRESENT : Fld := ⟨0x30, 9, 1, 0⟩
def F.SYS_ACCESS_ERR_OFF : Fld := ⟨0x30, 8, 1, 0⟩
def F.SYS_ACCESS_ERR_DOMAIN : Fld := ⟨0x30, 0, 6, 0⟩
def F.SYS_ACCESS_ADDR_ADDR : Fld := ⟨0x34, 0, 32, 0⟩

def row_SYS_PERSONA : RegRow :=
  ⟨.aon, none, .always, false, [⟨F.SYS_PERSONA_PORT_B_ROLE, .ro, .pin, .any, false, none⟩,
   ⟨F.SYS_PERSONA_PORT_A_ROLE, .ro, .pin, .any, false, none⟩,
   ⟨F.SYS_PERSONA_OVERRIDDEN, .ro, .pin, .any, false, none⟩,
   ⟨F.SYS_PERSONA_HALTER, .ro, .pin, .any, false, none⟩,
   ⟨F.SYS_PERSONA_HOST_LOST, .ro, .pin, .any, false, none⟩,
   ⟨F.SYS_PERSONA_HOST_MODE, .ro, .pin, .any, false, none⟩,
   ⟨F.SYS_PERSONA_CAP_HEADSET, .ro, .pin, .any, false, none⟩,
   ⟨F.SYS_PERSONA_CAP_SPEAKER, .ro, .pin, .any, false, none⟩,
   ⟨F.SYS_PERSONA_CAP_PSE, .ro, .pin, .any, false, none⟩,
   ⟨F.SYS_PERSONA_CAP_PD, .ro, .pin, .any, false, none⟩,
   ⟨F.SYS_PERSONA_CAP_PL_SOURCE, .ro, .pin, .any, false, none⟩,
   ⟨F.SYS_PERSONA_CAP_PL_SINK, .ro, .pin, .any, false, none⟩,
   ⟨F.SYS_PERSONA_EFFECTIVE, .ro, .pin, .any, false, none⟩,
   ⟨F.SYS_PERSONA_STRAP, .ro, .pin, .any, false, none⟩]⟩
def row_SYS_HOST_WDOG : RegRow :=
  ⟨.aon, (some 0), .always, false, [⟨F.SYS_HOST_WDOG_TIMEOUT, .rw, .soft, .any, false, none⟩]⟩
def row_SYS_HOST_ALIVE : RegRow :=
  ⟨.hostIf, none, .always, false, [⟨F.SYS_HOST_ALIVE_ALIVE, .wo, .soft, .any, false, none⟩]⟩
def row_SYS_RESET : RegRow :=
  ⟨.aon, none, .always, false, [⟨F.SYS_RESET_KEY, .wo, .soft, .any, false, none⟩,
   ⟨F.SYS_RESET_RECOVER, .wo, .soft, .any, false, none⟩,
   ⟨F.SYS_RESET_SOFT, .wo, .soft, .any, false, none⟩]⟩
def row_SYS_RESET_CAUSE : RegRow :=
  ⟨.aon, none, .always, false, [⟨F.SYS_RESET_CAUSE_WDT_COUNT, .ro, .pin, .any, false, none⟩,
   ⟨F.SYS_RESET_CAUSE_LAST, .ro, .por, .any, false, none⟩]⟩
def row_SYS_STRAPS : RegRow :=
  ⟨.aon, none, .always, false, [⟨F.SYS_STRAPS_APPROVED, .ro, .pin, .any, false, none⟩,
   ⟨F.SYS_STRAPS_HOSTIF, .ro, .pin, .any, false, none⟩,
   ⟨F.SYS_STRAPS_BOOT_SRC, .ro, .pin, .any, false, none⟩,
   ⟨F.SYS_STRAPS_SUPPLY_MODE, .ro, .por, .any, false, none⟩,
   ⟨F.SYS_STRAPS_PERSONA, .ro, .pin, .any, false, none⟩]⟩
def row_SYS_HOST_API : RegRow :=
  ⟨.hostIf, none, .always, true, [⟨F.SYS_HOST_API_MISMATCH, .ro, .soft, .any, false, none⟩,
   ⟨F.SYS_HOST_API_DECLARED, .ro, .soft, .any, false, none⟩,
   ⟨F.SYS_HOST_API_LEVEL, .rw, .soft, .any, false, none⟩]⟩
def row_SYS_ID : RegRow :=
  ⟨.aon, none, .always, false, [⟨F.SYS_ID_PART, .ro, .por, .any, false, none⟩,
   ⟨F.SYS_ID_STEP, .ro, .por, .any, false, none⟩]⟩
def row_SYS_SERIAL : RegRow :=
  ⟨.aon, none, .always, false, [⟨F.SYS_SERIAL_SERIAL, .ro, .por, .any, false, none⟩]⟩
def row_SYS_MAC_HI : RegRow :=
  ⟨.aon, none, .always, false, [⟨F.SYS_MAC_HI_BASE_0_1, .ro, .por, .any, false, none⟩]⟩
def row_SYS_MAC_LO : RegRow :=
  ⟨.aon, none, .always, false, [⟨F.SYS_MAC_LO_BASE_2_5, .ro, .por, .any, false, none⟩]⟩
def row_SYS_ACCESS_ERR : RegRow :=
  ⟨.aon, none, .always, false, [⟨F.SYS_ACCESS_ERR_COUNT, .ro, .soft, .any, false, none⟩,
   ⟨F.SYS_ACCESS_ERR_TIMEOUT, .w1c, .soft, .any, false, none⟩,
   ⟨F.SYS_ACCESS_ERR_BAD_ADDR, .w1c, .soft, .any, false, none⟩,
   ⟨F.SYS_ACCESS_ERR_NOT_PRESENT, .w1c, .soft, .any, false, none⟩,
   ⟨F.SYS_ACCESS_ERR_OFF, .w1c, .soft, .any, false, none⟩,
   ⟨F.SYS_ACCESS_ERR_DOMAIN, .ro, .soft, .any, false, none⟩]⟩
def row_SYS_ACCESS_ADDR : RegRow :=
  ⟨.aon, none, .always, false, [⟨F.SYS_ACCESS_ADDR_ADDR, .ro, .soft, .any, false, none⟩]⟩

/-- The address patterns of block SYS. -/
def rows_SYS : List RowPat :=
  [⟨0x20, 1, 0x4, 1, 0x4, 1, 0x4, fun _ _ _ => row_SYS_PERSONA⟩,
   ⟨0x24, 1, 0x4, 1, 0x4, 1, 0x4, fun _ _ _ => row_SYS_HOST_WDOG⟩,
   ⟨0x28, 1, 0x4, 1, 0x4, 1, 0x4, fun _ _ _ => row_SYS_HOST_ALIVE⟩,
   ⟨0x10, 1, 0x4, 1, 0x4, 1, 0x4, fun _ _ _ => row_SYS_RESET⟩,
   ⟨0x14, 1, 0x4, 1, 0x4, 1, 0x4, fun _ _ _ => row_SYS_RESET_CAUSE⟩,
   ⟨0x18, 1, 0x4, 1, 0x4, 1, 0x4, fun _ _ _ => row_SYS_STRAPS⟩,
   ⟨0x1c, 1, 0x4, 1, 0x4, 1, 0x4, fun _ _ _ => row_SYS_HOST_API⟩,
   ⟨0x0, 1, 0x4, 1, 0x4, 1, 0x4, fun _ _ _ => row_SYS_ID⟩,
   ⟨0x4, 1, 0x4, 1, 0x4, 1, 0x4, fun _ _ _ => row_SYS_SERIAL⟩,
   ⟨0x8, 1, 0x4, 1, 0x4, 1, 0x4, fun _ _ _ => row_SYS_MAC_HI⟩,
   ⟨0xc, 1, 0x4, 1, 0x4, 1, 0x4, fun _ _ _ => row_SYS_MAC_LO⟩,
   ⟨0x30, 1, 0x4, 1, 0x4, 1, 0x4, fun _ _ _ => row_SYS_ACCESS_ERR⟩,
   ⟨0x34, 1, 0x4, 1, 0x4, 1, 0x4, fun _ _ _ => row_SYS_ACCESS_ADDR⟩]

/-! ### BOOT (chapter 15) -/

def F.BOOT_STATUS_LOCKED : Fld := ⟨0x10000, 31, 1, 0⟩
def F.BOOT_STATUS_UNVETTED : Fld := ⟨0x10000, 30, 1, 0⟩
def F.BOOT_STATUS_FALLBACK : Fld := ⟨0x10000, 29, 1, 0⟩
def F.BOOT_STATUS_TRIAL : Fld := ⟨0x10000, 28, 1, 0⟩
def F.BOOT_STATUS_HALTER_CAUSE : Fld := ⟨0x10000, 24, 4, 0⟩
def F.BOOT_STATUS_PHASE : Fld := ⟨0x10000, 16, 4, 0⟩
def F.BOOT_STATUS_TACK_SLOT : Fld := ⟨0x10000, 9, 1, 0⟩
def F.BOOT_STATUS_FW_SLOT : Fld := ⟨0x10000, 8, 1, 0⟩
def F.BOOT_STATUS_SRC : Fld := ⟨0x10000, 4, 2, 0⟩
def F.BOOT_SLOTS_TACK_ACTIVE : Fld := ⟨0x10004, 17, 1, 0⟩
def F.BOOT_SLOTS_FW_ACTIVE : Fld := ⟨0x10004, 16, 1, 0⟩
def F.BOOT_SLOTS_MODEL_0 : Fld := ⟨0x10004, 8, 2, 0⟩
def F.BOOT_SLOTS_MODEL_1 : Fld := ⟨0x10004, 10, 2, 0⟩
def F.BOOT_SLOTS_MODEL_2 : Fld := ⟨0x10004, 12, 2, 0⟩
def F.BOOT_SLOTS_MODEL_3 : Fld := ⟨0x10004, 14, 2, 0⟩
def F.BOOT_SLOTS_TACK_1 : Fld := ⟨0x10004, 6, 2, 0⟩
def F.BOOT_SLOTS_TACK_0 : Fld := ⟨0x10004, 4, 2, 0⟩
def F.BOOT_SLOTS_FW_B : Fld := ⟨0x10004, 2, 2, 0⟩
def F.BOOT_SLOTS_FW_A : Fld := ⟨0x10004, 0, 2, 0⟩
def F.BOOT_FW_VER_FW_VERSION : Fld := ⟨0x10008, 0, 32, 0⟩
def F.BOOT_CHARTER_STEWARD : Fld := ⟨0x1000c, 16, 16, 0⟩
def F.BOOT_CHARTER_APP : Fld := ⟨0x1000c, 0, 16, 0⟩
def F.BOOT_API_MAX : Fld := ⟨0x10010, 16, 16, 0⟩
def F.BOOT_API_MIN : Fld := ⟨0x10010, 0, 16, 0⟩
def F.BOOT_SCHEMA_READS : Fld := ⟨0x10014, 16, 16, 0⟩
def F.BOOT_SCHEMA_RUNNING : Fld := ⟨0x10014, 0, 16, 0⟩
def F.BOOT_COMMIT_KEY : Fld := ⟨0x10020, 16, 16, 0⟩
def F.BOOT_COMMIT_ACTION : Fld := ⟨0x10020, 6, 1, 0⟩
def F.BOOT_COMMIT_TARGET : Fld := ⟨0x10020, 4, 2, 0⟩
def F.BOOT_COMMIT_RESTART : Fld := ⟨0x10020, 1, 1, 0⟩
def F.BOOT_COMMIT_GO : Fld := ⟨0x10020, 0, 1, 0⟩
def F.BOOT_CONFIRM_CONFIRM : Fld := ⟨0x10024, 0, 1, 0⟩
def F.BOOT_TIME_AUDIO_MS : Fld := ⟨0x10028, 0, 16, 0⟩
def F.BOOT_IRQ_API_MISMATCH : Fld := ⟨0x10030, 5, 1, 0⟩
def F.BOOT_IRQ_COMMIT_REFUSED : Fld := ⟨0x10030, 4, 1, 0⟩
def F.BOOT_IRQ_COMMIT_DONE : Fld := ⟨0x10030, 3, 1, 0⟩
def F.BOOT_IRQ_TRIAL_FAILED : Fld := ⟨0x10030, 2, 1, 0⟩
def F.BOOT_IRQ_UNVETTED : Fld := ⟨0x10030, 1, 1, 0⟩
def F.BOOT_IRQ_FALLBACK : Fld := ⟨0x10030, 0, 1, 0⟩
def F.BOOT_IRQ_EN_EN : Fld := ⟨0x10034, 0, 6, 0⟩

def row_BOOT_STATUS : RegRow :=
  ⟨.steward, none, .always, false, [⟨F.BOOT_STATUS_LOCKED, .ro, .wdt, .any, false, none⟩,
   ⟨F.BOOT_STATUS_UNVETTED, .ro, .wdt, .any, false, none⟩,
   ⟨F.BOOT_STATUS_FALLBACK, .ro, .wdt, .any, false, none⟩,
   ⟨F.BOOT_STATUS_TRIAL, .ro, .wdt, .any, false, none⟩,
   ⟨F.BOOT_STATUS_HALTER_CAUSE, .ro, .wdt, .any, false, none⟩,
   ⟨F.BOOT_STATUS_PHASE, .ro, .wdt, .any, false, none⟩,
   ⟨F.BOOT_STATUS_TACK_SLOT, .ro, .wdt, .any, false, none⟩,
   ⟨F.BOOT_STATUS_FW_SLOT, .ro, .wdt, .any, false, none⟩,
   ⟨F.BOOT_STATUS_SRC, .ro, .wdt, .any, false, none⟩]⟩
def row_BOOT_SLOTS : RegRow :=
  ⟨.steward, none, .always, false, [⟨F.BOOT_SLOTS_TACK_ACTIVE, .ro, .wdt, .any, false, none⟩,
   ⟨F.BOOT_SLOTS_FW_ACTIVE, .ro, .wdt, .any, false, none⟩,
   ⟨F.BOOT_SLOTS_MODEL_0, .ro, .wdt, .any, false, none⟩,
   ⟨F.BOOT_SLOTS_MODEL_1, .ro, .wdt, .any, false, none⟩,
   ⟨F.BOOT_SLOTS_MODEL_2, .ro, .wdt, .any, false, none⟩,
   ⟨F.BOOT_SLOTS_MODEL_3, .ro, .wdt, .any, false, none⟩,
   ⟨F.BOOT_SLOTS_TACK_1, .ro, .wdt, .any, false, none⟩,
   ⟨F.BOOT_SLOTS_TACK_0, .ro, .wdt, .any, false, none⟩,
   ⟨F.BOOT_SLOTS_FW_B, .ro, .wdt, .any, false, none⟩,
   ⟨F.BOOT_SLOTS_FW_A, .ro, .wdt, .any, false, none⟩]⟩
def row_BOOT_FW_VER : RegRow :=
  ⟨.steward, none, .always, false, [⟨F.BOOT_FW_VER_FW_VERSION, .ro, .wdt, .any, false, none⟩]⟩
def row_BOOT_CHARTER : RegRow :=
  ⟨.steward, none, .always, false, [⟨F.BOOT_CHARTER_STEWARD, .ro, .wdt, .any, false, none⟩,
   ⟨F.BOOT_CHARTER_APP, .ro, .wdt, .any, false, none⟩]⟩
def row_BOOT_API : RegRow :=
  ⟨.steward, none, .always, false, [⟨F.BOOT_API_MAX, .ro, .wdt, .any, false, none⟩,
   ⟨F.BOOT_API_MIN, .ro, .wdt, .any, false, none⟩]⟩
def row_BOOT_SCHEMA : RegRow :=
  ⟨.steward, none, .always, false, [⟨F.BOOT_SCHEMA_READS, .ro, .wdt, .any, false, none⟩,
   ⟨F.BOOT_SCHEMA_RUNNING, .ro, .soft, .any, false, none⟩]⟩
def row_BOOT_COMMIT : RegRow :=
  ⟨.steward, (some 0), .always, false, [⟨F.BOOT_COMMIT_KEY, .wo, .soft, .any, false, none⟩,
   ⟨F.BOOT_COMMIT_ACTION, .wo, .soft, .any, false, none⟩,
   ⟨F.BOOT_COMMIT_TARGET, .wo, .soft, .any, false, none⟩,
   ⟨F.BOOT_COMMIT_RESTART, .wo, .soft, .any, false, none⟩,
   ⟨F.BOOT_COMMIT_GO, .wo, .soft, .any, false, none⟩]⟩
def row_BOOT_CONFIRM : RegRow :=
  ⟨.steward, (some 0), .always, false, [⟨F.BOOT_CONFIRM_CONFIRM, .wo, .soft, .any, false, none⟩]⟩
def row_BOOT_TIME : RegRow :=
  ⟨.steward, none, .always, false, [⟨F.BOOT_TIME_AUDIO_MS, .ro, .wdt, .any, false, none⟩]⟩
def row_BOOT_IRQ : RegRow :=
  ⟨.steward, (some 0), .always, false, [⟨F.BOOT_IRQ_API_MISMATCH, .w1c, .soft, .any, false, none⟩,
   ⟨F.BOOT_IRQ_COMMIT_REFUSED, .w1c, .soft, .any, false, none⟩,
   ⟨F.BOOT_IRQ_COMMIT_DONE, .w1c, .soft, .any, false, none⟩,
   ⟨F.BOOT_IRQ_TRIAL_FAILED, .w1c, .wdt, .any, false, none⟩,
   ⟨F.BOOT_IRQ_UNVETTED, .w1c, .wdt, .any, false, none⟩,
   ⟨F.BOOT_IRQ_FALLBACK, .w1c, .wdt, .any, false, none⟩]⟩
def row_BOOT_IRQ_EN : RegRow :=
  ⟨.steward, (some 0), .always, false, [⟨F.BOOT_IRQ_EN_EN, .rw, .soft, .any, false, none⟩]⟩

/-- The address patterns of block BOOT. -/
def rows_BOOT : List RowPat :=
  [⟨0x10000, 1, 0x4, 1, 0x4, 1, 0x4, fun _ _ _ => row_BOOT_STATUS⟩,
   ⟨0x10004, 1, 0x4, 1, 0x4, 1, 0x4, fun _ _ _ => row_BOOT_SLOTS⟩,
   ⟨0x10008, 1, 0x4, 1, 0x4, 1, 0x4, fun _ _ _ => row_BOOT_FW_VER⟩,
   ⟨0x1000c, 1, 0x4, 1, 0x4, 1, 0x4, fun _ _ _ => row_BOOT_CHARTER⟩,
   ⟨0x10010, 1, 0x4, 1, 0x4, 1, 0x4, fun _ _ _ => row_BOOT_API⟩,
   ⟨0x10014, 1, 0x4, 1, 0x4, 1, 0x4, fun _ _ _ => row_BOOT_SCHEMA⟩,
   ⟨0x10020, 1, 0x4, 1, 0x4, 1, 0x4, fun _ _ _ => row_BOOT_COMMIT⟩,
   ⟨0x10024, 1, 0x4, 1, 0x4, 1, 0x4, fun _ _ _ => row_BOOT_CONFIRM⟩,
   ⟨0x10028, 1, 0x4, 1, 0x4, 1, 0x4, fun _ _ _ => row_BOOT_TIME⟩,
   ⟨0x10030, 1, 0x4, 1, 0x4, 1, 0x4, fun _ _ _ => row_BOOT_IRQ⟩,
   ⟨0x10034, 1, 0x4, 1, 0x4, 1, 0x4, fun _ _ _ => row_BOOT_IRQ_EN⟩]

/-! ### PWR (chapter 16) -/

def F.PWR_IN_STATUS_COLD_START : Fld := ⟨0x20000, 11, 1, 1⟩
def F.PWR_IN_STATUS_ACTIVE : Fld := ⟨0x20000, 8, 3, 7⟩
def F.PWR_IN_STATUS_ENABLED : Fld := ⟨0x20000, 4, 4, 0xB⟩
def F.PWR_IN_STATUS_QUAL : Fld := ⟨0x20000, 0, 4, 0⟩
def F.PWR_IN_PRIO_DC : Fld := ⟨0x20004, 6, 2, 3⟩
def F.PWR_IN_PRIO_PL_B : Fld := ⟨0x20004, 4, 2, 0⟩
def F.PWR_IN_PRIO_PL_A : Fld := ⟨0x20004, 2, 2, 1⟩
def F.PWR_IN_PRIO_PD : Fld := ⟨0x20004, 0, 2, 2⟩
def F.PWR_VIN_MA : Fld := ⟨0x20008, 16, 16, 0⟩
def F.PWR_VIN_MV : Fld := ⟨0x20008, 0, 16, 0⟩
def F.PWR_PD_SIG_INVALID : Fld := ⟨0x2000c, 12, 1, 0⟩
def F.PWR_PD_MPS : Fld := ⟨0x2000c, 11, 1, 0⟩
def F.PWR_PD_DEMOTED : Fld := ⟨0x2000c, 10, 1, 0⟩
def F.PWR_PD_GRANT_CLASS : Fld := ⟨0x2000c, 4, 4, 0⟩
def F.PWR_PD_REQ_CLASS : Fld := ⟨0x2000c, 0, 4, 0⟩
def F.PWR_DC_LIMIT_WATTS : Fld := ⟨0x20010, 0, 11, 240⟩
def F.PWR_PL_SINK_ILIM_B : Fld := ⟨0x20014, 8, 4, 6⟩
def F.PWR_PL_SINK_ILIM_A : Fld := ⟨0x20014, 0, 4, 6⟩
def F.PWR_CFG_APP_SLEEP : Fld := ⟨0x20018, 0, 1, 0⟩
def F.PWR_BUDGET_AVAIL : Fld := ⟨0x20020, 16, 16, 0⟩
def F.PWR_BUDGET_SELF : Fld := ⟨0x20020, 0, 16, 50⟩
def F.PWR_RESERVED_MEASURED : Fld := ⟨0x20024, 16, 16, 0⟩
def F.PWR_RESERVED_RESERVED : Fld := ⟨0x20024, 0, 16, 0⟩
def F.PWR_CNT_SHEDS : Fld := ⟨0x20028, 16, 16, 0⟩
def F.PWR_CNT_OVERLOADS : Fld := ⟨0x20028, 0, 16, 0⟩
def F.PWR_OUT_REQ (a : Nat) : Fld := ⟨0x20030 + 0x4 * a, 16, 16, 0⟩
def F.PWR_OUT_STATE (a : Nat) : Fld := ⟨0x20030 + 0x4 * a, 4, 2, 0⟩
def F.PWR_OUT_PRIO (a : Nat) : Fld := ⟨0x20030 + 0x4 * a, 0, 2, 3 - a⟩
def F.PWR_RAILS_SELF : Fld := ⟨0x20040, 6, 1, 0⟩
def F.PWR_RAILS_GOOD : Fld := ⟨0x20040, 0, 6, 0x3F⟩
def F.PWR_CORE_AVS_EN : Fld := ⟨0x20044, 16, 1, 1⟩
def F.PWR_CORE_SETPOINT : Fld := ⟨0x20044, 0, 10, 750⟩
def F.PWR_DOM_ON_ON : Fld := ⟨0x20050, 0, 30, 0x201F⟩
def F.PWR_LINE_ON_ON : Fld := ⟨0x20054, 0, 6, 0x10⟩
def F.PWR_AON_STATUS_RAIL_FAULT : Fld := ⟨0x20060, 8, 4, 0⟩
def F.PWR_AON_STATUS_SEQ_RULE : Fld := ⟨0x20060, 4, 3, 0⟩
def F.PWR_AON_STATUS_BROWNOUT : Fld := ⟨0x20060, 1, 1, 0⟩
def F.PWR_AON_STATUS_SEQ_FAULT : Fld := ⟨0x20060, 0, 1, 0⟩
def F.PWR_TETHER_LOSSES : Fld := ⟨0x20064, 16, 16, 0⟩
def F.PWR_TETHER_FAILED : Fld := ⟨0x20064, 1, 1, 0⟩
def F.PWR_TETHER_LOST : Fld := ⟨0x20064, 0, 1, 0⟩
def F.PWR_LAST_LOSS_VALID : Fld := ⟨0x20068, 31, 1, 0⟩
def F.PWR_LAST_LOSS_INPUT : Fld := ⟨0x20068, 24, 3, 0⟩
def F.PWR_LAST_LOSS_COUNT : Fld := ⟨0x20068, 0, 16, 0⟩
def F.PWR_BROWNOUT_VIN_MIN : Fld := ⟨0x2006c, 16, 16, 0⟩
def F.PWR_BROWNOUT_COUNT : Fld := ⟨0x2006c, 0, 16, 0⟩
def F.PWR_IRQ_OVERLOAD : Fld := ⟨0x20070, 6, 1, 0⟩
def F.PWR_IRQ_PD_CLASS : Fld := ⟨0x20070, 5, 1, 0⟩
def F.PWR_IRQ_TETHER : Fld := ⟨0x20070, 4, 1, 0⟩
def F.PWR_IRQ_BROWNOUT : Fld := ⟨0x20070, 3, 1, 0⟩
def F.PWR_IRQ_DENIED : Fld := ⟨0x20070, 2, 1, 0⟩
def F.PWR_IRQ_SHED : Fld := ⟨0x20070, 1, 1, 0⟩
def F.PWR_IRQ_INPUT : Fld := ⟨0x20070, 0, 1, 0⟩
def F.PWR_IRQ_EN_EN : Fld := ⟨0x20074, 0, 7, 0⟩

def row_PWR_IN_STATUS : RegRow :=
  ⟨.aon, none, .always, false, [⟨F.PWR_IN_STATUS_COLD_START, .ro, .por, .any, false, none⟩,
   ⟨F.PWR_IN_STATUS_ACTIVE, .ro, .por, .any, false, none⟩,
   ⟨F.PWR_IN_STATUS_ENABLED, .ro, .por, .any, false, none⟩,
   ⟨F.PWR_IN_STATUS_QUAL, .ro, .por, .any, false, none⟩]⟩
def row_PWR_IN_PRIO : RegRow :=
  ⟨.aon, (some 0), .always, false, [⟨F.PWR_IN_PRIO_DC, .rw, .por, .any, false, none⟩,
   ⟨F.PWR_IN_PRIO_PL_B, .rw, .por, .any, false, none⟩,
   ⟨F.PWR_IN_PRIO_PL_A, .rw, .por, .any, false, none⟩,
   ⟨F.PWR_IN_PRIO_PD, .rw, .por, .any, false, none⟩]⟩
def row_PWR_VIN : RegRow :=
  ⟨.aon, none, .always, false, [⟨F.PWR_VIN_MA, .ro, .por, .any, false, none⟩,
   ⟨F.PWR_VIN_MV, .ro, .por, .any, false, none⟩]⟩
def row_PWR_PD : RegRow :=
  ⟨.pd, none, .always, false, [⟨F.PWR_PD_SIG_INVALID, .ro, .por, .any, false, none⟩,
   ⟨F.PWR_PD_MPS, .ro, .por, .any, false, none⟩,
   ⟨F.PWR_PD_DEMOTED, .ro, .por, .any, false, none⟩,
   ⟨F.PWR_PD_GRANT_CLASS, .ro, .por, .any, false, none⟩,
   ⟨F.PWR_PD_REQ_CLASS, .ro, .por, .any, false, none⟩]⟩
def row_PWR_DC_LIMIT : RegRow :=
  ⟨.aon, (some 0), .always, false, [⟨F.PWR_DC_LIMIT_WATTS, .rw, .por, (.range 0 2000), false, none⟩]⟩
def row_PWR_PL_SINK : RegRow :=
  ⟨.aon, (some 0), .always, false, [⟨F.PWR_PL_SINK_ILIM_B, .rw, .por, (.range 1 10), false, none⟩,
   ⟨F.PWR_PL_SINK_ILIM_A, .rw, .por, (.range 1 10), false, none⟩]⟩
def row_PWR_CFG : RegRow :=
  ⟨.aon, (some 0), .always, false, [⟨F.PWR_CFG_APP_SLEEP, .rw, .soft, .any, false, none⟩]⟩
def row_PWR_BUDGET : RegRow :=
  ⟨.steward, (some 0), .always, false, [⟨F.PWR_BUDGET_AVAIL, .ro, .soft, .any, false, none⟩,
   ⟨F.PWR_BUDGET_SELF, .rw, .soft, (.range 10 300), false, none⟩]⟩
def row_PWR_RESERVED : RegRow :=
  ⟨.steward, none, .always, false, [⟨F.PWR_RESERVED_MEASURED, .ro, .soft, .any, false, none⟩,
   ⟨F.PWR_RESERVED_RESERVED, .ro, .soft, .any, false, none⟩]⟩
def row_PWR_CNT : RegRow :=
  ⟨.steward, none, .always, false, [⟨F.PWR_CNT_SHEDS, .ro, .soft, .any, false, none⟩,
   ⟨F.PWR_CNT_OVERLOADS, .ro, .soft, .any, false, none⟩]⟩
def row_PWR_OUT (a : Nat) : RegRow :=
  ⟨.steward, (some 0), .always, false, [⟨F.PWR_OUT_REQ a, .ro, .soft, .any, false, none⟩,
   ⟨F.PWR_OUT_STATE a, .ro, .soft, .any, false, none⟩,
   ⟨F.PWR_OUT_PRIO a, .rw, .soft, .any, false, none⟩]⟩
def row_PWR_RAILS : RegRow :=
  ⟨.aon, none, .always, false, [⟨F.PWR_RAILS_SELF, .ro, .por, .any, false, none⟩,
   ⟨F.PWR_RAILS_GOOD, .ro, .por, .any, false, none⟩]⟩
def row_PWR_CORE : RegRow :=
  ⟨.steward, (some 0), .always, false, [⟨F.PWR_CORE_AVS_EN, .rw, .soft, .any, false, none⟩,
   ⟨F.PWR_CORE_SETPOINT, .ro, .soft, .any, false, none⟩]⟩
def row_PWR_DOM_ON : RegRow :=
  ⟨.steward, none, .always, false, [⟨F.PWR_DOM_ON_ON, .ro, .soft, .any, false, none⟩]⟩
def row_PWR_LINE_ON : RegRow :=
  ⟨.steward, none, .always, false, [⟨F.PWR_LINE_ON_ON, .ro, .soft, .any, false, none⟩]⟩
def row_PWR_AON_STATUS : RegRow :=
  ⟨.aon, (some 0), .always, false, [⟨F.PWR_AON_STATUS_RAIL_FAULT, .ro, .por, .any, false, none⟩,
   ⟨F.PWR_AON_STATUS_SEQ_RULE, .ro, .por, .any, false, none⟩,
   ⟨F.PWR_AON_STATUS_BROWNOUT, .w1c, .por, .any, false, none⟩,
   ⟨F.PWR_AON_STATUS_SEQ_FAULT, .w1c, .por, .any, false, none⟩]⟩
def row_PWR_TETHER : RegRow :=
  ⟨.steward, none, .always, false, [⟨F.PWR_TETHER_LOSSES, .ro, .wdt, .any, false, none⟩,
   ⟨F.PWR_TETHER_FAILED, .ro, .wdt, .any, false, none⟩,
   ⟨F.PWR_TETHER_LOST, .ro, .soft, .any, false, none⟩]⟩
def row_PWR_LAST_LOSS : RegRow :=
  ⟨.steward, none, .always, false, [⟨F.PWR_LAST_LOSS_VALID, .ro, .wdt, .any, false, none⟩,
   ⟨F.PWR_LAST_LOSS_INPUT, .ro, .wdt, .any, false, none⟩,
   ⟨F.PWR_LAST_LOSS_COUNT, .ro, .wdt, .any, false, none⟩]⟩
def row_PWR_BROWNOUT : RegRow :=
  ⟨.aon, none, .always, false, [⟨F.PWR_BROWNOUT_VIN_MIN, .ro, .por, .any, false, none⟩,
   ⟨F.PWR_BROWNOUT_COUNT, .ro, .por, .any, false, none⟩]⟩
def row_PWR_IRQ : RegRow :=
  ⟨.steward, (some 0), .always, false, [⟨F.PWR_IRQ_OVERLOAD, .w1c, .soft, .any, false, none⟩,
   ⟨F.PWR_IRQ_PD_CLASS, .w1c, .soft, .any, false, none⟩,
   ⟨F.PWR_IRQ_TETHER, .w1c, .soft, .any, false, none⟩,
   ⟨F.PWR_IRQ_BROWNOUT, .w1c, .soft, .any, false, none⟩,
   ⟨F.PWR_IRQ_DENIED, .w1c, .soft, .any, false, none⟩,
   ⟨F.PWR_IRQ_SHED, .w1c, .soft, .any, false, none⟩,
   ⟨F.PWR_IRQ_INPUT, .w1c, .soft, .any, false, none⟩]⟩
def row_PWR_IRQ_EN : RegRow :=
  ⟨.steward, (some 0), .always, false, [⟨F.PWR_IRQ_EN_EN, .rw, .soft, .any, false, none⟩]⟩

/-- The address patterns of block PWR. -/
def rows_PWR : List RowPat :=
  [⟨0x20000, 1, 0x4, 1, 0x4, 1, 0x4, fun _ _ _ => row_PWR_IN_STATUS⟩,
   ⟨0x20004, 1, 0x4, 1, 0x4, 1, 0x4, fun _ _ _ => row_PWR_IN_PRIO⟩,
   ⟨0x20008, 1, 0x4, 1, 0x4, 1, 0x4, fun _ _ _ => row_PWR_VIN⟩,
   ⟨0x2000c, 1, 0x4, 1, 0x4, 1, 0x4, fun _ _ _ => row_PWR_PD⟩,
   ⟨0x20010, 1, 0x4, 1, 0x4, 1, 0x4, fun _ _ _ => row_PWR_DC_LIMIT⟩,
   ⟨0x20014, 1, 0x4, 1, 0x4, 1, 0x4, fun _ _ _ => row_PWR_PL_SINK⟩,
   ⟨0x20018, 1, 0x4, 1, 0x4, 1, 0x4, fun _ _ _ => row_PWR_CFG⟩,
   ⟨0x20020, 1, 0x4, 1, 0x4, 1, 0x4, fun _ _ _ => row_PWR_BUDGET⟩,
   ⟨0x20024, 1, 0x4, 1, 0x4, 1, 0x4, fun _ _ _ => row_PWR_RESERVED⟩,
   ⟨0x20028, 1, 0x4, 1, 0x4, 1, 0x4, fun _ _ _ => row_PWR_CNT⟩,
   ⟨0x20030, 4, 0x4, 1, 0x4, 1, 0x4, fun a _ _ => row_PWR_OUT a⟩,
   ⟨0x20040, 1, 0x4, 1, 0x4, 1, 0x4, fun _ _ _ => row_PWR_RAILS⟩,
   ⟨0x20044, 1, 0x4, 1, 0x4, 1, 0x4, fun _ _ _ => row_PWR_CORE⟩,
   ⟨0x20050, 1, 0x4, 1, 0x4, 1, 0x4, fun _ _ _ => row_PWR_DOM_ON⟩,
   ⟨0x20054, 1, 0x4, 1, 0x4, 1, 0x4, fun _ _ _ => row_PWR_LINE_ON⟩,
   ⟨0x20060, 1, 0x4, 1, 0x4, 1, 0x4, fun _ _ _ => row_PWR_AON_STATUS⟩,
   ⟨0x20064, 1, 0x4, 1, 0x4, 1, 0x4, fun _ _ _ => row_PWR_TETHER⟩,
   ⟨0x20068, 1, 0x4, 1, 0x4, 1, 0x4, fun _ _ _ => row_PWR_LAST_LOSS⟩,
   ⟨0x2006c, 1, 0x4, 1, 0x4, 1, 0x4, fun _ _ _ => row_PWR_BROWNOUT⟩,
   ⟨0x20070, 1, 0x4, 1, 0x4, 1, 0x4, fun _ _ _ => row_PWR_IRQ⟩,
   ⟨0x20074, 1, 0x4, 1, 0x4, 1, 0x4, fun _ _ _ => row_PWR_IRQ_EN⟩]

/-! ### THERM (chapter 17) -/

def F.THERM_STATUS_SHUTDOWN : Fld := ⟨0x30000, 16, 1, 0⟩
def F.THERM_STATUS_LINE : Fld := ⟨0x30000, 8, 2, 0⟩
def F.THERM_STATUS_LOGIC : Fld := ⟨0x30000, 4, 2, 0⟩
def F.THERM_STATUS_NODE : Fld := ⟨0x30000, 0, 2, 0⟩
def F.THERM_TEMP_LINE : Fld := ⟨0x30004, 16, 16, 0⟩
def F.THERM_TEMP_LOGIC : Fld := ⟨0x30004, 0, 16, 0⟩
def F.THERM_MAX_LINE : Fld := ⟨0x30028, 16, 16, 0⟩
def F.THERM_MAX_LOGIC : Fld := ⟨0x30028, 0, 16, 0⟩
def F.THERM_THRESH_CRIT (a : Nat) : Fld := ⟨0x30010 + 0x4 * a, 16, 8, 115⟩
def F.THERM_THRESH_HOT (a : Nat) : Fld := ⟨0x30010 + 0x4 * a, 8, 8, 105⟩
def F.THERM_THRESH_WARM (a : Nat) : Fld := ⟨0x30010 + 0x4 * a, 0, 8, 95⟩
def F.THERM_HOT_HOT_ILIM : Fld := ⟨0x30018, 0, 7, 75⟩
def F.THERM_CNT_CRITICAL : Fld := ⟨0x3001c, 16, 16, 0⟩
def F.THERM_CNT_CHANGES : Fld := ⟨0x3001c, 0, 16, 0⟩
def F.THERM_IRQ_SHUTDOWN : Fld := ⟨0x30020, 2, 1, 0⟩
def F.THERM_IRQ_CRITICAL : Fld := ⟨0x30020, 1, 1, 0⟩
def F.THERM_IRQ_LEVEL : Fld := ⟨0x30020, 0, 1, 0⟩
def F.THERM_IRQ_EN_EN : Fld := ⟨0x30024, 0, 3, 0⟩

def row_THERM_STATUS : RegRow :=
  ⟨.aon, none, .always, false, [⟨F.THERM_STATUS_SHUTDOWN, .ro, .por, .any, false, none⟩,
   ⟨F.THERM_STATUS_LINE, .ro, .por, .any, false, none⟩,
   ⟨F.THERM_STATUS_LOGIC, .ro, .por, .any, false, none⟩,
   ⟨F.THERM_STATUS_NODE, .ro, .por, .any, false, none⟩]⟩
def row_THERM_TEMP : RegRow :=
  ⟨.aon, none, .always, false, [⟨F.THERM_TEMP_LINE, .ro, .por, .any, false, none⟩,
   ⟨F.THERM_TEMP_LOGIC, .ro, .por, .any, false, none⟩]⟩
def row_THERM_MAX : RegRow :=
  ⟨.aon, none, .always, false, [⟨F.THERM_MAX_LINE, .ro, .por, .any, false, none⟩,
   ⟨F.THERM_MAX_LOGIC, .ro, .por, .any, false, none⟩]⟩
def row_THERM_THRESH (a : Nat) : RegRow :=
  ⟨.aon, (some 0), .always, false, [⟨F.THERM_THRESH_CRIT a, .rw, .por, .any, false, none⟩,
   ⟨F.THERM_THRESH_HOT a, .rw, .por, .any, false, none⟩,
   ⟨F.THERM_THRESH_WARM a, .rw, .por, .any, false, none⟩]⟩
def row_THERM_HOT : RegRow :=
  ⟨.aon, (some 0), .always, false, [⟨F.THERM_HOT_HOT_ILIM, .rw, .por, (.range 25 100), false, none⟩]⟩
def row_THERM_CNT : RegRow :=
  ⟨.aon, none, .always, false, [⟨F.THERM_CNT_CRITICAL, .ro, .por, .any, false, none⟩,
   ⟨F.THERM_CNT_CHANGES, .ro, .por, .any, false, none⟩]⟩
def row_THERM_IRQ : RegRow :=
  ⟨.aon, (some 0), .always, false, [⟨F.THERM_IRQ_SHUTDOWN, .w1c, .por, .any, false, none⟩,
   ⟨F.THERM_IRQ_CRITICAL, .w1c, .por, .any, false, none⟩,
   ⟨F.THERM_IRQ_LEVEL, .w1c, .por, .any, false, none⟩]⟩
def row_THERM_IRQ_EN : RegRow :=
  ⟨.aon, (some 0), .always, false, [⟨F.THERM_IRQ_EN_EN, .rw, .soft, .any, false, none⟩]⟩

/-- The address patterns of block THERM. -/
def rows_THERM : List RowPat :=
  [⟨0x30000, 1, 0x4, 1, 0x4, 1, 0x4, fun _ _ _ => row_THERM_STATUS⟩,
   ⟨0x30004, 1, 0x4, 1, 0x4, 1, 0x4, fun _ _ _ => row_THERM_TEMP⟩,
   ⟨0x30028, 1, 0x4, 1, 0x4, 1, 0x4, fun _ _ _ => row_THERM_MAX⟩,
   ⟨0x30010, 2, 0x4, 1, 0x4, 1, 0x4, fun a _ _ => row_THERM_THRESH a⟩,
   ⟨0x30018, 1, 0x4, 1, 0x4, 1, 0x4, fun _ _ _ => row_THERM_HOT⟩,
   ⟨0x3001c, 1, 0x4, 1, 0x4, 1, 0x4, fun _ _ _ => row_THERM_CNT⟩,
   ⟨0x30020, 1, 0x4, 1, 0x4, 1, 0x4, fun _ _ _ => row_THERM_IRQ⟩,
   ⟨0x30024, 1, 0x4, 1, 0x4, 1, 0x4, fun _ _ _ => row_THERM_IRQ_EN⟩]

/-! ### CLK (chapter 18) -/

def F.CLK_STATUS_REF_LOST : Fld := ⟨0x40000, 11, 1, 0⟩
def F.CLK_STATUS_SYS_LOCK : Fld := ⟨0x40000, 10, 1, 0⟩
def F.CLK_STATUS_MEDIA_LOCK : Fld := ⟨0x40000, 9, 1, 0⟩
def F.CLK_STATUS_ACQUIRING : Fld := ⟨0x40000, 8, 1, 0⟩
def F.CLK_STATUS_MODE : Fld := ⟨0x40000, 0, 3, 0⟩
def F.CLK_MEDIA_CFG_BW : Fld := ⟨0x40004, 0, 2, 2⟩
def F.CLK_MEDIA_FREQ_PHASE_NS : Fld := ⟨0x40008, 16, 16, 0⟩
def F.CLK_MEDIA_FREQ_PPM : Fld := ⟨0x40008, 0, 16, 0⟩
def F.CLK_STRIDE_LO_COUNT : Fld := ⟨0x40010, 0, 32, 0⟩
def F.CLK_CAPTURE_GO : Fld := ⟨0x40014, 0, 1, 0⟩
def F.CLK_CAP_HI_SEQ : Fld := ⟨0x40018, 24, 8, 0⟩
def F.CLK_CAP_HI_COUNT_HI : Fld := ⟨0x40018, 0, 16, 0⟩
def F.CLK_CAP_LO_COUNT : Fld := ⟨0x4001c, 0, 32, 0⟩
def F.CLK_ADOPT_COUNT : Fld := ⟨0x40020, 0, 16, 0⟩
def F.CLK_DOM_RUN_RUN (a : Nat) : Fld := ⟨0x40040 + 0x4 * a, 0, 32, 0⟩
def F.CLK_TIMEOUT_COUNT : Fld := ⟨0x40060, 16, 8, 0⟩
def F.CLK_TIMEOUT_DOMAIN : Fld := ⟨0x40060, 0, 8, 0⟩
def F.CLK_RTC_SEC_SEC : Fld := ⟨0x40100, 0, 32, 0⟩
def F.CLK_RTC_SUB_SEC_LO : Fld := ⟨0x40104, 16, 16, 0⟩
def F.CLK_RTC_SUB_TICKS : Fld := ⟨0x40104, 0, 15, 0⟩
def F.CLK_RTC_CFG_XTAL_OK : Fld := ⟨0x40108, 2, 1, 0⟩
def F.CLK_RTC_CFG_SRC : Fld := ⟨0x40108, 1, 1, 1⟩
def F.CLK_RTC_CFG_OUT_EN : Fld := ⟨0x40108, 0, 1, 0⟩

def row_CLK_STATUS : RegRow :=
  ⟨.steward, none, .always, false, [⟨F.CLK_STATUS_REF_LOST, .ro, .wdt, .any, false, none⟩,
   ⟨F.CLK_STATUS_SYS_LOCK, .ro, .wdt, .any, false, none⟩,
   ⟨F.CLK_STATUS_MEDIA_LOCK, .ro, .wdt, .any, false, none⟩,
   ⟨F.CLK_STATUS_ACQUIRING, .ro, .wdt, .any, false, none⟩,
   ⟨F.CLK_STATUS_MODE, .ro, .wdt, .any, false, none⟩]⟩
def row_CLK_MEDIA_CFG : RegRow :=
  ⟨.steward, (some 0), .always, false, [⟨F.CLK_MEDIA_CFG_BW, .rw, .soft, .any, false, none⟩]⟩
def row_CLK_MEDIA_FREQ : RegRow :=
  ⟨.steward, none, .always, false, [⟨F.CLK_MEDIA_FREQ_PHASE_NS, .ro, .wdt, .any, false, none⟩,
   ⟨F.CLK_MEDIA_FREQ_PPM, .ro, .wdt, .any, false, none⟩]⟩
def row_CLK_STRIDE_LO : RegRow :=
  ⟨.media, none, .always, false, [⟨F.CLK_STRIDE_LO_COUNT, .ro, .wdt, .any, false, none⟩]⟩
def row_CLK_CAPTURE : RegRow :=
  ⟨.media, none, .always, false, [⟨F.CLK_CAPTURE_GO, .wo, .soft, .any, false, none⟩]⟩
def row_CLK_CAP_HI : RegRow :=
  ⟨.media, none, .always, false, [⟨F.CLK_CAP_HI_SEQ, .ro, .soft, .any, false, none⟩,
   ⟨F.CLK_CAP_HI_COUNT_HI, .ro, .soft, .any, false, none⟩]⟩
def row_CLK_CAP_LO : RegRow :=
  ⟨.media, none, .always, false, [⟨F.CLK_CAP_LO_COUNT, .ro, .soft, .any, false, none⟩]⟩
def row_CLK_ADOPT : RegRow :=
  ⟨.steward, none, .always, false, [⟨F.CLK_ADOPT_COUNT, .ro, .wdt, .any, false, none⟩]⟩
def row_CLK_DOM_RUN (a : Nat) : RegRow :=
  ⟨.steward, none, .always, false, [⟨F.CLK_DOM_RUN_RUN a, .ro, .wdt, .any, false, none⟩]⟩
def row_CLK_TIMEOUT : RegRow :=
  ⟨.steward, none, .always, false, [⟨F.CLK_TIMEOUT_COUNT, .ro, .wdt, .any, false, none⟩,
   ⟨F.CLK_TIMEOUT_DOMAIN, .ro, .wdt, .any, false, none⟩]⟩
def row_CLK_RTC_SEC : RegRow :=
  ⟨.aon, (some 0), .always, false, [⟨F.CLK_RTC_SEC_SEC, .rw, .por, .any, false, none⟩]⟩
def row_CLK_RTC_SUB : RegRow :=
  ⟨.aon, none, .always, false, [⟨F.CLK_RTC_SUB_SEC_LO, .ro, .por, .any, false, none⟩,
   ⟨F.CLK_RTC_SUB_TICKS, .ro, .por, .any, false, none⟩]⟩
def row_CLK_RTC_CFG : RegRow :=
  ⟨.aon, (some 0), .always, false, [⟨F.CLK_RTC_CFG_XTAL_OK, .ro, .por, .any, false, none⟩,
   ⟨F.CLK_RTC_CFG_SRC, .ro, .por, .any, false, none⟩,
   ⟨F.CLK_RTC_CFG_OUT_EN, .rw, .por, .any, false, none⟩]⟩

/-- The address patterns of block CLK. -/
def rows_CLK : List RowPat :=
  [⟨0x40000, 1, 0x4, 1, 0x4, 1, 0x4, fun _ _ _ => row_CLK_STATUS⟩,
   ⟨0x40004, 1, 0x4, 1, 0x4, 1, 0x4, fun _ _ _ => row_CLK_MEDIA_CFG⟩,
   ⟨0x40008, 1, 0x4, 1, 0x4, 1, 0x4, fun _ _ _ => row_CLK_MEDIA_FREQ⟩,
   ⟨0x40010, 1, 0x4, 1, 0x4, 1, 0x4, fun _ _ _ => row_CLK_STRIDE_LO⟩,
   ⟨0x40014, 1, 0x4, 1, 0x4, 1, 0x4, fun _ _ _ => row_CLK_CAPTURE⟩,
   ⟨0x40018, 1, 0x4, 1, 0x4, 1, 0x4, fun _ _ _ => row_CLK_CAP_HI⟩,
   ⟨0x4001c, 1, 0x4, 1, 0x4, 1, 0x4, fun _ _ _ => row_CLK_CAP_LO⟩,
   ⟨0x40020, 1, 0x4, 1, 0x4, 1, 0x4, fun _ _ _ => row_CLK_ADOPT⟩,
   ⟨0x40040, 7, 0x4, 1, 0x4, 1, 0x4, fun a _ _ => row_CLK_DOM_RUN a⟩,
   ⟨0x40060, 1, 0x4, 1, 0x4, 1, 0x4, fun _ _ _ => row_CLK_TIMEOUT⟩,
   ⟨0x40100, 1, 0x4, 1, 0x4, 1, 0x4, fun _ _ _ => row_CLK_RTC_SEC⟩,
   ⟨0x40104, 1, 0x4, 1, 0x4, 1, 0x4, fun _ _ _ => row_CLK_RTC_SUB⟩,
   ⟨0x40108, 1, 0x4, 1, 0x4, 1, 0x4, fun _ _ _ => row_CLK_RTC_CFG⟩]

end Sys2Proof.Machine
end

