-- ==== Sys2Proof/Machine/State.lean ====
section
/-! DEFINITION. The state of the node: the register file, the stores, and the internal state that the spec gives the
node beside its registers, as plain data; the reasons a command can stop; and the state after reset. -/

namespace Sys2Proof.Machine

/-- Why a command stops with a fault. No command of this node stops so: every outcome that the spec describes is a
next state. The one constructor names a queue entry that is no command of the node; nothing raises it, and a proof
that a step faults is therefore impossible (safe). -/
inductive Fault where
  /-- raised by nothing (safe) -/
  | impossible
deriving DecidableEq, Repr

/-- Why a command is refused. -/
inductive Refusal where
  /-- the command of this mnemonic has no meaning yet; raised by an arm of `exec` only (safe) -/
  | notModelled (mnemonic : String)
deriving DecidableEq, Repr

/-- The result codes of R549. -/
inductive Code where
  | ok | accessErr | notPresent | badAddr | noReins | conflict | refused | apiMismatch | framing | pageNone | busy
  | overlapUnsafe | badDesc | sealed | aborted
deriving DecidableEq, Repr

/-- The number of a result code (R549). -/
def Code.num : Code → Nat
  | .ok => 0
  | .accessErr => 1
  | .notPresent => 2
  | .badAddr => 3
  | .noReins => 4
  | .conflict => 5
  | .refused => 6
  | .apiMismatch => 7
  | .framing => 8
  | .pageNone => 9
  | .busy => 10
  | .overlapUnsafe => 11
  | .badDesc => 12
  | .sealed => 13
  | .aborted => 14

/-- One record of the event log (R832). -/
structure LogRec where
  type : Nat
  master : Nat
  domain : Nat
  serial : Nat
  rtcSec : Nat
  ticks : Nat
  stride : Nat
  arg0 : Nat
  arg1 : Nat
  arg2 : Nat
deriving DecidableEq, Repr

/-- Where a queued write came from, so that its decision can be answered (R559). -/
inductive WSrc where
  | direct
  | host (txn word : Nat)
  | net (gram op word : Nat)
  | copy (ch : Nat)
deriving DecidableEq, Repr

/-- A write of audio-control fields that waits for the next stride boundary (R591). -/
structure QWrite where
  master : Master
  addr : Nat
  val : Word
  src : WSrc
deriving DecidableEq, Repr

/-- What the host, the network or the mailbox was answered last. -/
structure Answer where
  code : Code
  status : Nat
  words : List Word
  bytes : List Byte
deriving DecidableEq, Repr

/-- One bank of SYS_ACCESS_ERR and SYS_ACCESS_ADDR (R829). -/
structure AccessBank where
  count : Nat
  timeout : Bool
  badAddr : Bool
  notPresent : Bool
  off : Bool
  domain : Nat
  addr : Nat
deriving DecidableEq, Repr

/-- A compatibility vector (R62). -/
structure CompatVec where
  version : Nat
  stepMask : Nat
  stewardMajor : Nat
  stewardMinor : Nat
  appMajor : Nat
  appMinor : Nat
  schema : Nat
  apiMin : Nat
  apiMax : Nat
deriving DecidableEq, Repr

/-- An entry of the region table (R63). -/
structure RegionRec where
  id : Nat
  swappable : Bool
  edgeCount : Nat
  stalls : Nat
deriving DecidableEq, Repr

/-- The resource claims (R65). -/
structure Claims where
  stalls : Nat
  lec : Nat
  aec : Nat
  iopRx : Nat
  iopTx : Nat
  groups : Nat
  keys : Nat
  tdmMask : Nat
  links : Nat
  macKb : Nat
deriving DecidableEq, Repr

/-- A stall record (R70): the configuration block as words, the SRAM contents as bytes. -/
structure StallRec where
  stall : Nat
  template : Nat
  fallback : Nat
  inst : Nat
  slice : Nat
  sliceCount : Nat
  clockMin : Nat
  config : List Nat
  init : List Byte
  region : Nat
deriving DecidableEq, Repr

/-- A link record (R72). -/
structure LinkRec where
  src : Nat
  srcPort : Nat
  dst : Nat
  dstPort : Nat
  channels : Nat
  depth : Nat
  edge : Bool
  edgeId : Nat
  region : Nat
deriving DecidableEq, Repr

/-- A key record (R74). -/
structure KeyRec where
  slot : Nat
  group : Nat
  talk : Bool
  listen : Bool
  source : Nat
  sourceIndex : Nat
  mode : Nat
  priority : Nat
deriving DecidableEq, Repr

/-- A crosspoint record (R74). -/
structure XpRec where
  input : Nat
  output : Nat
  gain : Nat
deriving DecidableEq, Repr

/-- The body of the PORTS section (R77). -/
structure PortsRec where
  personality : Nat
  hostMode : Nat
  roleA : Nat
  roleB : Nat
  termA : Nat
  termB : Nat
  voltsA : Nat
  voltsB : Nat
  pse : Nat
  speaker : Nat
  headset : Nat
  wake : Nat
  fourwire : Nat
  ring : Nat
  maccIop : Nat
  candidate : Nat
  precedence : Nat
  precedenceValid : Nat
  nodeId : Nat
  ringNumber : Nat
  vinMask : Nat
deriving DecidableEq, Repr

/-- A panel record (R79). -/
structure PanelRec where
  gpio : Nat
  function : Nat
  target : Nat
  activeLow : Bool
  pwmCh : Nat
deriving DecidableEq, Repr

/-- A MAC queue record (R80). -/
structure QueueRec where
  port : Nat
  queue : Nat
  transmit : Bool
  cls : Nat
  sizeKb : Nat
  thresh : Nat
deriving DecidableEq, Repr

/-- A parameter record (R82); `region` 255 for a record of no region. -/
structure ParamRec where
  addr : Nat
  mask : Nat
  value : Nat
  region : Nat
deriving DecidableEq, Repr

/-- A NAMES record (R84). -/
structure NameRec where
  kind : Nat
  index : Nat
  text : List Byte
deriving DecidableEq, Repr

/-- What a tack image says (R58–R84), as its checked sections give it. -/
structure Image where
  partialImg : Bool
  encrypted : Bool
  imageId : Nat
  version : Nat
  baseDigest : List Byte
  vec : CompatVec
  regions : List RegionRec
  claims : Claims
  stalls : List StallRec
  links : List LinkRec
  groupMask : Nat
  interruptDim : Nat
  keys : List KeyRec
  xps : List XpRec
  ports : PortsRec
  panel : List PanelRec
  queues : List QueueRec
  params : List ParamRec
  names : List NameRec
deriving DecidableEq, Repr

/-- A crosspoint of the node mix (R298): its stored gain code, its target code, and the ramp in hand in Q4.20 factors
(R320, R880). A pair with no entry has a stored and a target gain of −∞ (R302). -/
structure Xp where
  input : Nat
  output : Nat
  stored : Nat
  target : Nat
  rampFrom : Nat
  rampTo : Nat
  rampLen : Nat
  rampPos : Nat
  ducked : Bool
deriving DecidableEq, Repr

/-- A ramp of an amplitude (R878): the factor it starts from, as a fraction of full scale, whether it ends at full scale or at
silence, how many of its samples have passed, and its length in samples. A ramp that has ended is held as one of length 0. -/
structure Ramp where
  num : Nat
  den : Nat
  up : Bool
  pos : Nat
  len : Nat
deriving DecidableEq, Repr

/-- Full scale, with no ramp. -/
def Ramp.full : Ramp := ⟨1, 1, true, 0, 0⟩

/-- Silence, with no ramp. -/
def Ramp.silent : Ramp := ⟨0, 1, false, 0, 0⟩

/-- One subband of an NLP (R286, R288): its attenuation in 0.1 dB, the strides for which it has moved one way, whether that way
is up, and the power of its background. -/
structure NlpBand where
  att : Nat
  moving : Nat
  rising : Bool
  background : Nat
deriving DecidableEq, Repr

/-- The state a template keeps from one stride to the next. -/
inductive StallMem where
  /-- a template whose state no rule of the spec lets a reader see -/
  | plain
  /-- MIX, once it retires: its own crosspoints (R340) -/
  | mix (xps : List Xp)
  /-- EQ: for each channel and section, x[n-1], x[n-2], y[n-1], y[n-2] (R126) -/
  | eq (hist : List (List (Int × Int × Int × Int)))
  /-- TONE: its 2 ms ramp, and how many samples its oscillator has given since it started (R459) -/
  | tone (ramp : Ramp) (at_ : Nat)
  /-- DELAY: for each channel, its delay line, oldest sample first (R125) -/
  | delay (lines : List (List Int))
  /-- DYN: for each detected channel its last 48 samples, the strides for which the detected level has held, that level in
  0.1 dB below full scale, the gain as the level began to hold, and the present gain, both × 2^20 (R882) -/
  | dyn (lines : List (List Int)) (steady level from_ gain : Nat)
  /-- LEC and AEC: the near end and the reference channels as far back as the outputs reach, oldest sample first (R277, R280) -/
  | echo (near : List Int) (refs : List (List Int))
  /-- NLP: its input of the last 30 samples, its echo estimate of the last 24, and its subbands (R277, R286, R288) -/
  | nlp (residual estimate : List Int) (bands : List NlpBand)
  /-- BEAM: the samples of each input port as far back as its delay reaches, oldest first (R173) -/
  | beam (lines : List (List Int))
deriving DecidableEq, Repr

/-- A claimed stall as it runs. -/
structure Stall where
  n : Nat
  layer : Nat
  cfg : StallRec
  /-- it has started this stride (R137) -/
  started : Bool
  /-- it has ended its work for this stride, in time or late (R140) -/
  worked : Bool
  /-- earlier strides whose work it has not ended (R140) -/
  owes : Nat
  /-- it has committed all its output blocks this stride (R139) -/
  committed : Bool
  /-- the fallback was written for it this stride (R141, R157) -/
  fellBack : Bool
  /-- it was late in this stride (R139) -/
  lateNow : Bool
  /-- FORCE_FALLBACK was set on a slice of its instance as this stride began (R157) -/
  force : Bool
  /-- the strides of its late events, newest first, of the last 8,000 strides (R149) -/
  lateAt : List Nat
  /-- the stride in which it started (R144, R146) -/
  since : Nat
  /-- the smallest slacks of the last 8,000 strides that have ended, newest first: (stride, slack in 125 ns units), a slack
  kept only while no later one is as small (R146) -/
  slacks : List (Nat × Nat)
  /-- its slack in this stride, once it has committed or is late (R146) -/
  slackNow : Option Nat
  /-- a setpoint that applies from the next stride, in 10 MHz units (R145, R146) -/
  nextSet : Option Nat
  /-- the output blocks computed and not yet committed, by output port -/
  outs : List Block
  mem : StallMem
  /-- it enters in the swap under way (R105) -/
  entering : Bool
  /-- it retires in the swap under way (R105) -/
  retiring : Bool
deriving DecidableEq, Repr

/-- A harness link as it runs: its record, the blocks written to it, newest first, and whether this stride's block
is committed (R129, R130). -/
structure Link where
  cfg : LinkRec
  slots : List Block
  committed : Bool
  entering : Bool
  retiring : Bool
deriving DecidableEq, Repr

/-- the stall fabric and the image it runs -/
structure FabState where
  /-- the full image loaded last, with the swaps since then applied to its regions (R94) -/
  image : Option Image
  /-- the first eight bytes of the digest of the full image loaded last (R95) -/
  baseDigest : List Byte
  /-- the FAB, TG, ECHO, CALL and IOP registers are hidden by a load (R93) -/
  hidden : Bool
  /-- the outputs have this many strides of the ramp to silence before a load to run (R92) -/
  rampDown : Option Nat
  /-- the ramp of the outputs to silence before a load and from silence after it (R91, R92, R878) -/
  outRamp : Ramp
  /-- the stalls run (R91 step 10) -/
  running : Bool
  /-- the image is checked and loaded and waits for the stalls to start (R91 steps 6 to 9) -/
  loaded : Bool
  /-- what the sink endpoints latched at the last boundary: endpoint code, port and six samples (R137) -/
  sinks : List (Nat × Nat × List Sample)
  /-- the claimed stalls -/
  stalls : List Stall
  /-- the harness -/
  links : List Link
deriving DecidableEq, Repr

/-- The stall fabric and the image it runs: after reset. -/
def FabState.reset : FabState :=
  {
    image := none
    baseDigest := []
    hidden := false
    rampDown := none
    outRamp := Ramp.full
    running := false
    loaded := false
    sinks := []
    stalls := []
    links := []
  }

/-- the live swap of regions -/
structure SwapState where
  /-- the swap buffer (R99) -/
  buf : List Host.Cell
  /-- how many bytes are staged in the swap buffer -/
  len : Nat
  /-- the image staged in the swap buffer has reached DONE since the last GO (R582) -/
  fresh : Bool
  /-- the staged image as GO found it, which the swap in progress verifies and lands (R100) -/
  cur : List Host.Cell
  /-- the partial image of the swap in progress (R100) -/
  img : Option Image
  /-- boundary S of the swap in progress, once known (R100) -/
  at_ : Option Nat
  /-- the boundary count since S (R101) -/
  k : Nat
  /-- AT_STRIDE as GO found it, where AT_STRIDE_EN was 1 (R100) -/
  atStride : Option Nat
  /-- a boundary that matches AT_STRIDE has come since GO (R100, R114) -/
  passed : Bool
deriving DecidableEq, Repr

/-- The live swap of regions: after reset. -/
def SwapState.reset : SwapState :=
  {
    buf := []
    len := 0
    fresh := false
    cur := []
    img := none
    at_ := none
    k := 0
    atStride := none
    passed := false
  }

/-- One page of a history ring: its number, the index of its first sample, whether a microphone of the beam was muted
for some sample of it, the ADPCM state at its start, its codes or samples, and the marks of R576 and R578 (R181). -/
structure HistPage where
  num : Nat
  first : Nat
  muted : Bool
  pred : Int
  stepIdx : Nat
  vals : List Int
  torn : Bool
  overrun : Bool
deriving DecidableEq, Repr

/-- What an output ball does: driven low or high, or high-impedance with no internal pull; driven by a PWM channel, or by its
complement; or driven with a running clock (R610, R611, R816, R843). -/
inductive Ball where
  | highZ | low | high
  | pwm (ch : Nat) (inverted : Bool)
  | clock
deriving DecidableEq, Repr

/-- One microphone's decimator: the last 60 PDM samples, ±1, and the last 160 outputs of its CIC stage (R165, R167). A list that is
short stands for a filter that has had no more. -/
structure MicDec where
  pdm : List Int
  cic : List Int
deriving DecidableEq, Repr

/-- the microphones, the staged wake, the history and the hand-over -/
structure MicState where
  /-- the decimators of microphones 0–7 -/
  dec : List MicDec
  /-- the six samples that each microphone delivered in the stride that ended (R169, R170) -/
  out : List (List Sample)
  /-- the last 64 ms of each microphone, as the front end keeps them (R188) -/
  front : List (List Sample)
  /-- what Trot, Canter and Gallop were given of the front end's history at power-up: for each of their microphones, the 64 ms
  before (R188) -/
  given : List (List (List Sample))
  /-- Gallop has latched a wake since its power-up (R189) -/
  latched : Bool
  /-- the state of the decimator that feeds the compressed ring, 0 at rest (R178) -/
  decim : Nat
  /-- the index after the last sample recorded (R205) -/
  recTo : Nat
  /-- the MIC_MUTE_N ball is asserted (R212) -/
  muteLow : Bool
  /-- the pairs whose decimators still give 0 after a mute (R213) -/
  silent : Nat
  /-- bit i: stage i + 1 is powered and ready to evaluate (R187) -/
  ready : Nat
  /-- consecutive frames at or above THRESH, for Walk, Trot, Canter, Gallop (R186) -/
  runs : List Nat
  /-- the stride from which each stage's TIMEOUT counts (R189) -/
  upAt : List Nat
  /-- Walk's noise floor, in 0.5 dB units (R185) -/
  floor : Nat
  /-- the stride at which the present unbroken run of Walk frames began (R193) -/
  runStart : Nat
  /-- the first stride of the earliest Walk frame of the last run that reached FRAMES (R193) -/
  onsetFrame : Nat
  /-- the last stride whose frame end was evaluated (R183) -/
  frameAt : Option Nat
  /-- a microphone that feeds Gallop became muted in this frame (R220) -/
  mutedInFrame : Bool
  /-- the last stride in which Gallop heard voice (R194) -/
  voiceAt : Nat
  /-- a catch-up waits for boundary W + 1: that boundary and its lag (R195) -/
  start : Option (Nat × Nat)
  /-- the boundary at which the catch-up under way began (R197) -/
  since : Nat
  /-- the output goes live at the next boundary (R201, R216) -/
  liveNext : Bool
  /-- the unseal window: its first sample, and its last once the request is released (R205) -/
  window : Option (Nat × Option Nat)
  /-- the compressed ring's pages, newest first (R177) -/
  comp : List HistPage
  /-- the uncompressed ring's pages, newest first (R177) -/
  full : List HistPage
  /-- the numbers of the next pages of the two rings (R181) -/
  nextPage : Nat × Nat
  /-- the ADPCM predictor (R178) -/
  pred : Int
  /-- the ADPCM step index (R178) -/
  stepIdx : Nat
  /-- the wake models of the MRAM partition that are loaded and verified, bit m (R190, R704) -/
  models : Nat
deriving DecidableEq, Repr

/-- The microphones, the staged wake, the history and the hand-over: after reset. -/
def MicState.reset : MicState :=
  {
    dec := List.replicate 8 ⟨[], []⟩
    out := List.replicate 8 [0, 0, 0, 0, 0, 0]
    front := List.replicate 8 []
    given := [[], [], []]
    latched := false
    decim := 0
    recTo := 0
    muteLow := false
    silent := 0
    ready := 0
    runs := [0, 0, 0, 0]
    upAt := [0, 0, 0, 0]
    floor := 0
    runStart := 0
    onsetFrame := 0
    frameAt := none
    mutedInFrame := false
    voiceAt := 0
    start := none
    since := 0
    liveNext := false
    window := none
    comp := []
    full := []
    nextPage := (0, 0)
    pred := 0
    stepIdx := 0
    models := 0
  }

/-- The balance of one line channel: the stride of its boundary B, the trims and whether the filter's taps were clear
before step 2, whether the channel is silent for it, and whether transmit returns at the next boundary (R240, R241). -/
structure Bal where
  at_ : Nat
  savedR : Nat
  savedC : Nat
  savedClear : Bool
  silent : Bool
  restore : Bool
  /-- LINE_R and LINE_C as step 5 fitted them, for the result of step 8 -/
  fitR : Nat
  fitC : Nat
  /-- the stride at whose start talk of a priority class opened into the channel (R270) -/
  talkAt : Option Nat
deriving DecidableEq, Repr

/-- The balance of a channel that has had none. -/
def Bal.none_ : Bal := ⟨0, 0, 0, true, false, false, 0, 0, none⟩

/-- One TDM port: the slots of the received frames that wait for the fabric, as their bits arrived; the samples of the frames
that wait to leave; those of the frame that left last; the BCLK count of the last frame, and how many consistent frames have
arrived in a row (R264). -/
structure TdmPort where
  rx : List (List Nat)
  tx : List (List Sample)
  sent : List Sample
  lastBclk : Nat
  good : Nat
deriving DecidableEq, Repr

/-- A TDM port with no frame under way. -/
def TdmPort.idle : TdmPort := ⟨[], [], [], 0, 0⟩

/-- the party-line ports, converters, hybrids and TDM ports -/
structure LineState where
  /-- the role codes of ports A and B (R34) -/
  codes : Nat × Nat
  /-- the stride of each channel's last resolution, while an automatic balance waits (R243) -/
  resolvedAt : List (Option Nat)
  /-- the balance of each line channel -/
  bal : List Bal
  /-- bit c: the hybrid filter of channel c has zero taps (R236, R240) -/
  tapsClear : Nat
  /-- the drive impedance of each channel in 0.5 Ω units (R233) -/
  driveR : List Nat
  /-- pins whose SHORT_TO_SUPPLY holds or ended less than 1 s ago, by LINE_SHORT bit (R777, R779) -/
  shortHold : Nat
  /-- pins whose hold of R779 is over, for the next boundary -/
  shortDone : Nat
  /-- bit n: the series switch of four-wire output n is closed (R248) -/
  fwSwitch : Nat
  /-- the mute or switch ramp of each DAC channel (R230, R878) -/
  dacRamp : List Ramp
  /-- the mute ramp of each ADC channel -/
  adcRamp : List Ramp
  /-- the tone ramp of each line channel's call generator (R455, R878) -/
  toneRamp : List Ramp
  /-- the last 10 samples that each DAC channel took, on their way to the pin (R266) -/
  dacLine : List (List Sample)
  /-- the last 12 samples at each ADC channel's pin, on their way to the endpoint (R266) -/
  adcLine : List (List Sample)
  /-- what each DAC channel that is not silent puts out in this stride -/
  pins : List (Nat × List Sample)
  /-- a full load has configured the line die since the last reset (R37) -/
  configured : Bool
  /-- the headset is on (PORTS HEADSET, R77) -/
  headset : Bool
  /-- the headset microphone gain in force (R250) -/
  hsGain : Nat
  /-- the speaker amplifier is off for an overcurrent and has not restarted (R258) -/
  spkTripped : Bool
  /-- the strides of the overcurrents of the last second (R258) -/
  spkTrips : List Nat
  /-- CONV_SPK.EN has been 0 since the amplifier latched off (R258) -/
  spkRearmed : Bool
  /-- the TDM ports -/
  tdm : List TdmPort
deriving DecidableEq, Repr

/-- The party-line ports, converters, hybrids and TDM ports: after reset. -/
def LineState.reset : LineState :=
  {
    codes := (0, 0)
    resolvedAt := [none, none, none, none]
    bal := List.replicate 4 Bal.none_
    tapsClear := 15
    driveR := [400, 400, 400, 400]
    shortHold := 0
    shortDone := 0
    fwSwitch := 0
    dacRamp := List.replicate 11 Ramp.silent
    adcRamp := List.replicate 10 Ramp.full
    toneRamp := List.replicate 4 Ramp.silent
    dacLine := List.replicate 11 (List.replicate 10 0)
    adcLine := List.replicate 10 (List.replicate 12 0)
    pins := []
    configured := false
    headset := false
    hsGain := 0
    spkTripped := false
    spkTrips := []
    spkRearmed := false
    tdm := List.replicate 4 TdmPort.idle
  }

/-- What an echo canceller instance keeps beside its registers: its number (0–15 LEC, 16–19 AEC), its taps (0 cleared, else a
number that stands for them), whether its FREEZE awaits the write of 0 that R294 asks for, whether its reference has exceeded
−60 dBFS since it started or was reset, the stride of its last double-talk declaration, its double talk in its last committed
stride (R289), the sums of squares of port 0 and of the echo estimate over the last strides, the stride since which its residual
has been too high, the stride since which its ERLE has been high, that its taps clear at the next boundary (R285), that it is
reset there (R295), the stride its next result falls due, and how many strides of the period adapted and had double talk. -/
structure EchoInst where
  i : Nat
  taps : Nat
  startHold : Bool
  heard : Bool
  dtdAt : Option Nat
  lastTalk : Bool
  sums : List (Nat × Nat)
  divSince : Option Nat
  erleSince : Option Nat
  clearNext : Bool
  resetNext : Bool
  dueAt : Nat
  lastResult : Nat
  adapted : Nat
  talked : Nat
deriving DecidableEq, Repr

/-- the echo canceller instances -/
structure EchoState where
  /-- one entry for each instance of the running image -/
  insts : List EchoInst
deriving DecidableEq, Repr

/-- The echo canceller instances: after reset. -/
def EchoState.reset : EchoState :=
  {
    insts := []
  }

/-- Which row of R324 an attenuation stands for. -/
inductive DuckKind where
  | interrupt | allCall | foghorn
deriving DecidableEq, Repr

/-- An attenuation of R324 for one output (the foghorn row: for every output), with its inputs at the last boundary
at which its condition held (the program inputs of the interrupt row, those spared by the all-call row), and the boundary at which
its condition was first absent, while it hangs (R325). -/
structure Duck where
  kind : DuckKind
  output : Nat
  inputs : List Nat
  absent : Option Nat
deriving DecidableEq, Repr

/-- the talk groups, keys and node mix -/
structure TgState where
  /-- the panel's requests, bit s for slot s (R308) -/
  panelReq : Nat
  /-- the GPIO requests (R308) -/
  gpioReq : Nat
  /-- the network's requests (R308, R599) -/
  netReq : Nat
  /-- the wake talk requests, bit m for wake model m (R192) -/
  wakeReq : Nat
  /-- the combined requests at the last boundary (R310) -/
  lastReq : Nat
  /-- the slots blocked by a talk close (R314) -/
  blocked : Nat
  /-- the slots whose key state is open (R312) -/
  openKeys : Nat
  /-- the MODE 2 slots that a press opened unlatched, whose release decides the latch (R312) -/
  tapping : Nat
  /-- the stride of each slot's last press (R312) -/
  pressAt : List (Nat × Nat)
  /-- the toggles and closes that the boundary's arbitration has applied (R313, R314) -/
  toggles : Nat
  /-- the closes that the boundary's arbitration has applied (R314) -/
  closes : Nat
  /-- the crosspoints that are or have been other than −∞ -/
  xps : List Xp
  /-- the attenuations in force or hanging (R324, R325) -/
  ducks : List Duck
  /-- the gates of talk and listen, bit g for group g, at the last boundary (R317) -/
  talkGates : Nat
  /-- the listen gates at the last boundary, with the overrides of R327 -/
  listenGates : Nat
  /-- the groups with a local open talk at the last boundary -/
  localTalk : Nat
deriving DecidableEq, Repr

/-- The talk groups, keys and node mix: after reset. -/
def TgState.reset : TgState :=
  {
    panelReq := 0
    gpioReq := 0
    netReq := 0
    wakeReq := 0
    lastReq := 0
    blocked := 0
    openKeys := 0
    tapping := 0
    pressAt := []
    toggles := 0
    closes := 0
    xps := []
    ducks := []
    talkGates := 2 ^ 64 - 1
    listenGates := 2 ^ 64 - 1
    localTalk := 0
  }

/-- One call detector: its input (0–19), whether it is the DC detector, qualifying and non-qualifying strides in a row,
the stride at which the call in progress started, and its level at the last qualifying stride (R444, R446). -/
structure Det where
  input : Nat
  dc : Bool
  qual : Nat
  unqual : Nat
  startAt : Option Nat
  level : Nat
deriving DecidableEq, Repr

/-- the call detectors, call generation and lamps -/
structure CallState where
  /-- the detectors that have seen a qualifying stride or hold a call -/
  dets : List Det
  /-- the stride in which each line channel's generation started, and whether its 100 ms are over (R454) -/
  gen : List (Option (Nat × Bool))
  /-- the stride in which each line channel's generation last stopped, while it is blanked (R458) -/
  stopAt : List (Option Nat)
  /-- the last stride in which this node raised each group (R453) -/
  raisedAt : List (Nat × Nat)
  /-- the stride since which each CALL_SEND bit has been 1 (R469) -/
  sendAt : List (Nat × Nat)
deriving DecidableEq, Repr

/-- The call detectors, call generation and lamps: after reset. -/
def CallState.reset : CallState :=
  {
    dets := []
    gen := [none, none, none, none]
    stopAt := [none, none, none, none]
    raisedAt := []
    sendAt := []
  }

/-- A host transaction: the words that were not OK with their codes, first word first, and how many of its writes are
undecided (R553, R559). -/
structure Txn where
  id : Nat
  bad : List (Nat × Code)
  undecided : Nat
deriving DecidableEq, Repr

/-- The open or held page of the page window (R571–R573). -/
structure OpenPage where
  source : Nat
  mode : Nat
  seq : Nat
  bytes : List Byte
  pos : Nat
  held : Bool
deriving DecidableEq, Repr

/-- One operation of an accepted network datagram: its code, its COUNT and ADDR, the words that were not OK, and the data
words of its response (R597, R599). -/
structure NetOp where
  op : Nat
  count : Nat
  addr : Nat
  bad : List (Nat × Code)
  data : List Word
deriving DecidableEq, Repr

/-- An accepted network datagram whose answer has not gone: its number, SESSION, SEQ and OP_COUNT, the operations run so far,
and how many of its writes are undecided (R599). -/
structure NetGram where
  id : Nat
  session : Nat
  seq : Nat
  opCount : Nat
  ops : List NetOp
  undecided : Nat
deriving DecidableEq, Repr

/-- the host port, the page window and the loading of images through it -/
structure HostState where
  /-- the latest decided transaction of the host master (R553) -/
  decided : Txn
  /-- transactions with undecided writes, oldest first (R559) -/
  open_ : List Txn
  /-- the number the next transaction takes -/
  nextTxn : Nat
  /-- the read pointers of page sources 1–5 (R571) -/
  ptr : List Nat
  /-- the open or held page (R573) -/
  page : Option OpenPage
  /-- the diagnostic capture's pages, newest first (R580) -/
  capture : List HistPage
  /-- the number of the next diagnostic capture page -/
  captureSeq : Nat
  /-- how many bytes of the running load have arrived (R583) -/
  loadPos : Nat
  /-- the length and sink of the running load (R582) -/
  loadLen : Nat
  /-- the sink of the running load (R582) -/
  loadSink : Nat
  /-- the wake-model slot or other slot the load goes to (R680) -/
  loadSlot : Nat
  /-- the bytes of the running load that have arrived (R583) -/
  loadBuf : List Host.Cell
  /-- the host watchdog runs (R49) -/
  wdogRunning : Bool
  /-- accepted network datagrams whose answer has not gone, oldest first (R599) -/
  grams : List NetGram
deriving DecidableEq, Repr

/-- The host port, the page window and the loading of images through it: after reset. -/
def HostState.reset : HostState :=
  {
    decided := ⟨0, [], 0⟩
    open_ := []
    nextTxn := 1
    ptr := [0, 0, 0, 0, 0]
    page := none
    capture := []
    captureSeq := 0
    loadPos := 0
    loadLen := 0
    loadSink := 0
    loadSlot := 0
    loadBuf := []
    wdogRunning := false
    grams := []
  }

/-- A beam frame (R347–R350). -/
structure Beam where
  typ : Nat
  beamB : Bool
  wrapped : Bool
  slack : Bool
  segB : Bool
  ring : Nat
  lighthouse : Nat
  stride : Nat
  offset : Nat
  epoch : Nat
  length : Nat
  adders : Nat
  talk : Nat
  int_ : Nat
  all : Nat
  call : Nat
  bitmap : Nat
  payload : List Nat
deriving DecidableEq, Repr

/-- A control frame (R352): its header and body. -/
structure Ctl where
  typ : Nat
  cls : Nat
  fromAdrift : Bool
  ring : Nat
  hops : Nat
  sender : Nat
  stride : Nat
  seq : Nat
  body : List Byte
deriving DecidableEq, Repr

/-- A frame that the node has started to send: its port, its bytes from the destination address to the last payload
byte, whether it ends with a poisoned FCS and goes out under MACsec, and then the PN of its SecTAG (0 without) and whether its ICV field is
16 zero bytes (R660). -/
structure Sent where
  port : Nat
  bytes : List Byte
  poisoned : Bool
  secured : Bool
  pn : Nat
  icvZero : Bool
deriving DecidableEq, Repr

/-- What the node added to one beam (R367): the STRIDE and the words by group. -/
structure Stored where
  stride : Nat
  words : List (Nat × List Nat)
deriving DecidableEq, Repr

/-- An OUT that the node forwarded or launched: STRIDE, half, SEGMENT, and the port it left by (R412, R415). -/
structure OutSeen where
  stride : Nat
  beamB : Bool
  segB : Bool
  wrapped : Bool
  port : Nat
deriving DecidableEq, Repr

/-- A pair of wrapped beams that the lighthouse launched: their stride, the ports they left by, the TURNs that have ended
(half, port, frame, lost), whether RET A and RET B are formed, and whether the pair counts as one without a RET
(R419–R422). -/
structure Launch where
  stride : Nat
  ports : List Nat
  turns : List (Bool × Nat × Beam × Bool)
  doneA : Bool
  doneB : Bool
  counted : Bool
deriving DecidableEq, Repr

/-- A RET that has arrived whole: its beam's stride on the node's time base, the frame, and what the node's store held for
it (R368). -/
structure RetHave where
  stride : Nat
  beam : Beam
  stored : Stored
deriving DecidableEq, Repr

/-- A received beam that waits for its end (R476, R655): its port, its header and payload, whether it keeps R350 and its
ring is this node's, whether it is known bad, whether it is poisoned, the ns of its SFD and of its end on the node's time
base, whether it is a probe, the frames started for it, whose FCS waits for its end (R404), and the association number and PN that
its SecTAG names, by which it passed the replay check (R652). -/
structure PendRx where
  port : Nat
  beam : Beam
  ours : Bool
  lenOk : Bool
  bad : Bool
  poisoned : Bool
  secured : Bool
  sfd : Nat
  ends : Nat
  dead : Bool
  out : List (Nat × List Byte)
  pn : Option (Nat × Nat)
deriving DecidableEq, Repr

/-- An admitted node that the lighthouse knows (R385, R388, R389). -/
structure Member where
  id : Nat
  mac : Nat
  mask : Nat
  lastGate : Nat
deriving DecidableEq, Repr

/-- A GATE request waiting for its answer (R385). -/
structure GateReq where
  mac : Nat
  reqId : Nat
  flags : Nat
  q : Nat
  mask : Nat
  sender : Nat
  /-- the stride in which it arrived -/
  at_ : Nat
deriving DecidableEq, Repr

/-- A live foghorn announcement (R438): ORIGIN, FSEQ and the stride of its last ANNOUNCE. -/
structure Announce where
  origin : Nat
  fseq : Nat
  at_ : Nat
deriving DecidableEq, Repr

/-- A claim or MUSTER that the node sent: its SEQ, the ports it left by, and the ports it has come back on (R381,
R428). -/
structure Track where
  seq : Nat
  ports : List Nat
  back : List Nat
deriving DecidableEq, Repr

/-- the Wilnan ring -/
structure RingNode where
  /-- the stride from which the 64 strides of R377 count -/
  enAt : Nat
  /-- the stride of the last valid beam of the current lighthouse (R430) -/
  lastValid : Nat
  /-- that beam had SLACK set (R430) -/
  slackSeen : Bool
  /-- RING_STATE's LIGHTHOUSE and EPOCH name a lighthouse the node follows or is -/
  known : Bool
  /-- LIGHTHOUSE and EPOCH of the lighthouse that was lost, until another first arrives (R431) -/
  former : Option (Nat × Nat)
  /-- the highest epoch seen (R381) -/
  maxEpoch : Option Nat
  /-- the node claims the lighthouse role (R377) -/
  claiming : Bool
  /-- the claims sent, newest first (R381) -/
  claims : List Track
  /-- the stride of the last claim (R378) -/
  lastClaim : Nat
  /-- the node won its election and launches from the next boundary (R381) -/
  winning : Bool
  /-- LIGHTHOUSE and EPOCH of the last adoption of a stride count (R801) -/
  adopted : Option (Nat × Nat)
  /-- an adoption waits for the next boundary: the number that boundary takes (R801) -/
  adoptAt : Option Nat
  /-- the OUT A beams received lately: STRIDE, the ns that R373 gives for their boundary on the node's time base, and the
  stride of their arrival (R373, R801) -/
  targets : List (Nat × Nat × Nat)
  /-- the beam at which the node becomes member, and its node ID (R386) -/
  admission : Option (Nat × Nat)
  /-- MAC and SEQ of the last MUSTER handled -/
  lastMuster : Option (Nat × Nat)
  /-- the last admitted node ID (R431) -/
  lastId : Option Nat
  /-- MUSTERs since the node's state changed (R387, R389) -/
  musters : Nat
  /-- lighthouse: the admitted nodes -/
  members : List Member
  /-- lighthouse: GATE requests waiting, oldest first -/
  gates : List GateReq
  /-- lighthouse: node IDs to list as RELEASED (R389) -/
  released : List (Nat × Nat)
  /-- the stride of the last MUSTER sent -/
  musterAt : Option Nat
  /-- the stride of the last launch -/
  launchedAt : Option Nat
  /-- the stride of the last phase check -/
  checkedAt : Option Nat
  /-- serial numbers of GATE, MUSTER and FOGHORN frames (R352) -/
  seqs : List Nat
  /-- lighthouse: the stride since which returned TALK_MASKs have been 0 (R392) -/
  zeroSince : Nat
  /-- lighthouse: the stride of the first event since that ends slack at the boundary after it (R393) -/
  slackWake : Option Nat
  /-- the node has sent LEAVE: the muster stride from which it no longer adds (R390) -/
  leaveAt : Option Nat
  /-- ports to mark LEAVING, and from which boundary (R433) -/
  leaving : List (Nat × Nat)
  /-- the contribution store: entry 2 × STRIDE[3:0] for beam A, the next for beam B (R367) -/
  store : List (Nat × Stored)
  /-- ring talk blocks of the last boundaries: the boundary, and its blocks by group (R365) -/
  talk : List (Nat × List (Nat × List Sample))
  /-- OUT frames forwarded or launched lately -/
  outs : List OutSeen
  /-- lighthouse: launches not yet dealt with -/
  launches : List Launch
  /-- wrapped OUT A beams whose TURN has arrived: STRIDE, SEGMENT, port (R412) -/
  turned : List (Nat × Bool × Nat)
  /-- RETs not yet delivered -/
  rets : List RetHave
  /-- lighthouse: RETs as sent (R364) -/
  sentRets : List Beam
  /-- the masks of the RETs delivered last, beam A and beam B: TALK, INT, ALL (R372, R409) -/
  masks : List (Nat × Nat × Nat)
  /-- the blocks that the ring listen endpoints carry -/
  blocks : List (Nat × List Sample)
  /-- concealed boundaries in a row, beam A and beam B (R408) -/
  concealed : Nat × Nat
  /-- the last beam delivered: its STRIDE as this node counts it, beam A and beam B -/
  delivered : Option Nat × Option Nat
  /-- the first beam whose absence is concealed (R386) -/
  firstBeam : Nat
  /-- the limiter gains below 1 by group: G = 8,388,607 × 10^(m / 200) / P, as (P, m) (R370) -/
  limits : List (Nat × (Nat × Nat))
  /-- the last measured E, in ns (R374) -/
  lastE : Nat
  /-- P is fixed at the first beam of the node's membership (R374, R386) -/
  pFixed : Bool
  /-- Q is fixed at the first beam of the node's membership, or of its lighthouse role (R374, R386) -/
  qFixed : Bool
  /-- good probes in a row on ports A and B (R425) -/
  probes : Nat × Nat
  /-- received beams whose ICV verdict is due -/
  pend : List PendRx
  /-- the boundary at which a LEAVE wraps the ring (R433) -/
  wrapAt : Option Nat
  /-- a TURN of a closed beam arrived, or a port died: the lighthouse wraps at the next boundary (R418) -/
  wrapDue : Bool
  /-- lighthouse: the strides of closed OUT A beams launched and not back (R418) -/
  unreturned : List Nat
  /-- lighthouse: the ring closes at the next boundary (R423) -/
  closeDue : Bool
  /-- lighthouse: MUSTERs of the last muster strides while wrapped, newest first (R428) -/
  crossed : List Track
  /-- local talk on group 63 is open as an episode (R434) -/
  fogOpen : Bool
  /-- the stride of the last ANNOUNCE or RELEASE -/
  fogAt : Nat
  /-- RELEASE frames still to send (R434) -/
  fogLeft : Nat
  /-- live announcements of other nodes (R438) -/
  live : List Announce
  /-- PHY_BYPASS_N is driven high (R847) -/
  bypassOpen : Bool
  /-- FOGHORN frames acted on in the last 1,024 strides: SENDER, SEQ and stride (R437) -/
  fogSeen : List (Nat × Nat × Nat)
  /-- RING_ID as it took effect at the last admission request: RING_NUMBER and NODE_ID (R391) -/
  number : Nat
  askId : Nat
  /-- frames of another ring hold the node in gate (R346) -/
  foreign : Bool
  /-- the claims of other lighthouses, as their MUSTERs bore them: SENDER, PRECEDENCE and MAC (R396) -/
  heard : List (Nat × Nat × Nat)
  /-- the lighthouse gives way at the next boundary (R396) -/
  yields : Bool
  /-- lighthouse: the ns on the node's time base at which the last beam it sent on port A and on port B ends (R362, R363) -/
  busy : Nat × Nat
deriving DecidableEq, Repr

/-- The Wilnan ring: after reset. -/
def RingNode.reset : RingNode :=
  {
    enAt := 0
    lastValid := 0
    slackSeen := false
    known := false
    former := none
    maxEpoch := none
    claiming := false
    claims := []
    lastClaim := 0
    winning := false
    adopted := none
    adoptAt := none
    targets := []
    admission := none
    lastMuster := none
    lastId := none
    musters := 0
    members := []
    gates := []
    released := []
    musterAt := none
    launchedAt := none
    checkedAt := none
    seqs := [0, 0, 0]
    zeroSince := 0
    slackWake := none
    leaveAt := none
    leaving := []
    store := []
    talk := []
    outs := []
    launches := []
    turned := []
    rets := []
    sentRets := []
    masks := [(0, 0, 0), (0, 0, 0)]
    blocks := []
    concealed := (0, 0)
    delivered := (none, none)
    firstBeam := 0
    limits := []
    lastE := 0
    pFixed := false
    qFixed := false
    probes := (0, 0)
    pend := []
    wrapAt := none
    wrapDue := false
    unreturned := []
    closeDue := false
    crossed := []
    fogOpen := false
    fogAt := 0
    fogLeft := 0
    live := []
    bypassOpen := false
    fogSeen := []
    number := 0
    askId := 0
    foreign := false
    heard := []
    yields := false
    busy := (0, 0)
  }

/-- One MAC port beside its registers: frames waiting by receive queue (8 the exception queue), frames waiting by transmit
queue, the boundary and ns at which it last left transmit LPI, the stride of the last broken pause, and the quanta and the stride of the last pause obeyed (R485, R486, R495–R510). -/
structure MacPort where
  rxq : List (Nat × List Byte)
  txq : List (Nat × List Byte)
  lpiLeft : Option (Nat × Nat)
  lpiSince : Nat
  brokenAt : Option Nat
  pauseQ : Nat
  pausedAt : Nat
deriving DecidableEq, Repr

/-- MACsec on one port (R648–R653): its CAK slot and key-server priority, the newest receive SA, the SA that waits for the
peer before transmit moves to it, whether the peer reports it installed, the next transmit PN, and the next PN that each of the newest
and the old receive SA expects (R652). -/
structure SecPort where
  cak : Option Nat
  prio : Nat
  rxAn : Option Nat
  oldAn : Option Nat
  nextTx : Option Nat
  peerHas : Bool
  pn : Nat
  rxPn : Nat
  oldPn : Nat
deriving DecidableEq, Repr

/-- One interop receive stream beside its registers: the strides of its last stored packet and of its last packet from the
locked SSRC, the samples of silence and ramp left after a clock step (R525, R544), and the LATENCY in force since the last
boundary (R545). -/
structure IopRx where
  storedAt : Option Nat
  lockedAt : Nat
  hush : Nat
  latency : Nat
deriving DecidableEq, Repr

/-- A receive stream that has never run. -/
def IopRx.idle : IopRx := ⟨none, 0, 0, 96⟩

/-- A timestamp that the PTP unit took of an event message: its port, whether it was sent, seconds and nanoseconds, corrected
(R537). -/
structure PtpStamp where
  port : Nat
  sent : Bool
  sec : Nat
  ns : Nat
deriving DecidableEq, Repr

/-- One interop transmit stream beside its registers: its sequence number, the unicast MAC address once resolved, the
samples gathered for the next packet with the index of the first (R533–R535). -/
structure IopTx where
  seq : Nat
  mac : Option Nat
  first : Nat
  samples : List (List Sample)
deriving DecidableEq, Repr

/-- the MAC ports, MACsec, interop streams and PTP -/
structure NetNode where
  /-- the addresses of ports A, B and C, from the identity record (R479) -/
  macs : List Nat
  /-- frames that the node has started to send since the last boundary -/
  sent : List Sent
  /-- the MAC ports -/
  ports : List MacPort
  /-- the snapshot taken and not yet shown: ports and counts (R515) -/
  snap : List (Nat × List Nat)
  /-- MACsec by port -/
  sec : List SecPort
  /-- receive channel rings: slot 1,024 × channel + t mod 1,024, its tag and sample (R526) -/
  ringRx : List (Nat × Nat × Int)
  /-- receive streams -/
  rx : List IopRx
  /-- transmit streams -/
  tx : List IopTx
  /-- receive streams that had a needed ring slot missing in this stride (R532) -/
  missed : List Nat
  /-- receive streams whose ratio an ASRC clamped in this stride (R531) -/
  clamped : List Nat
  /-- M(k) at the last boundary and its predicted advance over the stride, in 1/65,536 samples (R527) -/
  media : Nat × Nat
  /-- the stride from which D(k) is watched, D(k) then, and the smallest and largest D(k) − D(then) + 2^47 of the last 8,000
  strides, each kept only while no later one is as small (R542) -/
  dStart : Nat
  /-- D(k) when the watch began, in 1/65,536 samples -/
  dRef : Nat
  /-- the smallest values -/
  dLow : List (Nat × Nat)
  /-- 2^48 less the largest values -/
  dHigh : List (Nat × Nat)
  /-- O has been set since the first transmit stream was enabled (R543) -/
  oSet : Bool
  /-- the local PTP clock at the last boundary, seconds and nanoseconds (R527) -/
  clock : Nat × Nat
  /-- the timestamps of event messages since the last boundary (R537) -/
  stamps : List PtpStamp
deriving DecidableEq, Repr

/-- The MAC ports, MACsec, interop streams and PTP: after reset. -/
def NetNode.reset : NetNode :=
  {
    macs := [0, 0, 0]
    sent := []
    ports := List.replicate 3 ⟨[], [], none, 0, none, 0, 0⟩
    snap := []
    sec := List.replicate 3 ⟨none, 0, none, none, none, false, 1, 1, 1⟩
    ringRx := []
    rx := List.replicate 32 IopRx.idle
    tx := List.replicate 32 ⟨0, none, 0, []⟩
    missed := []
    clamped := []
    media := (0, 393216)
    dStart := 0
    dRef := 0
    dLow := []
    dHigh := []
    oSet := false
    clock := (0, 0)
    stamps := []
  }

/-- The security island's memory of one enrolled operator: its slot, role (1 User, 2 CO) and public key (R632). -/
structure Operator where
  slot : Nat
  role : Nat
  key : List Byte
deriving DecidableEq, Repr

/-- An open network session: its number, its role and the last SEQ accepted in it (R598, R635). -/
structure NetSession where
  id : Nat
  role : Nat
  lastSeq : Nat
  opened : Nat
deriving DecidableEq, Repr

/-- The SEC mailbox service under way: its code, and its mailbox code and output once it has run (R638). -/
structure Mbox where
  service : Nat
  result : Option (Nat × List Byte)
deriving DecidableEq, Repr

/-- The CTR_DRBG: its V and Key, and the generate requests since it was seeded (R645). -/
structure Drbg where
  vKey : BitVec 384
  uses : Nat
deriving DecidableEq, Repr

/-- the security island -/
structure SecState where
  /-- the APPROVED fuse is burned (R629) -/
  fuse : Bool
  /-- the self-tests of the last start have passed (R622) -/
  tested : Bool
  /-- bit i: entropy oscillator i is enabled (R624) -/
  osc : Nat
  /-- the operator slots (R632) -/
  operators : List Operator
  /-- the image-verification key slots (R86) -/
  imageKeys : List (Nat × List Byte)
  /-- a tack image key is loaded (R87) -/
  tackKey : Bool
  /-- the CAK slots that hold a key, with their CKNs -/
  caks : List (Nat × List Byte)
  /-- the node identity public key, empty while there is no key pair (R661, R883) -/
  identity : List Byte
  /-- the CAK slot that SET_MACSEC gave each port -/
  cakOf : List (Option Nat)
  /-- the masters that hold a live challenge (R634) -/
  challenges : List Nat
  /-- the masters that are locked out (R634) -/
  locked : List Nat
  /-- the open network sessions (R635) -/
  nets : List NetSession
  /-- the mailbox service under way -/
  mbox : Option Mbox
  /-- the cause of the zeroisation under way: the ZERO_PENDING marker (R659, R666) -/
  zeroing : Option Nat
  /-- a WDT expiry coincides with the zeroisation under way (R23) -/
  wdtDue : Bool
  /-- the partition holds a partition wrapping key (R646) -/
  pwk : Bool
  /-- the DRBG, none while it is not instantiated (R645) -/
  drbg : Option Drbg
  /-- how many conditioned blocks the entropy source has given (R644) -/
  blocks : Nat
deriving DecidableEq, Repr

/-- The security island: after reset. -/
def SecState.reset : SecState :=
  {
    fuse := false
    tested := false
    osc := 65535
    operators := []
    imageKeys := []
    tackKey := false
    caks := []
    identity := (List.range 97).map Config.factoryIdentity
    cakOf := [none, none, none]
    challenges := []
    locked := []
    nets := []
    mbox := none
    zeroing := none
    wdtDue := false
    pwk := false
    drbg := none
    blocks := 0
  }

/-- A firmware image (R679): its version, the vectors of its steward and application parts, and its vetted list: STEP,
STEWARD_CHARTER, APP_CHARTER, TACK_SCHEMA (R692). -/
structure FwImage where
  version : Nat
  steward : CompatVec
  app : CompatVec
  vetted : List (Nat × Nat × Nat × Nat)
deriving DecidableEq, Repr

/-- the stored images, the boot record and the images in use -/
structure BootState where
  /-- MRAM firmware slots A and B -/
  fw : List (List Host.Cell)
  /-- whether the signature of each firmware slot's image verifies -/
  fwSig : List Bool
  /-- MRAM tack slots 0 and 1 -/
  tack : List (List Host.Cell)
  /-- MRAM wake-model slots 0 to 3 -/
  wake : List (List Host.Cell)
  /-- the QSPI flash (R696) -/
  flash : List Host.Cell
  /-- QSPI tack candidates that the steward has found invalid since the last boot (R698) -/
  flashBad : List Nat
  /-- boot record: the states of firmware A, B and tack 0, 1: 0 EMPTY, 1 VALID, 2 INVALID, 3 TRIAL (R681) -/
  states : List Nat
  /-- the states of the wake-model slots -/
  models : List Nat
  /-- boot record: the commit serials of the same four slots -/
  serials : List Nat
  /-- boot record: the active firmware slot and tack slot -/
  active : Nat × Nat
  /-- the slots committed and not yet at a first boot, numbered as `states` (R711) -/
  fresh : List Nat
  /-- boot record: WDT resets that the TRIAL firmware has suffered (R711) -/
  trialResets : Nat
  /-- the firmware that runs; none for the ROM firmware -/
  fwImg : Option FwImage
  /-- the pairs of R697 that follow the pair chosen -/
  rest : List (Nat × Nat)
  /-- the tack candidate that the steward is to load (R91, R92) -/
  want : Option Nat
  /-- the load sink of the candidate in `want`, 0 for a load at boot or after a reset (R833) -/
  wantSink : Nat
  /-- the sinks whose last load reached DONE and is not committed, with the slot it went to (R583, R710) -/
  done : List (Nat × Nat)
  /-- the wake model slot to load at the next boundary (R710) -/
  modelDue : Option Nat
  /-- recovery boot (R713) -/
  recovery : Bool
  /-- the stride from which audio has run (R711) -/
  audioAt : Option Nat
  /-- a SOFT reset follows the ramp to silence (R670) -/
  softDue : Bool
  /-- BOOT_COMMIT.GO has been written, by this master code and with this word, and the steward's checks follow (R710) -/
  commitDue : Option (Nat × Nat)
deriving DecidableEq, Repr

/-- The stored images, the boot record and the images in use: after reset. -/
def BootState.reset : BootState :=
  {
    fw := [[], []]
    fwSig := [false, false]
    tack := [[], []]
    wake := [[], [], [], []]
    flash := []
    flashBad := []
    states := [0, 0, 0, 0]
    models := [0, 0, 0, 0]
    serials := [0, 0, 0, 0]
    active := (0, 0)
    fresh := []
    trialResets := 0
    fwImg := none
    rest := []
    want := none
    wantSink := 0
    done := []
    modelDue := none
    recovery := false
    audioAt := none
    softDue := false
    commitDue := none
  }

/-- A record of the settings journal (R682): its SEQ, whether it is a SETTING (else POWER_FAIL), its master, the first
bytes of the image's digest, ADDRESS, MASK and VALUE. -/
structure JRec where
  seq : Nat
  setting : Bool
  master : Nat
  image : List Byte
  addr : Nat
  mask : Nat
  value : Nat
deriving DecidableEq, Repr

/-- A journalled field that a master other than the steward has changed and that is not written yet (R684). -/
structure JWait where
  addr : Nat
  mask : Nat
  value : Nat
  master : Nat
  at_ : Nat
deriving DecidableEq, Repr

/-- the settings journal -/
structure JournalState where
  /-- the slots that hold a record, by slot number rising (R682) -/
  slots : List (Nat × JRec)
  /-- changed fields that wait to be written (R684) -/
  waits : List JWait
deriving DecidableEq, Repr

/-- The settings journal: after reset. -/
def JournalState.reset : JournalState :=
  {
    slots := []
    waits := []
  }

/-- One PSE port beside its registers: the allocation it asks for in 0.1 W, and the stride since which it has been
POWERED, whether EN has been 0 since it latched off, and the wait it is in, in ms (R781–R785). -/
structure PsePort where
  alloc : Nat
  poweredAt : Option Nat
  enWasZero : Bool
  wait : Nat
deriving DecidableEq, Repr

/-- One die's thermal watch: its last samples in 0.25 °C, newest first; for how many samples T_f has been above the
WARM, HOT and CRIT thresholds, and at or below each of them less 4 °C, without a break; and milliseconds since its last
change (R787, R788). -/
structure DieTherm where
  samples : List Int
  above : List Nat
  below : List Nat
  sinceChange : Nat
deriving DecidableEq, Repr

/-- power entry, the budget, the tether link, line power and temperature -/
structure PowerState where
  /-- the inputs that the personality or the image enables, as PORTS VIN_MASK codes them (R716, R717) -/
  vinMask : Nat
  /-- the 80 ms of R724 run -/
  inrush : Bool
  /-- the line die is in its reset state (R755, R792) -/
  lineReset : Bool
  /-- a brown-out warning is raised (R749) -/
  brownout : Bool
  /-- domains and blocks that wait to power up, in ascending number (R748) -/
  upQueue : List Nat
  /-- failed tries of the rail sequence (R738) -/
  railTries : Nat
  /-- the rail sequence has stopped and waits for its next try (R738) -/
  railsStopped : Bool
  /-- the supply monitor holds reset (R737, R743) -/
  resetHeld : Bool
  /-- the first rule of R742 broken since the rails were last legal -/
  seqBroken : Nat
  /-- VIN is below the limits of R752 -/
  vinLost : Bool
  /-- the strides of the tether losses of the last 60 s (R758) -/
  tetherAt : List Nat
  /-- P_AVAIL and the request when each output was last denied or shed (R732) -/
  refusedAt : List (Nat × Nat)
  /-- the boundaries from which each party-line port has sourced without a break (R775) -/
  sourcingAt : List (Option Nat)
  /-- the retry wait of each port in ms (R773) -/
  waitMs : Nat × Nat
  /-- the PSE ports -/
  pse : List PsePort
  /-- the logic die's and the line die's temperature watch -/
  die : List DieTherm
  /-- the stride of the last panel input change (R747) -/
  panelAt : Nat
  /-- the class that PD_CLS selects (R722) -/
  pdReq : Nat
  /-- bit n: the PORTS section enables PSE port n + 1 (R746, R77) -/
  psePorts : Nat
  /-- the strides in a row in which each claimed stall measured more than 5 % below its setpoint (R740) -/
  avsLow : List (Nat × Nat)
  /-- the strides in a row in which every claimed stall measured within 2 % of its setpoint (R740) -/
  avsGood : Nat
deriving DecidableEq, Repr

/-- Power entry, the budget, the tether link, line power and temperature: after reset. -/
def PowerState.reset : PowerState :=
  {
    vinMask := 0xB
    inrush := false
    lineReset := false
    brownout := false
    upQueue := []
    railTries := 0
    railsStopped := false
    resetHeld := false
    seqBroken := 0
    vinLost := false
    tetherAt := []
    refusedAt := [(0, 0), (0, 0), (0, 0), (0, 0)]
    sourcingAt := [none, none]
    waitMs := (0, 0)
    pse := [⟨0, none, false, 0⟩, ⟨0, none, false, 0⟩]
    die := [⟨[], [0, 0, 0], [0, 0, 0], 2000⟩, ⟨[], [0, 0, 0], [0, 0, 0], 2000⟩]
    panelAt := 0
    pdReq := 0
    psePorts := 0
    avsLow := []
    avsGood := 0
  }

/-- One copy channel as it runs: its descriptor as GO found it, its master, the rows still to move, in the order they move,
whether ABORT is asked, and how many of the words it has written are undecided (R604, R606, R608). -/
structure CopyRun where
  src : Nat
  dst : Nat
  srcStride : Nat
  dstStride : Nat
  width : Nat
  master : Master
  rows : List Nat
  abort : Bool
  undecided : Nat
deriving DecidableEq, Repr

/-- the copy engine and its memories -/
structure CopyState where
  /-- the copy buffer (R601) -/
  buf : List Host.Cell
  /-- the stalls' SRAM, 64 KB each (R601) -/
  sram : List Host.Cell
  /-- the channels -/
  run : List (Option CopyRun)
  /-- the channel that was served last (R608) -/
  last : Nat
deriving DecidableEq, Repr

/-- The copy engine and its memories: after reset. -/
def CopyState.reset : CopyState :=
  {
    buf := []
    sram := []
    run := [none, none, none, none]
    last := 3
  }



/-- the GPIO balls and encoders -/
structure GpioState where
  /-- the panel records of the running image -/
  panel : List PanelRec
  /-- the balls whose level has been stable for 10 ms since reset, and those of them that are high (R308) -/
  steady : Nat
  steadyHigh : Nat
  /-- the PWM channels: FREQ and the DUTY of each as the present period took them, and the media master cycles left of it at the
  last boundary (R614) -/
  pwmFreq : Nat
  pwmDuty : List Nat
  pwmLeft : Nat
  /-- encoder detents whose change waits for the next boundary: encoder, clockwise (R617) -/
  detents : List (Nat × Bool)
deriving DecidableEq, Repr

/-- The GPIO balls and encoders: after reset. -/
def GpioState.reset : GpioState :=
  {
    panel := []
    steady := 0
    steadyHigh := 0
    pwmFreq := 2
    pwmDuty := List.replicate 8 500
    pwmLeft := 0
    detents := []
  }



/-- the clocks -/
structure ClkState where
  /-- RING or PTP has governed the media clock since reset (R797) -/
  governed : Bool
  /-- the pull of the media PLL held in HOLDOVER, in 0.01 ppm (R799) -/
  held : Int
  /-- PTP_CAPTURE.GO has been written: a free time stands in PTP_TIME, and the time itself has not come -/
  ptpDue : Bool
  /-- CLK_RTC_SEC has been written: the seconds that the next tick sets (R813) -/
  rtcSet : Option Nat
deriving DecidableEq, Repr

/-- The clocks: after reset. -/
def ClkState.reset : ClkState :=
  {
    governed := false
    held := 0
    ptpDue := false
    rtcSet := none
  }

/-- The node. -/
structure State where
  /-- the register file: the fields that differ from their reset value, by key (R15–R23, R819) -/
  regs : List (Nat × Nat)
  /-- strides since the counter started: the node's own time base; the stride counter of R800 is State.count -/
  stride : Nat
  /-- the stride counter less `stride`, modulo 2^48: what the last adoption of the ring's count changed (R800, R801) -/
  countAdj : Nat
  /-- whether the stride counter has started (R800) -/
  strideOn : Bool
  /-- THE MODEL'S OWN: how many free values have been drawn (log entry 4) -/
  freeCtr : Nat
  /-- the commands that wait, first in, first out -/
  pending : List Instr
  /-- the last answer to a host, network or mailbox command -/
  answer : Answer
  /-- writes of audio-control fields that wait for the boundary, in order of arrival (R591) -/
  queued : List QWrite
  /-- the event log's records, oldest first, at most 64 pages of 15 (R831, R832) -/
  log : List LogRec
  /-- pages of the event log marked TORN, by PAGE_SEQ (R576) -/
  logTorn : List Nat
  /-- pages of the event log marked OVERRUN, by PAGE_SEQ (R578) -/
  logOverrun : List Nat
  /-- the banks of SYS_ACCESS_ERR, by master code 0–5 (R829) -/
  banks : List AccessBank
  /-- the stall fabric and the image it runs -/
  fab : FabState
  /-- the live swap of regions -/
  swap : SwapState
  /-- the microphones, the staged wake, the history and the hand-over -/
  mic : MicState
  /-- the party-line ports, converters, hybrids and TDM ports -/
  line : LineState
  /-- the echo canceller instances -/
  echo : EchoState
  /-- the talk groups, keys and node mix -/
  tg : TgState
  /-- the call detectors, call generation and lamps -/
  call : CallState
  /-- the host port, the page window and the loading of images through it -/
  host : HostState
  /-- the Wilnan ring -/
  ring : RingNode
  /-- the MAC ports, MACsec, interop streams and PTP -/
  net : NetNode
  /-- the security island -/
  isle : SecState
  /-- the stored images, the boot record and the images in use -/
  boot : BootState
  /-- the settings journal -/
  journal : JournalState
  /-- power entry, the budget, the tether link, line power and temperature -/
  power : PowerState
  /-- the copy engine and its memories -/
  copy : CopyState
  /-- the GPIO balls and encoders -/
  gpio : GpioState
  /-- the clocks -/
  clk : ClkState
deriving DecidableEq, Repr

/-- The node right after reset is released: every register field at its reset value, every store empty, no image
loaded, no command waiting (log entries 1 to 4). -/
def State.reset : State :=
  {
    regs := []
    stride := 0
    countAdj := 0
    strideOn := false
    freeCtr := 0
    pending := []
    answer := ⟨.ok, 0, [], []⟩
    queued := []
    log := []
    logTorn := []
    logOverrun := []
    banks := List.replicate 6 ⟨0, false, false, false, false, 0, 0⟩
    fab := FabState.reset
    swap := SwapState.reset
    mic := MicState.reset
    line := LineState.reset
    echo := EchoState.reset
    tg := TgState.reset
    call := CallState.reset
    host := HostState.reset
    ring := RingNode.reset
    net := NetNode.reset
    isle := SecState.reset
    boot := BootState.reset
    journal := JournalState.reset
    power := PowerState.reset
    copy := CopyState.reset
    gpio := GpioState.reset
    clk := ClkState.reset
  }

end Sys2Proof.Machine
end

