-- ==== Sys2Proof/Machine/Ops.lean ====
section
/-! DEFINITION. The named operations over sparse stores: the register file and the byte memories. -/

namespace Sys2Proof.Machine

/-! ### Sparse stores: keys strictly rising, no entry at its default -/

/-- The entry listed at key `k`, if any. -/
def Sparse.find {α : Type} (k : Nat) : List (Nat × α) → Option α
  | [] => none
  | (j, v) :: t => if j = k then some v else Sparse.find k t

/-- Put an entry at its place among rising keys. -/
def Sparse.insert {α : Type} (k : Nat) (v : α) : List (Nat × α) → List (Nat × α)
  | [] => [(k, v)]
  | (j, w) :: t => if j < k then (j, w) :: Sparse.insert k v t else (k, v) :: (j, w) :: t

/-- Drop every entry at key `k`. -/
def Sparse.erase {α : Type} (k : Nat) : List (Nat × α) → List (Nat × α)
  | [] => []
  | (j, w) :: t => if j = k then Sparse.erase k t else (j, w) :: Sparse.erase k t

/-- The value at key `k`; an unlisted key has the default `d`. -/
def Sparse.get {α : Type} (d : α) (k : Nat) (l : List (Nat × α)) : α := (Sparse.find k l).getD d

/-- Set the value at key `k`; the default is not listed, so equal stores are equal lists. -/
def Sparse.set {α : Type} [DecidableEq α] (d : α) (k : Nat) (v : α) (l : List (Nat × α)) : List (Nat × α) :=
  if v = d then Sparse.erase k l else Sparse.insert k v (Sparse.erase k l)

/-! ### The register file -/

/-- The key of a field: its word's address and its lowest bit. -/
def Fld.key (f : Fld) : Nat := f.addr * 32 + f.lo

/-- The value of a field: its reset value until something writes it. -/
def RegFile.get (r : List (Nat × Nat)) (f : Fld) : Nat := Sparse.get f.rst f.key r % 2 ^ f.width

/-- Set a field, keeping the low bits that it holds. -/
def RegFile.set (r : List (Nat × Nat)) (f : Fld) (v : Nat) : List (Nat × Nat) :=
  Sparse.set f.rst f.key (v % 2 ^ f.width) r

/-- The value of field `f`. -/
def State.get (s : State) (f : Fld) : Nat := RegFile.get s.regs f

/-- Field `f` set to `v`. -/
def State.set (s : State) (f : Fld) (v : Nat) : State := { s with regs := RegFile.set s.regs f v }

/-- A one-bit field as a truth value. -/
def State.getB (s : State) (f : Fld) : Bool := s.get f != 0

/-- A one-bit field set from a truth value. -/
def State.setB (s : State) (f : Fld) (b : Bool) : State := s.set f (if b then 1 else 0)

/-- A field stepped by one, rolling over at its width. -/
def State.inc (s : State) (f : Fld) : State := s.set f (s.get f + 1)

/-- A field stepped by one, stopping at its largest value. -/
def State.incSat (s : State) (f : Fld) : State :=
  if s.get f + 1 < 2 ^ f.width then s.set f (s.get f + 1) else s

/-- Bit `n` of a bit-vector field. -/
def State.bit (s : State) (f : Fld) (n : Nat) : Bool := (s.get f).testBit n

/-- A value with bit `n` set or cleared. -/
def putBit (v n : Nat) (b : Bool) : Nat :=
  if v.testBit n then (if b then v else v - 2 ^ n) else (if b then v + 2 ^ n else v)

/-- Bit `n` of a bit-vector field set or cleared. -/
def State.setBit (s : State) (f : Fld) (n : Nat) (b : Bool) : State := s.set f (putBit (s.get f) n b)

/-- A signed field as an integer. -/
def State.getI (s : State) (f : Fld) : Int := signedOf (s.get f) f.width

/-- A signed field set from an integer, modulo its range. -/
def State.setI (s : State) (f : Fld) (i : Int) : State := s.set f (unsignedOf i f.width)

/-- The outcome of a command: the state it leaves, with the queue of waiting commands as it was. -/
def State.done (s t : State) : Host.Outcome State Fault Refusal := .next { t with pending := s.pending }

/-! ### Byte memories -/

/-- The byte at address `a` of a memory; an unlisted byte reads 0 (log entry 3). -/
def Memory.read (m : List Host.Cell) (a : Nat) : Byte := Sparse.get 0 a m

/-- Write one byte, keeping the canonical form. -/
def Memory.write (m : List Host.Cell) (a : Nat) (b : Byte) : List Host.Cell := Sparse.set 0 a b m

/-- Write a run of bytes from address `a` up. -/
def Memory.writeAll (m : List Host.Cell) (a : Nat) : List Byte → List Host.Cell
  | [] => m
  | b :: t => Memory.writeAll (Memory.write m a b) (a + 1) t

/-- `n` bytes from address `a` up. -/
def Memory.readAll (m : List Host.Cell) (a : Nat) : Nat → List Byte
  | 0 => []
  | n + 1 => Memory.read m a :: Memory.readAll m (a + 1) n

/-- The canonical form of a memory: addresses strictly rising, no listed byte equal to an unlisted one. -/
def Memory.wf : List Host.Cell → Bool
  | [] => true
  | (_, v) :: [] => v != 0
  | (j, v) :: (k, w) :: t => decide (j < k) && v != 0 && Memory.wf ((k, w) :: t)

/-- A little-endian number of the bytes at `a` (the byte order of stored images, R57). -/
def leNat : List Byte → Nat
  | [] => 0
  | b :: t => b.toNat + 256 * leNat t

/-- A most-significant-byte-first number (R12, R550). -/
def beNat (l : List Byte) : Nat := l.foldl (fun n b => n * 256 + b.toNat) 0

/-- `n` little-endian bytes of `v`. -/
def leBytes (v : Nat) : Nat → List Byte
  | 0 => []
  | n + 1 => BitVec.ofNat 8 v :: leBytes (v / 256) n

/-- `n` bytes of `v`, most significant first. -/
def beBytes (v n : Nat) : List Byte := (leBytes v n).reverse

/-! ### Free values (log entry 4) -/

/-- The next free truth value, and the state that has drawn it. -/
def State.freeBool (s : State) : Bool × State :=
  (Config.freeBool s.freeCtr, { s with freeCtr := s.freeCtr + 1 })

/-- The next free 32-bit value, and the state that has drawn it. -/
def State.freeNat (s : State) : Nat × State :=
  ((Config.freeWord s.freeCtr).toNat, { s with freeCtr := s.freeCtr + 1 })

/-- `n` free audio samples drawn from counter `c`. -/
def freeSamples (c : Nat) : Nat → List Sample
  | 0 => []
  | n + 1 => (Config.freeSample c).toInt :: freeSamples (c + 1) n

/-- A block of `ch` channels of free samples, and the state that has drawn them. -/
def State.freeBlock (s : State) (ch : Nat) : Block × State :=
  ((List.range ch).map (fun c => freeSamples (s.freeCtr + 6 * c) 6), { s with freeCtr := s.freeCtr + 6 * ch })

/-! ### The event log (R831–R835) -/

/-- The stride counter, 48 bits (R800). -/
def State.count (s : State) : Nat := (s.stride + s.countAdj) % 2 ^ 48

/-- A page number's distance test: whether page `p` of a ring of `n` pages replaces an unread page (R578). -/
def replacesUnread (ptr p n : Nat) : Bool := decide (n ≤ p) && decide (ptr ≤ p - n)

/-- Add one record to the event log (R579, R831, R834), marking the page OVERRUN that replaces an unread page
(R578). -/
def State.addLog (s : State) (type master domain a0 a1 a2 : Nat) : State :=
  let n := s.get F.HOST_EVT_COUNT_COUNT
  let page := n / 15
  let r : LogRec := ⟨type, master, domain, n + 1, s.get F.CLK_RTC_SEC_SEC, s.get F.CLK_RTC_SUB_TICKS,
    s.count % 2 ^ 32, a0, a1, a2⟩
  let s := s.inc F.HOST_EVT_COUNT_COUNT
  let s := s.setB F.HOST_IRQ_EVENT true
  let s := { s with log := s.log.filter (fun q => decide (page < (q.serial - 1) / 15 + 64)) ++ [r] }
  if n % 15 = 0 && replacesUnread (s.host.ptr.getD 2 0) page 64 then
    let s := { s with logOverrun := s.logOverrun ++ [page] }
    (s.inc F.HOST_OVERRUN_CNT_SRC_3).setB F.HOST_IRQ_OVERRUN true
  else s

/-- The record types of R833. -/
inductive Ev where
  | reset | writeRefused | personaRefused | imageRefused | compatMismatch | unvetted | unvettedRefused | modelRefused
  | apiMismatch | trialFailed | hostLost | reinsTaken | conflict | layerDefaulted | lameStall | echoDiverged
  | phaseSlip | portState | wrap | heal | callTimeout | zeroised | shed | tetherLost | overload | contention
  | lineAlreadyPowered | lineLatched | shortToSupply | pseLatched | thermLevel | strideAdopt | refLost | accessTimeout
deriving DecidableEq, Repr

/-- The TYPE of a record (R833). -/
def Ev.type : Ev → Nat
  | .reset => 0x01
  | .writeRefused => 0x02
  | .personaRefused => 0x03
  | .imageRefused => 0x04
  | .compatMismatch => 0x05
  | .unvetted => 0x06
  | .unvettedRefused => 0x07
  | .modelRefused => 0x08
  | .apiMismatch => 0x09
  | .trialFailed => 0x0A
  | .hostLost => 0x0B
  | .reinsTaken => 0x0C
  | .conflict => 0x0D
  | .layerDefaulted => 0x0E
  | .lameStall => 0x0F
  | .echoDiverged => 0x10
  | .phaseSlip => 0x11
  | .portState => 0x12
  | .wrap => 0x13
  | .heal => 0x14
  | .callTimeout => 0x15
  | .zeroised => 0x16
  | .shed => 0x17
  | .tetherLost => 0x18
  | .overload => 0x19
  | .contention => 0x1A
  | .lineAlreadyPowered => 0x1B
  | .lineLatched => 0x1C
  | .shortToSupply => 0x1D
  | .pseLatched => 0x1E
  | .thermLevel => 0x1F
  | .strideAdopt => 0x20
  | .refLost => 0x21
  | .accessTimeout => 0x22

/-- Add a record that concerns no master's action. -/
def State.ev (s : State) (e : Ev) (domain a0 a1 a2 : Nat) : State := s.addLog e.type 15 domain a0 a1 a2

/-! ### Result cells (R562–R565) -/

/-- The status fields of the result cell at `a`. -/
def cellSeq (a : Nat) : Fld := ⟨a, 0, 8, 0⟩
/-- READY of the result cell at `a`. -/
def cellReady (a : Nat) : Fld := ⟨a, 8, 1, 0⟩
/-- FRESH of the result cell at `a`. -/
def cellFresh (a : Nat) : Fld := ⟨a, 9, 1, 0⟩
/-- ERR of the result cell at `a`. -/
def cellErr (a : Nat) : Fld := ⟨a, 10, 1, 0⟩
/-- LOST_PREV of the result cell at `a`. -/
def cellLost (a : Nat) : Fld := ⟨a, 11, 1, 0⟩

/-- The SEQ after `q`: 255 is followed by 1 (R564). -/
def nextSeq (q : Nat) : Nat := if q = 255 then 1 else q + 1

/-- Complete a result in the cell at `a`: SEQ, READY, FRESH, ERR and LOST_PREV as R564 binds; the producer's data
fields are `data`. -/
def State.writeCell (s : State) (a : Nat) (err : Bool) (data : List (Fld × Nat)) : State :=
  let lost := s.getB (cellFresh a)
  let s := s.set (cellSeq a) (nextSeq (s.get (cellSeq a)))
  let s := s.setB (cellReady a) true
  let s := s.setB (cellFresh a) true
  let s := s.setB (cellErr a) err
  let s := s.setB (cellLost a) lost
  data.foldl (fun s p => s.set p.1 p.2) s

/-- A measurement starts for the cell at `a`: READY is 0 until its result (R565). -/
def State.cellBusy (s : State) (a : Nat) : State := s.setB (cellReady a) false

/-- A write of `seq` to the ACK register of the cell at `a` (R566). -/
def State.ackCell (s : State) (a seq : Nat) : State :=
  if s.get (cellSeq a) = seq % 256 && s.getB (cellFresh a) then s.setB (cellFresh a) false else s

end Sys2Proof.Machine
end

