-- ==== Sys2Proof/Machine/ImageParse.lean ====
section
/-! DEFINITION. Reading a tack image: its layout (R57–R69) and the records of its sections (R70–R85). Every function
here reads the image as a byte memory; the checks answer `true` for an image that keeps the rule. -/

namespace Sys2Proof.Machine

/-- The byte at offset `a`, as a number. -/
def u8 (m : List Host.Cell) (a : Nat) : Nat := (Memory.read m a).toNat
/-- The two-byte number at offset `a` (R57). -/
def u16 (m : List Host.Cell) (a : Nat) : Nat := leNat (Memory.readAll m a 2)
/-- The four-byte number at offset `a` (R57). -/
def u32 (m : List Host.Cell) (a : Nat) : Nat := leNat (Memory.readAll m a 4)
/-- The number of `n` bytes at offset `a`, least significant first. -/
def uN (m : List Host.Cell) (a n : Nat) : Nat := leNat (Memory.readAll m a n)
/-- Whether `n` bytes at offset `a` are all 0. -/
def zeros (m : List Host.Cell) (a n : Nat) : Bool := (Memory.readAll m a n).all (· == 0)

/-- A length padded to a multiple of 4 (R70). -/
def pad4 (n : Nat) : Nat := (n + 3) / 4 * 4
/-- A length padded to a multiple of 16 (R69). -/
def pad16 (n : Nat) : Nat := (n + 15) / 16 * 16

/-! ### Header, manifest and directory -/

/-- A directory entry (R67). -/
structure DirEnt where
  type : Nat
  region : Nat
  reserved : Nat
  offset : Nat
  length : Nat
  count : Nat
deriving DecidableEq, Repr

/-- IMAGE_LENGTH (R59). -/
def imgLength (m : List Host.Cell) : Nat := u32 m 0x08
/-- FLAGS.PARTIAL (R59). -/
def imgPartial (m : List Host.Cell) : Bool := bitOf (u32 m 0x0C) 0
/-- FLAGS.ENCRYPTED (R59). -/
def imgEncrypted (m : List Host.Cell) : Bool := bitOf (u32 m 0x0C) 1
/-- REGION_COUNT (R63). -/
def imgRegions (m : List Host.Cell) : Nat := u8 m 0x50
/-- DIRECTORY_OFFSET (R59). -/
def imgDirOff (m : List Host.Cell) : Nat := u32 m 0x28
/-- SECTION_COUNT (R59). -/
def imgSections (m : List Host.Cell) : Nat := u16 m 0x2C

/-- The directory's entries (R67). -/
def imgDir (m : List Host.Cell) : List DirEnt :=
  (List.range (min (imgSections m) 64)).map (fun i =>
    let o := imgDirOff m + 16 * i
    ⟨u8 m o, u8 m (o + 1), u16 m (o + 2), u32 m (o + 4), u32 m (o + 8), u32 m (o + 12)⟩)

/-- The header's fixed values and ranges (R59, R60). -/
def headerOk (m : List Host.Cell) : Bool :=
  Memory.readAll m 0 4 == [0x56, 0x58, 0x54, 0x4B] && u16 m 0x04 == 1 && u16 m 0x06 == 64 &&
  decide (imgLength m ≤ 1048576) && decide (1 ≤ imgRegions m ∧ imgRegions m ≤ 16) &&
  u32 m 0x20 == 0x40 && u32 m 0x24 == 52 + 20 * imgRegions m && imgDirOff m == 0x40 + u32 m 0x24 &&
  decide (2 ≤ imgSections m ∧ imgSections m ≤ 64) && decide (imgDirOff m + 16 * imgSections m ≤ imgLength m) &&
  (imgPartial m || zeros m 0x18 8) && (imgEncrypted m || zeros m 0x30 12)

/-- Reserved bytes and bits of the header, manifest and directory are 0 (R61); a vector of another version is not
decoded (R62). -/
def reservedOk (m : List Host.Cell) : Bool :=
  decide (u32 m 0x0C < 4) && zeros m 0x2E 2 && zeros m 0x3C 4 &&
  (u8 m 0x40 != 1 || (decide (u8 m 0x41 < 4) && zeros m 0x42 2 && zeros m 0x4E 2)) &&
  zeros m 0x51 3 &&
  (List.range (imgRegions m)).all (fun i =>
    decide (u8 m (0x54 + 20 * i + 1) < 2) && zeros m (0x54 + 20 * i + 3) 1) &&
  (let c := 0x54 + 20 * imgRegions m
   decide (u8 m (c + 0x16) < 16) && zeros m (c + 0x17) 1 && zeros m (c + 0x1A) 2 && zeros m (c + 0x1E) 2) &&
  (imgDir m).all (fun d => d.reserved == 0)

/-- The end of section `d`, or of the ciphertext's tag where the section is the last before it (R58). -/
def partEnd (d : DirEnt) : Nat := d.offset + d.length

/-- The sections in the order of their offsets lie inside the image, at multiples of 16, in gaps shorter than 16 bytes;
the SIGNATURE section is last, 112 bytes, and ends at IMAGE_LENGTH (R58, R69). -/
def layoutGo (m : List Host.Cell) (tag : Nat) : Nat → List DirEnt → Bool
  | at_, [] => at_ == imgLength m
  | at_, d :: t =>
    let before := if t.isEmpty then pad16 at_ + tag else at_
    d.offset % 16 == 0 && d.offset == pad16 before && decide (partEnd d ≤ imgLength m) &&
    (!t.isEmpty || (d.type == 0x0F && d.length == 112)) && layoutGo m tag (partEnd d) t

/-- The layout rule over the whole directory (R69). -/
def layoutOk (m : List Host.Cell) : Bool :=
  layoutGo m (if imgEncrypted m then 16 else 0) (imgDirOff m + 16 * imgSections m)
    (sortBy (fun a b => decide (a.offset ≤ b.offset)) (imgDir m))

/-- The gap from `a` up to the next multiple of 16 is filled with zeros (R69). -/
def gapOk (m : List Host.Cell) (a : Nat) : Bool := zeros m a (pad16 a - a)

/-- The reserved bytes of the SIGNATURE section (R61, R85). A KEY_ID above 3 names no slot that can hold a key: it is
refused at step 2 (R86). -/
def signatureOk (m : List Host.Cell) : Bool :=
  let s := imgLength m - 112
  zeros m (s + 2) 2 && zeros m (s + 100) 12

/-- KEY_ID of the SIGNATURE section (R85). -/
def imgKeyId (m : List Host.Cell) : Nat := u8 m (imgLength m - 112)
/-- ALGORITHM of the SIGNATURE section (R85). -/
def imgAlgorithm (m : List Host.Cell) : Nat := u8 m (imgLength m - 111)

/-- The offset of the first section, where the ciphertext starts (R87). -/
def firstSection (m : List Host.Cell) : Nat := pad16 (imgDirOff m + 16 * imgSections m)

/-- The zero fill and the section headers inside the sections (R61, R69): checked at step 1, or on the decrypted bytes
at step 5 for an encrypted image. -/
def innerOk (m : List Host.Cell) : Bool :=
  (imgDir m).all (fun d =>
    gapOk m (partEnd d) &&
    (d.type != 0x03 || (zeros m (d.offset + 0x09) 1 && zeros m (d.offset + 0x0D) 3)) &&
    (d.type != 0x04 || zeros m (d.offset + 0x18) 8))

/-- Step 1 of R88 but for the size and PARTIAL rules of the load path: header, reserved bits, layout (FORMAT). -/
def formatOk (m : List Host.Cell) : Bool :=
  headerOk m && reservedOk m && layoutOk m && signatureOk m && gapOk m (imgDirOff m + 16 * imgSections m) &&
  (imgEncrypted m || innerOk m)

/-- The compatibility vector (R62). -/
def imgVec (m : List Host.Cell) : CompatVec :=
  ⟨u8 m 0x40, u8 m 0x41, u8 m 0x44, u8 m 0x45, u8 m 0x46, u8 m 0x47, u16 m 0x48, u16 m 0x4A, u16 m 0x4C⟩

/-- The region table (R63). -/
def imgRegionTable (m : List Host.Cell) : List RegionRec :=
  (List.range (imgRegions m)).map (fun i =>
    let o := 0x54 + 20 * i
    ⟨u8 m o, bitOf (u8 m (o + 1)) 0, u8 m (o + 2), uN m (o + 4) 16⟩)

/-- The resource claims (R65). -/
def imgClaims (m : List Host.Cell) : Claims :=
  let c := 0x54 + 20 * imgRegions m
  ⟨uN m c 16, u8 m (c + 0x10), u8 m (c + 0x11), u8 m (c + 0x12), u8 m (c + 0x13), u8 m (c + 0x14), u8 m (c + 0x15),
   u8 m (c + 0x16), u16 m (c + 0x18), u16 m (c + 0x1C)⟩

/-! ### Section records -/

/-- Little-endian words of `n` bytes. -/
def wordsAt (m : List Host.Cell) (a n : Nat) : List Nat := (List.range (n / 4)).map (fun i => u32 m (a + 4 * i))

/-- The stall records of a STALL_PROG section from offset `a` to `e` (R70); none where a record runs past the section,
has a reserved byte that is not 0, or is not padded with zeros. -/
def stallRecs (m : List Host.Cell) (region e : Nat) : Nat → Nat → Option (List StallRec)
  | 0, a => if a = e then some [] else none
  | n + 1, a =>
    let cl := u16 m (a + 8)
    let il := u32 m (a + 12)
    let nxt := a + 16 + pad4 cl + pad4 il
    if nxt ≤ e ∧ zeros m (a + 3) 1 ∧ zeros m (a + 10) 2 ∧ zeros m (a + 16 + cl) (pad4 cl - cl) ∧
        zeros m (a + 16 + pad4 cl + il) (pad4 il - il) ∧ cl % 4 = 0 then
      (stallRecs m region e n nxt).map (fun t =>
        ⟨u8 m a, u8 m (a + 1), u8 m (a + 2), u8 m (a + 4), u8 m (a + 5), u8 m (a + 6), u8 m (a + 7),
         wordsAt m (a + 16) cl, Memory.readAll m (a + 16 + pad4 cl) il, region⟩ :: t)
    else none

/-- `count` records of `size` bytes, each read by `f`, that fill the section exactly. -/
def recordsAt {α : Type} (f : Nat → Option α) (off size count : Nat) : Option (List α) :=
  (List.range count).foldr (fun i acc =>
    match f (off + size * i), acc with
    | some x, some t => some (x :: t)
    | _, _ => none) (some [])

/-- A link record (R72). -/
def linkRec (m : List Host.Cell) (region a : Nat) : Option LinkRec :=
  if u8 m (a + 6) < 2 then
    some ⟨u8 m a, u8 m (a + 1), u8 m (a + 2), u8 m (a + 3), u8 m (a + 4), u8 m (a + 5), bitOf (u8 m (a + 6)) 0,
      u8 m (a + 7), region⟩
  else none

/-- A key record (R74). -/
def keyRec (m : List Host.Cell) (a : Nat) : Option KeyRec :=
  if u8 m (a + 2) < 4 ∧ zeros m (a + 7) 1 then
    some ⟨u8 m a, u8 m (a + 1), bitOf (u8 m (a + 2)) 0, bitOf (u8 m (a + 2)) 1, u8 m (a + 3), u8 m (a + 4),
      u8 m (a + 5), u8 m (a + 6)⟩
  else none

/-- A crosspoint record (R74). -/
def xpRec (m : List Host.Cell) (a : Nat) : Option XpRec :=
  if zeros m (a + 3) 1 then some ⟨u8 m a, u8 m (a + 1), u8 m (a + 2)⟩ else none

/-- The PORTS body (R77). -/
def portsRec (m : List Host.Cell) (a : Nat) : PortsRec :=
  ⟨u8 m a, u8 m (a + 1), u8 m (a + 2), u8 m (a + 3), u8 m (a + 4), u8 m (a + 5), u8 m (a + 6), u8 m (a + 7),
   u8 m (a + 8), u8 m (a + 9), u8 m (a + 10), u8 m (a + 11), u8 m (a + 12), u8 m (a + 13), u8 m (a + 14),
   u8 m (a + 15), u8 m (a + 16), u8 m (a + 17), u16 m (a + 18), u8 m (a + 20), u8 m (a + 21)⟩

/-- A panel record (R79). -/
def panelRec (m : List Host.Cell) (a : Nat) : Option PanelRec :=
  if u8 m (a + 3) < 2 ∧ zeros m (a + 5) 3 then
    some ⟨u8 m a, u8 m (a + 1), u8 m (a + 2), bitOf (u8 m (a + 3)) 0, u8 m (a + 4)⟩
  else none

/-- A MAC queue record (R80). -/
def queueRec (m : List Host.Cell) (a : Nat) : Option QueueRec :=
  if u8 m (a + 2) < 2 then
    some ⟨u8 m a, u8 m (a + 1), u8 m (a + 2) == 1, u8 m (a + 3), u16 m (a + 4), u16 m (a + 6)⟩
  else none

/-- A parameter record (R82). -/
def paramRec (m : List Host.Cell) (region a : Nat) : Option ParamRec :=
  some ⟨u32 m a, u32 m (a + 4), u32 m (a + 8), region⟩

/-- Whether a byte string is UTF-8 (R84): the state is how many continuation bytes are due and the least and greatest
next one. -/
def utf8Go : Nat → Nat → Nat → List Nat → Bool
  | 0, _, _, [] => true
  | _, _, _, [] => false
  | 0, _, _, b :: t =>
    if b < 0x80 then utf8Go 0 0x80 0xBF t
    else if 0xC2 ≤ b ∧ b ≤ 0xDF then utf8Go 1 0x80 0xBF t
    else if b = 0xE0 then utf8Go 2 0xA0 0xBF t
    else if b = 0xED then utf8Go 2 0x80 0x9F t
    else if 0xE1 ≤ b ∧ b ≤ 0xEF then utf8Go 2 0x80 0xBF t
    else if b = 0xF0 then utf8Go 3 0x90 0xBF t
    else if 0xF1 ≤ b ∧ b ≤ 0xF3 then utf8Go 3 0x80 0xBF t
    else if b = 0xF4 then utf8Go 3 0x80 0x8F t
    else false
  | n + 1, lo, hi, b :: t => if lo ≤ b ∧ b ≤ hi then utf8Go n 0x80 0xBF t else false

/-- A NAMES record (R84). -/
def nameRec (m : List Host.Cell) (a : Nat) : Option NameRec :=
  let l := u8 m (a + 2)
  if u8 m a ≤ 4 ∧ 1 ≤ l ∧ l ≤ 32 ∧ zeros m (a + 3) 1 ∧ zeros m (a + 4 + l) (32 - l) ∧
      utf8Go 0 0x80 0xBF ((Memory.readAll m (a + 4) l).map (·.toNat)) then
    some ⟨u8 m a, u8 m (a + 1), Memory.readAll m (a + 4) l⟩
  else none

/-- The sections of one type. -/
def secs (m : List Host.Cell) (ty : Nat) : List DirEnt := (imgDir m).filter (fun d => d.type == ty)

/-- Every section of type `ty` read by `f`, joined in directory order; none where one cannot be read. -/
def readSecs {α : Type} (m : List Host.Cell) (ty : Nat) (f : DirEnt → Option (List α)) : Option (List α) :=
  (secs m ty).foldr (fun d acc =>
    match f d, acc with
    | some x, some t => some (x ++ t)
    | _, _ => none) (some [])

/-- A section of `size`-byte records after a header of `hdr` bytes. -/
def tableSec {α : Type} (hdr size : Nat) (f : Nat → Option α) (d : DirEnt) : Option (List α) :=
  if d.length = hdr + size * d.count then recordsAt f (d.offset + hdr) size d.count else none

/-- The section counts of a full image (R68) and of a partial one (R94); every type code is one of R68's. -/
def sectionCountsOk (m : List Host.Cell) : Bool :=
  let ids := (imgRegionTable m).map (·.id)
  let n := fun ty => (secs m ty).length
  (imgDir m).all (fun d => decide (d.type ∈ [1, 2, 3, 4, 5, 6, 7, 15])) &&
  ids.all (fun r => ((secs m 1).filter (·.region == r)).length == 1 && ((secs m 2).filter (·.region == r)).length == 1) &&
  n 1 == ids.length && n 2 == ids.length && n 15 == 1 && decide (n 7 ≤ 1) &&
  (secs m 15).all (fun d => d.count == 1 && d.region == 255) && (secs m 7).all (·.region == 255) &&
  (if imgPartial m then n 3 == 0 && n 5 == 0 && (secs m 6).all (fun d => decide (d.region ∈ ids))
   else n 3 == 1 && n 4 == 1 && n 5 == 1 && ((secs m 3) ++ (secs m 4) ++ (secs m 5)).all (·.region == 255) &&
     (secs m 6).all (fun d => d.region == 255 || decide (d.region ∈ ids)))

/-- The PORTS body of an image without one: every field at its personality default (R78). -/
def portsDefault : PortsRec :=
  ⟨255, 255, 255, 255, 255, 255, 255, 255, 255, 255, 255, 255, 255, 255, 255, 255, 0, 0, 65535, 0, 255⟩

/-- The records of an image whose bytes `m` are plain; none where a section cannot be read as its type binds
(SECTION). -/
def parseImage (m : List Host.Cell) : Option Image :=
  match readSecs m 1 (fun d => stallRecs m d.region (partEnd d) d.count d.offset),
        readSecs m 2 (fun d => tableSec 0 8 (linkRec m d.region) d),
        readSecs m 3 (fun d =>
          let k := u8 m (d.offset + 8)
          let x := u16 m (d.offset + 10)
          if d.count = k + x ∧ d.length = 16 + 8 * k + 4 * x then recordsAt (keyRec m) (d.offset + 16) 8 k else none),
        readSecs m 3 (fun d =>
          recordsAt (xpRec m) (d.offset + 16 + 8 * u8 m (d.offset + 8)) 4 (u16 m (d.offset + 10))),
        readSecs m 4 (fun d => if d.count = u16 m (d.offset + 0x16) then tableSec 32 8 (panelRec m) d else none),
        readSecs m 5 (fun d => tableSec 0 8 (queueRec m) d),
        readSecs m 6 (fun d => tableSec 0 12 (paramRec m d.region) d),
        readSecs m 7 (fun d => tableSec 0 36 (nameRec m) d) with
  | some st, some ln, some ks, some xs, some pn, some qs, some ps, some ns =>
    some
      { partialImg := imgPartial m
        encrypted := imgEncrypted m
        imageId := u32 m 0x10
        version := u32 m 0x14
        baseDigest := Memory.readAll m 0x18 8
        vec := imgVec m
        regions := imgRegionTable m
        claims := imgClaims m
        stalls := st
        links := ln
        groupMask := match (secs m 3).head? with
          | some d => uN m d.offset 8
          | none => 0
        interruptDim := match (secs m 3).head? with
          | some d => u8 m (d.offset + 12)
          | none => 255
        keys := ks
        xps := xs
        ports := match (secs m 4).head? with
          | some d => portsRec m d.offset
          | none => portsDefault
        panel := pn
        queues := qs
        params := ps
        names := ns }
  | _, _, _, _, _, _, _, _ => none

end Sys2Proof.Machine
end

