-- ==== Sys2Proof/Machine/Operands.lean ====
section
/-! DEFINITION. The operand forms of register accesses: the register map (R819–R823), the domains that hold the
registers (R745, R746, R803), and when a register is present and its domain on (R93, R104–R109, R808). -/

namespace Sys2Proof.Machine

/-! ### The register map -/

/-- One array dimension: which element holds offset `r`, and the offset left within it. -/
def dimAt (n st r : Nat) : Nat × Nat := if n = 1 then (0, r) else (r / st, r % st)

/-- The register of pattern `p` at address `a`, if one lies exactly there. -/
def RowPat.at_ (p : RowPat) (a : Nat) : Option RegRow :=
  if a < p.base then none
  else
    let d1 := dimAt p.n1 p.s1 (a - p.base)
    let d2 := dimAt p.n2 p.s2 d1.2
    let d3 := dimAt p.n3 p.s3 d2.2
    if d1.1 < p.n1 ∧ d2.1 < p.n2 ∧ d3.1 < p.n3 ∧ d3.2 = 0 then some (p.row d1.1 d2.1 d3.1) else none

/-- The blocks of R819 by their base, 64 KB each. -/
def blockRows : Nat → List RowPat
  | 0x00 => rows_SYS
  | 0x01 => rows_BOOT
  | 0x02 => rows_PWR
  | 0x03 => rows_THERM
  | 0x04 => rows_CLK
  | 0x05 => rows_REINS
  | 0x06 => rows_HOST
  | 0x07 => rows_COPY
  | 0x08 => rows_GPIO
  | 0x09 => rows_SEC
  | 0x0A => rows_LINE
  | 0x0B => rows_CONV
  | 0x0C => rows_HYB
  | 0x0D => rows_ECHO
  | 0x0E => rows_CALL
  | 0x0F => rows_MIC
  | 0x10 => rows_FAB
  | 0x11 => rows_TG
  | 0x12 => rows_RING
  | 0x13 => rows_MAC
  | 0x14 => rows_STAT
  | 0x15 => rows_IOP
  | 0x16 => rows_PTP
  | 0x17 => rows_TDM
  | _ => []

/-- The register at address `a`; none for an unmapped address (R821). -/
def regRow (a : Nat) : Option RegRow := (blockRows (a / 0x10000)).findSome? (·.at_ a)

/-- The value of a register word: its fields at their places, every other bit 0 (R16). -/
def State.word (s : State) (r : RegRow) : Nat :=
  r.fields.foldl (fun n fr => n + s.get fr.fld * 2 ^ fr.fld.lo) 0

/-! ### What the running image instantiates -/

/-- The claimed stall `n` (the entering one first, R105). -/
def State.stallAt (s : State) (n : Nat) : Option Stall := s.fab.stalls.find? (fun t => t.n = n)

/-- The stalls of one instance: from boundary S an instance number means the new region's instance, and a retiring
stall stands for none (R106). -/
def State.instStalls (s : State) (template inst : Nat) : List Stall :=
  s.fab.stalls.filter (fun t => t.cfg.template = template ∧ t.cfg.inst = inst ∧ t.retiring = false)

/-- The slice 0 stall of echo instance `i`: LEC instances 0–15, then AEC instances 0–3 (R822). -/
def State.echoStall (s : State) (i : Nat) : Option Stall :=
  (if i < 16 then s.instStalls 3 i else s.instStalls 4 (i - 16)).find? (fun t => t.cfg.slice = 0)

/-- The HCODEC stall (R174, R176). -/
def State.hcodecStall (s : State) : Option Stall :=
  s.fab.stalls.find? (fun t => t.cfg.template = 8 ∧ t.retiring = false)

/-- The CALLDET stall of detector `d` (R450). -/
def State.calldetStall (s : State) (d : Nat) : Option Stall :=
  s.fab.stalls.find? (fun t => t.cfg.template = 9 ∧ t.cfg.config.getD 0 0 = d ∧ t.retiring = false)

/-- The NLP stall that follows echo instance `i`: the one whose port 0 input comes from that instance's slice 0
(R281). -/
def State.nlpStall (s : State) (i : Nat) : Option Stall :=
  match s.echoStall i with
  | none => none
  | some e => s.fab.stalls.find? (fun t => t.cfg.template = 5 ∧ t.retiring = false ∧
      s.fab.links.any (fun l => l.cfg.dst = t.n ∧ l.cfg.dstPort = 0 ∧ l.cfg.src = e.n ∧ l.cfg.srcPort = 0))

/-- Claims of the running image that count streams (R66). -/
def State.iopRxCount (s : State) : Nat := (s.fab.image.map (·.claims.iopRx)).getD 0

/-- Claims of the running image that count streams (R66). -/
def State.iopTxCount (s : State) : Nat := (s.fab.image.map (·.claims.iopTx)).getD 0

/-- The queue record of a MAC queue of the running image (R80). -/
def State.queueRec (s : State) (p q : Nat) (tx : Bool) : Option QueueRec :=
  match s.fab.image with
  | none => none
  | some im => im.queues.find? (fun r => r.port = p ∧ r.queue = q ∧ r.transmit = tx)

/-- The MIX stall that serves node-mix input `i` (R299), and the input's place in its matrix. -/
def State.mixOfInput (s : State) (i : Nat) : Option Stall :=
  s.fab.stalls.find? (fun t => t.cfg.template = 0 ∧ t.retiring = false ∧
    t.cfg.config.getD 3 0 ≤ i ∧ i < t.cfg.config.getD 3 0 + t.cfg.config.getD 0 0)

/-! ### Domains -/

/-- The power domain that holds a register (R745, R746, R823). -/
def State.powerDomain (s : State) : Dom → Nat
  | .aon => 0
  | .steward => 1
  | .hostIf => 4
  | .conv => 13
  | .walk => 9
  | .hcodec => match s.hcodecStall with
    | some t => 14 + t.n / 8
    | none => 14
  | .iop => 8
  | .interconnect => 1
  | .island => 2
  | .pd => 36
  | .media => 13
  | .port p => 32 + p
  | .stall n => 14 + n / 8
  | .echo i => match s.echoStall i with
    | some t => 14 + t.n / 8
    | none => 14
  | .callDet d => match s.calldetStall d with
    | some t => 14 + t.n / 8
    | none => 14
  | .tdm _ => 8
  | .mac p => 5 + p
  | .pse n => 34 + n

/-- The clock domain number of a register's file (R803, R809); where a power domain holds several, the one whose logic
the registers describe (log entry 6). -/
def State.clockDomain (s : State) : Dom → Nat
  | .aon => 206
  | .steward => 175
  | .hostIf => if s.getB F.SYS_STRAPS_HOSTIF then 172 else 171
  | .conv => 170
  | .walk => 169
  | .hcodec => match s.hcodecStall with
    | some t => t.n
    | none => 0
  | .iop => 167
  | .interconnect => 177
  | .island => 176
  | .pd => 205
  | .media => 160
  | .port _ => 177
  | .stall n => n
  | .echo i => match s.echoStall i with
    | some t => t.n
    | none => 0
  | .callDet d => match s.calldetStall d with
    | some t => t.n
    | none => 0
  | .tdm t => 209 + t
  | .mac p => 162 + 2 * p
  | .pse n => 203 + n

/-- Whether power domain `d` is on (R745, R746); during tether loss every line-die block counts as off (R808). -/
def State.domOn (s : State) (d : Nat) : Bool :=
  if d < 32 then s.bit F.PWR_DOM_ON_ON d
  else !s.getB F.PWR_TETHER_LOST && s.bit F.PWR_LINE_ON_ON (d - 32)

/-- The blocks a load hides: FAB, TG, ECHO, CALL and IOP (R93). -/
def hiddenBlock (a : Nat) : Bool := a / 0x10000 ∈ [0x0D, 0x0E, 0x10, 0x11, 0x15]

/-- The stream whose registers an address in the IOP block belongs to is one the image claims (R66). -/
def State.streamPresent (s : State) (a : Nat) : Bool :=
  if 0x150000 ≤ a ∧ a < 0x150800 then decide ((a - 0x150000) / 0x40 < s.iopRxCount)
  else if 0x150800 ≤ a ∧ a < 0x151000 then decide ((a - 0x150800) / 0x40 < s.iopTxCount)
  else true

/-- Whether the owner of a register is instantiated (R93, R104, R108, R109). -/
def State.ownerPresent (s : State) : Owner → Bool
  | .always => true
  | .stall n => (s.stallAt n).isSome
  | .echo i => (s.echoStall i).isSome
  | .nlp i => (s.nlpStall i).isSome
  | .callDet d => (s.calldetStall d).isSome
  | .hcodec => s.hcodecStall.isSome
  | .txq p q => (s.queueRec p q true).isSome
  | .xpRead =>
    match s.mixOfInput (s.get F.TG_XP_SEL_INPUT) with
    | none => false
    | some t => decide (t.cfg.config.getD 3 0 ≤ s.get F.TG_XP_SEL_OUTPUT) &&
        decide (s.get F.TG_XP_SEL_OUTPUT < t.cfg.config.getD 3 0 + t.cfg.config.getD 1 0)

/-- Whether the register at `a` is present (order 2 of R828). -/
def State.present (s : State) (a : Nat) (r : RegRow) : Bool :=
  !(s.fab.hidden && hiddenBlock a) && s.streamPresent a && s.ownerPresent r.owner

end Sys2Proof.Machine
end

