-- ==== Sys2Proof/Machine/ImageCheck.lean ====
section
/-! DEFINITION. The checks of a tack image after its layout: stall records and harness (R70–R76, R120–R136), the
sections of each chapter, the claims (R66) and the personality (R25–R31, R41). A check answers `true` for an image that
keeps the rule. -/

namespace Sys2Proof.Machine

/-! ### Personality and defaults -/

/-- The capability bits PL_SINK 1, PL_SOURCE 2, PD 4, PSE 8, SPEAKER 16, HEADSET 32 of a personality (R25). -/
def capsOf : Nat → Nat
  | 0 => 0x25
  | 1 => 0x3F
  | 2 => 0x27
  | 3 => 0x1C
  | _ => 0

/-- The personality an image runs on a strapped one (R28, R29); none where the table of R29 forbids it. -/
def effectivePersona (strap p : Nat) : Option Nat :=
  if p = 255 then some strap
  else if p < 4 ∧ Nat.land (capsOf p) (capsOf strap) = capsOf p then some p else none

/-- The field's value, or the personality default where it reads 0xFF (R78). -/
def orDefault (v d : Nat) : Nat := if v = 255 then d else v

/-- The row of R41's table for a personality: port A, port B, VIN mask, PSE, four-wire, headset, speaker, wake, ring,
MAC C, candidate, precedence, host mode. -/
def personaDefaults : Nat → List Nat
  | 0 => [1, 0, 0x3, 0, 0, 1, 0, 0, 3, 0, 0, 255, 0]
  | 1 => [2, 2, 0x9, 0, 15, 1, 1, 1, 3, 1, 1, 64, 1]
  | 2 => [1, 1, 0x9, 0, 15, 1, 0, 0, 3, 1, 1, 128, 1]
  | _ => [0, 0, 0x9, 3, 0, 0, 1, 1, 3, 1, 1, 96, 0]

/-- Row `i` of `personaDefaults` as far as the image instantiates the block's processing (R43): the headset and the speaker
only where a link covers their endpoint ports, a four-wire pair only where a link covers its ports, staged wake only with
the HCODEC stall, a ring port or MAC C only where the MACQ section gives it a queue (DEDUCED, log entry 56: what counts as
a block's processing; roles, VIN inputs and PSE ports need none). -/
def instantiated (im : Image) (i v : Nat) : Nat :=
  let linked := fun (srcs dsts : List Nat) => im.links.any (fun l => (List.range l.channels).any (fun k =>
    (l.src == 0x80 && srcs.contains (l.srcPort + k)) || (l.dst == 0x81 && dsts.contains (l.dstPort + k))))
  let queue := fun (p : Nat) => im.queues.any (fun q => q.port == p)
  let masked := fun (n : Nat) (f : Nat → Bool) =>
    (List.range n).foldl (fun a k => if v.testBit k && f k then a + 2 ^ k else a) 0
  match i with
  | 4 => masked 4 (fun k => linked [4 + k] [4 + k])
  | 5 => if linked [8] [8, 9] then v else 0
  | 6 => if linked [9] [10] then v else 0
  | 7 => if im.stalls.any (fun t => t.template == 8) then v else 0
  | 8 => masked 2 queue
  | 9 => if queue 2 then v else 0
  | _ => v

/-- The PORTS body of image `im` with every personality default filled in (R41, R43, R78); TERM defaults to 200 Ω (R36),
VOLTS to the value of R761. -/
def resolvePorts (im : Image) (persona : Nat) : PortsRec :=
  let p := im.ports
  let d := fun i => instantiated im i ((personaDefaults persona).getD i 0)
  { personality := persona
    hostMode := orDefault p.hostMode (d 12)
    roleA := orDefault p.roleA (d 0)
    roleB := orDefault p.roleB (d 1)
    termA := orDefault p.termA 8
    termB := orDefault p.termB 8
    voltsA := orDefault p.voltsA 40
    voltsB := orDefault p.voltsB 40
    pse := orDefault p.pse (d 3)
    speaker := orDefault p.speaker (d 6)
    headset := orDefault p.headset (d 5)
    wake := orDefault p.wake (d 7)
    fourwire := orDefault p.fourwire (d 4)
    ring := orDefault p.ring (d 8)
    maccIop := orDefault p.maccIop (d 9)
    candidate := orDefault p.candidate (d 10)
    precedence := if p.precedenceValid = 1 then p.precedence else d 11
    precedenceValid := 1
    nodeId := p.nodeId
    ringNumber := p.ringNumber
    vinMask := orDefault p.vinMask (d 2) }

/-- Every value of the PORTS body is one that R77 or R78 lists. DESIGN CHOICE (log entry 55): the spec names no code for
another value, and the image is refused with SECTION. -/
def portsRangesOk (p : PortsRec) : Bool :=
  let le := fun v n => v == 255 || decide (v ≤ n)
  le p.hostMode 1 && le p.roleA 3 && le p.roleB 3 && le p.termA 24 && le p.termB 24 && le p.voltsA 60 &&
  le p.voltsB 60 && le p.pse 3 && le p.speaker 1 && le p.headset 1 && le p.wake 1 && le p.fourwire 15 &&
  le p.ring 3 && le p.maccIop 1 && le p.candidate 1 && le p.precedenceValid 1 &&
  decide (p.nodeId ≤ 255 ∨ p.nodeId = 65535) && le p.vinMask 15

/-- Whether a role code is permitted by the capability set (R34). -/
def roleOk (caps role : Nat) : Bool :=
  match role with
  | 0 => true
  | 1 => caps.testBit 0
  | 2 => caps.testBit 1
  | _ => caps.testBit 0 && caps.testBit 1

/-- The capability an endpoint port needs is in the set (R222, R223). -/
def endpointNeedsOk (caps code port : Nat) : Bool :=
  if code = 0x80 ∨ code = 0x81 then
    if port < 4 then caps.testBit 0 || caps.testBit 1
    else if port < 8 then true
    else if code = 0x80 ∧ port = 8 then caps.testBit 5
    else if code = 0x80 then caps.testBit 4
    else if port < 10 then caps.testBit 5
    else caps.testBit 4
  else true

/-- Step 7 of R88: personality, roles and enables (R29–R31) and the endpoints' needs (R223). -/
def personaOk (im : Image) (strap : Nat) : Bool :=
  match effectivePersona strap im.ports.personality with
  | none => false
  | some p =>
    let caps := capsOf p
    let r := resolvePorts im p
    roleOk caps r.roleA && roleOk caps r.roleB && (r.pse == 0 || caps.testBit 3) &&
    (r.speaker == 0 || caps.testBit 4) && (r.headset == 0 || caps.testBit 5) &&
    im.links.all (fun l => (List.range l.channels).all (fun k =>
      endpointNeedsOk caps l.src (l.srcPort + k) && endpointNeedsOk caps l.dst (l.dstPort + k)))

/-! ### Stall records -/

/-- The configuration word `i` of a record. -/
def StallRec.w (t : StallRec) (i : Nat) : Nat := t.config.getD i 0

/-- CONFIG_LENGTH of a template, in words (R125). -/
def configWords (template : Nat) : Nat := [16, 8, 12, 10, 12, 8, 16, 8, 8, 8, 8, 12, 4].getD template 0

/-- A stall's workspace (R122). -/
def workspace (t : StallRec) : Nat :=
  match t.template with
  | 0 => 8 * t.w 0 * t.w 1 + 1024
  | 1 => 16 * t.w 0 * t.w 1 + 256
  | 2 => 64 * t.w 0 + 256
  | 3 => 49152
  | 4 => 57344
  | 5 => 16384
  | 6 => 24576
  | 7 => 32768
  | 8 => 57344
  | 9 => 8192
  | 10 => 4096
  | 11 => 3 * ((List.range 8).map (fun i => t.w (1 + i))).sum + 256
  | _ => 512

/-- The fallbacks a template permits (R122). -/
def fallbackOk (template fb : Nat) : Bool :=
  match template with
  | 0 => fb == 0 || fb == 2
  | 1 => decide (fb ≤ 2)
  | 2 => decide (fb ≤ 2)
  | 6 => decide (fb ≤ 2)
  | 7 => fb == 0 || fb == 2
  | 8 => fb == 2
  | 10 => fb == 2
  | 11 => fb == 0 || fb == 2
  | 12 => fb == 1
  | _ => fb == 1 || fb == 2

/-- A signal source code of R461. -/
def lampSource (c : Nat) : Bool :=
  decide (c ≤ 0x3E) || decide (0x40 ≤ c ∧ c ≤ 0x47) || decide (0x80 ≤ c ∧ c ≤ 0xC0) || c == 0xFE || c == 0xFF

/-- An encoder control code of R615. -/
def encTarget (c : Nat) : Bool := decide (c ≤ 0x27) || c == 0xFF

/-- The configuration block's words lie in their ranges and its reserved words are 0 (R124, R125, R127, R172, R174,
R278, R279, R450, R459, R529). -/
def configOk (t : StallRec) : Bool :=
  let w := t.w
  let rg := fun i lo hi => decide (lo ≤ w i ∧ w i ≤ hi)
  let z := fun a n => (List.range n).all (fun k => w (a + k) == 0)
  t.config.length == configWords t.template &&
  match t.template with
  | 0 => rg 0 1 32 && rg 1 1 32 && rg 2 1 400 && rg 3 0 255 && z 4 12
  | 1 => rg 0 1 8 && rg 1 1 16 && rg 2 0 1 && rg 3 0 216 && z 4 4
  | 2 => rg 0 1 8 && rg 1 0 3 && (w 2 == 0 || decide (2 ^ 32 - 180 ≤ w 2)) && rg 3 10 200 && rg 4 125 100000 &&
    rg 5 1 5000 && rg 6 0 216 && rg 7 0 1 && z 8 4
  | 3 => rg 0 8 128 && w 0 % 8 == 0 && rg 1 0 4 && rg 2 1 256 && rg 3 0 40 && rg 4 0 500 && rg 5 0 2400 && rg 6 0 1 &&
    z 7 3
  | 4 => rg 0 32 256 && w 0 % 16 == 0 && rg 1 1 2 && rg 2 1 256 && rg 3 0 40 && rg 4 0 500 && rg 5 0 960 && rg 6 0 1 &&
    z 7 5 && (w 1 == 1 || decide (w 0 ≤ 128))
  | 5 => rg 0 0 2 && rg 1 0 60 && rg 2 0 1 && rg 3 1 50 && rg 4 10 1000 && z 5 3
  | 6 => rg 0 1 255 && (List.range 8).all (fun k => rg (1 + k) 0 255) && rg 9 0 216 && z 10 6
  | 7 => rg 0 1 8 && rg 1 10 1000 && z 2 6
  | 8 => rg 0 0 500 && rg 1 0 1 && z 2 6
  | 9 => rg 0 0 3 && rg 1 1 4 && rg 2 160 220 && decide (w 3 < 2 ^ w 1) && rg 4 20 60 && z 5 3
  | 10 => rg 0 1 4 && rg 1 160 220 && rg 2 0 60 && rg 3 0 1 && lampSource (w 4) && w 4 != 0xFE && z 5 3
  | 11 => rg 0 1 8 && (List.range 8).all (fun k => rg (1 + k) 0 16320 && (decide (k < w 0) || w (1 + k) == 0)) &&
    z 9 3 && decide (((List.range 8).map (fun i => w (1 + i))).sum ≤ 16320)
  | _ => rg 0 1 8 && rg 1 1 8000 && rg 2 0 1 && z 3 1

/-- The stall cost of a record's instance (R122, R128, R279). -/
def stallCost (t : StallRec) : Nat :=
  match t.template with
  | 3 => (t.w 0 + 31) / 32
  | 4 => if t.w 1 = 1 then 2 + (t.w 0 + 63) / 64 else 2 + (t.w 0 + 31) / 32
  | _ => 1

/-- A record by itself (R70, R71, R120, R126). -/
def stallRecOk (t : StallRec) : Bool :=
  decide (t.stall < 128 ∧ t.template ≤ 12 ∧ 15 ≤ t.clockMin ∧ t.clockMin ≤ 50) &&
  (t.template != 3 || decide (t.inst < 16)) && (t.template != 4 || decide (t.inst < 4)) &&
  (t.template == 3 || t.template == 4 || (t.inst == 0 && t.slice == 0 && t.sliceCount == 1)) &&
  decide (1 ≤ t.sliceCount ∧ t.sliceCount ≤ 8) && fallbackOk t.template t.fallback && configOk t &&
  decide (4 * t.config.length + t.init.length + workspace t ≤ 65536) && t.sliceCount == stallCost t &&
  (t.template != 1 || t.init.length == (if t.w 2 = 1 then t.w 1 else t.w 0 * t.w 1) * 20)

/-- The stalls of a mask. -/
def maskStalls (m : Nat) : List Nat := (List.range 128).filter (fun n => m.testBit n)

/-- Each region's stalls have one record each, in the region's own section (R71). -/
def regionStallsOk (im : Image) (r : RegionRec) : Bool :=
  let here := (im.stalls.filter (fun t => t.region == r.id)).map (·.stall)
  here.all (fun n => r.stalls.testBit n) && (maskStalls r.stalls).all (fun n => here.count n == 1)

/-- The records of one instance agree: template, SLICE_COUNT, FALLBACK, configuration, one stall group, each slice once
(R71, R123, R274). -/
def instanceOk (im : Image) (t : StallRec) : Bool :=
  if t.template = 3 ∨ t.template = 4 then
    let l := im.stalls.filter (fun u => u.template = t.template ∧ u.inst = t.inst)
    l.all (fun u => u.sliceCount == t.sliceCount && u.fallback == t.fallback && u.config == t.config &&
      u.stall / 8 == t.stall / 8) &&
    l.length == t.sliceCount && (List.range t.sliceCount).all (fun k => (l.map (·.slice)).count k == 1)
  else true

/-! ### The harness -/

/-- The port range of a source endpoint code (R72). -/
def srcPorts : Nat → Nat
  | 0x80 => 10
  | 0x82 => 8
  | 0x83 => 64
  | 0x84 => 64
  | 0x86 => 64
  | _ => 0

/-- The port range of a sink endpoint code (R72). -/
def dstPorts : Nat → Nat
  | 0x81 => 11
  | 0x83 => 64
  | 0x85 => 64
  | 0x86 => 64
  | _ => 0

/-- The region that claims a stall. -/
def regionOf (im : Image) (n : Nat) : Option Nat := (im.regions.find? (fun r => r.stalls.testBit n)).map (·.id)

/-- A link record by itself (R72, R73). -/
def linkRecOk (im : Image) (l : LinkRec) : Bool :=
  let end_ := fun e ports lim => decide (e < 128) || (decide (ports + l.channels ≤ lim) && decide (0 < lim))
  decide (1 ≤ l.channels ∧ l.channels ≤ 8 ∧ 2 ≤ l.depth ∧ l.depth ≤ 4) &&
  decide (l.src < 128 ∨ l.dst < 128) &&
  end_ l.src l.srcPort (srcPorts l.src) && end_ l.dst l.dstPort (dstPorts l.dst) &&
  (decide (l.src < 128) || l.src != 0x83 || l.srcPort / 16 == (l.srcPort + l.channels - 1) / 16) &&
  (decide (l.dst < 128) || l.dst != 0x83 || l.dstPort / 16 == (l.dstPort + l.channels - 1) / 16) &&
  (decide (l.src ≥ 128) || (regionOf im l.src).isSome) && (decide (l.dst ≥ 128) || (regionOf im l.dst).isSome) &&
  regionOf im (if l.dst < 128 then l.dst else l.src) == some l.region &&
  l.edge == (decide (l.src ≥ 128) || decide (l.dst ≥ 128) || regionOf im l.src != regionOf im l.dst) &&
  (l.edge || l.edgeId == 0)

/-- A region's EDGE links: unique EDGE_IDs, EDGE_COUNT of them (R73). -/
def regionEdgesOk (im : Image) (r : RegionRec) : Bool :=
  let ids := (im.links.filter (fun l => l.region == r.id && l.edge)).map (·.edgeId)
  ids.length == r.edgeCount && ids.all (fun i => ids.count i == 1)

/-- The record of stall `n`. -/
def recOf (im : Image) (n : Nat) : Option StallRec := im.stalls.find? (fun t => t.stall = n)

/-- The channel count an input port of a stall must have: none for a port the template does not have; 0 for any count
(R122, R125, R172). -/
def inPort (t : StallRec) (p : Nat) : Option Nat :=
  if t.slice ≠ 0 then none
  else match t.template, p with
    | 0, p => if p < 8 then some 0 else none
    | 2, 1 => some 1
    | 3, 0 => some 1
    | 3, 1 => some 1
    | 4, 0 => some 1
    | 4, 1 => some (t.w 1)
    | 5, 0 => some 1
    | 5, 1 => some 1
    | 5, 2 => some 0
    | 6, p => if (t.w 0).testBit p then some 1 else none
    | 8, 0 => some 1
    | 9, 0 => some (t.w 1)
    | 10, _ => none
    | _, 0 => some (t.w 0)
    | _, _ => none

/-- The channel count an output port of a stall must have (R122). -/
def outPort (t : StallRec) (p : Nat) : Option Nat :=
  if t.slice ≠ 0 then none
  else match t.template, p with
    | 0, p => if p < 8 then some 0 else none
    | 3, 0 => some 1
    | 3, 1 => some 1
    | 4, 0 => some 1
    | 4, 1 => some 1
    | 5, 0 => some 1
    | 6, 0 => some 1
    | 8, 0 => some 1
    | 9, 0 => some (t.w 1)
    | 10, 0 => some (t.w 0)
    | _, 0 => some (t.w 0)
    | _, _ => none

/-- The ends of a link are ports the templates have, with their channel counts (R122). -/
def linkPortsOk (im : Image) (l : LinkRec) : Bool :=
  let ok := fun (o : Option Nat) => match o with
    | none => false
    | some c => c == 0 || c == l.channels
  (decide (l.src ≥ 128) || (match recOf im l.src with
    | none => false
    | some t => ok (outPort t l.srcPort))) &&
  (decide (l.dst ≥ 128) || (match recOf im l.dst with
    | none => false
    | some t => ok (inPort t l.dstPort)))

/-- The links into one input port. -/
def linksInto (im : Image) (n p : Nat) : List LinkRec := im.links.filter (fun l => l.dst = n ∧ l.dstPort = p)

/-- The links out of one output port. -/
def linksFrom (im : Image) (n p : Nat) : List LinkRec := im.links.filter (fun l => l.src = n ∧ l.srcPort = p)

/-- Whether a link covers an endpoint port. -/
def coversSrc (l : LinkRec) (code p : Nat) : Bool :=
  l.src == code && decide (l.srcPort ≤ p ∧ p < l.srcPort + l.channels)

/-- Whether a link covers an endpoint port. -/
def coversDst (l : LinkRec) (code p : Nat) : Bool :=
  l.dst == code && decide (l.dstPort ≤ p ∧ p < l.dstPort + l.channels)

/-- The routing limits of R132 but for layers and cycles. -/
def routingOk (im : Image) : Bool :=
  decide (im.links.length ≤ 1024) &&
  im.links.all (fun l =>
    (decide (l.dst ≥ 128) || (linksInto im l.dst l.dstPort).length == 1) &&
    (decide (l.src ≥ 128) || (decide ((linksFrom im l.src l.srcPort).length ≤ 4) &&
      (linksFrom im l.src l.srcPort).all (fun k => k.channels == l.channels))) &&
    (decide (l.src < 128) || (List.range l.channels).all (fun k =>
      decide ((im.links.filter (fun j => coversSrc j l.src (l.srcPort + k))).length ≤ 8))) &&
    (decide (l.dst < 128) || (List.range l.channels).all (fun k =>
      decide ((im.links.filter (fun j => coversDst j l.dst (l.dstPort + k))).length ≤ 1)))) &&
  im.stalls.all (fun t =>
    decide (((im.links.filter (fun l => l.dst = t.stall)).map (·.channels)).sum ≤ 32) &&
    decide (((distinct ((im.links.filter (fun l => l.src = t.stall)).map (fun l => (l.srcPort, l.channels)))).map
      (·.2)).sum ≤ 32)) &&
  (List.range 16).all (fun g =>
    decide (((im.links.filter (fun l => (if l.dst < 128 then l.dst else l.src) / 8 = g)).map
      (fun l => l.depth * l.channels * 24)).sum ≤ 24576))

/-- One round of the layer rule over the layers so far, by stall (R133, R275): a tail slice of an AEC follows its
analysis slice, the synthesis slice its tail slices, and a reader the synthesis slice. -/
def layerRound (im : Image) (lay : List (Nat × Nat)) : List (Nat × Nat) :=
  let at_ := fun n => (lay.lookup n).getD 0
  let slice0 := fun (t : StallRec) =>
    (im.stalls.find? (fun u => u.template = t.template ∧ u.inst = t.inst ∧ u.slice = 0)).map (·.stall)
  im.stalls.map (fun t =>
    (t.stall,
      if t.slice ≠ 0 then
        match slice0 t with
        | none => 0
        | some z => at_ z + (if t.template = 4 then (if t.slice + 1 = t.sliceCount then 2 else 1) else 0)
      else
        ((im.links.filter (fun l => l.dst = t.stall ∧ l.src < 128 ∧ l.depth = 2)).map (fun l =>
          at_ l.src + 1 + (match recOf im l.src with
            | some u => if u.template = 4 then 2 else 0
            | none => 0))).foldl Nat.max 0))

/-- `k` rounds of the layer rule. -/
def layerRounds (im : Image) : Nat → List (Nat × Nat) → List (Nat × Nat)
  | 0, l => l
  | k + 1, l => layerRounds im k (layerRound im l)

/-- The layers of an image's stalls (R133). Twelve rounds settle every image of at most 8 layers; a cycle of same-stride
links passes layer 7 within them. -/
def layersOf (im : Image) : List (Nat × Nat) := layerRounds im 12 []

/-- At most 8 layers, and no cycle without a deferred link (R132, R133). -/
def layersOk (im : Image) : Bool := (layersOf im).all (fun p => decide (p.2 < 8))

/-- The layer count L. -/
def layerCount (im : Image) : Nat := ((layersOf im).map (·.2)).foldl Nat.max 0 + 1

/-- E_k of R134. -/
def defaultLayerEnd (l k : Nat) : Nat := if k < l then 8 + 976 * (k + 1) / l else 0

/-! ### The chapters' section rules -/

/-- Region IDs 0 to REGION_COUNT − 1 once each, masks disjoint and not empty (R64); a partial image's regions only
disjoint and not empty. -/
def regionsOk (im : Image) : Bool :=
  (im.partialImg || (List.range im.regions.length).all (fun k => (im.regions.map (·.id)).count k == 1)) &&
  im.regions.all (fun r => decide (r.id < 16 ∧ 0 < r.stalls) &&
    im.regions.all (fun q => q.id == r.id || Nat.land q.stalls r.stalls == 0) &&
    (im.regions.map (·.id)).count r.id == 1)

/-- Input channels of a MIX stall, by node-mix index: the link that brings index `b + k` and its channel (R299). -/
def mixInputs (links : List LinkRec) (n : Nat) : List (LinkRec × Nat) :=
  (sortBy (fun a b => decide (a.dstPort ≤ b.dstPort)) (links.filter (fun l => l.dst = n))).flatMap
    (fun l => (List.range l.channels).map (fun c => (l, c)))

/-- Output channels of a MIX stall, by node-mix index: output port and channel (R299). -/
def mixOutputs (links : List LinkRec) (n : Nat) : List (Nat × Nat) :=
  (List.range 8).flatMap (fun p =>
    match links.find? (fun l => l.src = n ∧ l.srcPort = p) with
    | none => []
    | some l => (List.range l.channels).map (fun c => (p, c)))

/-- MIX channel counts and index ranges (R299, R300). -/
def mixOk (im : Image) : Bool :=
  let ms := im.stalls.filter (fun t => t.template = 0)
  let top := fun (t : StallRec) => t.w 3 + max (t.w 0) (t.w 1)
  ms.all (fun t => (mixInputs im.links t.stall).length == t.w 0 && (mixOutputs im.links t.stall).length == t.w 1 &&
    decide (top t ≤ 256) && ms.all (fun u => u.stall == t.stall || decide (top t ≤ u.w 3 ∨ top u ≤ t.w 3)))

/-- The MIX record that serves a node-mix input or output pair (R298). -/
def mixOfPair (im : Image) (i o : Nat) : Option StallRec :=
  im.stalls.find? (fun t => t.template = 0 ∧ t.w 3 ≤ i ∧ i < t.w 3 + t.w 0 ∧ t.w 3 ≤ o ∧ o < t.w 3 + t.w 1)

/-- The node-mix input indices linked directly from source endpoint `code` port `p`. -/
def mixInputsFrom (st : List StallRec) (ls : List LinkRec) (code p : Nat) : List Nat :=
  (st.filter (fun t => t.template = 0)).flatMap (fun t =>
    ((mixInputs ls t.stall).zipIdx.filter (fun x =>
      x.1.1.src == code && x.1.1.srcPort + x.1.2 == p)).map (fun x => t.w 3 + x.2))

/-- The node-mix output indices linked directly to sink endpoint `code` port `p`. -/
def mixOutputsTo (st : List StallRec) (ls : List LinkRec) (code p : Nat) : List Nat :=
  (st.filter (fun t => t.template = 0)).flatMap (fun t =>
    ((mixOutputs ls t.stall).zipIdx.filter (fun x =>
      ls.any (fun l => l.src == t.stall && l.srcPort == x.1.1 && l.dst == code && l.dstPort + x.1.2 == p))).map
      (fun x => t.w 3 + x.2))

/-- The GROUPS section (R74–R76, R301, R306, R307). DESIGN CHOICE (log entry 55): a MODE above 2, an INTERRUPT_DIM of 121–254
and any other value outside R74's table, for which the spec names no code, is refused with SECTION. -/
def groupsOk (im : Image) : Bool :=
  decide (im.interruptDim ≤ 120 ∨ im.interruptDim = 255) &&
  im.keys.all (fun k => decide (k.slot < 32 ∧ k.group < 64 ∧ k.source ≤ 4 ∧ k.mode ≤ 2 ∧ k.priority ≤ 3) &&
    (k.group == 63) == (k.priority == 3) && im.groupMask.testBit k.group &&
    (im.keys.map (·.slot)).count k.slot == 1 && (k.source != 4 || (k.mode == 0 && decide (k.sourceIndex ≤ 3))) &&
    (k.source != 1 || decide (k.sourceIndex ≤ 31))) &&
  im.xps.all (fun x => decide (x.gain ≤ 216) && (mixOfPair im x.input x.output).isSome &&
    (im.xps.map (fun y => (y.input, y.output))).count (x.input, x.output) == 1) &&
  (!im.groupMask.testBit 63 ||
    (match mixInputsFrom im.stalls im.links 0x86 63 with
     | [i] => [8, 9, 10].all (fun p => (mixOutputsTo im.stalls im.links 0x81 p).all (fun o => (mixOfPair im i o).isSome))
     | _ => false))

/-- The panel records (R79, R615, R616). DESIGN CHOICE (log entry 55): a field outside R79's ranges, for which the spec names
no code, is refused with SECTION. -/
def panelOk (l : List PanelRec) : Bool :=
  decide (l.length ≤ 32) &&
  l.all (fun r => decide (r.gpio < 32 ∧ r.function ≤ 4) && (l.map (·.gpio)).count r.gpio == 1 &&
    (if r.function = 3 then decide (r.pwmCh < 8) else r.pwmCh == 0) &&
    match r.function with
    | 0 => decide (r.target < 32)
    | 1 => encTarget r.target && (l.filter (fun q => q.function = 2 ∧ q.target = r.target)).length == 1 &&
      (l.filter (fun q => q.function = 1 ∧ q.target = r.target)).length == 1
    | 2 => encTarget r.target && (l.filter (fun q => q.function = 1 ∧ q.target = r.target)).length == 1 &&
      (l.filter (fun q => q.function = 2 ∧ q.target = r.target)).length == 1
    | _ => lampSource r.target) &&
  decide ((l.filter (fun r => r.function = 1)).length ≤ 4)

/-- The MACQ section (R80, R81). DESIGN CHOICE (log entry 55): a PORT, QUEUE, DIRECTION, CLASS or SIZE_KB outside R80's ranges,
for which the spec names no code, is refused with SECTION. -/
def macqOk (im : Image) (ring : Nat) : Bool :=
  im.queues.all (fun q => decide (q.port < 3 ∧ q.queue < 8 ∧ q.cls < 8 ∧ 1 ≤ q.sizeKb ∧ q.sizeKb ≤ 64 ∧ q.thresh ≤ 63) &&
    (q.transmit || q.thresh == 0) &&
    (im.queues.filter (fun r => r.port = q.port ∧ r.queue = q.queue ∧ r.transmit = q.transmit)).length == 1) &&
  [0, 1].all (fun p => !ring.testBit p || [true, false].all (fun tx =>
    im.queues.any (fun q => q.port == p && q.queue == 0 && q.transmit == tx)))

/-- A port 0 input that BIND and the echo inputs need (R281, R282, R175, R529). -/
def echoLinksOk (im : Image) : Bool :=
  let into := fun n p => (linksInto im n p).head?
  let sameSrc := fun (a b : Option LinkRec) => match a, b with
    | some x, some y => x.src == y.src && x.srcPort == y.srcPort
    | _, _ => false
  im.stalls.all (fun t =>
    match t.template with
    | 3 => t.slice != 0 || t.w 1 == 4 ||
      ((match into t.stall 0 with
        | some l => coversSrc l 0x80 (t.w 1) && l.channels == 1
        | none => false) &&
       (match into t.stall 1, im.links.find? (fun l => coversDst l 0x81 (t.w 1)) with
        | some x, some y => x.src == y.src &&
          (if x.src < 128 then x.srcPort == y.srcPort && y.dstPort == t.w 1
           else x.srcPort == y.srcPort + (t.w 1 - y.dstPort))
        | _, _ => false) &&
       (im.stalls.filter (fun u => u.template = 3 ∧ u.slice = 0 ∧ u.w 1 = t.w 1)).length == 1)
    | 5 =>
      (match into t.stall 1 with
       | none => false
       | some l => l.srcPort == 1 && l.depth == 2 &&
         (match recOf im l.src with
          | none => false
          | some u => (u.template == 3 || u.template == 4) &&
            (match into t.stall 0 with
             | some k => k.src == l.src && k.srcPort == 0
             | none => false) &&
            sameSrc (into t.stall 2) (into u.stall 1) &&
            (match into t.stall 2, into u.stall 1 with
             | some a, some b => a.channels == b.channels
             | _, _ => false) &&
            (im.stalls.filter (fun v => v.template == 5 && (match into v.stall 1 with
              | some k => k.src == u.stall
              | none => false))).length == 1))
    | 7 => (match into t.stall 0 with
      | some l => l.src == 0x84
      | none => false)
    | 8 => (match into t.stall 0 with
      | some l => (match recOf im l.src with
        | some u => u.template == 6
        | none => false)
      | none => false)
    | 9 => (im.stalls.filter (fun u => u.template = 9 ∧ u.w 0 = t.w 0)).length == 1
    | _ => true) &&
  decide ((im.stalls.filter (fun t => t.template = 8)).length ≤ 1) &&
  im.links.all (fun l => l.src != 0x84 || (l.dstPort == 0 && (match recOf im l.dst with
    | some u => u.template == 7
    | none => false)))

/-- Step 5 of R88 but for the PARAM addresses: the section rules (SECTION). `whole` is the image itself, or for a
partial image the running image with the partial's regions in place. -/
def sectionsOk (im whole : Image) (ring : Nat) : Bool :=
  regionsOk im && im.stalls.all stallRecOk && im.regions.all (regionStallsOk im) && im.stalls.all (instanceOk whole) &&
  im.links.all (linkRecOk whole) && im.regions.all (regionEdgesOk im) && im.links.all (linkPortsOk whole) &&
  routingOk whole && layersOk whole && mixOk whole && echoLinksOk whole &&
  (im.claims.iopTx == 0 || whole.queues.any (fun q => q.port == 2 && q.transmit && q.cls == 5)) &&
  (im.claims.iopRx == 0 || whole.queues.any (fun q => q.port == 2 && !q.transmit && q.cls == 5)) &&
  (im.partialImg || (groupsOk im && panelOk im.panel && macqOk im ring && portsRangesOk im.ports))

/-- How many bits of `v` below `n` are set. -/
def popcount (v n : Nat) : Nat := ((List.range n).filter (fun i => v.testBit i)).length

/-- Step 6 of R88: the claims (R66, R273). `whole` is the image as it will run: R273 numbers the instances of the whole. -/
def claimsOk (im whole : Image) : Bool :=
  let c := im.claims
  let instsOf := fun (i : Image) (t : Nat) => distinct ((i.stalls.filter (fun r => r.template = t)).map (·.inst))
  let insts := instsOf im
  decide (c.lec ≤ 16 ∧ c.aec ≤ 4 ∧ c.iopRx ≤ 32 ∧ c.iopTx ≤ 32 ∧ c.groups ≤ 64 ∧ c.keys ≤ 32 ∧ c.macKb ≤ 256) &&
  c.stalls == (im.regions.map (·.stalls)).foldl Nat.lor 0 &&
  c.lec == (insts 3).length && c.aec == (insts 4).length &&
  (instsOf whole 3).all (fun k => decide (k < (instsOf whole 3).length)) &&
  (instsOf whole 4).all (fun k => decide (k < (instsOf whole 4).length)) &&
  c.groups == popcount im.groupMask 64 && c.keys == im.keys.length &&
  c.tdmMask == ((List.range 4).filter (fun p => im.links.any (fun l =>
    (l.src == 0x83 && l.srcPort / 16 == p) || (l.dst == 0x83 && l.dstPort / 16 == p)))).foldl (fun n p => n + 2 ^ p) 0 &&
  c.links == im.links.length && c.macKb == (im.queues.map (·.sizeKb)).sum &&
  (c.iopRx != 0 || im.links.all (fun l => l.src != 0x84)) && (c.iopTx != 0 || im.links.all (fun l => l.dst != 0x85))

end Sys2Proof.Machine
end

