-- ==== Sys2Proof/Machine/Frames.lean ====
section
/-! DEFINITION. Frames: checksums (R478, R481), the Ethernet headers (R345, R491), and the layouts of beam and control
frames (R347–R357). -/

namespace Sys2Proof.Machine

/-! ### Checksums -/

/-- One bit of the reflected CRC-32 of R478. -/
def crc32Bit (c : Nat) : Nat := if c % 2 = 1 then Nat.xor (c / 2) 0xEDB88320 else c / 2

/-- The register of CRC-32 after one byte. -/
def crc32Byte (c : Nat) (b : Byte) : Nat :=
  let x := Nat.xor c b.toNat
  crc32Bit (crc32Bit (crc32Bit (crc32Bit (crc32Bit (crc32Bit (crc32Bit (crc32Bit x)))))))

/-- CRC-32 (R478). -/
def crc32 (l : List Byte) : Nat := Nat.xor (l.foldl crc32Byte 0xFFFFFFFF) 0xFFFFFFFF

/-- One bit of the CRC-16 of R481. -/
def crc16Bit (c : Nat) : Nat := if 32768 ≤ c then Nat.xor (2 * c % 65536) 0x1021 else 2 * c

/-- The register of CRC-16 after one byte. -/
def crc16Byte (c : Nat) (b : Byte) : Nat :=
  let x := Nat.xor c (b.toNat * 256)
  crc16Bit (crc16Bit (crc16Bit (crc16Bit (crc16Bit (crc16Bit (crc16Bit (crc16Bit x)))))))

/-- CRC-16 (R481). -/
def crc16 (l : List Byte) : Nat := l.foldl crc16Byte 0xFFFF

/-! ### Reading bytes -/

/-- The number of `n` bytes at offset `o`, most significant first (R12). -/
def beAt (l : List Byte) (o n : Nat) : Nat := beNat ((l.drop o).take n)

/-- `n` words of four bytes, most significant byte first. -/
def beWords (l : List Byte) : Nat → List Nat
  | 0 => []
  | n + 1 => beNat (l.take 4) :: beWords (l.drop 4) n

/-- Zero bytes after `l` up to length `n`. -/
def padBytes (n : Nat) (l : List Byte) : List Byte := l ++ List.replicate (n - l.length) 0

/-! ### Ethernet headers -/

/-- What the headers of a frame say: addresses, SecTAG, the tag control words, EtherType, where the body begins, and
whether the tags break the limits of R491. -/
structure EthHdr where
  da : Nat
  sa : Nat
  secTag : Bool
  tags : List Nat
  etype : Nat
  off : Nat
  deep : Bool
deriving DecidableEq, Repr

/-- The Ethernet headers (R491): one SecTAG directly after the source address, at most two VLAN tags. -/
def ethHdr (l : List Byte) : EthHdr :=
  let sec := beAt l 12 2 == 0x88E5
  let o := if sec then 28 else 12
  let t0 := beAt l o 2
  let t1 := beAt l (o + 4) 2
  let t2 := beAt l (o + 8) 2
  if t0 = 0x88A8 ∨ t0 = 0x8100 then
    if t1 = 0x8100 then
      ⟨beAt l 0 6, beAt l 6 6, sec, [beAt l (o + 2) 2, beAt l (o + 6) 2], t2, o + 10, t2 == 0x88A8 || t2 == 0x8100⟩
    else ⟨beAt l 0 6, beAt l 6 6, sec, [beAt l (o + 2) 2], t1, o + 6, t1 == 0x88A8⟩
  else ⟨beAt l 0 6, beAt l 6 6, sec, [], t0, o + 2, false⟩

/-- The length of a received frame: destination address to FCS, ICV included (R473). -/
def rxLength (f : RxFrame) : Nat := f.bytes.length + (if (ethHdr f.bytes).secTag then 16 else 0) + 4

/-- The bytes of a frame from its body on. -/
def rxBody (f : RxFrame) : List Byte := f.bytes.drop (ethHdr f.bytes).off

/-- A group address (the individual/group bit of the first byte). -/
def isGroup (da : Nat) : Bool := (da / 2 ^ 40) % 2 == 1

/-- The broadcast address. -/
def broadcast : Nat := 0xFFFFFFFFFFFF

/-- A ring group address 0B-56-58-00-00-xx (R345). -/
def isRingGroup (da : Nat) : Bool := da / 256 == 0x0B56580000

/-! ### Beams -/

/-- A bit as 0 or 1. -/
def bit1 (b : Bool) : Nat := if b then 1 else 0

/-- The header and payload of a beam (R347–R349); none where its first byte names no beam or it is cut short. -/
def parseBeam (l : List Byte) : Option Beam :=
  let v := beAt l 0 1
  if l.length < 36 ∨ v / 16 ≠ 1 ∨ v % 16 = 0 ∨ 3 < v % 16 then none
  else
    let f := beAt l 1 1
    let len := beAt l 12 2
    some { typ := v % 16, beamB := bitOf f 0, wrapped := bitOf f 1, slack := bitOf f 2, segB := bitOf f 3
           ring := beAt l 2 1, lighthouse := beAt l 3 1, stride := beAt l 4 4, offset := beAt l 8 3, epoch := beAt l 11 1
           length := len, adders := beAt l 14 2, talk := beAt l 16 4, int_ := beAt l 20 4, all := beAt l 24 4
           call := beAt l 28 4, bitmap := beAt l 32 4
           payload := beWords (l.drop 36) (min (len / 4) ((l.length - 36) / 4)) }

/-- The bytes of a beam, padded to a 60-byte frame (R348–R350). -/
def encodeBeam (b : Beam) : List Byte :=
  padBytes 46 (beBytes (16 + b.typ) 1 ++ beBytes (bit1 b.beamB + 2 * bit1 b.wrapped + 4 * bit1 b.slack + 8 * bit1 b.segB) 1 ++
    beBytes b.ring 1 ++ beBytes b.lighthouse 1 ++ beBytes b.stride 4 ++ beBytes b.offset 3 ++ beBytes b.epoch 1 ++
    beBytes b.length 2 ++ beBytes b.adders 2 ++ beBytes b.talk 4 ++ beBytes b.int_ 4 ++ beBytes b.all 4 ++
    beBytes b.call 4 ++ beBytes b.bitmap 4 ++ b.payload.flatMap (fun w => beBytes w 4))

/-- A beam keeps R349 and R350 with a body of `n` bytes. -/
def Beam.lengthOk (b : Beam) (n : Nat) : Bool :=
  b.length == 24 * popcount b.bitmap 32 && n == max 46 (36 + b.length)

/-- The first group of a beam's half. -/
def Beam.base (b : Beam) : Nat := if b.beamB then 32 else 0

/-- The groups that a beam carries, with the place of each in its payload (R348, R349). -/
def Beam.groups (b : Beam) : List (Nat × Nat) :=
  (((List.range 32).filter (fun i => b.bitmap.testBit i)).map (fun i => b.base + i)).zipIdx

/-- The six words of the `i`th carried group. -/
def Beam.words (b : Beam) (i : Nat) : List Nat := (List.range 6).map (fun j => b.payload.getD (6 * i + j) 0)

/-! ### Control frames -/

/-- The header and body of a control frame (R352); none where its first byte names none or it is cut short. -/
def parseCtl (l : List Byte) : Option Ctl :=
  let v := beAt l 0 1
  let n := beAt l 12 2
  if l.length < 16 + n ∨ v / 16 ≠ 1 ∨ v % 16 < 4 ∨ 6 < v % 16 then none
  else
    let c := beAt l 1 1
    some { typ := v % 16, cls := c % 8, fromAdrift := bitOf c 3, ring := beAt l 2 1, hops := beAt l 3 1
           sender := beAt l 4 2, stride := beAt l 6 6, seq := beAt l 14 2, body := (l.drop 16).take n }

/-- The bytes of a control frame, padded to a 60-byte frame (R352). -/
def encodeCtl (c : Ctl) : List Byte :=
  padBytes 46 (beBytes (16 + c.typ) 1 ++ beBytes (c.cls + 8 * bit1 c.fromAdrift) 1 ++ beBytes c.ring 1 ++ beBytes c.hops 1 ++
    beBytes c.sender 2 ++ beBytes c.stride 6 ++ beBytes c.body.length 2 ++ beBytes c.seq 2 ++ c.body)

/-- The body of a GATE (R354). -/
def gateBody (mac reqId prec flags q mask : Nat) : List Byte :=
  beBytes mac 6 ++ beBytes reqId 2 ++ beBytes prec 1 ++ beBytes flags 1 ++ beBytes q 1 ++ [0] ++ beBytes mask 8

/-- The body of a MUSTER (R355): its entries are (MAC, NODE_ID, RESULT). -/
def musterBody (members prec flags mac map : Nat) (entries : List (Nat × Nat × Nat)) : List Byte :=
  beBytes members 2 ++ beBytes prec 1 ++ beBytes flags 1 ++ beBytes mac 6 ++ beBytes map 8 ++ beBytes entries.length 1 ++ [0] ++
    entries.flatMap (fun e => beBytes e.1 6 ++ beBytes e.2.1 2 ++ beBytes e.2.2 1 ++ [0, 0, 0])

/-- The entries of a MUSTER's body (R355). -/
def musterEntries (b : List Byte) : List (Nat × Nat × Nat) :=
  (List.range (min 8 (beAt b 18 1))).map (fun i =>
    (beAt b (20 + 12 * i) 6, beAt b (26 + 12 * i) 2, beAt b (28 + 12 * i) 1))

/-- The body of a FOGHORN (R357). -/
def foghornBody (kind origin fseq : Nat) : List Byte :=
  beBytes kind 1 ++ [0] ++ beBytes origin 2 ++ beBytes fseq 2 ++ [0, 0]

/-- A frame as the node sends it: addresses, EtherType, body. -/
def ethFrame (da sa etype : Nat) (body : List Byte) : List Byte :=
  beBytes da 6 ++ beBytes sa 6 ++ beBytes etype 2 ++ body

end Sys2Proof.Machine
end

