-- ==== Sys2Proof/Machine/Flags.lean ====
section
/-! DEFINITION. The arithmetic and the computed flags that several families share: rounding and saturation (R118), gain
codes and ramps (R878, R880), and the interrupt cause tree (R560, R561). -/

namespace Sys2Proof.Machine

/-! ### Sample arithmetic -/

/-- `a / d` to the nearest integer, ties away from zero (R118); `d` is positive. -/
def roundDiv (a : Int) (d : Nat) : Int :=
  if 0 ≤ a then ((2 * a + d) / (2 * d) : Int) else -((2 * (-a) + d) / (2 * d) : Int)

/-- `a / d` halved toward zero and the like: truncation toward zero (R141). -/
def truncDiv (a : Int) (d : Nat) : Int := if 0 ≤ a then a / d else -((-a) / d)

/-- A value held within `n` of 0. -/
def clampTo (n : Int) (v : Int) : Int := max (-n) (min n v)

/-- The largest audio word (R7). -/
def sampleMax : Int := 8388607
/-- The most negative audio word (R7). -/
def sampleMin : Int := -8388608

/-- Saturation to an audio word, and whether it saturated (R118). -/
def sat24 (a : Int) : Int × Bool :=
  if sampleMax < a then (sampleMax, true) else if a < sampleMin then (sampleMin, true) else (a, false)

/-- A block with every sample saturated, and whether any was. -/
def satBlock (b : Block) : Block × Bool :=
  (b.map (fun c => c.map (fun x => (sat24 x).1)), b.any (fun c => c.any (fun x => (sat24 x).2)))

/-- The Q4.20 factors of the gain codes 0–216 (R75, R880): 10^((n - 192) / 40) × 2^20, rounded to nearest. -/
def gainTable : List Nat :=
  [0, 18, 19, 20, 21, 22, 23, 25, 26, 28, 30, 31, 33, 35, 37, 39,
   42, 44, 47, 50, 53, 56, 59, 62, 66, 70, 74, 79, 83, 88, 93, 99,
   105, 111, 118, 125, 132, 140, 148, 157, 166, 176, 186, 198, 209, 222, 235, 249,
   263, 279, 296, 313, 332, 351, 372, 394, 417, 442, 468, 496, 526, 557, 590, 625,
   662, 701, 742, 786, 833, 882, 935, 990, 1049, 1111, 1177, 1246, 1320, 1398, 1481, 1569,
   1662, 1760, 1865, 1975, 2092, 2216, 2347, 2487, 2634, 2790, 2955, 3130, 3316, 3512, 3720, 3941,
   4174, 4422, 4684, 4961, 5255, 5567, 5897, 6246, 6616, 7008, 7423, 7863, 8329, 8823, 9345, 9899,
   10486, 11107, 11765, 12462, 13201, 13983, 14812, 15689, 16619, 17604, 18647, 19751, 20922, 22162, 23475, 24866,
   26339, 27900, 29553, 31304, 33159, 35124, 37205, 39409, 41745, 44218, 46838, 49614, 52553, 55667, 58966, 62460,
   66161, 70081, 74233, 78632, 83291, 88227, 93454, 98992, 104858, 111071, 117652, 124623, 132008, 139830, 148115, 156892,
   166188, 176035, 186466, 197515, 209218, 221615, 234747, 248657, 263390, 278997, 295529, 313040, 331589, 351237, 372049, 394094,
   417446, 442181, 468382, 496135, 525533, 556673, 589658, 624597, 661607, 700809, 742335, 786321, 832914, 882267, 934544, 989920,
   1048576, 1110708, 1176522, 1246235, 1320079, 1398299, 1481153, 1568917, 1661881, 1760354, 1864661, 1975149, 2092184, 2216154, 2347469, 2486566,
   2633904, 2789972, 2955289, 3130401, 3315888, 3512367, 3720488, 3940941, 4174456]

/-- The Q4.20 factor of a gain code (R880). -/
def gainFactor (code : Nat) : Nat := gainTable.getD code 0

/-- A sample times a Q4.20 factor, rounded (R118, R880). -/
def gainSample (x : Int) (f : Nat) : Int := roundDiv (x * f) (2 ^ 20)

/-- The factor for sample `j` of a ramp of `n` samples from `a` to `b`, rounded to Q4.20 (R880, R878): the last sample has the
end factor. -/
def rampFactor (a b n j : Nat) : Nat :=
  if n ≤ j then b else (roundDiv ((a : Int) * n + ((b : Int) - a) * (j + 1)) n).toNat

/-- The largest factor × 2^20 that is not above `k` × 0.1 dB: f ≤ 10^(k / 200). -/
def tenthFactor (k : Int) : Nat :=
  (List.range 28).foldl (fun f b =>
    let c := f + 2 ^ (27 - b)
    if c ^ 200 * 10 ^ (-k).toNat ≤ 2 ^ 4000 * 10 ^ k.toNat then c else f) 0

/-! ### Ramps of an amplitude (R878) -/

/-- The factor of a ramp once `p` of its samples have passed, as a fraction. -/
def Ramp.at_ (r : Ramp) (p : Nat) : Nat × Nat :=
  if r.len ≤ p then (if r.up then 1 else 0, 1)
  else (r.num * (r.len - p) + (if r.up then r.den * p else 0), r.den * r.len)

/-- The ramp with the end asked for: one that ends elsewhere starts anew, from where it stands, over `n` samples. -/
def Ramp.aim (up : Bool) (n : Nat) (r : Ramp) : Ramp :=
  if r.up = up then r else ⟨(r.at_ r.pos).1, (r.at_ r.pos).2, up, 0, n⟩

/-- Samples under a ramp: the sample that ends it has the end factor. -/
def Ramp.block (r : Ramp) (x : List Sample) : List Sample :=
  x.zipIdx.map (fun y => let g := r.at_ (r.pos + y.2 + 1); roundDiv (y.1 * g.1) g.2)

/-- A ramp a stride later. -/
def Ramp.step (r : Ramp) : Ramp :=
  if r.len ≤ r.pos + 6 then (if r.up then Ramp.full else Ramp.silent) else { r with pos := r.pos + 6 }

/-- A ramp that has come to silence. -/
def Ramp.isSilent (r : Ramp) : Bool := !r.up && decide (r.len ≤ r.pos)

/-- A silent block of `ch` channels. -/
def silence (ch : Nat) : Block := List.replicate ch (List.replicate 6 0)

/-- The channel `c` of a block; silence where the block has none. -/
def channel (b : Block) (c : Nat) : List Sample := b.getD c (List.replicate 6 0)

/-! ### The interrupt tree -/

/-- The value of the register at `a`, as its fields hold it. -/
def State.regWord (s : State) (a : Nat) : Nat :=
  match regRow a with
  | none => 0
  | some r => s.word r

/-- Some bit of an IRQ register is set whose enable bit is set. -/
def State.irqBits (s : State) (irq en : Nat) : Bool := Nat.land (s.regWord irq) (s.regWord en) != 0

/-- The result cells of a class of R568: 0 wake, 1 balance, 2 echo, 3 call. -/
def resultCells : Nat → List Nat
  | 0 => [0xF0130]
  | 1 => (List.range 4).map (fun c => 0xC0020 + 0x100 * c)
  | 2 => (List.range 20).map (fun i => 0xD0020 + 0x100 * i)
  | _ => (List.range 4).map (fun c => 0xE0010 + 0x40 * c) ++ (List.range 4).map (fun d => 0xE0300 + 0x40 * d)

/-- Whether cause `b` of R561 is pending. -/
def State.cause (s : State) : Nat → Bool
  | 0 => s.irqBits 0x108084 0x108088
  | 1 => s.irqBits 0x120060 0x120064 || s.irqBits 0x1200C0 0x1200C4
  | 2 => (List.range 3).any (fun p => s.irqBits (0x130700 + 0x4000 * p) (0x130704 + 0x4000 * p))
  | 3 => (List.range 3).any (fun p => s.irqBits (0x140810 + 8 * p) (0x140830 + 8 * p) ||
      s.irqBits (0x140814 + 8 * p) (0x140834 + 8 * p))
  | 4 => s.irqBits 0x151000 0x151004
  | 5 => s.irqBits 0xE0220 0xE0224
  | 6 => s.irqBits 0xA0700 0xA0704
  | 7 => s.irqBits 0x30020 0x30024
  | 8 => s.irqBits 0x20070 0x20074
  | 9 => s.irqBits 0x90030 0x90034
  | 10 => s.irqBits 0x10030 0x10034
  | 11 => s.irqBits 0x60010 0x60014
  | 12 => s.irqBits 0x70100 0x70104
  | 13 => (List.range 4).any (fun k => s.bit F.HOST_RESULT_EN_EN k && (resultCells k).any (fun a => s.getB (cellFresh a)))
  | 14 => s.irqBits 0x80110 0x80114
  | 15 => (List.range 4).any (fun t => s.irqBits (0x170004 + 0x100 * t) (0x170008 + 0x100 * t))
  | _ => false

/-- HOST_IRQ_CAUSE.CAUSE (R561). -/
def State.causes (s : State) : Nat :=
  (List.range 16).foldl (fun n b => if s.cause b then n + 2 ^ b else n) 0

/-- IRQ_N is driven low: some pending cause is unmasked (R560). -/
def State.irqAsserted (s : State) : Bool := Nat.land s.causes (s.get F.HOST_IRQ_MASK_MASK) != 0

end Sys2Proof.Machine
end

