-- ==== Sys2Proof/Machine/Fabric.lean ====
section
/-! DEFINITION. Stalls, harness and the stride (chapter 03): blocks on links, the templates' arithmetic, late stalls and
their fallbacks, clock stepping and lameness, and what a load or a swap builds of an image. -/

namespace Sys2Proof.Machine

/-! ### Stalls and links -/

/-- Stall `n` changed by `f`. -/
def State.updStall (s : State) (n : Nat) (f : Stall → Stall) : State :=
  { s with fab := { s.fab with stalls := s.fab.stalls.map (fun t => if t.n = n then f t else t) } }

/-- A claimed stall that has lost its clock for good (R150). -/
def State.lame (s : State) (n : Nat) : Bool := s.bit (F.FAB_LAME_MASK_LAME (n / 32)) (n % 32)

/-- Whether stall `n` runs: the fabric runs and the stall is not lame (R150). -/
def State.stallRuns (s : State) (n : Nat) : Bool := s.fab.running && !s.lame n

/-- The block a reader takes from a link in this stride; none while a same-stride block has not been committed
(R129, R130). -/
def Link.block (l : Link) : Option Block :=
  if l.committed then some (l.slots.getD (l.cfg.depth - 2) (silence l.cfg.channels))
  else if l.cfg.depth = 2 then none
  else some (l.slots.getD (l.cfg.depth - 3) (silence l.cfg.channels))

/-- A block written to a link: the newest slot, three kept (R72). -/
def Link.push (l : Link) (b : Block) : Link := { l with slots := b :: l.slots.take 2, committed := true }

/-- The links into an input port of stall `n`. -/
def State.inLinks (s : State) (n p : Nat) : List Link :=
  s.fab.links.filter (fun l => l.cfg.dst = n ∧ l.cfg.dstPort = p)

/-- The crossfade of R101 at stride `k` after S, rounded as R118 rounds. -/
def crossfade (k : Nat) (new old : Block) : Block :=
  new.zipIdx.map (fun x => x.1.zipIdx.map (fun y =>
    let g := min 240 (6 * k + y.2 + 1)
    roundDiv (y.1 * g + ((channel old x.2).getD y.2 0) * (240 - g)) 240))

/-- What a link carries of a block written `e` strides before stride `k` after S: the old region's before S (R101, R129). -/
def faded (k e : Nat) (new old : Block) : Block := if k < e then old else crossfade (k - e) new old

/-- What links that share one end deliver: one link's block, or the crossfade of the entering link over the retiring
one (R101). -/
def State.merge (s : State) (ls : List Link) : Option Block :=
  match ls.find? (fun l => !l.retiring), ls.find? (fun l => l.retiring) with
  | some a, some b =>
    match a.block, b.block with
    | some x, some y => some (faded s.swap.k (a.cfg.depth - 2) x y)
    | _, _ => none
  | some a, none => a.block
  | none, some b => b.block
  | none, none => none

/-- The block that input port `p` of stall `n` takes in this stride. -/
def State.inBlock (s : State) (n p : Nat) : Option Block := s.merge (s.inLinks n p)

/-- Every input block of stall `n` has reached it (R137). -/
def State.inputsReady (s : State) (n : Nat) : Bool :=
  (s.fab.links.filter (fun l => l.cfg.dst = n)).all (fun l => l.block.isSome)

/-- The slices of a stall's instance. -/
def State.slices (s : State) (t : Stall) : List Stall :=
  if t.cfg.template = 3 ∨ t.cfg.template = 4 then
    s.fab.stalls.filter (fun u => u.cfg.template = t.cfg.template ∧ u.cfg.inst = t.cfg.inst ∧ u.entering = t.entering ∧
      u.retiring = t.retiring)
  else [t]

/-- The slice whose work ends with the instance's outward blocks: an AEC's synthesis slice, else slice 0 (R275,
R881). -/
def outwardSlice (t : Stall) : Bool :=
  if t.cfg.template = 4 then t.cfg.slice + 1 == t.cfg.sliceCount else t.cfg.slice == 0

/-- The stall whose record names the instance's links: its slice 0 (R122). -/
def State.slice0 (s : State) (t : Stall) : Nat :=
  match (s.slices t).find? (fun u => u.cfg.slice = 0) with
  | some u => u.n
  | none => t.n

/-! ### The templates -/

/-- Samples of the channels of every input port in ascending order, silence where no block is linked (R299). -/
def State.inChannels (s : State) (n : Nat) : Block :=
  (List.range 8).flatMap (fun p => (s.inBlock n p).getD [])

/-- The crosspoint entry of a pair. -/
def State.xp (s : State) (i o : Nat) : Option Xp := s.tg.xps.find? (fun x => x.input = i ∧ x.output = o)

/-- The Q4.20 factor of a crosspoint at sample `j` of this stride (R320, R880). -/
def Xp.factor (x : Xp) (j : Nat) : Nat := rampFactor x.rampFrom x.rampTo x.rampLen (x.rampPos + j)

/-- The crosspoints that a MIX stall applies: the node mix's, or its own once it retires (R340). -/
def State.mixXps (s : State) (t : Stall) : List Xp :=
  match t.mem with
  | .mix l => l
  | _ => s.tg.xps

/-- The MIX template: each output sample is the sum of the inputs through their crosspoints' factors (R880). -/
def State.mixBlock (s : State) (t : Stall) : Block :=
  let ins := s.inChannels t.n
  let b := t.cfg.w 3
  (List.range (t.cfg.w 1)).map (fun o => (List.range 6).map (fun j =>
    roundDiv (((s.mixXps t).filter (fun x => x.output = b + o ∧ b ≤ x.input ∧ x.input < b + t.cfg.w 0)).foldl
      (fun acc x => acc + (channel ins (x.input - b)).getD j 0 * x.factor j) 0) (2 ^ 20)))

/-- Crosspoints of a MIX stall with their ramps one stride further. -/
def rampOn (t : StallRec) (l : List Xp) : List Xp :=
  let b := t.w 3
  l.map (fun x =>
    if b ≤ x.output ∧ x.output < b + t.w 1 ∧ b ≤ x.input ∧ x.input < b + t.w 0 ∧ x.rampPos < x.rampLen
    then { x with rampPos := x.rampPos + 6 } else x)

/-- A MIX stall with the ramps of its crosspoints one stride further: its memory, and the state. -/
def State.stepRamps (s : State) (t : Stall) : StallMem × State :=
  match t.mem with
  | .mix l => (.mix (rampOn t.cfg l), s)
  | m => (m, { s with tg := { s.tg with xps := rampOn t.cfg s.tg.xps } })

/-- A Q2.22 coefficient of an EQ set: coefficient `k` (b0, b1, b2, a1, a2) of section `i` of channel `c` (R126). DEDUCED (log
entry 57): the stall multiplies 24-bit operands (R117), so it takes the low 24 bits of the word, whatever stands above them. -/
def eqCoef (t : StallRec) (c i k : Nat) : Int :=
  let set := if t.w 2 = 1 then 0 else c * t.w 1
  signedOf (leNat ((t.init.drop (20 * (set + i) + 4 * k)).take 4)) 24

/-- One EQ section on one sample: the output and the new history (R126). -/
def eqSection (t : StallRec) (c i : Nat) (h : Int × Int × Int × Int) (x : Int) : Int × Bool × (Int × Int × Int × Int) :=
  let acc := eqCoef t c i 0 * x + eqCoef t c i 1 * h.1 + eqCoef t c i 2 * h.2.1 - eqCoef t c i 3 * h.2.2.1 -
    eqCoef t c i 4 * h.2.2.2
  let y := sat24 (roundDiv acc (2 ^ 22))
  (y.1, y.2, (x, h.1, y.1, h.2.2.1))

/-- The sections of one channel in order on one sample (R126). -/
def eqSections (t : StallRec) (c : Nat) : Nat → List (Int × Int × Int × Int) → Int → Int × Bool × List (Int × Int × Int × Int)
  | _, [], x => (x, false, [])
  | i, h :: hs, x =>
    let r := eqSection t c i h x
    let q := eqSections t c (i + 1) hs r.1
    (q.1, r.2.1 || q.2.1, r.2.2 :: q.2.2)

/-- One channel of an EQ stall over a block. -/
def eqChannel (t : StallRec) (c : Nat) : List (Int × Int × Int × Int) → List Int → List Int × Bool × List (Int × Int × Int × Int)
  | h, [] => ([], false, h)
  | h, x :: xs =>
    let r := eqSections t c 0 h x
    let q := eqChannel t c r.2.2 xs
    (gainSample r.1 (gainFactor (t.w 3)) :: q.1, r.2.1 || q.2.1, q.2.2)

/-- The history of an EQ stall, silence where it has none yet. -/
def eqHist (t : StallRec) : StallMem → List (List (Int × Int × Int × Int))
  | .eq h => h
  | _ => List.replicate (t.w 0) (List.replicate (t.w 1) (0, 0, 0, 0))

/-- The delay lines of a DELAY stall, silence where it has none yet. -/
def delayLines (t : StallRec) : StallMem → List (List Int)
  | .delay l => l
  | _ => (List.range (t.w 0)).map (fun c => List.replicate (t.w (1 + c)) 0)

/-! ### Commit, lateness and fallback -/

/-- The outward links of the instance of stall `t` given blocks by output port, with the retiring or entering mark of
the stall itself. -/
def State.pushOut (s : State) (t : Stall) (f : Link → Block) : State :=
  let z := s.slice0 t
  { s with fab := { s.fab with links := s.fab.links.map (fun l =>
      if l.cfg.src = z ∧ l.committed = false then l.push (f l) else l) } }

/-- The fallback block of an outward link of stall `t` (R141). -/
def State.fallbackBlock (s : State) (t : Stall) (l : Link) : Block :=
  match t.cfg.fallback with
  | 0 => (l.slots.headD (silence l.cfg.channels)).map (fun c => c.map (fun x => truncDiv x 2))
  | 1 =>
    let echo := t.cfg.template = 3 ∨ t.cfg.template = 4
    if echo ∧ l.cfg.srcPort = 1 then silence l.cfg.channels
    else
      let b := (s.inBlock (s.slice0 t) (if echo then 0 else l.cfg.srcPort)).getD []
      (List.range l.cfg.channels).map (fun c => channel b c)
  | _ => silence l.cfg.channels

/-- The harness writes the instance's fallback on each outward link (R141). -/
def State.writeFallback (s : State) (t : Stall) : State :=
  let s' := s.pushOut t (s.fallbackBlock t)
  (s.slices t).foldl (fun s u => (s.updStall u.n (fun v => { v with fellBack := true })).setB
    (F.FAB_STALL_STATUS_FALLBACK_ACTIVE u.n) true) s'

/-- FORCE_FALLBACK is set on some slice of the instance (R157); the harness looks as a stride begins. -/
def State.forced (s : State) (t : Stall) : Bool :=
  (s.slices t).any (fun u => s.getB (F.FAB_STALL_CTRL_FORCE_FALLBACK u.n))

/-- The entries of a history that lie in the last 8,000 strides, the present one included. -/
def recent (now : Nat) (l : List Nat) : List Nat := l.filter (fun k => decide (now < k + 8000))

/-- The entries of a history that lie in the 8,000 strides before stride `now`. -/
def lateBefore (now : Nat) (l : List Nat) : List Nat := l.filter (fun k => decide (k < now) && decide (now ≤ k + 8000))

/-- The slack of the stride that ends at boundary `now`, added to the smallest slacks of the 8,000 strides before it. -/
def addSlack (now slack : Nat) (l : List (Nat × Nat)) : List (Nat × Nat) :=
  (now - 1, slack) :: l.filter (fun p => decide (now ≤ p.1 + 8000) && decide (p.2 < slack))

/-- The smallest slack of the `n` strides before stride `now`. -/
def minSlack (now n : Nat) (l : List (Nat × Nat)) : Option Nat :=
  ((l.filter (fun p => decide (p.1 < now) && decide (now ≤ p.1 + n))).map (·.2)).foldl (fun m x => some (match m with
    | none => x
    | some y => min x y)) none

/-- The register's view of the slacks (FAB_STALL_WINDOW): the present stride and the 7,999 before it. -/
def State.showWindow (s : State) (n : Nat) : State :=
  match s.stallAt n with
  | none => s
  | some t =>
    let past := minSlack s.stride 7999 t.slacks
    let least := match t.slackNow with
      | none => past.getD 0
      | some m => min m (past.getD m)
    (s.set (F.FAB_STALL_WINDOW_LATE_1S n) (min 64 (recent s.stride t.lateAt).length)).set
      (F.FAB_STALL_WINDOW_MIN_SLACK n) (min 1023 least)

/-- The active cap in 10 MHz units for the present thermal level (R147). -/
def State.activeCap (s : State) : Nat :=
  if s.get F.THERM_STATUS_NODE = 0 then 50 else s.get F.FAB_CLK_CAP_WARM_CAP

/-- Declare stall `u` lame (R151). -/
def State.lameStall (s : State) (u : Stall) : State :=
  let s := (s.set (F.FAB_STALL_STATUS_STATE u.n) 3).setBit (F.FAB_LAME_MASK_LAME (u.n / 32)) (u.n % 32) true
  (s.setB F.FAB_IRQ_LAME true).ev .lameStall (14 + u.n / 8) u.n u.cfg.inst u.cfg.template

/-- Declare the instance of stall `t` lame, each slice with a record of its own (R149–R151). -/
def State.declareLame (s : State) (t : Stall) : State := (s.slices t).foldl State.lameStall s

/-- One late stride of stall `u` (R139, R145, R149): counted, its clock to be raised, and the stall lame at the 64th
in 8,000 strides. -/
def State.lateStall (s : State) (u : Stall) : State :=
  let cur := u.nextSet.getD (s.get (F.FAB_STALL_CLK_SETPOINT u.n))
  let s := s.updStall u.n (fun v => { v with
    lateNow := true
    lateAt := s.stride :: v.lateAt.filter (fun k => decide (s.stride ≤ k + 8000))
    slackNow := some 0
    nextSet := some (min (cur + 5) (s.get F.FAB_CLK_CAP_ACTIVE_CAP)) })
  let s := (s.inc (F.FAB_STALL_LATE_TOTAL u.n)).setB (F.FAB_STALL_STATUS_LATE_LAST u.n) true
  (s.setB F.FAB_IRQ_LATE true).showWindow u.n

/-- The instance of `t` is late in this stride: every slice is counted late, the fallback is written, and the instance
is lame when a slice has its 64th late stride (R139, R141, R149). -/
def State.lateInstance (s : State) (t : Stall) : State :=
  let first := !s.fab.stalls.any (fun u => u.lateNow && u.fellBack)
  let s := (s.slices t).foldl State.lateStall s
  let s := if first then s.inc F.FAB_LATE_STRIDES_COUNT else s
  let s := s.writeFallback t
  if (s.slices t).any (fun u => decide (64 ≤ (recent s.stride u.lateAt).length)) then s.declareLame t else s

/-- LAYER_END: the harness writes the fallback of every stall of layer `k` that has not committed; an instance is judged
at the layer of the slice that carries its links (R139–R141, R157). -/
def State.layerEnd (s : State) (k : Nat) : State :=
  s.fab.stalls.foldl (fun s t0 =>
    match s.stallAt t0.n with
    | none => s
    | some t =>
      if t.layer ≠ k ∨ t.fellBack then s
      else if s.lame t.n then (if outwardSlice t then s.writeFallback t else s)
      else if t.force then (if outwardSlice t then s.writeFallback t else s)
      else if outwardSlice t then
        (if (s.slices t).all (fun u => u.committed && !u.lateNow) then s else s.lateInstance t)
      else if t.committed then s
      else s.updStall t.n (fun u => { u with lateNow := true })) s

/-- Execute LAYER_END of layer `k` (R137 step 4). -/
def execLayerEnd (k : Fin 8) (s : State) : Host.Outcome State Fault Refusal :=
  s.done (if s.fab.running then s.layerEnd k else s)

/-- Every other slice of the instance has ended its work for this stride, so that the slice that carries the outward links can
end its own (R275, R881). -/
def State.othersWorked (s : State) (t : Stall) : Bool := (s.slices t).all (fun u => u.n == t.n || u.worked)

/-- The blocks of a stall that has committed in time reach its instance's outward links (R130, R143). -/
def State.outward (s : State) (n : Nat) : State :=
  match s.stallAt n with
  | none => s
  | some t =>
    if !t.committed || !outwardSlice t || t.force || (s.slices t).any (fun u => u.lateNow || !u.committed) then s
    else
      let src := ((s.stallAt (s.slice0 t)).map (·.outs)).getD []
      s.pushOut t (fun l => src.getD l.cfg.srcPort (silence l.cfg.channels))

/-- BLOCK_COMMIT: stall `n` has finished its stride at `at_`, in units of 125 ns from the boundary; its blocks reach
their links unless it is late, and its slack and measured clock are noted (R130, R139, R143, R146). A stall that owes the work
of an earlier late stride ends that work first, whose output is discarded (R140). -/
def State.commitStall (s : State) (n at_ mhz2 : Nat) : State :=
  match s.stallAt n with
  | none => s
  | some t =>
    if !s.stallRuns n then s
    else if t.owes ≠ 0 then
      (s.set (F.FAB_STALL_CLK_MEASURED n) mhz2).updStall n (fun u => { u with owes := u.owes - 1 })
    else if !t.started || t.worked || (outwardSlice t && !s.othersWorked t) then s
    else
      let e := s.get (F.FAB_LAYER_END_END t.layer)
      let late := t.lateNow || t.fellBack || decide (e < at_)
      let s := s.set (F.FAB_STALL_CLK_MEASURED n) mhz2
      let s := s.updStall n (fun u => { u with
        worked := true
        committed := !late
        slackNow := if late || u.force then u.slackNow else some (e - at_) })
      (s.showWindow n).outward n

/-- Execute BLOCK_COMMIT (R130). -/
def execBlockCommit (n : Fin 128) (commitAt mhz2 : Nat) (s : State) : Host.Outcome State Fault Refusal :=
  s.done (s.commitStall n commitAt mhz2)

/-! ### Clock stepping -/

/-- The length of layer `k` (R146). -/
def State.layerLength (s : State) (k : Nat) : Nat :=
  s.get (F.FAB_LAYER_END_END k) - (if k = 0 then 8 else s.get (F.FAB_LAYER_END_END (k - 1)))

/-- Execute CLOCK_SLACK_CHECK_1S: every 8,000 strides from its start a stall whose smallest slack was at least 20 % of
its layer, with no late stride, is to run 10 MHz slower, not below CLOCK_MIN (R146). -/
def execClockSlackCheck1S (n : Fin 128) (s : State) : Host.Outcome State Fault Refusal :=
  match s.stallAt n with
  | none => s.done s
  | some t =>
    let cur := t.nextSet.getD (s.get (F.FAB_STALL_CLK_SETPOINT n))
    let due := decide (t.since < s.stride) && (s.stride - t.since) % 8000 == 0 && s.stallRuns n
    let ok := match minSlack s.stride 8000 t.slacks with
      | none => false
      | some m => decide (s.layerLength t.layer ≤ 5 * m) && (lateBefore s.stride t.lateAt).isEmpty
    s.done (if due && ok && decide (t.cfg.clockMin < cur) then
      s.updStall n (fun u => { u with nextSet := some (cur - 1) }) else s)

/-- Execute CLOCK_SLACK_CHECK_64: every 64 strides from its start a stall whose smallest slack was below 5 % of its
layer is to run 10 MHz faster, up to the active cap (R146). -/
def execClockSlackCheck64 (n : Fin 128) (s : State) : Host.Outcome State Fault Refusal :=
  match s.stallAt n with
  | none => s.done s
  | some t =>
    let cur := t.nextSet.getD (s.get (F.FAB_STALL_CLK_SETPOINT n))
    let due := decide (t.since < s.stride) && (s.stride - t.since) % 64 == 0 && s.stallRuns n
    let low := match minSlack s.stride 64 t.slacks with
      | none => false
      | some m => decide (20 * m < s.layerLength t.layer)
    s.done (if due && low && decide (cur < s.get F.FAB_CLK_CAP_ACTIVE_CAP) then
      s.updStall n (fun u => { u with nextSet := some (cur + 1) }) else s)

/-- The clocks at a boundary: new setpoints apply, and a new active cap drops every setpoint above it (R145, R146,
R148). -/
def State.applyClocks (s : State) : State :=
  let cap := s.activeCap
  let s := s.set F.FAB_CLK_CAP_ACTIVE_CAP cap
  s.fab.stalls.foldl (fun s t =>
    let v := min cap (t.nextSet.getD (s.get (F.FAB_STALL_CLK_SETPOINT t.n)))
    ((s.set (F.FAB_STALL_CLK_SETPOINT t.n) v).set (F.FAB_STALL_CLK_CAP t.n) cap).updStall t.n
      (fun u => { u with nextSet := none })) s

/-! ### Sinks and sources at the boundary -/

/-- The samples that sink endpoint `code` port `p` latches: the covering link's channel (R73, R137). -/
def State.sinkSamples (s : State) (code p : Nat) : Option (List Sample) :=
  match s.fab.links.filter (fun l => coversDst l.cfg code p) with
  | [] => none
  | ls => match ls.head?, s.merge ls with
    | some l, some b => some (channel b (p - l.cfg.dstPort))
    | _, _ => none

/-- The sink endpoint ports that some link covers. -/
def State.sinkPorts (s : State) : List (Nat × Nat) :=
  distinct ((s.fab.links.filter (fun l => decide (128 ≤ l.cfg.dst))).flatMap (fun l =>
    (List.range l.cfg.channels).map (fun k => (l.cfg.dst, l.cfg.dstPort + k))))

/-- Sink endpoints latch the blocks committed for them (R137, R138). -/
def State.latchSinks (s : State) : State :=
  { s with fab := { s.fab with sinks := s.sinkPorts.filterMap (fun q =>
      (s.sinkSamples q.1 q.2).map (fun x => (q.1, q.2, x))) } }

/-- What sink endpoint `code` port `p` latched at the last boundary. -/
def State.sinkAt (s : State) (code p : Nat) : Option (List Sample) :=
  (s.fab.sinks.find? (fun q => q.1 = code ∧ q.2.1 = p)).map (·.2.2)

/-- A stall as it begins a stride: nothing started, nothing committed; the slack of the stride that ended joins the others, and
work that a late stride left unfinished is owed (R140, R146). -/
def Stall.begin (now : Nat) (force : Bool) (t : Stall) : Stall :=
  { t with
    started := false, worked := false, committed := false, fellBack := false, lateNow := false, force := force
    owes := if (t.lateNow || t.fellBack) && !t.worked then t.owes + 1 else t.owes
    slacks := match t.slackNow with
      | none => t.slacks
      | some m => addSlack now m t.slacks
    slackNow := none }

/-- Every stall and link begins a stride; a late or substituted stride that has ended shows in the registers. A lame stall owes
nothing: its clock has stopped (R150). -/
def State.beginStride (s : State) : State :=
  let s := s.fab.stalls.foldl (fun s t =>
    (s.setB (F.FAB_STALL_STATUS_LATE_LAST t.n) t.lateNow).setB (F.FAB_STALL_STATUS_FALLBACK_ACTIVE t.n) t.fellBack) s
  { s with fab := { s.fab with
      stalls := s.fab.stalls.map (fun t =>
        if s.lame t.n then { Stall.begin s.stride (s.forced t) t with owes := 0 } else Stall.begin s.stride (s.forced t) t)
      links := s.fab.links.map (fun l => { l with committed := false }) } }

/-- Source endpoints commit the samples that `src code port` captured (R137). -/
def State.commitSources (s : State) (src : Nat → Nat → List Sample) : State :=
  { s with fab := { s.fab with links := s.fab.links.map (fun l =>
      if 128 ≤ l.cfg.src then
        l.push ((List.range l.cfg.channels).map (fun k => src l.cfg.src (l.cfg.srcPort + k)))
      else l) } }

/-! ### Building what an image says -/

/-- A stall as a load or a swap starts it (R103, R144). -/
def freshStall (now layer : Nat) (r : StallRec) : Stall :=
  { n := r.stall, layer := layer, cfg := r, started := false, worked := false, owes := 0, committed := false
    fellBack := false, lateNow := false, force := false, lateAt := [], since := now, slacks := [], slackNow := none
    nextSet := none, outs := [], mem := .plain, entering := false, retiring := false }

/-- A link as a load or a swap starts it: silent. -/
def freshLink (r : LinkRec) : Link :=
  { cfg := r, slots := List.replicate 3 (silence r.channels), committed := false, entering := false, retiring := false }

/-- The registers of a stall that starts (R103, R144). -/
def State.showStall (s : State) (t : Stall) (phase : Nat) : State :=
  let r := t.cfg
  let s := (((s.set (F.FAB_STALL_INFO_LAYER t.n) t.layer).set (F.FAB_STALL_INFO_SLICE_COUNT t.n) r.sliceCount).set
    (F.FAB_STALL_INFO_SLICE t.n) r.slice).set (F.FAB_STALL_INFO_INSTANCE t.n) r.inst
  let s := ((s.set (F.FAB_STALL_INFO_REGION t.n) r.region).set (F.FAB_STALL_INFO_FALLBACK t.n) r.fallback).set
    (F.FAB_STALL_INFO_TEMPLATE t.n) r.template
  let s := ((s.set (F.FAB_STALL_STATUS_STATE t.n) phase).setB (F.FAB_STALL_STATUS_SAT t.n) false).setB
    (F.FAB_STALL_CTRL_FORCE_FALLBACK t.n) false
  let s := ((s.setB (F.FAB_STALL_STATUS_FALLBACK_ACTIVE t.n) false).setB (F.FAB_STALL_STATUS_LATE_LAST t.n) false).setBit
    (F.FAB_LAME_MASK_LAME (t.n / 32)) (t.n % 32) false
  let s := ((s.set (F.FAB_STALL_CLK_CLOCK_MIN t.n) r.clockMin).set (F.FAB_STALL_CLK_SETPOINT t.n)
    (s.get F.FAB_CLK_CAP_ACTIVE_CAP)).set (F.FAB_STALL_CLK_CAP t.n) (s.get F.FAB_CLK_CAP_ACTIVE_CAP)
  ((s.set (F.FAB_STALL_LATE_TOTAL t.n) 0).set (F.FAB_STALL_WINDOW_LATE_1S t.n) 0).set (F.FAB_STALL_WINDOW_MIN_SLACK t.n) 0

/-- The stalls and links of an image in place of all others. -/
def State.installFabric (s : State) (im : Image) : State :=
  let lay := layersOf im
  { s with fab := { s.fab with
      stalls := im.stalls.map (fun r => freshStall s.stride ((lay.lookup r.stall).getD 0) r)
      links := im.links.map freshLink } }

/-- The layer count, the layer ends of R134, and every stall's registers, as an image starts them. -/
def State.showFabric (s : State) (im : Image) : State :=
  let l := layerCount im
  let s := (List.range 4).foldl (fun s k => s.set (F.FAB_LAME_MASK_LAME k) 0) (s.set F.FAB_LAYERS_COUNT l)
  let s := (List.range 8).foldl (fun s k => s.set (F.FAB_LAYER_END_END k) (defaultLayerEnd l k)) s
  s.fab.stalls.foldl (fun s t => s.showStall t 0) s

/-- Stall groups that hold a claimed stall (R153). -/
def State.claimedGroups (s : State) : Nat :=
  (List.range 16).foldl (fun n g => if s.fab.stalls.any (fun t => t.n / 8 = g) then n + 2 ^ g else n) 0

/-- The stall groups that `groups` names are powered and no others (R153): the power-ups of a load are over, the first to the
last group, by the time its stalls are written (R91, R154). -/
def State.powerGroups (s : State) (groups : Nat) : State :=
  let s := { s with power := { s.power with upQueue := s.power.upQueue.filter (fun d => decide (d < 14 ∨ 30 ≤ d)) } }
  (s.set F.FAB_GROUP_PWR_ON groups).set F.PWR_DOM_ON_ON (s.get F.PWR_DOM_ON_ON % 2 ^ 14 + groups * 2 ^ 14)

/-- A domain or block asked to power up waits its turn in ascending number (R748). -/
def State.requestDomain (s : State) (d : Nat) : State :=
  if s.domOn d || d ∈ s.power.upQueue then s
  else { s with power := { s.power with upQueue := insertBy (fun a b => decide (a ≤ b)) d s.power.upQueue } }

/-- The stall groups that hold a stall of `mask` are asked to power up, one after another in ascending number (R153, R154). -/
def State.requestGroups (s : State) (mask : Nat) : State :=
  (List.range 16).foldl (fun s g => if bitsOf mask (8 * g) 8 != 0 then s.requestDomain (14 + g) else s) s

/-- A domain or block turned off (R810). -/
def State.dropDomain (s : State) (d : Nat) : State :=
  let s := if d < 32 then s.setBit F.PWR_DOM_ON_ON d false else s.setBit F.PWR_LINE_ON_ON (d - 32) false
  { s with power := { s.power with upQueue := s.power.upQueue.filter (fun x => x ≠ d) } }

/-- A domain or block asked for or turned off as `b` says. -/
def State.needDomain (s : State) (d : Nat) (b : Bool) : State := if b then s.requestDomain d else s.dropDomain d

/-- A swap under way ends at once: what had entered goes, and the old region runs alone (R112). -/
def State.dropEntering (s : State) : State :=
  let s := s.fab.stalls.foldl (fun s t =>
    if t.retiring then s.set (F.FAB_STALL_STATUS_STATE t.n) (if s.lame t.n then 3 else 0)
    else if t.entering then s.setBit (F.FAB_LAME_MASK_LAME (t.n / 32)) (t.n % 32) false else s) s
  let s := { s with fab := { s.fab with
    stalls := (s.fab.stalls.filter (fun (t : Stall) => !t.entering)).map (fun (t : Stall) => { t with retiring := false })
    links := (s.fab.links.filter (fun (l : Link) => !l.entering)).map (fun (l : Link) => { l with retiring := false }) } }
  s.powerGroups s.claimedGroups

end Sys2Proof.Machine
end

