-- ==== Sys2Proof/Machine/Mix.lean ====
section
/-! DEFINITION. Talk groups, keys and the node mix (chapter 07): requests and key states, gates, priority classes,
attenuations and target gains, in the order of R336. -/

namespace Sys2Proof.Machine

/-! ### Slots, groups and points -/

/-- Records of the stalls that serve the running mix (not the retiring ones, R106). -/
def State.recs (s : State) : List StallRec := (s.fab.stalls.filter (fun t => !t.retiring)).map (·.cfg)

/-- Links of the running mix, the retiring ones left out. -/
def State.linkRecs (s : State) : List LinkRec := (s.fab.links.filter (fun l => !l.retiring)).map (·.cfg)

/-- The image holds a key record for slot `k` (TG_KEY_SLOT.PRESENT). -/
def State.slotPresent (s : State) (k : Nat) : Bool := s.getB (F.TG_KEY_SLOT_PRESENT k)

/-- The talk group of slot `k`. -/
def State.slotGroup (s : State) (k : Nat) : Nat := s.get (F.TG_KEY_SLOT_GROUP k)

/-- A bit set made of the numbers below `n` that satisfy `p`. -/
def bitsWhere (n : Nat) (p : Nat → Bool) : Nat := (List.range n).foldl (fun v i => if p i then v + 2 ^ i else v) 0

/-- The panel requests slot `k`: a panel key record whose TARGET is the slot reads active, for a slot that names the panel (R308,
R309). -/
def State.panelActive (s : State) (k : Nat) : Bool :=
  s.get (F.TG_KEY_SLOT_SOURCE k) == 0 && s.gpio.panel.any (fun r =>
    r.function == 0 && r.target == k && s.gpio.steady.testBit r.gpio && (s.gpio.steadyHigh.testBit r.gpio != r.activeLow))

/-- The GPIO that slot `k` names is low (R308). -/
def State.gpioActive (s : State) (k : Nat) : Bool :=
  let g := s.get (F.TG_KEY_SLOT_SOURCE_INDEX k)
  s.get (F.TG_KEY_SLOT_SOURCE k) == 1 && s.gpio.steady.testBit g && !s.gpio.steadyHigh.testBit g

/-- The panel and GPIO requests as the balls stand. -/
def State.syncKeys (s : State) : State :=
  { s with tg := { s.tg with panelReq := bitsWhere 32 s.panelActive, gpioReq := bitsWhere 32 s.gpioActive } }

/-- The combined request of slot `k` (R308–R310). -/
def State.request (s : State) (k : Nat) : Bool :=
  s.slotPresent k &&
  (s.bit F.TG_KEY_HOST_REQ k || s.tg.netReq.testBit k || s.tg.panelReq.testBit k || s.tg.gpioReq.testBit k ||
   (s.get (F.TG_KEY_SLOT_SOURCE k) == 4 && s.tg.wakeReq.testBit (s.get (F.TG_KEY_SLOT_SOURCE_INDEX k))))

/-- The stride of slot `k`'s last press. -/
def State.pressedAt (s : State) (k : Nat) : Nat := (s.tg.pressAt.lookup k).getD 0

/-- What one boundary makes of one slot: latch, key state, tapping and whether it was pressed (R310, R312–R314). -/
structure KeyStep where
  latch : Bool
  opened : Bool
  tapping : Bool
  pressed : Bool
deriving DecidableEq, Repr

/-- The step of a slot's key at a boundary; a toggle falls after the release that the same boundary sees. `req`, `was`: the combined request now and at the last boundary; `blk`: the
slot is blocked or closed in this stride (R314, R337); `toggle`: TG_KEY_TOGGLE was written; `held`: strides since the
press; `tap`: TAP_MS in strides. -/
def keyStep (mode : Nat) (req was blk close toggle latch tapping : Bool) (held tap : Nat) : KeyStep :=
  let latch := latch && !close
  let tapping := tapping && !close
  let press := req && !was && !blk
  let release := was && !req
  let tog := toggle && !req && !blk
  match mode with
  | 0 => ⟨false, req && !blk, false, press⟩
  | 1 =>
    let l := (latch != press) != tog
    ⟨l, l, false, press⟩
  | _ =>
    if press then
      (if latch then ⟨false, false, false, true⟩ else ⟨false, true, true, true⟩)
    else if release && tapping then
      let l := decide (held < tap) != tog
      ⟨l, l, false, false⟩
    else if tog then ⟨!latch, !latch, false, false⟩
    else ⟨latch, latch || (tapping && req && !blk), tapping, false⟩

/-- Steps 2 and 3 of R336: closes, combined requests, presses and releases, key states. -/
def State.stepKeys (s : State) : State :=
  let req := bitsWhere 32 s.request
  let blk := Nat.lor s.tg.blocked s.tg.closes
  let step := fun k => keyStep (s.get (F.TG_KEY_SLOT_MODE k)) (req.testBit k) (s.tg.lastReq.testBit k) (blk.testBit k)
    (s.tg.closes.testBit k) (s.tg.toggles.testBit k) (s.bit F.TG_KEY_LATCH_LATCH k) (s.tg.tapping.testBit k)
    (s.stride - s.pressedAt k) (8 * s.get F.TG_KEY_TIMING_TAP_MS)
  let present := fun k => s.slotPresent k
  let s' := s.set F.TG_KEY_LATCH_LATCH (bitsWhere 32 (fun k => present k && (step k).latch))
  { s' with tg := { s'.tg with
      openKeys := bitsWhere 32 (fun k => present k && (step k).opened)
      tapping := bitsWhere 32 (fun k => present k && (step k).tapping)
      pressAt := (List.range 32).filterMap (fun k =>
        if present k && (step k).pressed then some (k, s.stride)
        else (s.tg.pressAt.lookup k).map (fun v => (k, v)))
      lastReq := req
      blocked := Nat.land blk req
      closes := 0
      toggles := 0 } }

/-- Slot `k` has talk open (R315). -/
def State.slotTalk (s : State) (k : Nat) : Bool :=
  s.slotPresent k && s.getB (F.TG_KEY_SLOT_TALK k) && s.tg.openKeys.testBit k

/-- Slot `k` has listen open, given whether its group is all-call (R315, R316, R327). -/
def State.slotListen (s : State) (allCall : Bool) (k : Nat) : Bool :=
  s.slotPresent k && s.getB (F.TG_KEY_SLOT_LISTEN k) && !s.bit F.TG_KEY_LISTEN_OFF_OFF k &&
  (s.getB (F.TG_KEY_SLOT_TALK k) || s.tg.openKeys.testBit k || allCall)

/-- The active class of group `g` (R322, R323); `remote g` is the class of the talk the ring carries on it, if any. -/
def State.activeClass (s : State) (remote : Nat → Option Nat) (g : Nat) : Nat :=
  let local_ := (List.range 32).foldl (fun c k =>
    if s.slotTalk k ∧ s.slotGroup k = g then Nat.max c (s.get (F.TG_KEY_SLOT_PRIORITY k)) else c) 0
  let open_ := (List.range 32).any (fun k => s.slotTalk k && s.slotGroup k == g)
  if g = 63 then (if open_ || (remote g).isSome then 3 else 0)
  else Nat.min 2 (Nat.max local_ ((remote g).getD 0))

/-- Group `g`'s talk gate (R317). -/
def State.talkGate (s : State) (g : Nat) : Bool :=
  let on := (List.range 32).filter (fun k => s.slotPresent k && s.getB (F.TG_KEY_SLOT_TALK k) && s.slotGroup k == g)
  on.isEmpty || on.any s.slotTalk

/-- Group `g`'s listen gate, with the all-call override (R317, R327). -/
def State.listenGate (s : State) (g : Nat) : Bool :=
  let on := (List.range 32).filter (fun k => s.slotPresent k && s.getB (F.TG_KEY_SLOT_LISTEN k) && s.slotGroup k == g)
  on.isEmpty || on.any (s.slotListen (s.get (F.TG_GROUP_CLASS_CLASS g) == 2))

/-- Steps 4 to 6 of R336: talk and listen of the slots, active classes, gates. -/
def State.stepGates (s : State) (remote : Nat → Option Nat) : State :=
  let s := (List.range 64).foldl (fun s g => s.set (F.TG_GROUP_CLASS_CLASS g) (s.activeClass remote g)) s
  let allCall := fun k => s.get (F.TG_GROUP_CLASS_CLASS (s.slotGroup k)) == 2
  let s := s.set F.TG_KEY_STATE_TALK (bitsWhere 32 s.slotTalk)
  let s := s.set F.TG_KEY_LISTEN_STATE_LISTEN (bitsWhere 32 (fun k => s.slotListen (allCall k) k))
  let s := s.setB F.TG_STATUS_ALLCALL ((List.range 64).any (fun g => s.get (F.TG_GROUP_CLASS_CLASS g) == 2))
  let s := s.setB F.TG_STATUS_NO_ROUTE ((List.range 32).any (fun k => s.slotTalk k &&
    !s.getB (F.TG_GROUP_TALK_VALID (s.slotGroup k))))
  let fog := s.get (F.TG_GROUP_CLASS_CLASS 63) == 3
  let s := s.setB F.TG_FOGHORN_ACTIVE fog
  let s := if fog then s else s.setB F.TG_FOGHORN_ACKED false
  { s with tg := { s.tg with
      talkGates := bitsWhere 64 s.talkGate
      listenGates := bitsWhere 64 s.listenGate
      localTalk := bitsWhere 64 (fun g => (List.range 32).any (fun k => s.slotTalk k && s.slotGroup k == g)) } }

/-! ### Crosspoints -/

/-- Group `g`'s valid listen point. -/
def State.listenPoint (s : State) (g : Nat) : Option Nat :=
  if s.getB (F.TG_GROUP_LISTEN_VALID g) then some (s.get (F.TG_GROUP_LISTEN_IN g)) else none

/-- Group `g`'s valid talk point. -/
def State.talkPoint (s : State) (g : Nat) : Option Nat :=
  if s.getB (F.TG_GROUP_TALK_VALID g) then some (s.get (F.TG_GROUP_TALK_OUT g)) else none

/-- The foghorn outputs: mix outputs linked to DAC ports 8, 9 or 10 (R305). -/
def State.foghornOutputs (s : State) : List Nat :=
  distinct ([8, 9, 10].flatMap (fun p => mixOutputsTo s.recs s.linkRecs 0x81 p))

/-- The headset outputs: mix outputs linked to DAC ports 8 or 9 (R333). -/
def State.headsetOutputs (s : State) : List Nat :=
  distinct ([8, 9].flatMap (fun p => mixOutputsTo s.recs s.linkRecs 0x81 p))

/-- Group 63 is foghorn (R323). -/
def State.foghorn (s : State) : Bool := s.getB F.TG_FOGHORN_ACTIVE

/-- The crosspoint is one the foghorn forces (R328). -/
def State.fogForced (s : State) (i o : Nat) : Bool :=
  s.foghorn && s.listenPoint 63 == some i && decide (o ∈ s.foghornOutputs)

/-- The crosspoint is gated open (R318, R328). -/
def State.gateOpen (s : State) (i o : Nat) : Bool :=
  s.fogForced i o ||
  (List.range 64).all (fun g =>
    (s.talkPoint g != some o || s.tg.talkGates.testBit g) && (s.listenPoint g != some i || s.tg.listenGates.testBit g))

/-- The crosspoint is a sidetone crosspoint while sidetone is on (R333). -/
def State.isSidetone (s : State) (i o : Nat) : Bool :=
  s.get F.TG_SIDETONE_MODE != 0 && i == s.get F.TG_SIDETONE_IN && decide (o ∈ s.headsetOutputs)

/-- The stored gain code in force: sidetone crosspoints take TG_SIDETONE.GAIN while a local talk is open, or always
(R333). -/
def State.storedGain (s : State) (i o : Nat) : Nat :=
  if s.isSidetone i o then
    (if s.get F.TG_SIDETONE_MODE = 2 ∨ s.get F.TG_KEY_STATE_TALK ≠ 0 then s.get F.TG_SIDETONE_GAIN else 0)
  else ((s.xp i o).map (·.stored)).getD 0

/-- The pair lies in one MIX stall: there is such a crosspoint (R301, R321). -/
def State.pairInMix (s : State) (i o : Nat) : Bool :=
  s.recs.any (fun t => t.template = 0 && decide (t.w 3 ≤ i ∧ i < t.w 3 + t.w 0 ∧ t.w 3 ≤ o ∧ o < t.w 3 + t.w 1))

/-- Output `o` hears group `g` (chapter 07, Ducking). -/
def State.hears (s : State) (o g : Nat) : Bool :=
  match s.listenPoint g with
  | none => false
  | some i => s.pairInMix i o && s.gateOpen i o && s.storedGain i o != 0

/-- The node-mix outputs in use. -/
def State.mixOuts (s : State) : List Nat :=
  (s.recs.filter (fun t => t.template = 0)).flatMap (fun t => (List.range (t.w 1)).map (fun k => t.w 3 + k))

/-- Bit `i` of TG_PROG_MASK: a program input (R324). -/
def State.program (s : State) (i : Nat) : Bool := s.bit (F.TG_PROG_MASK_PROG (i / 32)) (i % 32)

/-- The attenuations whose condition holds at this boundary (R324). -/
def State.duckNow (s : State) : List Duck :=
  let byClass := fun (c : Nat) (o : Nat) => (List.range 63).any (fun g =>
    s.get (F.TG_GROUP_CLASS_CLASS g) == c && s.hears o g)
  let spared := (List.range 63).filterMap (fun g =>
    if s.get (F.TG_GROUP_CLASS_CLASS g) = 2 then s.listenPoint g else none)
  (s.mixOuts.filter (byClass 1)).map (fun o => ⟨.interrupt, o, (List.range 256).filter s.program, none⟩) ++
  (s.mixOuts.filter (byClass 2)).map (fun o => ⟨.allCall, o, spared, none⟩) ++
  (if s.foghorn then [⟨.foghorn, 0, [], none⟩] else [])

/-- Step 7 of R336: attenuations start with their condition; one whose condition is gone hangs, as it was (R325). -/
def State.stepDucks (s : State) : State :=
  let now := s.duckNow
  let hang := (s.tg.ducks.filter (fun d => !now.any (fun e => e.kind = d.kind ∧ e.output = d.output))).map (fun d =>
    { d with absent := some (d.absent.getD s.stride) })
  { s with tg := { s.tg with ducks := now ++ hang } }

/-- The attenuation that `d` gives crosspoint (i, o), in 0.5 dB steps (R324, R328, R334). -/
def State.duckOf (s : State) (d : Duck) (i o : Nat) : Nat :=
  match d.kind with
  | .interrupt => if d.output = o ∧ i ∈ d.inputs then s.get F.TG_PRIO_INTERRUPT_DIM else 0
  | .allCall => if d.output = o ∧ i ∉ d.inputs then s.get F.TG_PRIO_ALLCALL_DUCK else 0
  | .foghorn =>
    if s.listenPoint 63 = some i ∨ s.talkPoint 63 = some o ∨ (s.isSidetone i o ∧ s.tg.localTalk.testBit 63) then 0
    else s.get F.TG_FOGHORN_DUCK

/-- The attenuation of a crosspoint: the largest that applies (R324). -/
def State.attenuation (s : State) (i o : Nat) : Nat :=
  if s.fogForced i o then 0 else s.tg.ducks.foldl (fun m d => Nat.max m (s.duckOf d i o)) 0

/-- The target gain code of a crosspoint (R319, R328). -/
def State.targetGain (s : State) (i o : Nat) : Nat :=
  let g := s.storedGain i o
  if s.fogForced i o then Nat.max g (s.get F.TG_FOGHORN_FLOOR)
  else if !s.gateOpen i o || g == 0 then 0
  else min 216 (g - s.attenuation i o)

/-- RAMP_STRIDES of the MIX stall that serves output `o`, in samples (R320). -/
def State.rampSamples (s : State) (o : Nat) : Nat :=
  match s.recs.find? (fun t => t.template = 0 ∧ t.w 3 ≤ o ∧ o < t.w 3 + t.w 1) with
  | some t => 6 * t.w 2
  | none => 240

/-- The present factor of a crosspoint (R320). -/
def Xp.present (x : Xp) : Nat := if x.rampPos = 0 then x.rampFrom else rampFactor x.rampFrom x.rampTo x.rampLen (x.rampPos - 1)

/-- A crosspoint's new target: a change starts a new ramp from the present value (R320). -/
def Xp.retarget (x : Xp) (target len : Nat) : Xp :=
  if x.target = target then x
  else { x with target := target, rampFrom := x.present, rampTo := gainFactor target, rampLen := len, rampPos := 0 }

/-- A crosspoint at −∞ with no ramp in hand. -/
def emptyXp (i o : Nat) : Xp := ⟨i, o, 0, 0, 0, 0, 0, 0, false⟩

/-- Pairs that need an entry at this boundary: those listed, the foghorn's, and the sidetone's. -/
def State.livePairs (s : State) : List (Nat × Nat) :=
  let fog := if s.foghorn then (match s.listenPoint 63 with
    | some i => s.foghornOutputs.map (fun o => (i, o))
    | none => []) else []
  let side := if s.get F.TG_SIDETONE_MODE = 0 then [] else s.headsetOutputs.map (fun o => (s.get F.TG_SIDETONE_IN, o))
  distinct (s.tg.xps.map (fun x => (x.input, x.output)) ++ fog ++ side)

/-- The crosspoints of a retiring MIX stall follow the same targets in ramps of their own. -/
def State.followTargets (s : State) (t : Stall) : Stall :=
  match t.mem with
  | .mix l => { t with mem := .mix (l.map (fun x => x.retarget (s.targetGain x.input x.output) (6 * t.cfg.w 2))) }
  | _ => t

/-- Step 8 of R336: target gains, then ramps start. -/
def State.stepTargets (s : State) : State :=
  { s with
    fab := { s.fab with stalls := s.fab.stalls.map s.followTargets }
    tg := { s.tg with xps := s.livePairs.map (fun q =>
      let x := (s.xp q.1 q.2).getD (emptyXp q.1 q.2)
      { x.retarget (s.targetGain q.1 q.2) (s.rampSamples q.2) with ducked := decide (0 < s.attenuation q.1 q.2) }) } }

/-- MIX_EVALUATE after the arbitration: steps 2 to 8 of R336. -/
def State.mixEvaluate (s : State) (remote : Nat → Option Nat) : State :=
  ((s.stepKeys.stepGates remote).stepDucks).stepTargets

/-- The mix as the stalls start: every crosspoint stands at its target, the outputs' own ramp being the fade (R91 step 10; log
entry 24). -/
def State.startMix (s : State) (remote : Nat → Option Nat) : State :=
  let t := s.mixEvaluate remote
  { t with tg := { t.tg with xps := t.tg.xps.map (fun (x : Xp) =>
      { x with rampFrom := gainFactor x.target, rampTo := gainFactor x.target, rampLen := 0, rampPos := 0 }) } }

/-! ### Writes of the TG registers, as the boundary's arbitration applies them -/

/-- Set the stored gain of a crosspoint that has or takes an entry. -/
def State.setStored (s : State) (i o g : Nat) : State :=
  match s.xp i o with
  | some _ => { s with tg := { s.tg with xps := s.tg.xps.map (fun x =>
      if x.input = i ∧ x.output = o then { x with stored := g } else x) } }
  | none => { s with tg := { s.tg with xps := s.tg.xps ++ [{ emptyXp i o with stored := g }] } }

/-- A write to TG_XP_WRITE as applied (R321, R333). -/
def State.xpWrite (s : State) (i o g : Nat) : State :=
  if !s.pairInMix i o || decide (216 < g) || s.isSidetone i o then s.setB F.TG_STATUS_XP_ERR true
  else s.setStored i o g

/-- A TG_SIDETONE.IN in another MIX stall than the headset outputs (R335). -/
def State.sidetoneBad (s : State) (i : Nat) : Bool := s.headsetOutputs.any (fun o => !s.pairInMix i o)

/-- A write of 1 to TG_FOGHORN.ACK while group 63 is foghorn sets ACKED (R332). -/
def State.foghornAcked (s : State) : State := if s.foghorn then s.setB F.TG_FOGHORN_ACKED true else s

/-- TG_XP_READ of the pair TG_XP_SEL names: EFFECTIVE, STORED, DUCKED, GATE_OPEN. -/
def State.xpRead (s : State) : Nat :=
  let i := s.get F.TG_XP_SEL_INPUT
  let o := s.get F.TG_XP_SEL_OUTPUT
  ((s.xp i o).map (·.target)).getD 0 * 2 ^ 16 + s.storedGain i o * 2 ^ 8 +
    (if ((s.xp i o).map (·.ducked)).getD (decide (0 < s.attenuation i o)) then 2 else 0) + (if s.gateOpen i o then 1 else 0)

/-! ### Commands of this chapter that come at their own time -/

/-- Execute DUCK_HANG_EXPIRY: an attenuation whose condition has been absent for TG_PRIO.HANG_MS ends, and its
crosspoints ramp back (R325). -/
def execDuckHangExpiry (kind : Fin 3) (output : Fin 256) (s : State) : Host.Outcome State Fault Refusal :=
  let k : DuckKind := match kind with
    | 0 => .interrupt
    | 1 => .allCall
    | 2 => .foghorn
  let ends := fun (d : Duck) => d.kind == k && (d.kind == .foghorn || d.output == output.val) &&
    (match d.absent with
     | some a => decide (a + 8 * s.get F.TG_PRIO_HANG_MS < s.stride)
     | none => false)
  if s.tg.ducks.any ends then
    s.done ({ s with tg := { s.tg with ducks := s.tg.ducks.filter (fun d => !ends d) } }).stepTargets
  else s.done s

/-- A key input has settled at `level`: the requests that its ball drives follow (R308). -/
def State.keyInput (s : State) (gpio : Nat) (level : Bool) : State :=
  ({ s with gpio := { s.gpio with
      steady := putBit s.gpio.steady gpio true, steadyHigh := putBit s.gpio.steadyHigh gpio level } }).syncKeys

/-- A change on a PANEL input ball wakes the application core (R611, R747). -/
def State.panelChange (s : State) (gpio : Nat) : State :=
  if s.gpio.panel.any (fun r => r.gpio = gpio ∧ r.function ≤ 2) then
    ({ s with power := { s.power with panelAt := s.stride } } : State).requestDomain 3
  else s

/-- Execute KEY_DEBOUNCE: a panel or GPIO key input that has been stable for 10 ms changes its request (R308). -/
def execKeyDebounce (gpio : Fin 32) (level : Bool) (stableUs : Nat) (s : State) : Host.Outcome State Fault Refusal :=
  s.done (if 10000 ≤ stableUs then ((s.panelChange gpio).setBit F.GPIO_IN_LEVEL gpio level).keyInput gpio level else s)

end Sys2Proof.Machine
end

