-- ==== Sys2Proof/Machine/Wake.lean ====
section
/-! DEFINITION. Microphones, staged wake, the history rings and the hand-over into talk (chapter 04). -/

namespace Sys2Proof.Machine

/-! ### Microphones and the hardware mute -/

/-- Approved mode is in force (SEC_STATUS.APPROVED). -/
def State.approved (s : State) : Bool := s.getB F.SEC_STATUS_APPROVED

/-- The debounced mute is in force (R213). -/
def State.muteOn (s : State) : Bool := s.getB F.MIC_PRIV_STATUS_PIN

/-- The logic die's outputs are high-impedance: it is unpowered or held in reset (R843). A reset itself takes no time in the
model (log entry 58). -/
def State.padsOff (s : State) : Bool := s.power.resetHeld

/-- The supply switch of pair `p` is closed: open in reset, while the node is unpowered, until an image is loaded, and while the
pair is muted (R164, R844, R846; DEDUCED: any tack image instantiates the microphone outputs, log entry 58). -/
def State.micPower (s : State) (p : Nat) : Bool :=
  !s.padsOff && s.fab.image.isSome && !(s.muteOn && s.bit F.MIC_PRIV_MUTE p)

/-- The clock of pair `p` runs: the media PLL gives it, and a mute holds it low (R162, R212, R800). -/
def State.micClock (s : State) (p : Nat) : Bool := s.getB F.CLK_STATUS_MEDIA_LOCK && s.micPower p

/-- MUTE_IND is driven high (R214); it is high-impedance in reset and while unpowered (R846). -/
def State.muteInd (s : State) : Bool := !s.padsOff && s.muteOn && s.get F.MIC_PRIV_MUTE != 0

/-- The ball MUTE_IND: driven high or low, or high-impedance (R214, R846). -/
def State.muteIndBall (s : State) : Ball := if s.padsOff then .highZ else if s.muteInd then .high else .low

/-- Microphone `n` is held silent by the hardware mute (R213). -/
def State.micMuted (s : State) (n : Nat) : Bool :=
  (s.muteOn && s.bit F.MIC_PRIV_MUTE (n / 2)) || s.mic.silent.testBit (n / 2)

/-- MIC_STATUS.MUTED as the mute now stands. -/
def State.showMuted (s : State) : State := s.set F.MIC_STATUS_MUTED (bitsWhere 8 s.micMuted)

/-- Microphone `n` carries 0: disabled, muted or stuck (R170). -/
def State.micSilent (s : State) (n : Nat) : Bool :=
  !s.bit F.MIC_CFG_EN n || s.micMuted n || s.bit F.MIC_STATUS_STUCK n

/-! ### Decimation (R165–R169) -/

/-- The taps of five running sums of 16 in a row: the CIC stage of R165. -/
def cicTaps : List Int :=
  (List.range 5).foldl (fun h _ => (List.range (h.length + 15)).map (fun i =>
    (List.range 16).foldl (fun (v : Int) j => if j ≤ i then v + h.getD (i - j) 0 else v) 0)) [1]

/-- The sum of the products of two lists. -/
def dot (a b : List Int) : Int := (a.zip b).foldl (fun v q => v + q.1 * q.2) 0

/-- The samples that microphone `n`'s data wire gives in a stride, ±1; none while the pair's clock stands (R163). -/
def State.micBits (s : State) (n : Nat) (pdm : Nat) : List Int :=
  if s.micClock (n / 2) then (List.range 384).map (fun j => if pdm.testBit j then 1 else -1) else List.replicate 384 0

/-- A decimator at 192 kHz: the 60 PDM samples before and the 384 of this stride through the CIC stage, after the 160 outputs
before. -/
def MicDec.cicAfter (d : MicDec) (bits : List Int) : List Int :=
  let l := List.replicate (60 - d.pdm.length) 0 ++ d.pdm ++ bits
  List.replicate (160 - d.cic.length) 0 ++ d.cic ++ (List.range 24).map (fun m => dot cicTaps (l.drop (16 * m)))

/-- The decimator after a stride. -/
def MicDec.next (d : MicDec) (bits : List Int) : MicDec :=
  ⟨(d.pdm ++ bits).drop ((d.pdm ++ bits).length - 60), (d.cicAfter bits).drop 24⟩

/-- The gain of MIC_TRIM_n × 2^20: TRIM × 0.1 dB (R169). -/
def State.micGain (s : State) (n : Nat) : Nat := tenthFactor (s.getI (F.MIC_TRIM_TRIM n))

/-- The six samples of microphone `n`'s decimator: full density swing is 0 dBFS, 2^20 of the CIC, then its trim; a filter that has
had nothing gives 0 (R165–R169). -/
def State.decimated (s : State) (bits : List Int) (n : Nat) : List Sample :=
  let l := (s.mic.dec.getD n ⟨[], []⟩).cicAfter bits
  (List.range 6).map (fun j =>
    let w := (l.drop (4 * j + 3)).take 161
    let v := if w.all (· == 0) then 0 else (Config.decimate (n % 2 == 0) w).toInt
    (sat24 (roundDiv (v * 8388607 * s.micGain n) (2 ^ 48))).1)

/-- The microphones over the stride that ends: their decimators, what they delivered, which is 0 of a silent one, and the front
end's history (R165, R170, R188). -/
def State.micStride (s : State) (pdm : List Nat) : State :=
  let bits := fun n => s.micBits n (pdm.getD n 0)
  let out := (List.range 8).map (fun n => if s.micSilent n then List.replicate 6 0 else s.decimated (bits n) n)
  { s with mic := { s.mic with
      out := out
      dec := (List.range 8).map (fun n => (s.mic.dec.getD n ⟨[], []⟩).next (bits n))
      front := (List.range 8).map (fun n =>
        let l := s.mic.front.getD n [] ++ out.getD n []
        l.drop (l.length - 3072)) } }

/-- Source endpoint 0x82 port `n`: decimator output `n` (R169, R170). -/
def State.micSource (s : State) (n : Nat) : List Sample := s.mic.out.getD n (List.replicate 6 0)

/-- The 64 ms of microphone `n` at 16 kHz that the front end keeps (R188). -/
def State.front16 (s : State) (n : Nat) : List Sample :=
  let l := s.mic.front.getD n []
  (List.range (l.length / 3)).map (fun k => (Config.frontSample (l.take (3 * k + 3))).toInt)

/-- Execute MIC_STUCK: a wire with no transition for 1 ms while its clock runs (R171). -/
def execMicStuck (pair : Fin 4) (us : Nat) (s : State) : Host.Outcome State Fault Refusal :=
  s.done (if s.micClock pair && decide (1000 ≤ us) then
    (s.setBit F.MIC_STATUS_STUCK (2 * pair) true).setBit F.MIC_STATUS_STUCK (2 * pair + 1) true else s)

/-- Execute MIC_UNSTUCK: 10 ms of transitions (R171). -/
def execMicUnstuck (pair : Fin 4) (us : Nat) (s : State) : Host.Outcome State Fault Refusal :=
  s.done (if 10000 ≤ us then
    (s.setBit F.MIC_STATUS_STUCK (2 * pair) false).setBit F.MIC_STATUS_STUCK (2 * pair + 1) false else s)

/-! ### The beam that feeds the history -/

/-- A link brings its stall something: into a BEAM stall, through an input in use (R172). -/
def State.linkUsed (s : State) (l : LinkRec) : Bool :=
  match s.stallAt l.dst with
  | none => false
  | some t => t.cfg.template != 6 || (t.cfg.w 0).testBit l.dstPort

/-- The stalls from which `ns` are fed, themselves among them, through at most `k` links one after another. -/
def State.upstream (s : State) (ns : List Nat) : Nat → List Nat
  | 0 => ns
  | k + 1 => s.upstream (distinct (ns ++ (s.fab.links.filter (fun l =>
      decide (l.cfg.dst ∈ ns) && decide (l.cfg.src < 128) && s.linkUsed l.cfg)).map (·.cfg.src))) k

/-- The microphones that feed the HCODEC stall's beam: those linked to an input of the BEAM stall that feeds it, or of a stall
upstream of that one (R172, R175, R181). -/
def State.beamMics (s : State) : List Nat :=
  match s.hcodecStall with
  | none => []
  | some h =>
    let fed := s.upstream ((s.inLinks h.n 0).map (·.cfg.src)) 8
    (List.range 8).filter (fun n => s.fab.links.any (fun l => decide (l.cfg.src = 0x82 ∧ l.cfg.dst ∈ fed ∧
      l.cfg.srcPort ≤ n ∧ n < l.cfg.srcPort + l.cfg.channels) && s.linkUsed l.cfg))

/-- Some microphone of the beam is muted (R217). -/
def State.beamMuted (s : State) : Bool := s.beamMics.any s.micMuted

/-! ### The history rings (R177–R182) -/

/-- The step sizes of IMA ADPCM, step index 0–88 (PRESUMED, log entry 11). -/
def imaSteps : List Nat :=
  [7, 8, 9, 10, 11, 12, 13, 14, 16, 17, 19, 21, 23, 25, 28, 31, 34, 37, 41, 45, 50, 55, 60, 66, 73, 80, 88, 97, 107,
   118, 130, 143, 157, 173, 190, 209, 230, 253, 279, 307, 337, 371, 408, 449, 494, 544, 598, 658, 724, 796, 876, 963,
   1060, 1166, 1282, 1411, 1552, 1707, 1878, 2066, 2272, 2499, 2749, 3024, 3327, 3660, 4026, 4428, 4871, 5358, 5894,
   6484, 7132, 7845, 8630, 9493, 10442, 11487, 12635, 13899, 15289, 16818, 18500, 20350, 22385, 24623, 27086, 29794,
   32767]

/-- One sample through the IMA ADPCM coder: its code, and the predictor and step index after it (R178). -/
def imaEncode (pred : Int) (idx : Nat) (x : Int) : Nat × Int × Nat :=
  let step := imaSteps.getD idx 7
  let d := (x - pred).natAbs
  let b2 := decide (step ≤ d)
  let d1 := if b2 then d - step else d
  let b1 := decide (step / 2 ≤ d1)
  let d0 := if b1 then d1 - step / 2 else d1
  let b0 := decide (step / 4 ≤ d0)
  let mag := (if b2 then 4 else 0) + (if b1 then 2 else 0) + (if b0 then 1 else 0)
  let diff : Int := (step / 8 + (if b2 then step else 0) + (if b1 then step / 2 else 0) + (if b0 then step / 4 else 0) : Nat)
  let p := if x < pred then pred - diff else pred + diff
  (mag + (if x < pred then 8 else 0), max (-32768) (min 32767 p),
   if mag < 4 then idx - 1 else min 88 (idx + 2 * (mag - 3)))

/-- One value put on a ring of `n` pages of `cap` values; a full open page closes, and the page it replaces goes
(R177). The page started is numbered `num` and stands at sample `first`. -/
def histPush (cap n num first : Nat) (muted : Bool) (pred : Int) (idx : Nat) (ovr : Bool) (v : Int) :
    List HistPage → List HistPage
  | [] => [⟨num, first, muted, pred, idx, [v], false, ovr⟩]
  | p :: t =>
    if p.vals.length < cap then { p with vals := p.vals ++ [v], muted := p.muted || muted } :: t
    else ⟨num, first, muted, pred, idx, [v], false, ovr⟩ :: (p :: t).take (n - 1)

/-- A value put on a ring starts a new page. -/
def histStarts (cap : Nat) : List HistPage → Bool
  | [] => true
  | p :: _ => decide (cap ≤ p.vals.length)

/-- Count a page that replaced an unread page of source `src` (R578). -/
def State.countOverrun (s : State) (src : Nat) : State :=
  (s.inc (if src = 1 then F.HOST_OVERRUN_CNT_SRC_1 else if src = 2 then F.HOST_OVERRUN_CNT_SRC_2
    else if src = 3 then F.HOST_OVERRUN_CNT_SRC_3 else F.HOST_OVERRUN_CNT_SRC_4)).setB F.HOST_IRQ_OVERRUN true

/-- One 48 kHz sample of the beam recorded in the uncompressed ring. -/
def State.histFull (s : State) (idx : Nat) (x : Int) : State :=
  let start := histStarts 124 s.mic.full
  let ovr := start && replacesUnread (s.host.ptr.getD 1 0) s.mic.nextPage.2 97
  let s := if ovr then s.countOverrun 2 else s
  { s with mic := { s.mic with
      full := histPush 124 97 s.mic.nextPage.2 idx s.beamMuted 0 0 ovr x s.mic.full
      nextPage := (s.mic.nextPage.1, if start then s.mic.nextPage.2 + 1 else s.mic.nextPage.2) } }

/-- One 16 kHz sample recorded in the compressed ring: three samples of the beam through the decimator, rounded to 16 bits and
saturated (R178). A decimator at rest gives 0 for silence. -/
def State.histComp (s : State) (idx : Nat) (y : List Int) : State :=
  let rest := s.mic.decim == 0 && y.all (· == 0)
  let x := if rest then 0 else max (-32768) (min 32767 (roundDiv (Config.histSample s.mic.decim y).toInt (2 ^ 16)))
  let s := { s with mic := { s.mic with decim := if rest then 0 else Config.histDecim s.mic.decim y } }
  let start := histStarts 992 s.mic.comp
  let ovr := start && replacesUnread (s.host.ptr.getD 0 0) s.mic.nextPage.1 33
  let s := if ovr then s.countOverrun 1 else s
  let e := imaEncode s.mic.pred s.mic.stepIdx x
  { s with mic := { s.mic with
      comp := histPush 992 33 s.mic.nextPage.1 idx s.beamMuted s.mic.pred s.mic.stepIdx ovr e.1 s.mic.comp
      nextPage := (if start then s.mic.nextPage.1 + 1 else s.mic.nextPage.1, s.mic.nextPage.2)
      pred := e.2.1
      stepIdx := e.2.2 } }

/-- The HCODEC stall records its input block of this stride in both rings (R177, R180). -/
def State.recordHistory (s : State) (n : Nat) : State :=
  let x := channel ((s.inBlock n 0).getD []) 0
  let s := x.zipIdx.foldl (fun s p => s.histFull (s.count * 6 + p.2) p.1) s
  let s := (s.histComp (s.count * 6) (x.take 3)).histComp (s.count * 6 + 3) (x.drop 3)
  { s with mic := { s.mic with recTo := s.count * 6 + 6 } }

/-- Both rings empty, live output, no unseal window: a load, or a swap of the HCODEC region (R179, R221). -/
def State.clearHistory (s : State) : State :=
  let s := (s.set F.HIST_STATUS_LAG 0).set F.HIST_STATUS_MODE 0
  let s := s.setB F.MIC_PRIV_STATUS_WINDOW false
  { s with mic := { s.mic with
      comp := [], full := [], pred := 0, stepIdx := 0, decim := 0, start := none, liveNext := false, window := none } }

/-- The history is sealed (R204). -/
def State.sealed (s : State) : Bool :=
  s.approved || (List.range 8).any (fun n => s.bit F.MIC_CFG_EN n && s.bit F.MIC_PRIV_SEAL (n / 2))

/-- Sample `k` lies in the unseal window (R205). -/
def State.inWindow (s : State) (k : Nat) : Bool :=
  match s.mic.window with
  | none => false
  | some (a, none) => decide (a ≤ k)
  | some (a, some b) => decide (a ≤ k) && decide (k ≤ b)

/-- Two 4-bit codes a byte, the earlier in the low nibble (R182). -/
def packCodes : List Int → List Byte
  | [] => []
  | a :: [] => [BitVec.ofNat 8 a.toNat]
  | a :: b :: t => BitVec.ofNat 8 (a.toNat + 16 * b.toNat) :: packCodes t

/-- A page's payload filled with zeros to 496 bytes (R182). -/
def padTo (n : Nat) (l : List Byte) : List Byte := l ++ List.replicate (n - l.length) 0

/-- A history page as the page window returns it: sealed pages give up only what the unseal window holds (R181, R182,
R206, R207, R218). -/
def State.histBytes (s : State) (compressed : Bool) (p : HistPage) : List Byte :=
  let step := if compressed then 3 else 1
  let inW := p.vals.zipIdx.map (fun v => s.inWindow (p.first + step * v.2))
  let whole := !s.sealed || inW.all id
  let none_ := s.sealed && !inW.any id
  let hide := s.sealed && (none_ || (compressed && !whole))
  let cap := if compressed then 992 else 124
  let status := (if hide then 1 else 0) + (if p.torn then 2 else 0) + (if p.overrun then 4 else 0) +
    (if p.muted then 8 else 0) + (if p.vals.length < cap then 16 else 0)
  let head := [BitVec.ofNat 8 (if compressed then 1 else 2), BitVec.ofNat 8 status] ++ leBytes p.num 2 ++
    leBytes p.first 6 ++ leBytes p.vals.length 2 ++ leBytes (unsignedOf p.pred 16) 2 ++ [BitVec.ofNat 8 p.stepIdx, 0]
  let body := if hide then [] else if compressed then packCodes p.vals
    else (p.vals.zip inW).flatMap (fun v => leBytes (if s.sealed && !v.2 then 0 else unsignedOf v.1 32) 4)
  head ++ padTo 496 body

/-! ### Stages -/

/-- THRESH of stage `k` (1 Walk to 4 Gallop). -/
def State.stageThresh (s : State) : Nat → Nat
  | 1 => s.get F.WAKE_WALK_CFG_THRESH
  | 2 => s.get F.WAKE_TROT_CFG_THRESH
  | 3 => s.get F.WAKE_CANTER_CFG_THRESH
  | _ => s.get F.WAKE_GALLOP_CFG_THRESH

/-- FRAMES of stage `k`. -/
def State.stageFrames (s : State) : Nat → Nat
  | 1 => s.get F.WAKE_WALK_CFG_FRAMES
  | 2 => s.get F.WAKE_TROT_CFG_FRAMES
  | 3 => s.get F.WAKE_CANTER_CFG_FRAMES
  | _ => s.get F.WAKE_GALLOP_CFG_FRAMES

/-- TIMEOUT of stage `k` in frames; Walk has none. -/
def State.stageTimeout (s : State) : Nat → Nat
  | 2 => s.get F.WAKE_TROT_CFG_TIMEOUT
  | 3 => s.get F.WAKE_CANTER_CFG_TIMEOUT
  | _ => s.get F.WAKE_GALLOP_CFG_TIMEOUT

/-- The microphones of stage `k` (R184). -/
def State.stageMics (s : State) : Nat → List Nat
  | 1 => [s.get F.WAKE_WALK_CFG_MIC]
  | 2 => [2 * s.get F.WAKE_TROT_CFG_PAIR, 2 * s.get F.WAKE_TROT_CFG_PAIR + 1]
  | 3 => (List.range 8).filter (fun n => s.bit F.WAKE_CANTER_CFG_PAIRS (n / 2))
  | _ => (List.range 8).filter (fun n => s.bit F.MIC_CFG_EN n)

/-- Every microphone of stage `k` is muted, stuck or disabled (R191). -/
def State.stageSilent (s : State) (k : Nat) : Bool := (s.stageMics k).all s.micSilent

/-- The highest running stage. -/
def State.stage (s : State) : Nat := s.get F.WAKE_STATUS_STAGE

/-- Stage `k` runs and is ready to evaluate. -/
def State.stageReady (s : State) (k : Nat) : Bool := decide (k ≤ s.stage) && s.mic.ready.testBit (k - 1)

/-- Stage `k` powers up, and is given the 64 ms of its microphones before: at 16 kHz Trot and Canter, at 48 kHz Gallop (R186,
R188). -/
def State.stageUp (s : State) (k : Nat) : State :=
  let s := s.set F.WAKE_STATUS_STAGE k
  let past := (s.stageMics k).map (fun n => if k = 4 then s.mic.front.getD n [] else s.front16 n)
  { s with mic := { s.mic with
      given := if 2 ≤ k then s.mic.given.set (k - 2) past else s.mic.given
      latched := s.mic.latched && k != 4
      ready := putBit s.mic.ready (k - 1) (k == 1), runs := s.mic.runs.set (k - 1) 0, upAt := s.mic.upAt.set (k - 1) s.stride } }

/-- WAKE_CONF of stage `k` set. -/
def State.setConf (s : State) (k v : Nat) : State :=
  s.set (match k with
    | 1 => F.WAKE_CONF_WALK
    | 2 => F.WAKE_CONF_TROT
    | 3 => F.WAKE_CONF_CANTER
    | _ => F.WAKE_CONF_GALLOP) v

/-- WAKE_STATUS.MUTED: a running stage has no microphone that it could hear (R191). -/
def State.showStageMuted (s : State) : State :=
  s.setB F.WAKE_STATUS_MUTED ((List.range 4).any (fun k => s.stageReady (k + 1) && s.stageSilent (k + 1)))

/-- The highest running stage powers down; the one below starts its TIMEOUT again (R189, log entry 12). -/
def State.stageDown (s : State) : State :=
  let k := s.stage
  let s := (s.setConf k 0).set F.WAKE_STATUS_STAGE (k - 1)
  let s := if 2 ≤ k then s.setBit F.PWR_DOM_ON_ON (8 + k) false else s
  ({ s with mic := { s.mic with
      ready := putBit s.mic.ready (k - 1) false, runs := s.mic.runs.set (k - 1) 0
      given := if 2 ≤ k then s.mic.given.set (k - 2) [] else s.mic.given
      upAt := if 2 ≤ k then s.mic.upAt.set (k - 2) s.stride else s.mic.upAt } }).showStageMuted

/-- All stages off, from the highest down. -/
def State.stagesOff (s : State) : State :=
  (List.range 4).foldl (fun s _ => if s.stage = 0 then s else s.stageDown) s

/-- Walk runs while WAKE_CTRL.ENABLE is 1, the running image claims an HCODEC stall and the Walk domain is on (R176,
R745); otherwise all stages are off. -/
def State.wakeSync (s : State) : State :=
  if s.getB F.WAKE_CTRL_ENABLE && s.hcodecStall.isSome && s.domOn 9 then
    (if s.stage = 0 then s.stageUp 1 else s)
  else s.stagesOff

/-! ### The wake event -/

/-- The inputs of the node mix that the HCODEC output feeds. -/
def State.hcodecInputs (s : State) : List Nat :=
  match s.hcodecStall with
  | none => []
  | some h => mixInputsFrom s.recs s.linkRecs h.n 0

/-- Talk is open on a crosspoint from the HCODEC output: a talk point whose group has a local open talk takes that
input at a gain above −∞ (R201, R202). -/
def State.hcodecTalk (s : State) : Bool :=
  s.hcodecInputs.any (fun i => (List.range 64).any (fun g => s.tg.localTalk.testBit g &&
    (match s.talkPoint g with
     | some o => s.storedGain i o != 0
     | none => false)))

/-- The oldest sample of the compressed ring whose index is a multiple of 6; the live sample of boundary W + 1 where the
ring is empty (R219). -/
def State.oldestHistory (s : State) : Nat :=
  match s.mic.comp.getLast? with
  | none => (s.count + 1) * 6
  | some p => (p.first + 5) / 6 * 6

/-- The start sample of a wake in this stride at onset `o`, and whether it was raised (R195, R196, R219; DEDUCED: S is bounded and
TRIMMED told alike for a wake that starts no catch-up, since the unseal window of R205 begins at S, log entry 58). -/
def State.wakeStart (s : State) (o : Nat) : Nat × Bool :=
  let pre := match s.hcodecStall with
    | some h => h.cfg.w 0
    | none => 0
  let s0 := (o - 48 * pre) / 6 * 6
  let live := (s.count + 1) * 6
  let s1 := max s0 (live - 76800)
  let s2 := min live (max s1 s.oldestHistory)
  (s2, decide (s0 < s2))

/-- Latch a wake event in this stride (R192, R195, R202, R205, R209). -/
def State.latchWake (s : State) (forced : Bool) (onset model conf : Nat) : State :=
  let st := s.wakeStart onset
  let catchup := match s.hcodecStall with
    | some h => h.cfg.w 1 == 1
    | none => false
  let noPre := s.hcodecTalk
  let begin_ := catchup && !noPre
  let lag := if begin_ then (s.count + 1) * 6 - st.1 else 0
  let s := s.writeCell 0xF0130 false [(F.WAKE_RESULT_NO_PREROLL, if noPre then 1 else 0),
    (F.WAKE_RESULT_TRIMMED, if st.2 then 1 else 0), (F.WAKE_RESULT_FORCED, if forced then 1 else 0),
    (F.WAKE_RESULT_ONSET_LO, onset), (F.WAKE_RESULT_ONSET_HI, onset / 2 ^ 32), (F.WAKE_RESULT_CONF, conf),
    (F.WAKE_RESULT_MODEL, model), (F.WAKE_RESULT_LAG, lag)]
  let s := (s.inc F.WAKE_EVENTS_COUNT).setB F.WAKE_STATUS_TALK true
  let s := if forced then s else s.setB F.MIC_PRIV_STATUS_WINDOW true
  let s := s.requestDomain 3
  { s with
    mic := { s.mic with
      voiceAt := s.stride
      latched := s.mic.latched || !forced
      window := if forced then s.mic.window else some (st.1, none)
      start := if begin_ then some (s.stride + 1, lag) else s.mic.start }
    tg := { s.tg with wakeReq := putBit s.tg.wakeReq model true } }

/-- Release the wake talk request; the unseal window ends with the last sample recorded (R194, R205). -/
def State.releaseWake (s : State) : State :=
  let s := s.setB F.WAKE_STATUS_TALK false
  { s with
    mic := { s.mic with window := s.mic.window.map (fun w => (w.1, some (w.2.getD (s.mic.recTo - 1)))) }
    tg := { s.tg with wakeReq := 0 } }

/-- The score of model `m`: 0 where it does not run or is not verified (R190). -/
def State.modelScore (s : State) (f : WakeFrame) (m : Nat) : Nat :=
  if s.bit F.WAKE_GALLOP_CFG_MODELS m && s.mic.models.testBit m then ((f.gallop.map (·.val)).getD m 0) else 0

/-- The confidence of stage `k` in a frame (R184, R190, R191); Walk's is taken above the floor that the frame itself has moved
(DESIGN CHOICE, log entry 58: R185 does not say which comes first). -/
def State.confidence (s : State) (f : WakeFrame) (k : Nat) : Nat :=
  if s.stageSilent k then 0
  else match k with
    | 1 => min 255 (f.energy - s.mic.floor)
    | 2 => f.trot
    | 3 => f.canter
    | _ => (List.range 4).foldl (fun c m => max c (s.modelScore f m)) 0

/-- Walk's noise floor after a frame: at once down to the frame's energy, or up by at most 0.5 dB, how much the spec
leaves open (R185). -/
def State.moveFloor (s : State) (energy : Nat) : State :=
  let r := s.freeBool
  let s := r.2
  { s with mic := { s.mic with
      floor := if energy ≤ s.mic.floor then energy else if r.1 then s.mic.floor + 1 else s.mic.floor } }

/-- One stage's frame: its confidence and its run of frames at or above THRESH (R186). The last run of Walk that reaches FRAMES is
the one in which a wake's onset lies (R193; DEDUCED, log entry 58). -/
def State.stageFrame (s : State) (f : WakeFrame) (k : Nat) : State :=
  if !s.stageReady k then s
  else
    let c := s.confidence f k
    let run := if s.stageThresh k ≤ c then s.mic.runs.getD (k - 1) 0 + 1 else 0
    let s := s.setConf k c
    let start := if k = 1 ∧ run = 1 then s.count - 63 else s.mic.runStart
    { s with mic := { s.mic with
        runs := s.mic.runs.set (k - 1) run
        runStart := start
        onsetFrame := if k = 1 ∧ s.stageFrames 1 ≤ run then start else s.mic.onsetFrame } }

/-- Stage `k` has had its confidence at or above THRESH for FRAMES frames in a row (R186). -/
def State.passed (s : State) (k : Nat) : Bool :=
  s.stageReady k && decide (s.stageFrames k ≤ s.mic.runs.getD (k - 1) 0)

/-- The model with the highest score; which of several equal ones the spec leaves open (log entry 13). -/
def State.winner (s : State) (f : WakeFrame) : Nat × State :=
  let best := (List.range 4).foldl (fun c m => max c (s.modelScore f m)) 0
  let tied := (List.range 4).filter (fun m => s.modelScore f m = best)
  let r := s.freeNat
  (tied.getD (r.1 % tied.length) 0, r.2)

/-- What a frame's end does once the confidences stand: Gallop's wake, or the promotion of the highest stage (R186,
R192–R194, R220). -/
def State.promote (s : State) (f : WakeFrame) : State :=
  let k := s.stage
  if !s.passed k then s
  else if k = 4 then
    (if s.getB F.WAKE_STATUS_TALK then
      (if (List.range 4).any (fun m => !s.tg.wakeReq.testBit m && decide (s.stageThresh 4 ≤ s.modelScore f m)) then
        { s with mic := { s.mic with voiceAt := s.stride } } else s)
     else if s.mic.mutedInFrame then s
     else
      let w := s.winner f
      w.2.latchWake false (s.mic.onsetFrame * 6 + f.onset) w.1 (s.modelScore f w.1))
  else s.stageUp (k + 1)

/-- Execute WAKE_FRAME_END: the last stride of a frame ends it once, while Walk runs (R183). -/
def execWakeFrameEnd (f : WakeFrame) (s : State) : Host.Outcome State Fault Refusal :=
  s.done (if s.stage = 0 ∨ s.count % 64 ≠ 63 ∨ s.mic.frameAt = some s.stride then s
  else
    let s := s.moveFloor f.energy
    let s := (List.range 4).foldl (fun s k => s.stageFrame f (k + 1)) s
    let s := s.showStageMuted
    let s := if f.voice && s.stageReady 4 then { s with mic := { s.mic with voiceAt := s.stride } } else s
    let s := s.promote f
    { s with mic := { s.mic with frameAt := some s.stride, mutedInFrame := false } })

/-- Execute STAGE_READY: a promoted stage's domain is on, it has processed what it was given of the time before its power-up, and
it evaluates from here on (R187, R188). -/
def execStageReady (stage : Fin 5) (s : State) : Host.Outcome State Fault Refusal :=
  s.done (if 2 ≤ stage.val ∧ s.stage = stage.val ∧ s.mic.ready.testBit (stage.val - 1) = false then
    let s := s.setBit F.PWR_DOM_ON_ON (8 + stage.val) true
    { s with mic := { s.mic with ready := putBit s.mic.ready (stage.val - 1) true } }
  else s)

/-- Execute STAGE_TIMEOUT: the highest stage, promoted and neither promoting nor, for Gallop, having latched a wake for TIMEOUT
frames, powers down (R189). -/
def execStageTimeout (stage : Fin 5) (s : State) : Host.Outcome State Fault Refusal :=
  s.done (if 2 ≤ stage.val ∧ s.stage = stage.val ∧ ¬ (stage.val = 4 ∧ s.mic.latched = true) ∧
      s.mic.upAt.getD (stage.val - 1) 0 + 64 * s.stageTimeout stage.val ≤ s.stride then s.stageDown
  else s)

/-- Execute WAKE_HANG_EXPIRY: HANG_MS without voice releases the request, and Gallop powers down (R194). -/
def execWakeHangExpiry (s : State) : Host.Outcome State Fault Refusal :=
  s.done (if s.getB F.WAKE_STATUS_TALK && decide (s.mic.voiceAt + 8 * s.get F.WAKE_HANG_HANG_MS ≤ s.stride) then
    let s := s.releaseWake
    if s.stage = 4 then s.stageDown else s
  else s)

/-- A write of 1 to WAKE_CTRL.FORCE: a forced wake in this stride. Its onset, confidence and model the spec leaves open
(R209, log entry 14); in approved mode nothing happens, and without an HCODEC stall no wake runs (R176). -/
def State.forceWake (s : State) : State :=
  if s.approved || s.hcodecStall.isNone then s
  else
    let a := s.freeNat
    let b := a.2.freeNat
    let c := b.2.freeNat
    c.2.latchWake true (a.1 % ((s.count + 1) * 6)) (b.1 % 4) (c.1 % 256)

/-! ### Hand-over -/

/-- The stall outputs live input. -/
def State.goLive (s : State) : State :=
  let s := (s.set F.HIST_STATUS_LAG 0).set F.HIST_STATUS_MODE 0
  { s with mic := { s.mic with liveNext := false, start := none } }

/-- Catch-up runs (HIST_STATUS.MODE is not LIVE). -/
def State.catching (s : State) : Bool := s.get F.HIST_STATUS_MODE != 0

/-- The hand-over at a boundary: live where it was to go live, and 6 samples less lag at each group boundary (R197,
R201, R216). -/
def State.stepCatchup (s : State) : State :=
  if s.mic.liveNext then s.goLive
  else if s.catching && decide (s.mic.since < s.stride) && (s.stride - s.mic.since) % 8 == 0 then
    s.set F.HIST_STATUS_LAG (s.get F.HIST_STATUS_LAG - 6)
  else s

/-- A group boundary of the catch-up under way. -/
def State.groupBoundary (s : State) : Bool := s.catching && (s.stride - s.mic.since) % 8 == 0

/-- Execute CATCHUP_START at boundary W + 1 (R195–R198). -/
def execCatchupStart (s : State) : Host.Outcome State Fault Refusal :=
  s.done (match s.mic.start with
  | none => s
  | some (w1, lag) =>
    if s.stride ≠ w1 then s
    else
      let s := (s.set F.HIST_STATUS_LAG lag).set F.HIST_STATUS_MODE (if lag = 0 then 0 else if lag ≤ 12000 then 2 else 1)
      { s with mic := { s.mic with start := none, since := w1 } })

/-- Execute CATCHUP_RING_SWITCH (R198). -/
def execCatchupRingSwitch (s : State) : Host.Outcome State Fault Refusal :=
  s.done (if s.groupBoundary && s.get F.HIST_STATUS_MODE == 1 && decide (s.get F.HIST_STATUS_LAG ≤ 12000) then
    s.set F.HIST_STATUS_MODE 2 else s)

/-- Execute CATCHUP_LIVE (R199). -/
def execCatchupLive (s : State) : Host.Outcome State Fault Refusal :=
  s.done (if s.groupBoundary && s.get F.HIST_STATUS_LAG == 0 then s.goLive else s)

/-- Execute CATCHUP_TALK_CLOSED (R201). -/
def execCatchupTalkClosed (s : State) : Host.Outcome State Fault Refusal :=
  s.done (if s.catching && !s.hcodecTalk then { s with mic := { s.mic with liveNext := true } } else s)

/-! ### The mute ball -/

/-- Execute MIC_MUTE_ASSERT: clocks and supplies of the MUTE mask's pairs stop; where a mute so begins, a catch-up fed by a muted
microphone ends at the next boundary and the wake talk request is released (R212, R214, R216, R220). -/
def execMicMuteAssert (s : State) : Host.Outcome State Fault Refusal :=
  let before := s.micMuted
  let s1 := s.setB F.MIC_PRIV_STATUS_PIN true
  let s1 := { s1 with mic := { s1.mic with muteLow := true } }
  let s1 := s1.showMuted
  let newly := fun n => s1.micMuted n && !before n
  let s1 := { s1 with mic := { s1.mic with
    mutedInFrame := s1.mic.mutedInFrame || (s1.stageMics 4).any newly } }
  s.done (if !s.muteOn && s1.catching && s1.beamMuted then
    ({ s1 with mic := { s1.mic with liveNext := true } }).releaseWake else s1)

/-- Execute MIC_MUTE_RELEASE: the ball has been released for 20 ms without a break; the pairs' decimators stay at 0 for
a further 50 ms (R213). -/
def execMicMuteRelease (us : Nat) (s : State) : Host.Outcome State Fault Refusal :=
  s.done (let s1 : State := { s with mic := { s.mic with muteLow := false } }
  if s.muteOn && decide (20000 ≤ us) then
    let s2 := s1.setB F.MIC_PRIV_STATUS_PIN false
    ({ s2 with mic := { s2.mic with silent := s2.get F.MIC_PRIV_MUTE } }).showMuted
  else s1)

/-- Execute MUTE_SILENCE_END: 50 ms after the clocks started again (R213). -/
def execMuteSilenceEnd (us : Nat) (s : State) : Host.Outcome State Fault Refusal :=
  s.done (if !s.muteOn && decide (50000 ≤ us) then
    ({ s with mic := { s.mic with silent := 0 } }).showMuted else s)

end Sys2Proof.Machine
end

