-- ==== Sys2Proof/Machine/Echo.lean ====
section
/-! DEFINITION. Echo canceller instances (chapter 06): their state machine, double talk, freezes, clears and results. -/

namespace Sys2Proof.Machine

/-- The entry of echo instance `i`. -/
def State.echoInst (s : State) (i : Nat) : Option EchoInst := s.echo.insts.find? (fun e => e.i = i)

/-- Echo instance `i` changed by `f`. -/
def State.updEcho (s : State) (i : Nat) (f : EchoInst → EchoInst) : State :=
  { s with echo := { s.echo with insts := s.echo.insts.map (fun e => if e.i = i then f e else e) } }

/-- The number of the echo instance that a stall serves (0–15 LEC, 16–19 AEC). -/
def echoIndex (t : StallRec) : Nat := if t.template = 3 then t.inst else 16 + t.inst

/-- An echo instance as it starts in stride `now` (R294, R297). -/
def freshEcho (i now : Nat) (adaptStart : Bool) : EchoInst :=
  ⟨i, 0, !adaptStart, false, none, false, [], none, none, false, false, now + 2000, now, 0, 0⟩

/-- The ECHO registers of instance `i` as its configuration block and its NLP's give them, and its entry; a swapped-in
instance (`swapped`) starts whatever its ADAPT_START (R278, R297). -/
def State.startEcho (s : State) (t : Stall) : State :=
  let i := echoIndex t.cfg
  let s := ((s.set (F.ECHO_CTRL_STEP i) (t.cfg.w 2)).setB (F.ECHO_CTRL_FREEZE i) (t.cfg.w 6 % 2 == 0)).set
    (F.ECHO_DTD_HANG i) (t.cfg.w 4)
  let s := ((s.set (F.ECHO_DTD_MARGIN i) (t.cfg.w 3)).set (F.ECHO_STATUS_STATE i) 0).set (F.ECHO_STATUS_ERLE i) 0
  let s := ((s.setB (F.ECHO_STATUS_DIVERGED i) false).setB (F.ECHO_STATUS_DTD i) false).set (F.ECHO_DIVERGE_COUNT_COUNT i) 0
  let s := match s.nlpStall i with
    | none => s
    | some n => ((s.set (F.ECHO_NLP_MODE i) (n.cfg.w 0)).set (F.ECHO_NLP_SUPPRESS_MAX i) (n.cfg.w 1)).set
        (F.ECHO_NLP_COMFORT i) (n.cfg.w 2)
  { s with echo := { s.echo with
      insts := s.echo.insts.filter (fun e => e.i ≠ i) ++ [freshEcho i s.stride (t.cfg.w 6 % 2 == 1)] } }

/-- Every echo instance of the running fabric starts (R91, R278). -/
def State.startAllEchoes (s : State) : State :=
  let s := { s with echo := { s.echo with insts := [] } }
  s.fab.stalls.foldl (fun s t =>
    if (t.cfg.template = 3 ∨ t.cfg.template = 4) ∧ t.cfg.slice = 0 then s.startEcho t else s) s

/-! ### Freezes and the state field -/

/-- The line channel that LEC instance `i` binds (R281). -/
def State.echoBind (s : State) (i : Nat) : Option Nat :=
  if 16 ≤ i then none
  else match s.echoStall i with
    | none => none
    | some t => if t.cfg.w 1 < 4 then some (t.cfg.w 1) else none

/-- A cause of R294 holds for instance `i`. -/
def State.autoFreeze (s : State) (i : Nat) : Bool :=
  let bound := match s.echoBind i with
    | none => false
    | some c => !s.getB (F.HYB_CH_STATUS_SWITCH_CLOSED c) || decide (2 ≤ s.get (F.HYB_BAL_STATUS_STEP c))
  let codec := match s.echoStall i, s.hcodecStall with
    | some t, some h => (s.inLinks t.n 0).any (fun l => l.cfg.src == h.n) && s.get F.HIST_STATUS_MODE != 0
    | _, _ => false
  let held := match s.echoInst i with
    | some e => e.startHold
    | none => false
  bound || codec || held

/-- The instance holds its taps: FREEZE, or an automatic freeze (R283, R294). -/
def State.frozen (s : State) (i : Nat) : Bool := s.getB (F.ECHO_CTRL_FREEZE i) || s.autoFreeze i

/-- The ERLE threshold of R290, in 0.5 dB units: 20 dB for an LEC, 15 dB for an AEC. -/
def erleThresh (i : Nat) : Nat := if i < 16 then 40 else 30

/-- ECHO_STATUS.STATE and AUTO_FREEZE as they now stand: IDLE until the reference has been heard, FROZEN while held,
CONVERGED until the ERLE falls (R290, R293, R294). -/
def State.showEchoState (s : State) (i : Nat) : State :=
  match s.echoInst i with
  | none => s
  | some e =>
    let s := s.setB (F.ECHO_STATUS_AUTO_FREEZE i) (s.autoFreeze i)
    s.set (F.ECHO_STATUS_STATE i) (if !e.heard then 0 else if s.frozen i then 3
      else if s.get (F.ECHO_STATUS_STATE i) = 2 ∧ e.erleSince.isSome then 2 else 1)

/-- Clear the taps of instance `i`, its double talk and its ERLE estimate; it idles until its reference is heard
(R293). -/
def State.clearEcho (s : State) (i : Nat) : State :=
  let s := ((s.setB (F.ECHO_STATUS_DTD i) false).set (F.ECHO_STATUS_ERLE i) 0).set (F.ECHO_STATUS_STATE i) 0
  s.updEcho i (fun e => { e with taps := 0, heard := false, dtdAt := none, lastTalk := false, erleSince := none, divSince := none })

/-- The LEC bound to line channel `c` is reset at the next boundary (R293, R295). -/
def State.clearBound (s : State) (c : Nat) : State :=
  (List.range 16).foldl (fun s i =>
    if s.echoBind i = some c then s.updEcho i (fun e => { e with resetNext := true }) else s) s

/-- A write of 0 to FREEZE ends the hold that ADAPT_START = 0 began (R294). -/
def State.freezeWritten (s : State) (i v : Nat) : State :=
  if v = 0 then s.updEcho i (fun e => { e with startHold := false }) else s

/-! ### A stride of an instance -/

/-- The sum of the squares of a channel's samples. -/
def sumSq (l : List Sample) : Nat := l.foldl (fun n x => n + x.natAbs * x.natAbs) 0

/-- The rms of six samples lies below −60 dBFS (R13, R283): their mean square is less than 10⁻⁶ of a full-scale sine's. -/
def belowM60 (l : List Sample) : Bool := decide (sumSq l * 2000000 < 6 * 8388607 * 8388607)

/-- 10^(n / 20) × 10⁹ rounded, n = 0–40: a power ratio of n steps of 0.5 dB (R284). -/
def halfDbPower : List Nat :=
  [1000000000, 1122018454, 1258925412, 1412537545, 1584893192, 1778279410, 1995262315, 2238721139, 2511886432,
   2818382931, 3162277660, 3548133892, 3981071706, 4466835922, 5011872336, 5623413252, 6309573445, 7079457844,
   7943282347, 8912509381, 10000000000, 11220184543, 12589254118, 14125375446, 15848931925, 17782794100, 19952623150,
   22387211386, 25118864315, 28183829313, 31622776602, 35481338923, 39810717055, 44668359215, 50118723363, 56234132519,
   63095734448, 70794578438, 79432823472, 89125093813, 100000000000]

/-- Power `a` exceeds power `b` by more than `n` steps of 0.5 dB. -/
def exceedsBy (a b n : Nat) : Bool := decide (b * halfDbPower.getD n 1000000000 < a * 1000000000)

/-- One stride of instance `i` (R283–R285, R290): near end, references, residual and echo estimate as its blocks hold
them; `adapt` is the LMS step on its taps. The ERLE estimate, whose arithmetic the spec does not give, is a free value (log
entry 10). -/
def State.echoStride (s : State) (i : Nat) (near : List Sample) (refs : List (List Sample)) (residual estimate : List Sample)
    (adapt : Nat → Nat) : State :=
  match s.echoInst i with
  | none => s
  | some e =>
    let refLow := refs.all belowM60
    let sums := (sumSq near, sumSq estimate) :: e.sums.take 3
    let a := (sums.map (·.1)).foldl (· + ·) 0
    let b := (sums.map (·.2)).foldl (· + ·) 0
    let declared := exceedsBy a b (s.get (F.ECHO_DTD_MARGIN i))
    let dtd := declared || s.getB (F.ECHO_STATUS_DTD i)
    let adapts := !refLow && !dtd && !s.frozen i
    let r := s.freeNat
    let s := r.2
    let erle := if e.heard || !refLow then r.1 % 256 else 0
    let s := ((s.setB (F.ECHO_STATUS_REF_LOW i) refLow).setB (F.ECHO_STATUS_DTD i) dtd).set (F.ECHO_STATUS_ERLE i) erle
    let s := s.updEcho i (fun e => { e with
      heard := e.heard || !refLow
      sums := sums
      dtdAt := if declared then some s.stride else e.dtdAt
      taps := if adapts then adapt e.taps else e.taps
      adapted := e.adapted + (if adapts then 1 else 0)
      talked := e.talked + (if dtd then 1 else 0)
      erleSince := if erleThresh i ≤ erle then some (e.erleSince.getD s.stride) else none
      divSince := if exceedsBy (sumSq residual) (sumSq near) 6 then some (e.divSince.getD s.stride) else none })
    s.showEchoState i

/-- The instance committed its outward blocks in time in the stride that ends (R139). -/
def State.echoCommitted (s : State) (i : Nat) : Bool :=
  match s.echoStall i with
  | none => false
  | some t => (s.slices t).all (fun u => u.committed && !u.lateNow)

/-- What a boundary does to every instance: double talk of a committed stride kept (R289), taps that R285 clears, resets of
R295, and the causes of R294. -/
def State.echoBoundary (s : State) : State :=
  s.echo.insts.foldl (fun s e =>
    let kept := s.echoCommitted e.i
    let s := s.updEcho e.i (fun x => { x with
      lastTalk := if kept then s.getB (F.ECHO_STATUS_DTD e.i) else x.lastTalk
      taps := if x.clearNext then 0 else x.taps
      clearNext := false, resetNext := false })
    let s := if e.resetNext then s.clearEcho e.i else s
    s.showEchoState e.i) s

/-! ### Commands -/

/-- Execute DTD_HANG_EXPIRY: DTD_HANG ms have passed without a further declaration (R284). -/
def execDtdHangExpiry (inst : Fin 20) (s : State) : Host.Outcome State Fault Refusal :=
  s.done (match s.echoInst inst with
  | none => s
  | some e => match e.dtdAt with
    | none => s
    | some k =>
      if k + 8 * s.get (F.ECHO_DTD_HANG inst) ≤ s.stride then
        (s.setB (F.ECHO_STATUS_DTD inst) false).updEcho inst (fun e => { e with dtdAt := none })
      else s)

/-- Execute ECHO_DIVERGE: the residual has exceeded the input by more than 3 dB for 100 ms (R285). -/
def execEchoDiverge (inst : Fin 20) (s : State) : Host.Outcome State Fault Refusal :=
  s.done (match s.echoInst inst with
  | none => s
  | some e => match e.divSince with
    | none => s
    | some k =>
      if k + 800 ≤ s.stride + 1 then
        let s := (s.setB (F.ECHO_STATUS_DIVERGED inst) true).inc (F.ECHO_DIVERGE_COUNT_COUNT inst)
        let s := s.updEcho inst (fun e => { e with clearNext := true, divSince := none })
        s.ev .echoDiverged (s.powerDomain (.echo inst)) (if inst.val < 16 then 0 else 1) (inst.val % 16) 0
      else s)

/-- Execute ECHO_CONVERGED: the ERLE estimate has stayed at its threshold for 500 ms (R290). -/
def execEchoConverged (inst : Fin 20) (s : State) : Host.Outcome State Fault Refusal :=
  s.done (match s.echoInst inst with
  | none => s
  | some e => match e.erleSince with
    | none => s
    | some k =>
      if k + 4000 ≤ s.stride + 1 ∧ s.get (F.ECHO_STATUS_STATE inst) = 1 then s.set (F.ECHO_STATUS_STATE inst) 2 else s)

/-- A share of `total` in parts per thousand; how a part is rounded the spec leaves open (log entry 15). -/
def State.perMille (s : State) (n total : Nat) : Nat × State :=
  if n * 1000 % total = 0 then (n * 1000 / total, s)
  else (n * 1000 / total + (if s.freeBool.1 then 1 else 0), s.freeBool.2)

/-- Execute ECHO_RESULT: the instance writes its measurements; a late stride writes nothing and the next stride that
commits in time does. What the echo path measures is free, the lag of the largest tap within the tail window (R280, R292). -/
def execEchoResult (inst : Fin 20) (s : State) : Host.Outcome State Fault Refusal :=
  s.done (match s.echoInst inst, s.echoStall inst with
  | some e, some t =>
    if s.stride < e.dueAt ∨ (s.slices t).any (fun u => u.lateNow || !u.committed) = true then s
    else
      let period := s.stride - e.lastResult
      let a := s.freeNat
      let b := a.2.freeNat
      let c := b.2.freeNat
      let d := c.2.freeNat
      let tail := 48 * t.cfg.w 0
      let x := d.2.perMille e.adapted period
      let y := x.2.perMille e.talked period
      let s := y.2.writeCell (0xD0020 + 0x100 * inst) false [(F.ECHO_RESULT_ERL inst, a.1), (F.ECHO_RESULT_ERLE inst, b.1),
        (F.ECHO_RESULT_NLP_ATTEN inst, if (s.nlpStall inst).isSome then c.1 else 0), (F.ECHO_RESULT_PEAK_DELAY inst, t.cfg.w 5 + d.1 % tail),
        (F.ECHO_RESULT_ADAPT_PM inst, x.1), (F.ECHO_RESULT_DTD_PM inst, y.1)]
      s.updEcho inst (fun e => { e with
        dueAt := e.dueAt + 2000 * ((s.stride - e.dueAt) / 2000 + 1), lastResult := s.stride, adapted := 0, talked := 0 })
  | _, _ => s)

end Sys2Proof.Machine
end

