-- ==== Sys2Proof/Machine/Line.lean ====
section
/-! DEFINITION. Party-line ports, converters, hybrids and TDM ports (chapter 05): presentations and switches, levels and
drive, the balance procedure, headset, speaker and TDM frames. -/

namespace Sys2Proof.Machine

/-! ### Roles and presentations -/

/-- The field that reports port `p`'s resolved role: 0 OFF, 1 SINK, 2 SOURCE, 3 LISTENING. -/
def roleField (p : Nat) : Fld := if p = 0 then F.SYS_PERSONA_PORT_A_ROLE else F.SYS_PERSONA_PORT_B_ROLE

/-- The resolved role of port `p`. -/
def State.role (s : State) (p : Nat) : Nat := s.get (roleField p)

/-- The role code of port `p` (R34). -/
def State.roleCode (s : State) (p : Nat) : Nat := if p = 0 then s.line.codes.1 else s.line.codes.2

/-- The line die answers: neither in its reset state nor cut off by tether loss (R755, R792). -/
def State.lineUp (s : State) : Bool := !s.power.lineReset && !s.getB F.PWR_TETHER_LOST

/-- Port `p` is SOURCING (LINE_x_STATUS.STATE 5). -/
def State.sourcing (s : State) (p : Nat) : Bool := s.get (F.LINE_STATUS_STATE p) == 5

/-- Line channel `c`'s pin is held by SHORT_TO_SUPPLY; PL_x_PWR is not monitored (R777, R779). -/
def State.channelShort (s : State) (c : Nat) : Bool := c % 2 == 1 && s.line.shortHold.testBit (c / 2)

/-- The table of R227 and R767 calls for channel `c`'s series switch to be closed. -/
def State.wantSwitch (s : State) (c : Nat) : Bool :=
  s.lineUp && s.domOn (32 + c / 2) && !s.channelShort c &&
  (s.role (c / 2) == 1 || (s.role (c / 2) == 2 && s.sourcing (c / 2)))

/-- Channel `c`'s series switch is closed. -/
def State.switchClosed (s : State) (c : Nat) : Bool := s.getB (F.HYB_CH_STATUS_SWITCH_CLOSED c)

/-- Four-wire output `n`'s series switch is called for (R248, R778). -/
def State.wantFw (s : State) (n : Nat) : Bool :=
  s.lineUp && s.bit F.CONV_FW_CFG_EN n && !s.line.shortHold.testBit (6 + n)

/-! ### The balance procedure -/

/-- DAC channel `n` silent at once: its ramp, what is on its way to the pin, and the pin (R230, R266). -/
def State.muteDac (s : State) (n : Nat) : State :=
  { s with line := { s.line with
      dacRamp := s.line.dacRamp.set n Ramp.silent
      toneRamp := s.line.toneRamp.set n Ramp.silent
      dacLine := s.line.dacLine.set n (List.replicate 10 0)
      pins := s.line.pins.filter (fun q => q.1 ≠ n) } }

/-- The balance of channel `c`. -/
def State.bal (s : State) (c : Nat) : Bal := s.line.bal.getD c Bal.none_

/-- The balance of channel `c` changed by `f`. -/
def State.updBal (s : State) (c : Nat) (f : Bal → Bal) : State :=
  { s with line := { s.line with bal := s.line.bal.set c (f (s.bal c)) } }

/-- The fields of channel `c`'s balance result that the spec does not state for an error, free (log entry 4). -/
def State.balWords (s : State) (c : Nat) : List (Fld × Nat) × State :=
  let k := s.freeCtr
  ([(F.HYB_BAL_RESULT_THL c, (Config.freeWord k).toNat), (F.HYB_BAL_RESULT_LINE_C c, (Config.freeWord (k + 1)).toNat),
    (F.HYB_BAL_RESULT_LINE_R c, (Config.freeWord (k + 2)).toNat), (F.HYB_BAL_RESULT_DRIVE_PK c, (Config.freeWord (k + 3)).toNat),
    (F.HYB_BAL_RESULT_C_TRIM c, (Config.freeWord (k + 4)).toNat), (F.HYB_BAL_RESULT_R_TRIM c, (Config.freeWord (k + 5)).toNat)],
   { s with freeCtr := k + 6 })

/-- Write an error result of channel `c`: 1 NOISE, 2 RANGE, 3 ABORTED, 4 NOT_READY. -/
def State.balError (s : State) (c code : Nat) : State :=
  let r := s.balWords c
  r.2.writeCell (0xC0020 + 0x100 * c) true ((F.HYB_BAL_RESULT_ERR_CODE c, code) :: r.1)

/-- End the balance of channel `c` with an error: previous trims and taps, the error result, and transmit again at the
next boundary (R241). -/
def State.balAbort (s : State) (c code : Nat) : State :=
  let b := s.bal c
  let s := if 2 ≤ s.get (F.HYB_BAL_STATUS_STEP c) then
      let s := (s.set (F.HYB_CH_TRIM_R_TRIM c) b.savedR).set (F.HYB_CH_TRIM_C_TRIM c) b.savedC
      { s with line := { s.line with tapsClear := putBit s.line.tapsClear c b.savedClear } }
    else s
  let s := (s.set (F.HYB_BAL_STATUS_STEP c) 0).setB (F.HYB_BAL_STATUS_BUSY c) false
  (s.balError c code).updBal c (fun b => { b with restore := true })

/-- A balance requested on channel `c` (R240, R242, R565). -/
def State.balRequest (s : State) (c : Nat) : State :=
  if s.getB (F.HYB_BAL_STATUS_BUSY c) || !(s.role (c / 2) == 1 || s.role (c / 2) == 2) then s.balError c 4
  else (s.setB (F.HYB_BAL_STATUS_BUSY c) true).cellBusy (0xC0020 + 0x100 * c)

/-- Reset the digital echo filter of channel `c` (R236, R295). -/
def State.clearFilter (s : State) (c : Nat) : State :=
  ({ s with line := { s.line with tapsClear := putBit s.line.tapsClear c true } }).clearBound c

/-- The drive impedance of channel `c` back at 200 Ω (R233). -/
def State.resetDrive (s : State) (c : Nat) : State :=
  { s with line := { s.line with driveR := s.line.driveR.set c 400 } }

/-- A write of TERM of channel `c` as it takes effect (R233, R236). -/
def State.termChanged (s : State) (c : Nat) : State :=
  ((s.setB (F.HYB_CH_STATUS_STALE c) true).clearFilter c).resetDrive c

/-- A write of R_TRIM or C_TRIM as it takes effect (R244). -/
def State.trimChanged (s : State) (c : Nat) : State := s.setB (F.HYB_CH_STATUS_STALE c) true

/-- A whole number nearest to `n / d`; a tie is free (log entry 4). -/
def State.nearest (s : State) (n d : Nat) : Nat × State :=
  if 2 * (n % d) = d then (n / d + (if s.freeBool.1 then 1 else 0), s.freeBool.2)
  else ((2 * n + d) / (2 * d), s)

/-- A step of the balance of channel `c` is due: STEP is `k`, and `strides` have passed since boundary B. -/
def State.balDue (s : State) (c k strides : Nat) : Bool :=
  s.getB (F.HYB_BAL_STATUS_BUSY c) && s.get (F.HYB_BAL_STATUS_STEP c) == k && decide ((s.bal c).at_ + strides ≤ s.stride)

/-- Execute BALANCE_SILENCE at boundary B: transmit carries silence and the ADC port is silent (R240 step 2). -/
def execBalanceSilence (c : Fin 4) (s : State) : Host.Outcome State Fault Refusal :=
  s.done (if s.getB (F.HYB_BAL_STATUS_BUSY c) && s.get (F.HYB_BAL_STATUS_STEP c) == 0 then
    ((s.set (F.HYB_BAL_STATUS_STEP c) 2).updBal c (fun b =>
      { at_ := s.stride, savedR := s.get (F.HYB_CH_TRIM_R_TRIM c), savedC := s.get (F.HYB_CH_TRIM_C_TRIM c)
        savedClear := s.line.tapsClear.testBit c, silent := true, restore := false, fitR := 0, fitC := 0
        talkAt := b.talkAt })).muteDac c
  else s)

/-- Execute BALANCE_NOISE_CHECK: above nominal − 30 dB the balance ends with NOISE; else the probe starts (R240 steps 3
and 4). -/
def execBalanceNoiseCheck (c : Fin 4) (level : Int) (s : State) : Host.Outcome State Fault Refusal :=
  s.done (if s.balDue c 2 160 then
    (if -300 < level then s.balAbort c 1 else s.set (F.HYB_BAL_STATUS_STEP c) 4) else s)

/-- Execute BALANCE_FIT: the trims take the nearest codes and the filter is cleared, to adapt on the probe, or the balance ends
with RANGE (R240 steps 5 and 6, R237). The fit is held for the result of step 8. -/
def execBalanceFit (c : Fin 4) (lineR lineC : Nat) (s : State) : Host.Outcome State Fault Refusal :=
  s.done (if s.balDue c 4 1760 then
    (if lineR < 190 ∨ 830 < lineR ∨ 3150 < lineC then s.balAbort c 2
     else
      let r := s.nearest (lineR - 200) 20
      let k := r.2.nearest lineC 100
      let s := ((k.2.set (F.HYB_CH_TRIM_R_TRIM c) (min 31 r.1)).set (F.HYB_CH_TRIM_C_TRIM c) (min 31 k.1)).set
        (F.HYB_BAL_STATUS_STEP c) 6
      let s := s.updBal c (fun b => { b with fitR := lineR, fitC := lineC })
      { s with line := { s.line with tapsClear := putBit s.line.tapsClear c true } })
  else s)

/-- Execute BALANCE_MEASURE: 300 ms of adaptation are over (R240 step 7). -/
def execBalanceMeasure (c : Fin 4) (s : State) : Host.Outcome State Fault Refusal :=
  s.done (if s.balDue c 6 4160 then s.set (F.HYB_BAL_STATUS_STEP c) 7 else s)

/-- The full-scale peak voltage of LEVEL code n, in nV: nominal + 18 dB, 0 dBu being 0.775 V rms (R13, R231, R232). -/
def fullScale : List Nat :=
  [870596066, 922182126, 976824852, 1034705364, 1096015511, 1160958513, 1229749629, 1302616876, 1379801778, 1461560174,
   1548163059, 1639897487, 1737067522, 1839995244, 1949021816, 2064508619, 2186838445, 2316416770, 2453673092, 2599062363,
   2753066490, 2916195936, 3088991408, 3272025656, 3465905365, 3671273169, 3888809781, 4119236247, 4363316339]

/-- The peak drive current at 0 dBFS into a drive impedance of `r` × 0.5 Ω, in 0.1 mA (R233). -/
def drivePeak (level r : Nat) : Nat := (2 * (2 * fullScale.getD level 0) + r * 100000) / (2 * (r * 100000))

/-- Execute BALANCE_RESULT: the result is written, STALE clears, the drive impedance takes LINE_R, and transmit returns
at the next boundary (R233, R240 step 8, R295). -/
def execBalanceResult (c : Fin 4) (thl : Nat) (s : State) : Host.Outcome State Fault Refusal :=
  s.done (if s.balDue c 7 4960 then
    let r := (s.bal c).fitR
    let s := s.writeCell (0xC0020 + 0x100 * c) false [(F.HYB_BAL_RESULT_ERR_CODE c, 0), (F.HYB_BAL_RESULT_THL c, thl),
      (F.HYB_BAL_RESULT_LINE_R c, r), (F.HYB_BAL_RESULT_LINE_C c, (s.bal c).fitC),
      (F.HYB_BAL_RESULT_DRIVE_PK c, drivePeak (s.get (F.HYB_CH_CFG_LEVEL c)) r),
      (F.HYB_BAL_RESULT_C_TRIM c, s.get (F.HYB_CH_TRIM_C_TRIM c)), (F.HYB_BAL_RESULT_R_TRIM c, s.get (F.HYB_CH_TRIM_R_TRIM c))]
    let s := ((s.setB (F.HYB_CH_STATUS_STALE c) false).set (F.HYB_BAL_STATUS_STEP c) 0).setB (F.HYB_BAL_STATUS_BUSY c) false
    let s := { s with line := { s.line with driveR := s.line.driveR.set c r } }
    (s.clearBound c).updBal c (fun b => { b with restore := true })
  else s)

/-- Execute AUTO_BALANCE: with AUTO_BAL set, 1 s after a resolution of the port (R243). -/
def execAutoBalance (c : Fin 4) (s : State) : Host.Outcome State Fault Refusal :=
  s.done (match s.line.resolvedAt.getD c none with
  | none => s
  | some k =>
    if s.getB (F.HYB_CH_CFG_AUTO_BAL c) && decide (k + 8000 ≤ s.stride) then
      ({ s with line := { s.line with resolvedAt := s.line.resolvedAt.set c none } }).balRequest c
    else s)

/-! ### Switches -/

/-- Open channel `c`'s series switch and termination and mute its transmit; a balance ends with ABORTED (R230, R271). -/
def State.openSwitch (s : State) (c : Nat) : State :=
  let s := (s.setB (F.HYB_CH_STATUS_SWITCH_CLOSED c) false).setB (F.HYB_CH_STATUS_TERM_ON c) false
  let s := s.muteDac c
  if s.getB (F.HYB_BAL_STATUS_BUSY c) then s.balAbort c 3 else s

/-- Open every switch that its port, role or a short no longer allows (R230, R248). -/
def State.syncSwitches (s : State) : State :=
  let s := (List.range 4).foldl (fun s c => if s.switchClosed c && !s.wantSwitch c then s.openSwitch c else s) s
  (List.range 4).foldl (fun s n =>
    if s.line.fwSwitch.testBit n && !s.wantFw n then
      ({ s with line := { s.line with fwSwitch := putBit s.line.fwSwitch n false } }).muteDac (4 + n)
    else s) s

/-- A boundary closes the switches that are called for, and their transmit ramps from silence (R227, R230). -/
def State.closeSwitches (s : State) : State :=
  let s := (List.range 4).foldl (fun s c =>
    let s := if s.wantSwitch c && !s.switchClosed c then
        (s.setB (F.HYB_CH_STATUS_SWITCH_CLOSED c) true).muteDac c
      else s
    s.setB (F.HYB_CH_STATUS_TERM_ON c) (s.switchClosed c && s.role (c / 2) == 2)) s
  (List.range 4).foldl (fun s n =>
    if s.wantFw n && !s.line.fwSwitch.testBit n then
      ({ s with line := { s.line with fwSwitch := putBit s.line.fwSwitch n true } }).muteDac (4 + n)
    else s) s

/-! ### The speaker amplifier -/

/-- A rule of R330 keeps the speaker off: Critical, an overcurrent, or a brown-out warning; or the line die is down. -/
def State.speakerBarred (s : State) : Bool :=
  s.get F.THERM_STATUS_NODE == 3 || s.getB F.CONV_SPK_LATCHED || s.line.spkTripped || s.power.brownout || !s.lineUp

/-- The speaker amplifier is called for: its capability, and EN or the foghorn (R329, R746). -/
def State.wantSpeaker (s : State) : Bool :=
  s.getB F.SYS_PERSONA_CAP_SPEAKER && (s.getB F.CONV_SPK_EN || s.getB F.TG_FOGHORN_ACTIVE) && !s.speakerBarred

/-- Block 37 and CONV_SPK.RUNNING as the speaker is called for (R259, R746). -/
def State.syncSpeaker (s : State) : State :=
  let s := s.needDomain 37 s.wantSpeaker
  let run := s.wantSpeaker && s.domOn 37
  let s := if run then s else s.muteDac 10
  s.setB F.CONV_SPK_RUNNING run

/-- A write of CONV_SPK.EN as it takes effect: EN 0 and then 1 clears the latch (R258). -/
def State.spkWritten (s : State) : State :=
  let s := if s.getB F.CONV_SPK_EN then
      (if s.line.spkRearmed then
        let s := s.setB F.CONV_SPK_LATCHED false
        { s with line := { s.line with spkRearmed := false, spkTrips := [] } }
       else s)
    else { s with line := { s.line with spkRearmed := s.getB F.CONV_SPK_LATCHED } }
  s.syncSpeaker

/-- Execute SPK_OVERCURRENT: more than 5 A turns the amplifier off; the third within 1 s latches it (R258). -/
def execSpkOvercurrent (ma : Nat) (s : State) : Host.Outcome State Fault Refusal :=
  s.done (if s.getB F.CONV_SPK_RUNNING && decide (5000 < ma) then
    let trips := s.stride :: s.line.spkTrips.filter (fun k => decide (s.stride < k + 8000))
    let s := { s with line := { s.line with spkTripped := true, spkTrips := trips } }
    let s := if 3 ≤ trips.length then
        let s := s.setB F.CONV_SPK_LATCHED true
        { s with line := { s.line with spkTripped := false } }
      else s
    s.syncSpeaker
  else s)

/-- Execute SPK_RESTART: 100 ms after the overcurrent the amplifier restarts with a 5 ms ramp (R258). -/
def execSpkRestart (ms : Nat) (s : State) : Host.Outcome State Fault Refusal :=
  s.done (if s.line.spkTripped && decide (100 ≤ ms) then
    ({ s with line := { s.line with spkTripped := false } }).syncSpeaker else s)

/-! ### Headset -/

/-- Execute HSMIC_GAIN_STEP: at a zero crossing, or 10 ms after the write, the gain moves 1 dB toward CONV_HSMIC.GAIN
(R249, R250). -/
def execHsmicGainStep (zeroCross : Bool) (ms : Nat) (s : State) : Host.Outcome State Fault Refusal :=
  let g := s.get F.CONV_HSMIC_GAIN
  s.done (if zeroCross || decide (10 ≤ ms) then
    { s with line := { s.line with
        hsGain := if s.line.hsGain < g then s.line.hsGain + 1 else if g < s.line.hsGain then s.line.hsGain - 1 else g } }
  else s)

/-- Execute HP_LOAD_SENSE: OPEN while the load exceeds 2 kΩ (R254). -/
def execHpLoadSense (left right : Nat) (s : State) : Host.Outcome State Fault Refusal :=
  s.done ((s.setB F.CONV_HP_OPEN_L (decide (2000 < left))).setB F.CONV_HP_OPEN_R (decide (2000 < right)))

/-- Execute HP_SHORT (R253). -/
def execHpShort (right : Bool) (s : State) : Host.Outcome State Fault Refusal :=
  s.done (s.setB (if right then F.CONV_HP_SHORT_R else F.CONV_HP_SHORT_L) true)

/-- Execute HP_SHORT_END (R253). -/
def execHpShortEnd (right : Bool) (s : State) : Host.Outcome State Fault Refusal :=
  s.done (s.setB (if right then F.CONV_HP_SHORT_R else F.CONV_HP_SHORT_L) false)

/-! ### Converter channels in a stride -/

/-- ADC channel `n` converts what its pin carries: R222, R224, R229, R259, R756, R778. -/
def State.adcLive (s : State) (n : Nat) : Bool :=
  s.lineUp && (if n < 4 then s.switchClosed n
    else if n < 8 then s.bit F.CONV_FW_CFG_EN (n - 4) && !s.line.shortHold.testBit (n - 2) && !s.line.shortHold.testBit (n + 2)
    else if n = 8 then s.line.headset && s.getB F.SYS_PERSONA_CAP_HEADSET
    else s.getB F.CONV_SPK_RUNNING)

/-- ADC channel `n` carries audio: it converts, and no balance silences its endpoint port (step 2 of R240). -/
def State.adcOn (s : State) (n : Nat) : Bool := s.adcLive n && !(decide (n < 4) && (s.bal n).silent)

/-- DAC channel `n` takes its blocks. -/
def State.dacOn (s : State) (n : Nat) : Bool :=
  s.lineUp && (if n < 4 then s.switchClosed n && !(s.bal n).silent
    else if n < 8 then s.line.fwSwitch.testBit (n - 4)
    else if n < 10 then s.line.headset && s.getB F.SYS_PERSONA_CAP_HEADSET
    else s.getB F.CONV_SPK_RUNNING)

/-- DAC channel `n` is muted by CONV_MUTE, which foghorn overrides for 8–10 (R329). -/
def State.dacMuted (s : State) (n : Nat) : Bool :=
  s.bit F.CONV_MUTE_DAC n && !(decide (8 ≤ n) && s.getB F.TG_FOGHORN_ACTIVE)

/-- The transmit or mute ramp of DAC channel `n` over this stride: 5 ms toward sound, or toward silence while muted (R230). -/
def State.dacRampAt (s : State) (n : Nat) : Ramp := (s.line.dacRamp.getD n Ramp.silent).aim (!s.dacMuted n) 240

/-- The mute ramp of ADC channel `n` over a stride. -/
def State.adcRampAt (s : State) (n : Nat) : Ramp := (s.line.adcRamp.getD n Ramp.full).aim (!s.bit F.CONV_MUTE_ADC n) 240

/-- The largest sample that channel `c` drives without limiting: 25 mA peak (R233, R234). -/
def State.driveLimit (s : State) (c : Nat) : Int :=
  let v := fullScale.getD (s.get (F.HYB_CH_CFG_LEVEL c)) 0
  ((8388607 * 12500000 * s.line.driveR.getD c 400 / v : Nat) : Int)

/-- What ADC channel `n` delivers of `x`, the six samples at its pin: 12 samples later (R266). Of a line channel it is the hybrid
output. -/
def State.adcDelayed (s : State) (x : Nat → List Sample) (n : Nat) : List Sample :=
  (s.line.adcLine.getD n (List.replicate 12 0) ++ x n).take 6

/-- Source endpoint 0x80 port `n`, given what the converter delivers (R224, R878). -/
def State.adcSource (s : State) (raw : List Sample) (n : Nat) : List Sample :=
  if !s.adcOn n then List.replicate 6 0 else (s.adcRampAt n).block raw

/-- The ADC channels a stride later: what is on its way to the endpoints, full scale at the pins, which no mute and no balance
hides, and the mute ramps (R224, R266, R269, R878). -/
def State.stepAdc (s : State) (x : Nat → List Sample) : State :=
  let clip := bitsWhere 10 (fun n => s.adcLive n && (x n).any (fun v => decide (8388607 ≤ v.natAbs)))
  let s := s.set F.CONV_CLIP_ADC (Nat.lor (s.get F.CONV_CLIP_ADC) clip)
  { s with line := { s.line with
      adcRamp := (List.range 10).map (fun n => (s.adcRampAt n).step)
      adcLine := (List.range 10).map (fun n => (s.line.adcLine.getD n (List.replicate 12 0) ++
        (if s.adcLive n then x n else List.replicate 6 0)).drop 6) } }

/-- Channel `c` puts out the probe of its balance: steps 4 to 7 of R240. -/
def State.probing (s : State) (c : Nat) : Bool :=
  decide (c < 4) && s.lineUp && s.switchClosed c && s.getB (F.HYB_BAL_STATUS_BUSY c) && decide (4 ≤ s.get (F.HYB_BAL_STATUS_STEP c))

/-- The six probe samples of channel `c` in this stride. -/
def State.probeBlock (s : State) (c : Nat) : List Sample :=
  (List.range 6).map (fun j =>
    (Config.probeSample (s.get (F.HYB_BAL_CTRL_PROBE c)) (6 * (s.stride - (s.bal c).at_) + j)).toInt)

/-- The call tone of channel `c` is called for: it generates a tone (R455). The silence of a balance holds for the tone too
(R240 step 2; log entry 57). -/
def State.toneDue (s : State) (c : Nat) : Bool :=
  s.getB (F.CALL_CH_STATUS_GENERATING c) && s.get (F.CALL_CH_CFG_GEN_MODE c) == 0 && s.dacOn c

/-- The tone ramp of channel `c` over this stride: 2 ms. -/
def State.toneRampAt (s : State) (c : Nat) : Ramp := (s.line.toneRamp.getD c Ramp.silent).aim (s.toneDue c) 96

/-- The peak sample of the call tone of channel `c`: nominal level − TONE_LVL dB, nominal being 18 dB below full scale
(R232, R455). -/
def State.callPeak (s : State) (c : Nat) : Int :=
  roundDiv (8388607 * (gainFactor (192 - 2 * (18 + s.get (F.CALL_CH_CFG_TONE_LVL c))) : Nat)) (gainFactor 192)

/-- The call tone of channel `c` in this stride, under its ramp. -/
def State.toneBlock (s : State) (c : Nat) : List Sample :=
  (s.toneRampAt c).block ((List.range 6).map (fun j =>
    let v := (Config.toneSample (s.get (F.CALL_CH_CFG_FREQ c)) (6 * s.stride + j)).toInt
    max (-(s.callPeak c)) (min (s.callPeak c) v)))

/-- What DAC channel `n` has taken: the last ten samples on their way, then the block `x` where it takes its blocks. -/
def State.dacQueue (s : State) (n : Nat) (x : List Sample) : List Sample :=
  s.line.dacLine.getD n (List.replicate 10 0) ++ (if s.dacOn n then x else List.replicate 6 0)

/-- What DAC channel `n` calls for at its pin, having taken block `x`: the samples taken ten samples ago under the mute ramp, on a
line channel with the call tone added, or its balance's probe (R230, R240, R266, R455). -/
def State.dacDrive (s : State) (n : Nat) (x : List Sample) : List Sample :=
  let y := (s.dacRampAt n).block ((s.dacQueue n x).take 6)
  if s.probing n then s.probeBlock n
  else if n < 4 then (y.zip (s.toneBlock n)).map (fun q => (sat24 (q.1 + q.2)).1) else y

/-- What DAC channel `n` puts out: on a line channel the current limit clips it (R234). -/
def State.dacOut (s : State) (n : Nat) (x : List Sample) : List Sample :=
  if n < 4 then (s.dacDrive n x).map (fun v => max (-(s.driveLimit n)) (min (s.driveLimit n) v)) else s.dacDrive n x

/-- The digital echo filter of channel `c` over the stride that ended, given the hybrid output in it: it adapts on the probe in
step 6 of a balance, and otherwise with ADAPT set where the transmit block was at least 6 dB above the hybrid output; in no
other step of a balance (R238, R240; log entry 57). -/
def State.adaptStride (s : State) (hyb : Nat → List Sample) (c : Nat) : State :=
  let tx := ((s.line.pins.find? (fun q => q.1 = c)).map (·.2)).getD (List.replicate 6 0)
  let adapt := if s.probing c then s.get (F.HYB_BAL_STATUS_STEP c) == 6
    else s.adcOn c && s.dacOn c && s.getB (F.HYB_CH_CFG_ADAPT c) && decide (sumSq (hyb c) * 398107 ≤ sumSq tx * 100000)
  let s := if adapt then { s with line := { s.line with tapsClear := putBit s.line.tapsClear c false } } else s
  s.setB (F.HYB_CH_STATUS_ADAPTING c) adapt

/-- The converters over one stride: the echo filters adapt on the stride that ended, whose hybrid outputs are `hyb`; then the
DAC channels take their blocks, line channels mark drive limits, and the pins take their samples (R224, R230, R234, R238,
R266). -/
def State.converterStride (s : State) (hyb : Nat → List Sample) : State :=
  let latched := fun n => ((s.fab.sinks.find? (fun q => q.1 = 0x81 ∧ q.2.1 = n)).map (·.2.2)).getD (List.replicate 6 0)
  let out := fun (s : State) (n : Nat) => s.dacOn n || s.probing n
  let s := (List.range 4).foldl (fun s c =>
    let s := s.adaptStride hyb c
    if out s c && (s.dacDrive c (latched c)).any (fun v => decide (s.driveLimit c < (v.natAbs : Int))) then
      s.setB (F.HYB_CH_STATUS_DRIVE_LIMIT c) true
    else s) s
  { s with line := { s.line with
      pins := (List.range 11).filterMap (fun n => if out s n then some (n, s.dacOut n (latched n)) else none)
      dacRamp := (List.range 11).map (fun n => if s.dacOn n then (s.dacRampAt n).step else Ramp.silent)
      toneRamp := (List.range 4).map (fun n => if s.dacOn n then (s.toneRampAt n).step else Ramp.silent)
      dacLine := (List.range 11).map (fun n => (s.dacQueue n (latched n)).drop 6) } }

/-- Balances that have ended give their channels back to transmit at a boundary (R240 step 8, R241). -/
def State.restoreBalances (s : State) : State :=
  (List.range 4).foldl (fun s c =>
    if (s.bal c).restore then (s.updBal c (fun b => { b with silent := false, restore := false })).muteDac c else s) s

/-- The class of the talk that crosspoint (i, o) carries: the highest of the groups whose point it touches (log entry 57). -/
def State.xpClass (s : State) (i o : Nat) : Nat :=
  (List.range 64).foldl (fun m g =>
    if s.talkPoint g = some o ∨ s.listenPoint g = some i then Nat.max m (s.get (F.TG_GROUP_CLASS_CLASS g)) else m) 0

/-- The boundary's mix opened talk of a priority class into a channel whose balance runs: the balance ends at the next boundary
(R270). `was` holds the crosspoints as they stood before. -/
def State.markTalks (s : State) (was : List Xp) : State :=
  (List.range 4).foldl (fun s c =>
    let outs := mixOutputsTo s.recs s.linkRecs 0x81 c
    if s.getB (F.HYB_BAL_STATUS_BUSY c) && (s.bal c).talkAt.isNone && s.tg.xps.any (fun x =>
        decide (x.output ∈ outs) && x.target != 0 && decide (1 ≤ s.xpClass x.input x.output) &&
        !was.any (fun y => y.input == x.input && y.output == x.output && y.target != 0)) then
      s.updBal c (fun b => { b with talkAt := some s.stride })
    else s) s

/-- The balances that talk ends, at the boundary after the one that opened it (R270). -/
def State.endTalkBalances (s : State) : State :=
  (List.range 4).foldl (fun s c =>
    match (s.bal c).talkAt with
    | none => s
    | some k =>
      if k < s.stride then
        (if s.getB (F.HYB_BAL_STATUS_BUSY c) then s.balAbort c 3 else s).updBal c (fun b => { b with talkAt := none })
      else s) s

/-! ### TDM ports -/

/-- TDM port `t` exists: the running image claims it (R65). -/
def State.tdmClaimed (s : State) (t : Nat) : Bool := ((s.fab.image.map (fun (im : Image) => im.claims.tdmMask)).getD 0).testBit t

/-- TDM port `t`. -/
def State.tdm (s : State) (t : Nat) : TdmPort := s.line.tdm.getD t TdmPort.idle

/-- TDM port `t` changed by `f`. -/
def State.updTdm (s : State) (t : Nat) (f : TdmPort → TdmPort) : State :=
  { s with line := { s.line with tdm := s.line.tdm.set t (f (s.tdm t)) } }

/-- The audio word of slot `k` as its bits arrived (R260, R263). -/
def State.tdmWord (s : State) (t k raw : Nat) : Sample :=
  if !s.getB (F.TDM_SLOT_RX_EN t k) || decide (s.get (F.TDM_CFG_SLOTS t) < k) then 0
  else if s.getB (F.TDM_CFG_SLOT_BITS t) && !s.getB (F.TDM_SLOT_JUSTIFY t k) then signedOf (raw / 256) 24
  else signedOf raw 24

/-- The bits of slot `k` of a transmit frame (R260, R263). -/
def State.tdmBits (s : State) (t k : Nat) (x : Sample) : Nat :=
  if !s.getB (F.TDM_SLOT_TX_EN t k) || decide (s.get (F.TDM_CFG_SLOTS t) < k) then 0
  else if s.getB (F.TDM_CFG_SLOT_BITS t) && !s.getB (F.TDM_SLOT_JUSTIFY t k) then unsignedOf x 24 * 256
  else unsignedOf x 24

/-- The bits that TDM_t_DOUT carries in slot `k` of the frame under way: low while EN is 0 (R260, R263). -/
def State.tdmDout (s : State) (t k : Nat) : Nat :=
  if !s.getB (F.TDM_CFG_EN t) then 0 else s.tdmBits t k ((s.tdm t).sent.getD k 0)

/-- BCLK periods that a frame of port `t` needs (R262). -/
def State.tdmNeeds (s : State) (t : Nat) : Nat :=
  (s.get (F.TDM_CFG_SLOTS t) + 1) * (if s.getB (F.TDM_CFG_SLOT_BITS t) then 32 else 24)

/-- BCLK periods in a frame that port `t` drives as master: 512 / D, D the largest of 1, 2, 4, 8 and 16 that leaves room for the
slots; none while EN is 0, BCLK and FSYNC then being low (R262, R263). -/
def State.tdmMasterBclks (s : State) (t : Nat) : Nat :=
  if !s.getB (F.TDM_CFG_EN t) then 0 else (([32, 64, 128, 256, 512].find? (fun n => s.tdmNeeds t ≤ n)).getD 512)

/-- One slip of port `t` counted (R264). -/
def State.tdmSlip (s : State) (t : Nat) : State := (s.setB (F.TDM_STATUS_SLIP t) true).inc (F.TDM_CNT_SLIPS t)

/-- TDM_t_CFG as it now stands: a master is in SYNC while EN is 1, and a port with EN 0 holds no frame (R263, R264). -/
def State.tdmWritten (s : State) (t : Nat) : State :=
  let en := s.getB (F.TDM_CFG_EN t)
  let s := if s.getB (F.TDM_CFG_MASTER t) then s.setB (F.TDM_STATUS_SYNC t) en else s
  if en then s else s.updTdm t (fun _ => TdmPort.idle)

/-- Execute TDM_FRAME: a frame enters the queue of 12 and one leaves; in slave mode a wrong BCLK count is a framing error received
as 0, and a full queue drops the received frame and repeats the one sent (R262–R264). A master's frames follow the media clock,
six to a stride, so its queue never fills by drift. -/
def execTdmFrame (t : Fin 4) (bclks : Nat) (slots : List Nat) (s : State) : Host.Outcome State Fault Refusal :=
  s.done (if !s.tdmClaimed t || !s.getB (F.TDM_CFG_EN t) then s
  else
    let p := s.tdm t
    let slave := !s.getB (F.TDM_CFG_MASTER t)
    let bad := slave && (decide (bclks < s.tdmNeeds t) || (p.lastBclk != 0 && p.lastBclk != bclks))
    let frame := (List.range 16).map (fun k => if bad then 0 else slots.getD k 0)
    let s := if bad then
        ((s.setB (F.TDM_STATUS_FRAME_ERR t) true).inc (F.TDM_CNT_FRAME_ERRS t)).setB (F.TDM_STATUS_SYNC t) false
      else s
    let good := if bad then 0 else p.good + 1
    let s := if slave && decide (8 ≤ good) then s.setB (F.TDM_STATUS_SYNC t) true else s
    let full := decide (12 ≤ p.rx.length)
    let s := if full && slave then s.tdmSlip t else s
    s.updTdm t (fun p => { p with
      rx := if full then p.rx else p.rx ++ [frame]
      tx := if full then p.tx else p.tx.drop 1
      sent := if full then p.sent else p.tx.headD []
      lastBclk := bclks
      good := min 8 good }))

/-- Port `t` at a boundary: the six frames that the fabric takes, their slots read as RX_EN stands; where a slave's queue would
run empty, its last frame repeated and a transmit frame dropped for each; and six transmit frames queued (R264). -/
def State.tdmBoundary (s : State) (t : Nat) : State × List (List Sample) :=
  if !s.tdmClaimed t || !s.getB (F.TDM_CFG_EN t) then (s, [])
  else
    let p := s.tdm t
    let six := p.rx.take 6
    let short := 6 - six.length
    let slipping := decide (0 < short) && !six.isEmpty && !s.getB (F.TDM_CFG_MASTER t)
    let s := if slipping then (List.range short).foldl (fun s _ => s.tdmSlip t) s else s
    let out := (List.range 6).map (fun j => (List.range 16).map (fun k =>
      ((((s.fab.sinks.find? (fun q => q.1 = 0x83 ∧ q.2.1 = 16 * t + k)).map (·.2.2)).getD []).getD j 0)))
    let taken := if slipping then six ++ List.replicate short (six.getLastD []) else six
    (s.updTdm t (fun p => { p with
        rx := p.rx.drop 6, tx := ((p.tx ++ out).drop (if slipping then short else 0)).take 12 }),
     taken.map (fun f => (List.range 16).map (fun k => s.tdmWord t k (f.getD k 0))))

end Sys2Proof.Machine
end

