-- ==== Sys2Proof/Machine/Calls.lean ====
section
/-! DEFINITION. Call detection, call generation, group calls and lamps (chapter 10). -/

namespace Sys2Proof.Machine

/-! ### Ring state that calls look at -/

/-- The node is member or lighthouse (RING_STATE.STATE 1 or 2). -/
def State.inRing (s : State) : Bool := s.get F.RING_STATE_STATE == 1 || s.get F.RING_STATE_STATE == 2

/-- Group `g` is in the ring group map. -/
def State.inMap (s : State) (g : Nat) : Bool := s.bit (F.RING_MAP_MAP (g / 32)) (g % 32)

/-- The ring carries a call on group `g` (R372). -/
def State.ringCall (s : State) (g : Nat) : Bool := s.inRing && s.bit (F.RING_CALL_RX_CALL (g / 32)) (g % 32)

/-- The GROUPS group mask of the running image (R74). -/
def State.groupMask (s : State) : Nat := (s.fab.image.map (fun (im : Image) => im.groupMask)).getD 0

/-! ### Detectors -/

/-- The detector of an input. -/
def State.det (s : State) (input : Nat) (dc : Bool) : Det :=
  (s.call.dets.find? (fun d => d.input = input ∧ d.dc = dc)).getD ⟨input, dc, 0, 0, none, 0⟩

/-- Put a detector back; one that counts nothing and holds no call is not listed. -/
def State.putDet (s : State) (d : Det) : State :=
  let rest := s.call.dets.filter (fun e => ¬ (e.input = d.input ∧ e.dc = d.dc))
  { s with call := { s.call with
      dets := if d.qual = 0 ∧ d.startAt = none then rest else rest ++ [d] } }

/-- Halter mode: LAMP_0's detectors run at FREQ 200, THRESH 20, both enabled (R466). -/
def State.halter (s : State) : Bool := s.getB F.SYS_PERSONA_HALTER

/-- CALLDET input `n` (4–19) detects: its stall runs and its DETECT bit is set (R450, R452). -/
def State.calldetOn (s : State) (n : Nat) : Bool :=
  match s.calldetStall ((n - 4) / 4) with
  | none => false
  | some t => (t.cfg.w 3).testBit ((n - 4) % 4) && !s.lame t.n

/-- The detector of an input runs: role, enables, suspension and blanking (R441, R449, R458, R466, R756). -/
def State.detOn (s : State) (input : Nat) (dc : Bool) : Bool :=
  if 4 ≤ input then !dc && s.calldetOn input
  else
    (s.role (input / 2) == 1 || s.role (input / 2) == 2) && !s.getB (F.CALL_CH_STATUS_SUSPENDED input) &&
    !s.getB (F.CALL_CH_STATUS_BLANKED input) && s.lineUp &&
    (if dc then input % 2 == 1 && (s.halter || s.getB (F.CALL_CH_CFG_DC_EN input))
     else s.halter || s.getB (F.CALL_CH_CFG_TONE_EN input))

/-- The threshold of a tone detector in dB below nominal, or below 0 dBFS (R443, R452). -/
def State.toneThresh (s : State) (input : Nat) : Nat :=
  if 4 ≤ input then ((s.calldetStall ((input - 4) / 4)).map (fun t => t.cfg.w 4)).getD 0
  else if s.halter then 20 else s.get (F.CALL_CH_CFG_THRESH input)

/-- A stride qualifies for a detector (R443, R445). -/
def State.qualifies (s : State) (input : Nat) (dc held : Bool) (m : CallMeas) : Bool :=
  if dc then (if held then decide (2800 ≤ m.dc) && decide (m.dc ≤ 10200) else decide (3000 ≤ m.dc) && decide (m.dc ≤ 10000))
  else if held then decide (m.tone ≤ 10 * ((s.toneThresh input + 3 : Nat) : Int))
  else decide (m.tone ≤ 10 * ((s.toneThresh input : Nat) : Int)) && decide (m.tone + 100 ≤ m.below)

/-- One stride of one detector (R442–R446); the strides of a suspension count toward nothing (R449). -/
def State.detStride (s : State) (input : Nat) (dc : Bool) (m : CallMeas) : State :=
  let d := s.det input dc
  if input < 4 ∧ s.getB (F.CALL_CH_STATUS_SUSPENDED input) then s
  else if !s.detOn input dc then s.putDet { d with qual := 0, unqual := if d.startAt.isSome then d.unqual + 1 else 0 }
  else if s.qualifies input dc d.startAt.isSome m then
    s.putDet { d with qual := d.qual + 1, unqual := 0, level := if dc then m.dc.toNat else m.tone.toNat }
  else s.putDet { d with qual := 0, unqual := d.unqual + 1 }

/-- OVER_WINDOW: more than 10.2 V that is no SHORT_TO_SUPPLY (R448). -/
def State.overWindow (s : State) (c : Nat) (m : CallMeas) : State :=
  s.setB (F.CALL_CH_STATUS_OVER_WINDOW c) (c % 2 == 1 && decide (10200 < m.dc) && !s.channelShort c)

/-- Input `n` detects a call (R461). -/
def State.detects (s : State) (n : Nat) : Bool := s.call.dets.any (fun d => d.input = n ∧ d.startAt.isSome)

/-- Input `n`'s call is stuck (R447). -/
def State.stuck (s : State) (n : Nat) : Bool := decide (n < 4) && s.getB (F.CALL_CH_STATUS_STUCK n)

/-- The address of the result cell of an input's channel or detector (R467). -/
def callCell (n : Nat) : Nat := if n < 4 then 0xE0010 + 0x40 * n else 0xE0300 + 0x40 * ((n - 4) / 4)

/-- The stall of CALLDET input `n` was late in the stride that ended (R142). -/
def State.calldetLate (s : State) (n : Nat) : Bool :=
  decide (4 ≤ n) && (s.calldetStall ((n - 4) / 4)).any (fun t => s.getB (F.FAB_STALL_STATUS_LATE_LAST t.n))

/-- Write the call result of an event: 0 START, 1 END, 2 STUCK (R467); none of a late stride (R142). -/
def State.callResult (s : State) (d : Det) (event : Nat) : State :=
  if s.calldetLate d.input then s
  else
  let a := callCell d.input
  let dur := match d.startAt with
    | some k => if event = 0 then 0 else min 65535 ((s.stride - k) / 8)
    | none => 0
  let group := if s.getB (F.CALL_MAP_RAISE_EN d.input) then s.get (F.CALL_MAP_GROUP d.input) else 255
  s.writeCell a false [(⟨a, 18, 2, 0⟩, if d.dc then 1 else 0), (⟨a, 16, 2, 0⟩, event), (⟨a + 4, 0, 32, 0⟩, s.count),
    (⟨a + 8, 16, 16, 0⟩, dur), (⟨a + 8, 0, 16, 0⟩, d.level), (⟨a + 12, 8, 8, 0⟩, group), (⟨a + 12, 0, 8, 0⟩, d.input)]

/-- The status bits of a line channel's calls. -/
def State.showCall (s : State) (n : Nat) : State :=
  if 4 ≤ n then s
  else ((s.setB (F.CALL_CH_STATUS_TONE_CALL n) (s.det n false).startAt.isSome).setB (F.CALL_CH_STATUS_DC_CALL n)
    (s.det n true).startAt.isSome)

/-- End a call in progress with an END result (R444, R446, R449, R458, R468). -/
def State.endCall (s : State) (input : Nat) (dc : Bool) : State :=
  let d := s.det input dc
  if d.startAt.isNone then s
  else
    let s := (s.callResult d 1).putDet { d with startAt := none, qual := 0, unqual := 0 }
    let s := s.setB F.CALL_IRQ_END true
    let s := if dc then s.setB (F.CALL_CH_STATUS_STUCK input) false else s
    s.showCall input

/-- End every call of line channel `c`. -/
def State.endCalls (s : State) (c : Nat) : State := (s.endCall c false).endCall c true

/-! ### Suspension -/

/-- SUSPENDED of the channels on shorted pins, and of every line channel during tether loss, ending their calls (R449,
R756). -/
def State.syncSuspend (s : State) : State :=
  (List.range 4).foldl (fun s c =>
    let sus := s.channelShort c || s.getB F.PWR_TETHER_LOST
    let s := if sus then s.endCalls c else s
    s.setB (F.CALL_CH_STATUS_SUSPENDED c) sus) s

/-! ### Raising groups (R460) -/

/-- Some input raises group `g`. -/
def State.inputRaises (s : State) (g : Nat) : Bool :=
  (List.range 20).any (fun n => s.getB (F.CALL_MAP_RAISE_EN n) && s.get (F.CALL_MAP_GROUP n) == g && s.detects n &&
    !s.stuck n && !(decide (n < 4) && s.getB (F.CALL_CH_STATUS_GENERATING n)))

/-- The node raises group `g` in this stride. -/
def State.raises (s : State) (g : Nat) : Bool :=
  s.inRing && s.groupMask.testBit g && s.inMap g && g != 63 &&
  (s.bit (F.CALL_SEND_SEND (g / 32)) (g % 32) || s.inputRaises g)

/-- CALL_RAISED as the inputs stand in this stride, and the last stride in which each group was raised; a group that an event
of this boundary lowers was last raised in the stride before (R453, R460). -/
def State.stepRaised (s : State) : State :=
  let m := bitsWhere 64 s.raises
  let s := (s.set (F.CALL_RAISED_RAISED 0) m).set (F.CALL_RAISED_RAISED 1) (m / 2 ^ 32)
  { s with call := { s.call with raisedAt := (List.range 64).filterMap (fun g =>
      if m.testBit g then some (g, s.stride)
      else match s.call.raisedAt.lookup g with
        | some k => if s.stride ≤ k + 48 then some (g, min k (s.stride - 1)) else none
        | none => none) } }

/-- The node has raised group `g` within the last 48 strides (R453). -/
def State.raisedLately (s : State) (g : Nat) : Bool :=
  match s.call.raisedAt.lookup g with
  | some k => decide (s.stride ≤ k + 48)
  | none => false

/-- The CALL_SEND bits' times (R469). -/
def State.stepSends (s : State) : State :=
  { s with call := { s.call with sendAt := (List.range 64).filterMap (fun g =>
      if s.bit (F.CALL_SEND_SEND (g / 32)) (g % 32) then some (g, (s.call.sendAt.lookup g).getD s.stride) else none) } }

/-- Execute CALL_SEND_TIMEOUT (R469). -/
def execCallSendTimeout (g : Fin 64) (s : State) : Host.Outcome State Fault Refusal :=
  s.done (match s.call.sendAt.lookup g.val with
  | none => s
  | some k =>
    if s.bit (F.CALL_SEND_SEND (g / 32)) (g % 32) ∧ s.get F.CALL_TIMING_SEND_MAX_S ≠ 0 ∧
        k + 8000 * s.get F.CALL_TIMING_SEND_MAX_S ≤ s.stride then
      (((s.setBit (F.CALL_SEND_SEND (g / 32)) (g % 32) false).setB F.CALL_IRQ_TIMEOUT true).stepSends).ev .callTimeout 1 g 0 0
    else s)

/-! ### Generation (R453–R458) -/

/-- A call is due on line channel `c` (R453). -/
def State.callDue (s : State) (c : Nat) : Bool :=
  s.bit F.CALL_LINE_SEND_SEND c ||
  (s.getB (F.CALL_MAP_GEN_EN c) && s.ringCall (s.get (F.CALL_MAP_GROUP c)) &&
   !s.raisedLately (s.get (F.CALL_MAP_GROUP c)))

/-- Channel `c` can generate: switch closed, and VIN high enough for a DC call (R457). -/
def State.canGenerate (s : State) (c : Nat) : Bool :=
  s.switchClosed c && s.lineUp && !s.channelShort c &&
  (s.get (F.CALL_CH_CFG_GEN_MODE c) == 0 || decide (s.get (F.CALL_CH_CFG_DC_V c) * 100 + 3000 ≤ s.get F.PWR_VIN_MV))

/-- The voltage in mV to which a DC call of channel `c` drives PL_x_AUD from VIN, within 3 % and through a 10 mA limit
(R456). -/
def State.callDcMv (s : State) (c : Nat) : Option Nat :=
  if s.getB (F.CALL_CH_STATUS_GENERATING c) && s.getB (F.CALL_CH_CFG_GEN_MODE c) && s.canGenerate c then some (100 * s.get (F.CALL_CH_CFG_DC_V c)) else none

/-- Channel `c` starts generating: its detectors are blanked and its calls end (R453, R458). -/
def State.startGen (s : State) (c : Nat) : State :=
  let s := (s.endCalls c).setB (F.CALL_CH_STATUS_GENERATING c) true
  let s := s.setB (F.CALL_CH_STATUS_BLANKED c) true
  { s with call := { s.call with gen := s.call.gen.set c (some (s.stride, false)), stopAt := s.call.stopAt.set c none } }

/-- Channel `c` stops generating; the blanking lasts 320 strides more (R458). -/
def State.stopGen (s : State) (c : Nat) : State :=
  let s := s.setB (F.CALL_CH_STATUS_GENERATING c) false
  { s with call := { s.call with gen := s.call.gen.set c none, stopAt := s.call.stopAt.set c (some s.stride) } }

/-- Channel `c` is generating. -/
def State.generating (s : State) (c : Nat) : Bool := s.getB (F.CALL_CH_STATUS_GENERATING c)

/-- Generation of channel `c` at a boundary: it starts when due and possible, stops when no longer possible, and when
no longer due once its 100 ms are over (R453, R454, R457). -/
def State.genBoundary (s : State) (c : Nat) : State :=
  let due := s.callDue c
  let can := s.canGenerate c
  let s := s.setB (F.CALL_CH_STATUS_GEN_BLOCKED c) (due && !can)
  if s.generating c then
    (if !can then s.stopGen c
     else match s.call.gen.getD c none with
      | some (k, m) => if !due && (m || decide (k + 800 ≤ s.stride)) then s.stopGen c else s
      | none => s)
  else if due && can then s.startGen c else s

/-- Execute CALL_GEN_MIN_END: 100 ms after the start the call stops once no longer due (R454). -/
def execCallGenMinEnd (c : Fin 4) (s : State) : Host.Outcome State Fault Refusal :=
  s.done (match s.call.gen.getD c none with
  | none => s
  | some (k, _) =>
    if k + 800 ≤ s.stride then
      (if s.callDue c then { s with call := { s.call with gen := s.call.gen.set c (some (k, true)) } } else s.stopGen c)
    else s)

/-- Execute BLANK_END: 320 strides after the channel stopped generating (R458). -/
def execBlankEnd (c : Fin 4) (s : State) : Host.Outcome State Fault Refusal :=
  s.done (match s.call.stopAt.getD c none with
  | none => s
  | some k =>
    if k + 320 ≤ s.stride ∧ s.generating c = false then
      let s := s.setB (F.CALL_CH_STATUS_BLANKED c) false
      { s with call := { s.call with stopAt := s.call.stopAt.set c none } }
    else s)

/-- A change of role, or a listen, of port `p`: calls end, and generation stops without its minimum (R468). -/
def State.portCallsEnd (s : State) (p : Nat) : State :=
  [2 * p, 2 * p + 1].foldl (fun s c => (if s.generating c then s.stopGen c else s).endCalls c) s

/-! ### Signal sources and lamps (R461–R466) -/

/-- The patterns of lamps: 0 OFF, 1 STEADY, 2 FLASH, 3 FAST, as LAMP_CFG.HOST_PATTERN codes them. -/
def State.patternOn (s : State) : Nat → Bool
  | 0 => false
  | 1 => true
  | 2 => decide (s.count % 4000 < 2000)
  | _ => decide (s.count % 2000 < 1000)

/-- Signal source `code` is active (R461). -/
def State.sourceActive (s : State) (code : Nat) : Bool :=
  if code < 0x3F then s.bit (F.CALL_RAISED_RAISED (code / 32)) (code % 32) || s.ringCall code
  else if 0x40 ≤ code ∧ code < 0x44 then s.detects (code - 0x40)
  else if 0x44 ≤ code ∧ code < 0x48 then (List.range 4).any (fun ch => s.detects (4 + 4 * (code - 0x44) + ch))
  else if 0x80 ≤ code ∧ code < 0xA0 then s.bit F.TG_KEY_STATE_TALK (code - 0x80)
  else if 0xA0 ≤ code ∧ code < 0xC0 then s.bit F.TG_KEY_LISTEN_STATE_LISTEN (code - 0xA0)
  else if code = 0xC0 then s.getB F.TG_FOGHORN_ACTIVE
  else code == 0xFE

/-- The pattern that an active source shows on a lamp (R461); `host` is HOST_PATTERN. -/
def State.sourcePattern (s : State) (code host : Nat) : Nat :=
  if !s.sourceActive code then 0
  else if 0x40 ≤ code ∧ code < 0x44 then (if s.stuck (code - 0x40) then 1 else 2)
  else if code < 0x48 then 2
  else if code < 0xC0 then 1
  else if code = 0xC0 then (if s.getB F.TG_FOGHORN_ACKED then 1 else 3)
  else if code = 0xFE then host else 0

/-- Lamp sink `n` is on (R461, R464, R466, R755). -/
def State.lampOn (s : State) (n : Nat) : Bool :=
  s.lineUp &&
  (if s.halter then n == 0 && s.patternOn (if s.sourcePattern 0x40 0 = 0 then s.sourcePattern 0x41 0 else s.sourcePattern 0x40 0)
   else s.patternOn (s.sourcePattern (s.get (F.LAMP_CFG_SRC n)) (s.get (F.LAMP_CFG_HOST_PATTERN n))))

/-- LAMP_STATUS.ON as the sources stand; a sink that is off is not folded back. -/
def State.stepLamps (s : State) : State :=
  let on := bitsWhere 4 s.lampOn
  (s.set F.LAMP_STATUS_ON on).set F.LAMP_STATUS_FOLDBACK (Nat.land (s.get F.LAMP_STATUS_FOLDBACK) on)

/-- Raised groups and lamps follow an event of this boundary (R460, R461). -/
def State.showCalls (s : State) : State := s.stepRaised.stepLamps

/-- Execute CALL_START at the boundary that ends 160 qualifying strides in a row (R444, R446, R452). -/
def execCallStart (input : Fin 20) (dc : Bool) (s : State) : Host.Outcome State Fault Refusal :=
  let d := s.det input dc
  s.done (if s.detOn input dc && d.startAt.isNone && decide (160 ≤ d.qual) then
    let d := { d with startAt := some s.stride, unqual := 0 }
    ((((s.putDet d).callResult d 0).setB F.CALL_IRQ_START true).showCall input).showCalls
  else s)

/-- Execute CALL_END at the boundary that ends 320 strides in a row that do not qualify (R444, R446). -/
def execCallEnd (input : Fin 20) (dc : Bool) (s : State) : Host.Outcome State Fault Refusal :=
  let d := s.det input dc
  s.done (if d.startAt.isSome && decide (320 ≤ d.unqual) then (s.endCall input dc).showCalls else s)

/-- Execute CALL_STUCK: a DC call that has lasted 10 s (R447). -/
def execCallStuck (c : Fin 4) (s : State) : Host.Outcome State Fault Refusal :=
  let d := s.det c true
  s.done (match d.startAt with
  | none => s
  | some k =>
    if k + 80000 ≤ s.stride ∧ s.getB (F.CALL_CH_STATUS_STUCK c) = false then
      (((s.setB (F.CALL_CH_STATUS_STUCK c) true).callResult d 2).setB F.CALL_IRQ_STUCK true).showCalls
    else s)

/-- The current that sink `n` sinks, in mA (R464, R465). -/
def State.lampMa (s : State) (n : Nat) : Nat :=
  if !s.bit F.LAMP_STATUS_ON n then 0 else if s.bit F.LAMP_STATUS_FOLDBACK n then 2 else s.get (F.LAMP_CFG_CURRENT n)

/-- Execute LAMP_FOLDBACK: above 6.0 V for 100 µs while the sink is on (R465). -/
def execLampFoldback (n : Fin 4) (mv us : Nat) (s : State) : Host.Outcome State Fault Refusal :=
  s.done (if s.bit F.LAMP_STATUS_ON n && decide (6000 < mv) && decide (100 ≤ us) then
    (s.setBit F.LAMP_STATUS_FOLDBACK n true).setB F.CALL_IRQ_FOLDBACK true else s)

/-- Execute LAMP_FOLDBACK_END: below 5.0 V (R465). -/
def execLampFoldbackEnd (n : Fin 4) (mv : Nat) (s : State) : Host.Outcome State Fault Refusal :=
  s.done (if mv < 5000 then s.setBit F.LAMP_STATUS_FOLDBACK n false else s)

/-! ### A boundary of this chapter -/

/-- Call detection, generation, raised groups and lamps over one stride; `meas n` is what call input `n` measured. -/
def State.callBoundary (s : State) (meas : Nat → CallMeas) : State :=
  let s := (List.range 20).foldl (fun s n => s.detStride n false (meas n)) s
  let s := (List.range 4).foldl (fun s c => (s.overWindow c (meas c)).detStride c true (meas c)) s
  let s := (List.range 4).foldl State.genBoundary s
  (s.stepSends.stepRaised).stepLamps

end Sys2Proof.Machine
end

