-- ==== Sys2Proof/Machine/Journal.lean ====
section
/-! DEFINITION. The settings journal (R682–R686). -/

namespace Sys2Proof.Machine

/-- Two records are of one setting: IMAGE, ADDRESS and MASK agree, and for a crosspoint INPUT and OUTPUT (R686). -/
def JRec.sameSetting (a b : JRec) : Bool :=
  a.setting && b.setting && a.image == b.image && a.addr == b.addr && a.mask == b.mask &&
  (a.addr != F.TG_XP_WRITE_INPUT.addr || a.value / 2 ^ 8 == b.value / 2 ^ 8)

/-- The journal's slots (R682). -/
def journalSlots : Nat := 16384

/-- The record with the highest SEQ, with its slot. -/
def journalNewest (l : List (Nat × JRec)) : Option (Nat × JRec) :=
  l.foldl (fun m p => match m with
    | none => some p
    | some q => if q.2.seq < p.2.seq then some p else some q) none

/-- Record `r` is the newest of its setting. -/
def journalIsNewest (l : List (Nat × JRec)) (r : JRec) : Bool :=
  r.setting && !l.any (fun p => p.2.sameSetting r && decide (r.seq < p.2.seq))

/-- The image whose newest record is oldest, once the newest records fill half the slots (R686). -/
def journalVictim (l : List (Nat × JRec)) : Option (List Byte) :=
  if (l.filter (fun p => journalIsNewest l p.2)).length < journalSlots / 2 then none
  else
    let newest := fun (im : List Byte) => (l.filter (fun p => p.2.image == im)).foldl (fun m p => max m p.2.seq) 0
    (l.foldl (fun m p => match m with
      | none => some p.2.image
      | some im => if newest p.2.image < newest im then some p.2.image else some im) none)

/-- Put a record in slot `k`: the newest record of a setting that stands there is first copied, with a new SEQ, into the
slot after, which is checked the same way (R686). `fuel` bounds the chain by the number of slots. -/
def journalPut (fuel k : Nat) (r : JRec) (l : List (Nat × JRec)) : List (Nat × JRec) :=
  match fuel with
  | 0 => l
  | fuel + 1 =>
    let l := match Sparse.find k l with
      | some x =>
        if journalIsNewest l x && !x.sameSetting r && journalVictim l != some x.image then
          journalPut fuel ((k + 1) % journalSlots) x l
        else l
      | none => l
    let seq := ((journalNewest l).map (fun p => p.2.seq + 1)).getD 1
    Sparse.insert k { r with seq := seq } (Sparse.erase k l)

/-- Write a record to the slot after the newest one (R682). -/
def State.journalWrite (s : State) (r : JRec) : State :=
  let k := ((journalNewest s.journal.slots).map (fun p => (p.1 + 1) % journalSlots)).getD 0
  { s with journal := { s.journal with slots := journalPut (s.journal.slots.length + 1) k r s.journal.slots } }

/-- The POWER_FAIL record of a brown-out warning (R682, R749). -/
def State.journalPowerFail (s : State) (mv : Nat) : State :=
  s.journalWrite ⟨0, false, 15, s.fab.baseDigest, mv, 0, s.get F.PWR_IN_STATUS_ACTIVE⟩

/-- PWR_LAST_LOSS at a boot (R753). -/
def State.showLastLoss (s : State) : State :=
  let fails := s.journal.slots.filter (fun p => !p.2.setting)
  let s := s.set F.PWR_LAST_LOSS_COUNT (min 65535 fails.length)
  match journalNewest fails with
  | none => s.setB F.PWR_LAST_LOSS_VALID false
  | some p => (s.setB F.PWR_LAST_LOSS_VALID true).set F.PWR_LAST_LOSS_INPUT p.2.value

/-- A journalled field that a master changed: its 2 s begin, or begin again (R684). -/
def State.journalChanged (s : State) (master addr mask value : Nat) : State :=
  let same := fun (w : JWait) => w.addr == addr && w.mask == mask &&
    (addr != F.TG_XP_WRITE_INPUT.addr || w.value / 2 ^ 8 == value / 2 ^ 8)
  { s with journal := { s.journal with waits := s.journal.waits.filter (fun w => !same w) ++ [⟨addr, mask, value, master, s.stride⟩] } }

/-- Execute JOURNAL_SETTING_WRITE: in standalone mode the field is written once unchanged for 2 s (R684, R46). -/
def execJournalSettingWrite (addr mask value : Nat) (s : State) : Host.Outcome State Fault Refusal :=
  s.done (match s.journal.waits.find? (fun w => w.addr = addr ∧ w.mask = mask ∧
      (addr ≠ F.TG_XP_WRITE_INPUT.addr ∨ w.value / 2 ^ 8 = value / 2 ^ 8) ∧ w.at_ + 16000 ≤ s.stride) with
  | none => s
  | some w =>
    let s := { s with journal := { s.journal with waits := s.journal.waits.filter (fun v => v ≠ w) } }
    if s.getB F.SYS_PERSONA_HOST_MODE then s
    else s.journalWrite ⟨0, true, w.master, s.fab.baseDigest, w.addr, w.mask, w.value⟩)

end Sys2Proof.Machine
end

