-- ==== Sys2Proof/Machine/Power.lean ====
section
/-! DEFINITION. Power entry and the budget (chapter 16), line power, PSE ports and thermal steps (chapter 17), and the
roles of the party-line ports (chapter 01). -/

namespace Sys2Proof.Machine

/-! ### Inputs -/

/-- Port `p` soft-starts or sources (R717). -/
def State.feeding (s : State) (p : Nat) : Bool :=
  s.get (F.LINE_STATUS_STATE p) == 4 || s.get (F.LINE_STATUS_STATE p) == 5

/-- Input `i` is enabled (R716, R717). -/
def State.inputEnabled (s : State) (i : Nat) : Bool :=
  s.power.vinMask.testBit i && !(i == 1 && s.feeding 0) && !(i == 2 && s.feeding 1)

/-- Input `i` is qualified. -/
def State.inputQual (s : State) (i : Nat) : Bool := s.bit F.PWR_IN_STATUS_QUAL i

/-- The priority of input `i` (R718). -/
def State.inputPrio (s : State) : Nat → Nat
  | 0 => s.get F.PWR_IN_PRIO_PD
  | 1 => s.get F.PWR_IN_PRIO_PL_A
  | 2 => s.get F.PWR_IN_PRIO_PL_B
  | _ => s.get F.PWR_IN_PRIO_DC

/-- The active input; 7 for none (R718): ties go in the order DC, PD, party-line A, party-line B. -/
def State.bestInput (s : State) : Nat :=
  ([3, 0, 1, 2].foldl (fun (m : Option Nat) i =>
    if s.inputEnabled i && s.inputQual i then
      match m with
      | none => some i
      | some j => if s.inputPrio j < s.inputPrio i then some i else some j
    else m) none).getD 7

/-- The input fields as the inputs stand: R717, R718, R725, R726, and block 36 (R746). -/
def State.syncInputs (s : State) : State :=
  let s := s.set F.PWR_IN_STATUS_ENABLED (bitsWhere 4 s.inputEnabled)
  let a := s.bestInput
  let s := if a = s.get F.PWR_IN_STATUS_ACTIVE then s
    else (s.set F.PWR_IN_STATUS_ACTIVE a).setB F.PWR_IRQ_INPUT true
  let s := s.setB F.PWR_PD_MPS (s.inputQual 0 && s.inputEnabled 0 && a != 0)
  let s := s.setB F.PWR_PD_SIG_INVALID (!s.inputEnabled 0 && a != 0 && a != 7)
  s.needDomain 36 (s.inputEnabled 0 && s.lineUp)

/-! ### The budget -/

/-- Power at the PD for each granted class, in 0.1 W (R727). -/
def pdPower : List Nat := [130, 38, 65, 130, 255, 400, 510, 620, 713]

/-- P_AVAIL in 0.1 W (R724, R727); a party-line product is rounded down. -/
def State.pAvail (s : State) : Nat :=
  match s.get F.PWR_IN_STATUS_ACTIVE with
  | 0 =>
    let w := pdPower.getD (s.get F.PWR_PD_GRANT_CLASS) 0
    if s.power.inrush then min w 255 else w
  | 1 => (s.get (F.LINE_MEAS_MV 0) - 2000) * s.get F.PWR_PL_SINK_ILIM_A * 25 / 100000
  | 2 => (s.get (F.LINE_MEAS_MV 1) - 2000) * s.get F.PWR_PL_SINK_ILIM_B * 25 / 100000
  | 3 => s.get F.PWR_DC_LIMIT_WATTS
  | _ => 0

/-- The node's own reservation (R728). -/
def State.ownReserve (s : State) : Nat :=
  s.get F.PWR_BUDGET_SELF + (if s.getB F.SYS_PERSONA_CAP_SPEAKER then 40 else 0)

/-- The node level (R789). -/
def State.nodeLevel (s : State) : Nat := s.get F.THERM_STATUS_NODE

/-- The current limit of port `p` in 25 mA units: R762, and at Hot R790. -/
def State.lineIlim (s : State) (p : Nat) : Nat :=
  let l := if s.getB (F.LINE_SRC_CFG_PASS_EN p) then s.get (F.LINE_SRC_CFG_ILIM p) else min 10 (s.get (F.LINE_SRC_CFG_ILIM p))
  if 2 ≤ s.nodeLevel then max 1 (l * s.get F.THERM_HOT_HOT_ILIM / 100) else l

/-- V_SET of port `p` in mV (R761). -/
def State.lineVset (s : State) (p : Nat) : Nat := 24000 + 100 * s.get (F.LINE_SRC_CFG_VOLTS p)

/-- The class allocations of a PSE port in 0.1 W (R781). -/
def pseAlloc : List Nat := [154, 40, 70, 154, 300]

/-- PSE port `n` beside its registers. -/
def State.psePort (s : State) (n : Nat) : PsePort := s.power.pse.getD n ⟨0, none, false, 0⟩

/-- PSE port `n` changed by `f`. -/
def State.updPse (s : State) (n : Nat) (f : PsePort → PsePort) : State :=
  { s with power := { s.power with pse := s.power.pse.set n (f (s.psePort n)) } }

/-- The state of PSE port `n`. -/
def State.pseState (s : State) (n : Nat) : Nat := s.get (F.PSE_STATUS_STATE n)

/-- The allocation that PSE port `n` asks for: its assigned class's, before classification that of MAX_CLASS (R781). -/
def State.pseWant (s : State) (n : Nat) : Nat :=
  if (s.psePort n).alloc = 0 then pseAlloc.getD (s.get (F.PSE_CFG_MAX_CLASS n)) 0 else (s.psePort n).alloc

/-- Port `p` may source, but for the grant of R730: its role, EN, level, latch, brown-out and the line die ("Starting to
source", R771). A LISTENING port counts, since its grant may be given before its listen ends (R765). -/
def State.mayLine (s : State) (p : Nat) : Bool :=
  (s.role p == 2 || s.role p == 3) && s.getB (F.LINE_SRC_CFG_EN p) && decide (s.nodeLevel < 3) &&
  !s.getB (F.LINE_RETRY_LATCHED p) && !s.power.brownout && s.lineUp && s.domOn (32 + p)

/-- PSE port `n` may run, but for the grant (R780); a port that is powered or powers up stays on down to R784's range. -/
def State.mayPse (s : State) (n : Nat) : Bool :=
  let mv := s.get F.PWR_VIN_MV
  s.getB F.SYS_PERSONA_CAP_PSE && s.getB (F.PSE_CFG_EN n) && decide (s.nodeLevel < 3) &&
  !s.getB (F.PSE_RETRY_LATCHED n) && !s.power.brownout && s.lineUp && s.domOn (34 + n) && s.pseState n != 9 &&
  (4 ≤ s.pseState n && s.pseState n ≤ 5 || (decide (44000 ≤ mv) && decide (mv ≤ 57000)))

/-- Output `o` is in service. -/
def State.inService (s : State) (o : Nat) : Bool := if o < 2 then s.mayLine o else s.mayPse (o - 2)

/-- The request of output `o` in 0.1 W, rounded up (R729). -/
def State.outRequest (s : State) (o : Nat) : Nat :=
  if !s.inService o then 0
  else if o < 2 then ((s.lineVset o / 100) * s.lineIlim o * 25 + 849) / 850
  else (s.pseWant (o - 2) * 100 + 94) / 95

/-- Output `o` is granted. -/
def State.granted (s : State) (o : Nat) : Bool := s.get (F.PWR_OUT_STATE o) == 1

/-- The own reservation plus the granted requests. -/
def State.reservedSum (s : State) : Nat :=
  s.ownReserve + ((List.range 4).filter s.granted).foldl (fun n o => n + s.outRequest o) 0

/-- Remember P_AVAIL and the request at which output `o` was turned away (R732). -/
def State.noteRefusal (s : State) (o : Nat) : State :=
  { s with power := { s.power with refusedAt := s.power.refusedAt.set o (s.pAvail, s.outRequest o) } }

/-- Consider the outputs of `os` in the order of R730: grant each that fits, deny the others. -/
def State.grantOutputs (s : State) (os : List Nat) : State :=
  (sortBy (fun a b => decide (s.get (F.PWR_OUT_PRIO b) < s.get (F.PWR_OUT_PRIO a)) ||
      (s.get (F.PWR_OUT_PRIO a) == s.get (F.PWR_OUT_PRIO b) && decide (a ≤ b))) os).foldl (fun s o =>
    if s.reservedSum + s.outRequest o ≤ s.pAvail then s.set (F.PWR_OUT_STATE o) 1
    else ((s.set (F.PWR_OUT_STATE o) 2).setB F.PWR_IRQ_DENIED true).noteRefusal o) s

/-- The granted output that R731 sheds first: the lowest PRIO, and the highest number of equals. -/
def State.firstShed (s : State) : Option Nat :=
  ((List.range 4).filter s.granted).foldl (fun m o => match m with
    | none => some o
    | some q => if s.get (F.PWR_OUT_PRIO o) ≤ s.get (F.PWR_OUT_PRIO q) then some o else some q) none

/-- Shed output `o` (R731); `counter` is the count that rises: SHEDS, or OVERLOADS for a shed of R733. -/
def State.shedOutput (s : State) (o : Nat) (counter : Fld) : State :=
  let s := (s.noteRefusal o).set (F.PWR_OUT_STATE o) 3
  ((s.inc counter).setB F.PWR_IRQ_SHED true).ev .shed 1 o s.pAvail 0

/-- Shed until the sum fits; `n` outputs at most (R731). -/
def State.shedLoop (s : State) : Nat → State
  | 0 => s
  | n + 1 =>
    if s.reservedSum ≤ s.pAvail then s
    else match s.firstShed with
      | none => s
      | some o => (s.shedOutput o F.PWR_CNT_SHEDS).shedLoop n

/-! ### Line ports -/

/-- STATE of port `p` becomes `v`; unbroken sourcing is timed from its start (R775). -/
def State.setLine (s : State) (p v : Nat) : State :=
  let s := s.set (F.LINE_STATUS_STATE p) v
  { s with power := { s.power with
      sourcingAt := s.power.sourcingAt.set p
        (if v = 5 then some ((s.power.sourcingAt.getD p none).getD s.stride) else none) } }

/-- STATE of port `p` as its role, latch, permission and grant stand (R771, R772, R776). A retry wait outlasts a loss of
the line die. -/
def State.syncLine (s : State) (p : Nat) : State :=
  let st := s.get (F.LINE_STATUS_STATE p)
  if s.role p ≠ 2 then (if st = 0 then s else s.setLine p 0)
  else if s.getB (F.LINE_RETRY_LATCHED p) then (if st = 7 then s else s.setLine p 7)
  else if st = 6 ∧ !s.lineUp then s
  else if !s.mayLine p ∨ s.get (F.PWR_OUT_STATE p) = 3 then (if st = 8 then s else s.setLine p 8)
  else if st = 0 ∨ st = 7 ∨ st = 8 then s.setLine p 1 else s

/-- HOT_LIMIT, HEADROOM and IN_LIMIT of port `p` (R763, R790). -/
def State.showLine (s : State) (p : Nat) : State :=
  let i := s.get (F.LINE_SRC_CFG_ILIM p)
  let need4 := if s.getB (F.LINE_SRC_CFG_PASS_EN p) then 4 * (s.lineVset p + 2000) + 5 * i else 4 * (s.lineVset p + 3000)
  let s := s.setB (F.LINE_STATUS_HOT_LIMIT p) (s.role p == 2 && decide (2 ≤ s.nodeLevel))
  let s := s.setB (F.LINE_STATUS_HEADROOM p) (s.feeding p && decide (4 * s.get F.PWR_VIN_MV < need4))
  s.setB (F.LINE_STATUS_IN_LIMIT p)
    (s.feeding p && decide (((s.lineIlim p * 25 : Nat) : Int) ≤ s.getI (F.LINE_MEAS_MA p)))

/-! ### PSE ports -/

/-- The PSE budget now applied (R786). -/
def State.pseBudget (s : State) : Nat :=
  if 2 ≤ s.nodeLevel then s.get F.PSE_BUDGET_WATTS / 2 else s.get F.PSE_BUDGET_WATTS

/-- The allocations of the powered and classified ports (R786). -/
def State.pseSum (s : State) : Nat :=
  ((List.range 2).filter (fun n => s.pseState n == 4 || s.pseState n == 5)).foldl (fun v n => v + s.pseWant n) 0

/-- STATE of PSE port `n` becomes `v`; leaving power forgets the assigned class's request. -/
def State.setPse (s : State) (n v : Nat) : State :=
  (s.set (F.PSE_STATUS_STATE n) v).updPse n (fun q => { q with
    poweredAt := if v = 5 then some (q.poweredAt.getD s.stride) else none
    alloc := if v = 0 ∨ v = 2 ∨ v = 6 ∨ v = 7 ∨ v = 8 ∨ v = 9 then 0 else q.alloc })

/-- PSE port `n` as R780 and its grant stand: off, waiting for its grant or for the PSE budget, or starting detection. -/
def State.syncPse (s : State) (n : Nat) : State :=
  let st := s.pseState n
  if s.getB (F.PSE_RETRY_LATCHED n) then (if st = 7 then s else s.setPse n 7)
  else if st = 9 ∧ s.getB (F.PSE_CFG_EN n) ∧ s.lineUp then s
  else if !s.mayPse n then (if st = 0 then s else s.setPse n 0)
  else if !s.granted (n + 2) then (if st = 1 then s else (s.setPse n 1).updPse n (fun q => { q with alloc := 0 }))
  else if st = 0 ∨ st = 7 then (if (s.psePort n).wait = 0 then s.setPse n 2 else s)
  else if st = 1 then
    (if (s.psePort n).alloc = 0 then s.setPse n 2
     else if s.pseSum + s.pseWant n ≤ s.pseBudget then s.setPse n 4 else s)
  else s

/-- Turn powered PSE ports off in the order of R731 until the budget of R786 holds. -/
def State.pseFit (s : State) : Nat → State
  | 0 => s
  | k + 1 =>
    if s.pseSum ≤ s.pseBudget then s
    else
      let on := (List.range 2).filter (fun n => s.pseState n == 4 || s.pseState n == 5)
      match on.foldl (fun (m : Option Nat) n => match m with
          | none => some n
          | some q => if s.get (F.PWR_OUT_PRIO (n + 2)) ≤ s.get (F.PWR_OUT_PRIO (q + 2)) then some n else some q) none with
      | none => s
      | some n => ((s.setPse n 9).set (F.PWR_OUT_STATE (n + 2)) 0).pseFit k

/-! ### Everything that follows a change -/

/-- An output that is out of service holds no grant (R729, R730). -/
def State.releaseGrants (s : State) : State :=
  (List.range 4).foldl (fun s o => if s.inService o then s else s.set (F.PWR_OUT_STATE o) 0) s

/-- The ports and outputs settled once. -/
def State.settlePower (s : State) : State :=
  let s := s.releaseGrants
  let s := (s.syncLine 0).syncLine 1
  let s := (s.syncPse 0).syncPse 1
  s.pseFit 2

/-- What follows within 1 ms of any change to inputs, roles, requests, levels or grants: the active input, sourcing and
PSE ports, the shed of R731, switches, suspension and the speaker, and the registers that report them. -/
def State.syncPower (s : State) : State :=
  let s := s.syncInputs
  let s := (List.range 2).foldl (fun s n =>
    s.needDomain (34 + n) (s.getB F.SYS_PERSONA_CAP_PSE && (s.getB (F.PSE_CFG_EN n) || s.power.psePorts.testBit n) && s.lineUp)) s
  let s := (List.range 2).foldl (fun s p => s.needDomain (32 + p) (s.role p != 0 && s.lineUp)) s
  let s := s.settlePower
  let s := (s.shedLoop 4).settlePower
  let s := s.syncInputs
  let s := (s.showLine 0).showLine 1
  let s := (List.range 4).foldl (fun s o => s.set (F.PWR_OUT_REQ o) (min 65535 (s.outRequest o))) s
  let s := (s.set F.PWR_BUDGET_AVAIL s.pAvail).set F.PWR_RESERVED_RESERVED (min 65535 s.reservedSum)
  let s := s.set F.PSE_BUDGET_EFFECTIVE s.pseBudget
  (s.syncSwitches.syncSuspend).syncSpeaker

/-! ### Roles -/

/-- The resolved role of port `p` becomes `r` (0 OFF, 1 SINK, 2 SOURCE, 3 LISTENING): calls end (R468), bound echo
cancellers clear their taps (R295), the drive impedance returns to 200 Ω (R233), a balance ends with ABORTED (R270), and
a resolution to SINK or SOURCE starts the wait of an automatic balance (R243). -/
def State.setRole (s : State) (p r : Nat) : State :=
  if s.role p = r then s
  else
    let s := (s.portCallsEnd p).set (roleField p) r
    let s := [2 * p, 2 * p + 1].foldl (fun s c =>
      let s := if s.getB (F.HYB_BAL_STATUS_BUSY c) then s.balAbort c 3 else s
      let s := (s.clearBound c).resetDrive c
      if r = 1 ∨ r = 2 then
        { s with line := { s.line with resolvedAt := s.line.resolvedAt.set c (some s.stride) } }
      else { s with line := { s.line with resolvedAt := s.line.resolvedAt.set c none } }) s
    s.syncPower

/-- The latch and the retries of port `p` cleared (R776). -/
def State.clearLatch (s : State) (p : Nat) : State :=
  (s.setB (F.LINE_RETRY_LATCHED p) false).set (F.LINE_RETRY_RETRIES p) 0

/-- Port `p` listens: its calls end (R468) and its role reads LISTENING until the listen ends. -/
def State.listen (s : State) (p : Nat) : State := (s.portCallsEnd p).setRole p 3

/-- A full load gives port `p` the role code `c` (R34, R37, R776). `first`: the load is the first after a reset. -/
def State.setRoleCode (s : State) (p c : Nat) (first : Bool) : State :=
  if s.roleCode p = c ∧ !first then s
  else
    let s := if s.roleCode p = c then s else s.clearLatch p
    let s := { s with line := { s.line with codes := if p = 0 then (c, s.line.codes.2) else (s.line.codes.1, c) } }
    let s := if c = 0 then s else if s.domOn (32 + p) then s else s.setBit F.PWR_LINE_ON_ON p true
    if c = 3 then s.listen p else s.setRole p c

/-- Record a listen that found the line powered (R766). -/
def State.alreadyPowered (s : State) (p mv : Nat) : State :=
  ((s.setB (F.LINE_FAULT_ALREADY_POWERED p) true).setB F.LINE_IRQ_SRC_FAULT true).ev .lineAlreadyPowered (32 + p) p mv 0

/-- Port `p`'s party-line input is the only qualified input (R759). -/
def State.onlyInput (s : State) (p : Nat) : Bool := s.get F.PWR_IN_STATUS_QUAL == 2 ^ (1 + p)

/-- Soft start of port `p` begins (step 3 of R765). -/
def State.softStart (s : State) (p : Nat) : State := (s.setLine p 4).syncPower

/-- Execute AUTO_LISTEN_END: above 8 V the AUTO port is SINK, else SOURCE, whose soft start follows at once where its
sourcing is permitted and granted (R37, R759, R765). -/
def execAutoListenEnd (p : Fin 2) (maxMv : Nat) (s : State) : Host.Outcome State Fault Refusal :=
  s.done (if s.role p ≠ 3 ∨ s.roleCode p ≠ 3 ∨ !s.lineUp then s
  else if 8000 < maxMv ∨ s.onlyInput p then s.setRole p 1
  else
    let s := s.setRole p 2
    if s.mayLine p && s.granted p then s.softStart p else s)

/-- Execute AUTO_RELISTEN: a SINK-resolved AUTO port below 8 V for 1 s listens again (R39). -/
def execAutoRelisten (p : Fin 2) (mv ms : Nat) (s : State) : Host.Outcome State Fault Refusal :=
  s.done (if s.role p = 1 ∧ s.roleCode p = 3 ∧ mv < 8000 ∧ 1000 ≤ ms ∧ s.lineUp then s.listen p else s)

/-! ### Inputs qualify -/

/-- Execute INPUT_QUALIFY (R715, R718); the PD's inrush limit of R724 begins with its switch fully on. -/
def execInputQualify (i : Fin 4) (mv ms : Nat) (s : State) : Host.Outcome State Fault Refusal :=
  let ok := match i.val with
    | 0 => decide (31000 ≤ mv) && decide (mv ≤ 57500)
    | 3 => decide (9500 < mv) && decide (mv ≤ 61000) && decide (10 ≤ ms)
    | _ => decide (17000 < mv) && decide (mv ≤ 35000) && decide (10 ≤ ms)
  s.done (if ok && !s.inputQual i then
    let s := s.setBit F.PWR_IN_STATUS_QUAL i true
    let s := if i.val = 0 then { s with power := { s.power with inrush := true } } else s
    s.syncPower
  else s)

/-- Execute INPUT_DISQUALIFY (R715, R718). -/
def execInputDisqualify (i : Fin 4) (mv : Nat) (s : State) : Host.Outcome State Fault Refusal :=
  let out := match i.val with
    | 0 => decide (mv < 31000) || decide (57500 < mv)
    | 3 => decide (mv < 8000) || decide (61000 < mv)
    | _ => decide (mv < 16000) || decide (35000 < mv)
  s.done (if out && s.inputQual i then (s.setBit F.PWR_IN_STATUS_QUAL i false).syncPower else s)

/-- Execute PD_CLASSIFY: the requested and granted classes; a grant below the request sets DEMOTED (R722, R723). -/
def execPdClassify (req grant : Fin 9) (s : State) : Host.Outcome State Fault Refusal :=
  let demoted := decide (pdPower.getD grant 0 < pdPower.getD req 0)
  let s0 := s
  s0.done (
    let s := (s.set F.PWR_PD_REQ_CLASS req).set F.PWR_PD_GRANT_CLASS grant
    let s := { s with power := { s.power with pdReq := req } }
    let s := s.setB F.PWR_PD_DEMOTED demoted
    (if demoted then s.setB F.PWR_IRQ_PD_CLASS true else s).syncPower)

/-- Execute PD_INRUSH_END: 80 ms after the switch is fully on (R724). -/
def execPdInrushEnd (ms : Nat) (s : State) : Host.Outcome State Fault Refusal :=
  s.done (if s.power.inrush ∧ 80 ≤ ms then ({ s with power := { s.power with inrush := false } }).syncPower else s)

/-! ### Grants -/

/-- Execute OUTPUT_REQUEST: the outputs about to start are granted or denied in the order of R730. -/
def execOutputRequest (outs : List (Fin 4)) (s : State) : Host.Outcome State Fault Refusal :=
  s.done ((s.grantOutputs ((List.range 4).filter (fun o =>
    outs.any (fun q => q.val = o) && s.inService o && s.get (F.PWR_OUT_STATE o) == 0))).syncPower)

/-- Execute BUDGET_SHED (R731). -/
def execBudgetShed (s : State) : Host.Outcome State Fault Refusal := s.done s.syncPower

/-- Output `o` is to be considered again after `steadyMs` of an unchanged P_AVAIL (R732, R751): P_AVAIL has risen since
it was turned away, or its request has fallen; an output that a brown-out turned off asks again. -/
def State.reconsider (s : State) (steadyMs o : Nat) : Bool :=
  let st := s.get (F.PWR_OUT_STATE o)
  let r := s.power.refusedAt.getD o (0, 0)
  s.inService o && ((st == 0 && decide (1000 ≤ steadyMs)) ||
    ((st == 2 || st == 3) && ((decide (r.1 < s.pAvail) && decide (1000 ≤ steadyMs)) || decide (s.outRequest o < r.2))))

/-- Execute BUDGET_RECHECK (R732). -/
def execBudgetRecheck (steadyMs : Nat) (s : State) : Host.Outcome State Fault Refusal :=
  s.done ((s.grantOutputs ((List.range 4).filter (s.reconsider steadyMs))).syncPower)

/-- Execute INPUT_OVERLOAD: above P_AVAIL for 100 ms the first granted output in the order of R731 is shed and OVERLOADS
counts it; with none left, OVERLOAD is set (R733). -/
def execInputOverload (watts ms : Nat) (s : State) : Host.Outcome State Fault Refusal :=
  s.done (if s.pAvail < watts ∧ 100 ≤ ms then
    match s.firstShed with
    | some o => (s.shedOutput o F.PWR_CNT_OVERLOADS).syncPower
    | none => s.setB F.PWR_IRQ_OVERLOAD true
  else s)

/-! ### Rails -/

/-- Execute VIN_VALID: the rails rise and the supply monitor releases reset (R737); after three failed tries nothing
happens until VIN has been lost (R738). -/
def execVinValid (mv : Nat) (self : Bool) (s : State) : Host.Outcome State Fault Refusal :=
  s.done (if 9500 ≤ mv ∧ s.get F.PWR_IN_STATUS_ACTIVE ≠ 7 ∧ s.power.railTries < 3 then
    let s := s.setB F.PWR_RAILS_SELF self
    let s := { s with power := { s.power with vinLost := false } }
    if self then
      let s := s.set F.PWR_RAILS_GOOD 0x3F
      { s with power := { s.power with railsStopped := false, resetHeld := false } }
    else s
  else s)

/-- Execute RAIL_TIMEOUT: every rail but VDD_AON goes off, and the third failed try records the rail (R738). -/
def execRailTimeout (r : Fin 6) (ms : Nat) (s : State) : Host.Outcome State Fault Refusal :=
  s.done (if s.getB F.PWR_RAILS_SELF ∧ 10 ≤ ms ∧ s.power.railTries < 3 then
    let n := s.power.railTries + 1
    let s := s.set F.PWR_RAILS_GOOD (s.get F.PWR_RAILS_GOOD % 2)
    let s := { s with power := { s.power with railTries := n, railsStopped := true, resetHeld := true } }
    if n = 3 then s.set F.PWR_AON_STATUS_RAIL_FAULT (1 + r) else s
  else s)

/-- Execute RAIL_RETRY: 100 ms later the sequence starts again (R738). -/
def execRailRetry (ms : Nat) (s : State) : Host.Outcome State Fault Refusal :=
  s.done (if s.power.railsStopped ∧ 100 ≤ ms ∧ s.power.railTries < 3 then
    { s with power := { s.power with railsStopped := false } } else s)

/-- Execute SEQ_VIOLATION: the supply monitor holds reset; the first broken rule is the one recorded (R743). -/
def execSeqViolation (r : Fin 5) (s : State) : Host.Outcome State Fault Refusal :=
  s.done (if s.getB F.PWR_RAILS_SELF ∨ s.power.resetHeld then s
  else { s with power := { s.power with resetHeld := true, seqBroken := r + 1 } })

/-- Execute SEQ_LEGAL: SEQ_FAULT and SEQ_RULE are recorded, and reset is released (R743, R22). -/
def execSeqLegal (s : State) : Host.Outcome State Fault Refusal :=
  s.done (if !s.getB F.PWR_RAILS_SELF && s.power.resetHeld && s.power.seqBroken != 0 then
    let s := (s.setB F.PWR_AON_STATUS_SEQ_FAULT true).set F.PWR_AON_STATUS_SEQ_RULE s.power.seqBroken
    { s with power := { s.power with resetHeld := false } }
  else s)

/-- What a stall measured over a stride, for R740: more than 5 % below its setpoint, and within 2 % of it. -/
def State.avsMeas (s : State) (n : Nat) : Bool × Bool :=
  let m := 2 * s.get (F.FAB_STALL_CLK_MEASURED n)
  let p := 10 * s.get (F.FAB_STALL_CLK_SETPOINT n)
  (decide (m * 100 < p * 95), decide (m * 100 ≤ p * 102) && decide (p * 98 ≤ m * 100))

/-- The counts of R740 over one stride. -/
def State.avsStride (s : State) : State :=
  { s with power := { s.power with
      avsLow := s.fab.stalls.filterMap (fun t =>
        if (s.avsMeas t.n).1 then some (t.n, min 8 ((s.power.avsLow.lookup t.n).getD 0 + 1)) else none)
      avsGood := if s.fab.stalls.all (fun t => (s.avsMeas t.n).2) then min 8000 (s.power.avsGood + 1) else 0 } }

/-- PWR_CORE.SETPOINT with AVS_EN 0 (R740, R741). -/
def State.avsWritten (s : State) : State :=
  if s.getB F.PWR_CORE_AVS_EN then s else s.set F.PWR_CORE_SETPOINT 800

/-- Execute AVS_ADJUST: a 10 mV step up or down within 0.65–0.85 V, at most once per millisecond (R740). -/
def execAvsAdjust (ms : Nat) (s : State) : Host.Outcome State Fault Refusal :=
  let v := s.get F.PWR_CORE_SETPOINT
  s.done (if !s.getB F.PWR_RAILS_SELF || !s.getB F.PWR_CORE_AVS_EN || ms == 0 then s
  else if s.power.avsLow.any (fun q => decide (8 ≤ q.2)) then s.set F.PWR_CORE_SETPOINT (max v (min 850 (v + 10)))
  else if 8000 ≤ s.power.avsGood then
    { s.set F.PWR_CORE_SETPOINT (min v (max 650 (v - 10))) with power := { s.power with avsGood := 0 } }
  else s)

/-! ### Domains -/

/-- Execute APP_SLEEP: allowed, both ring ports and MAC C disabled, and no panel input change for 10 s (R747). -/
def execAppSleep (s : State) : Host.Outcome State Fault Refusal :=
  s.done (if s.getB F.PWR_CFG_APP_SLEEP && !s.domOn 5 && !s.domOn 6 && !s.domOn 7 &&
      decide (s.power.panelAt + 80000 ≤ s.stride) then s.dropDomain 3 else s)

/-- Execute APP_WAKE (R747). -/
def execAppWake (s : State) : Host.Outcome State Fault Refusal := s.done (s.requestDomain 3)

/-- A host write wakes the application core (R747). -/
def State.hostWakes (s : State) : State := s.requestDomain 3

/-- The least power-up latency of a domain or block in µs (R745, R746); a stall group takes at most 1 ms (R154). -/
def powerUpUs (d : Nat) : Nat :=
  if d = 3 then 300 else if d = 13 ∨ d = 36 then 500 else if 14 ≤ d ∧ d < 30 then 0 else if d < 32 then 200
  else if d < 34 then 2000 else 1000

/-- Execute DOMAIN_POWER_UP_DONE: the first domain or block of the queue answers once its own latency has passed (R745,
R746, R748). -/
def execDomainPowerUpDone (us : Nat) (s : State) : Host.Outcome State Fault Refusal :=
  s.done (match s.power.upQueue with
  | [] => s
  | d :: rest =>
    if us < powerUpUs d then s
    else
      let s := { s with power := { s.power with upQueue := rest } }
      let s := if d < 32 then s.setBit F.PWR_DOM_ON_ON d true else s.setBit F.PWR_LINE_ON_ON (d - 32) true
      let s := if d = 9 then s.wakeSync else s
      let s := if 14 ≤ d ∧ d < 30 then s.setBit F.FAB_GROUP_PWR_ON (d - 14) true else s
      s.syncPower)

/-! ### Brown-out, loss of VIN, the tether link -/

/-- Execute BROWNOUT_WARNING: below 9.0 V for 10 µs sourcing outputs and the speaker go off and a POWER_FAIL record is
written, but for one under a sequence violation (R749, "When a brown-out warning comes during a sequence violation"). -/
def execBrownoutWarning (mv us : Nat) (s : State) : Host.Outcome State Fault Refusal :=
  s.done (if mv < 9000 ∧ 10 ≤ us ∧ !s.power.brownout then
    if s.power.resetHeld then s.setB F.PWR_AON_STATUS_BROWNOUT true
    else
      let s := (s.setB F.PWR_AON_STATUS_BROWNOUT true).setB F.PWR_IRQ_BROWNOUT true
      let s := (s.inc F.PWR_BROWNOUT_COUNT).set F.PWR_BROWNOUT_VIN_MIN (mv / 10)
      let s := (s.set F.PWR_VIN_MV mv).journalPowerFail mv
      ({ s with power := { s.power with brownout := true } }).syncPower
  else s)

/-- Execute BROWNOUT_END: above 9.5 V for 20 ms (R751). -/
def execBrownoutEnd (mv ms : Nat) (s : State) : Host.Outcome State Fault Refusal :=
  s.done (if s.power.brownout ∧ 9500 < mv ∧ 20 ≤ ms then
    ({ s.set F.PWR_VIN_MV mv with power := { s.power with brownout := false } }).syncPower else s)

/-- The line die's reset state: switches, terminations, sourcing, PSE, lamps, amplifiers and DC call generation off
(R755). -/
def State.lineDieReset (s : State) : State :=
  let s := { s with power := { s.power with
    lineReset := true, upQueue := s.power.upQueue.filter (fun d => decide (d < 32)) } }
  let s := s.set F.PWR_LINE_ON_ON 0
  let s := (List.range 4).foldl (fun s c => if s.generating c then s.stopGen c else s) s
  (s.syncPower).stepLamps

/-- The line die cannot leave its reset state: the tether link is down, VIN is lost, or it is too hot (R736, R755, R792). -/
def State.lineHeld (s : State) : Bool := s.getB F.PWR_TETHER_LOST || s.getB F.THERM_STATUS_SHUTDOWN || s.power.vinLost

/-- The steward reconfigures the line die: blocks on, and AUTO ports listen, but for one in its retry wait, which starts again
in full (R37, R757, step 8 of R91, "When the tether link drops during a retry wait"). -/
def State.reconfigure (s : State) : State :=
  if s.lineHeld then s else
  let s := { s with power := { s.power with lineReset := false } }
  let s := s.set F.PWR_LINE_ON_ON
    ((if s.roleCode 0 = 0 then 0 else 1) + (if s.roleCode 1 = 0 then 0 else 2) +
     (if s.getB F.SYS_PERSONA_CAP_PSE && (s.getB (F.PSE_CFG_EN 0) || s.power.psePorts.testBit 0) then 4 else 0) +
     (if s.getB F.SYS_PERSONA_CAP_PSE && (s.getB (F.PSE_CFG_EN 1) || s.power.psePorts.testBit 1) then 8 else 0) +
     (if s.inputEnabled 0 then 16 else 0))
  let s := (List.range 2).foldl (fun s p => if s.roleCode p = 3 ∧ s.get (F.LINE_STATUS_STATE p) ≠ 6 then s.listen p else s) s
  (s.syncPower).stepLamps

/-- Execute VIN_LOSS: below 7.5 V for 5 µs the line die resets and its regulators stop; in self-supplied mode the logic
die loses its supply (R739, R752), and the retries of R738 start anew. -/
def execVinLoss (mv us : Nat) (s : State) : Host.Outcome State Fault Refusal :=
  s.done (if mv < 7500 ∧ 5 ≤ us then
    let self := s.getB F.PWR_RAILS_SELF
    let s := { s with power := { s.power with
      vinLost := true, railTries := 0, railsStopped := false, resetHeld := s.power.resetHeld || self } }
    let s := if self then s.set F.PWR_RAILS_GOOD 0 else s
    (s.set F.PWR_VIN_MV mv).lineDieReset
  else s)

/-- Execute TETHER_LOSS: 16 µs without a valid frame, or 8 bad CRCs in a row; the line die resets, and the eighth loss
within 60 s ends retraining (R754–R756, R758). -/
def execTetherLoss (us crc : Nat) (s : State) : Host.Outcome State Fault Refusal :=
  s.done (if (16 ≤ us ∨ 8 ≤ crc) ∧ !s.getB F.PWR_TETHER_LOST then
    let at_ := s.stride :: s.power.tetherAt.filter (fun k => decide (s.stride < k + 480000))
    let s := { s with power := { s.power with tetherAt := at_ } }
    let s := (s.setB F.PWR_TETHER_LOST true).setB F.PWR_IRQ_TETHER true
    let s := if 8 ≤ at_.length then s.setB F.PWR_TETHER_FAILED true else s
    (s.ev .tetherLost 1 (s.get F.PWR_TETHER_LOSSES) 0 0).lineDieReset
  else s)

/-- Execute TETHER_RETRAIN (R757). -/
def execTetherRetrain (s : State) : Host.Outcome State Fault Refusal :=
  s.done (if s.getB F.PWR_TETHER_LOST && !s.getB F.PWR_TETHER_FAILED then
    ((s.setB F.PWR_TETHER_LOST false).inc F.PWR_TETHER_LOSSES).reconfigure else s)

/-! ### Sourcing -/

/-- Execute SOURCE_START: sourcing permitted and granted, the port listens (steps 1 and 2 of R765). -/
def execSourceStart (p : Fin 2) (s : State) : Host.Outcome State Fault Refusal :=
  s.done (if s.role p = 2 ∧ s.get (F.LINE_STATUS_STATE p) = 1 ∧ s.mayLine p ∧ s.granted p then
    (s.portCallsEnd p).setLine p 2 else s)

/-- The end of a listen of port `p` that may start to source (step 3 of R765): on a line that is powered an AUTO port resolves
to SINK, and a port in the SOURCE role records it (R766). -/
def State.listenEnd (s : State) (p maxMv : Nat) : State :=
  if maxMv ≤ 8000 then s.softStart p
  else if s.roleCode p = 3 then s.setRole p 1
  else ((s.alreadyPowered p maxMv).setLine p 3).syncPower

/-- Execute SOURCE_LISTEN_END (R765, R766). -/
def execSourceListenEnd (p : Fin 2) (maxMv : Nat) (s : State) : Host.Outcome State Fault Refusal :=
  s.done (if s.get (F.LINE_STATUS_STATE p) = 2 then s.listenEnd p maxMv else s)

/-- Execute ALREADY_POWERED_RELISTEN (R766). -/
def execAlreadyPoweredRelisten (p : Fin 2) (maxMv : Nat) (s : State) : Host.Outcome State Fault Refusal :=
  s.done (if s.get (F.LINE_STATUS_STATE p) = 3 then s.listenEnd p maxMv else s)

/-- A wait of 5.000–15.000 s in 1 ms steps (R773). -/
def State.drawWait (s : State) (p : Nat) : State :=
  let r := s.freeNat
  let w := 5000 + r.1 % 10001
  { r.2 with power := { s.power with waitMs := if p = 0 then (w, s.power.waitMs.2) else (s.power.waitMs.1, w) } }

/-- An OVERLOAD, or a CONTENTION, of port `p`: sourcing stops, the fault is recorded and counted, and the port waits or
latches (R768–R774). -/
def State.lineFault (s : State) (p : Nat) (contention : Bool) : State :=
  let s := if contention then
      ((s.setB (F.LINE_FAULT_CONTENTION p) true).inc (F.LINE_FAULT_CNT_CONTENTION p)).ev .contention (32 + p) p 0 0
    else ((s.setB (F.LINE_FAULT_OVERLOAD p) true).inc (F.LINE_FAULT_CNT_OVERLOAD p)).ev .overload (32 + p) p 0 0
  let s := s.setB F.LINE_IRQ_SRC_FAULT true
  if s.get (F.LINE_RETRY_RETRIES p) = 8 then
    let s := (s.setB (F.LINE_RETRY_LATCHED p) true).setB F.LINE_IRQ_LATCHED true
    (s.ev .lineLatched (32 + p) p 0 0).syncPower
  else ((s.setLine p 6).drawWait p).syncPower

/-- Execute SOFT_START_DONE: within 5 % of V_SET, at most 60 ms after step 3; the switches close at the next boundary
(R765). -/
def execSoftStartDone (p : Fin 2) (mv vin ms : Nat) (s : State) : Host.Outcome State Fault Refusal :=
  let v := s.lineVset p
  s.done (if s.get (F.LINE_STATUS_STATE p) = 4 ∧ 95 * v ≤ 100 * mv ∧ 100 * mv ≤ 105 * v ∧ ms ≤ 60 then
    ((s.set F.PWR_VIN_MV vin).setLine p 5).syncPower else s)

/-- Execute SOFT_START_TIMEOUT: short of 95 % of V_SET after 60 ms, the start ends as an OVERLOAD (R765). -/
def execSoftStartTimeout (p : Fin 2) (mv ms : Nat) (s : State) : Host.Outcome State Fault Refusal :=
  s.done (if s.get (F.LINE_STATUS_STATE p) = 4 ∧ 100 * mv < 95 * s.lineVset p ∧ 60 ≤ ms then s.lineFault p false else s)

/-- Execute LINE_OVERLOAD: at the limit for 10 ms, or below 12.0 V for 1 ms, while sourcing (R768). -/
def execLineOverload (p : Fin 2) (limitMs lowMs : Nat) (s : State) : Host.Outcome State Fault Refusal :=
  s.done (if s.sourcing p ∧ (10 ≤ limitMs ∨ 1 ≤ lowMs) then s.lineFault p false else s)

/-- Execute LINE_CONTENTION: more than 50 mA into the port for 2 ms, from step 3 on (R765, R769). -/
def execLineContention (p : Fin 2) (ma ms : Nat) (s : State) : Host.Outcome State Fault Refusal :=
  s.done (if s.feeding p ∧ 50 < ma ∧ 2 ≤ ms then s.lineFault p true else s)

/-- An AUTO port resolves again to the role it has: an automatic balance of its channels waits its second anew (R38, R243). -/
def State.resolvedAgain (s : State) (p : Nat) : State :=
  if s.roleCode p = 3 then
    { s with line := { s.line with
        resolvedAt := (s.line.resolvedAt.set (2 * p) (some s.stride)).set (2 * p + 1) (some s.stride) } }
  else s

/-- Execute RETRY_WAIT_END: an AUTO port resolves by the listen; a port that goes on to start counts a retry (R38, R40,
R773, R774). -/
def execRetryWaitEnd (p : Fin 2) (ms maxMv : Nat) (s : State) : Host.Outcome State Fault Refusal :=
  let wait := if p.val = 0 then s.power.waitMs.1 else s.power.waitMs.2
  s.done (if s.get (F.LINE_STATUS_STATE p) ≠ 6 ∨ ms < wait ∨ !s.mayLine p then s
  else if s.roleCode p = 3 ∧ (8000 < maxMv ∨ s.onlyInput p) then s.setRole p 1
  else if 8000 < maxMv then s.listenEnd p maxMv
  else if s.granted p then ((s.resolvedAgain p).incSat (F.LINE_RETRY_RETRIES p)).softStart p
  else ((s.resolvedAgain p).setLine p 1).syncPower)

/-- Execute RETRY_RESET: 600 s of unbroken sourcing (R775). -/
def execRetryReset (p : Fin 2) (s : State) : Host.Outcome State Fault Refusal :=
  s.done (match s.power.sourcingAt.getD p none with
  | none => s
  | some k => if s.sourcing p ∧ k + 4800000 ≤ s.stride then s.set (F.LINE_RETRY_RETRIES p) 0 else s)

/-- CLEAR of LINE_x_RETRY written 1 (R776). -/
def State.lineLatchCleared (s : State) (p : Nat) : State :=
  if s.getB (F.LINE_RETRY_LATCHED p) then (s.clearLatch p).syncPower else s

/-! ### Shorts to supply -/

/-- The pin of a LINE_SHORT bit is monitored: its port block or four-wire pair is on (R777). -/
def State.pinOn (s : State) (pin : Nat) : Bool :=
  s.lineUp && (if pin < 2 then s.domOn (32 + pin) else s.bit F.CONV_FW_CFG_EN ((pin - 2) % 4))

/-- Execute SHORT_TO_SUPPLY_BEGIN: above 15.0 V for 10 ms (R777, R778). -/
def execShortToSupplyBegin (pin : Fin 10) (mv ms : Nat) (s : State) : Host.Outcome State Fault Refusal :=
  s.done (if s.pinOn pin ∧ 15000 < mv ∧ 10 ≤ ms ∧ !s.bit F.LINE_SHORT_NOW pin then
    let s := ((s.setBit F.LINE_SHORT_NOW pin true).setBit F.LINE_SHORT_SEEN pin true).setB F.LINE_IRQ_SHORT true
    let s := { s with line := { s.line with
      shortHold := putBit s.line.shortHold pin true, shortDone := putBit s.line.shortDone pin false } }
    let s := s.ev .shortToSupply (if pin.val < 2 then 32 + pin else 13) pin 0 0
    let c := 2 * pin.val + 1
    let s := if pin.val < 2 && s.generating c then s.stopGen c else s
    s.syncPower
  else s)

/-- Execute SHORT_TO_SUPPLY_END: at or below 12.0 V for 10 ms (R777); the pin's hold goes on for 1 s (R779). -/
def execShortToSupplyEnd (pin : Fin 10) (mv ms : Nat) (s : State) : Host.Outcome State Fault Refusal :=
  s.done (if s.bit F.LINE_SHORT_NOW pin ∧ mv ≤ 12000 ∧ 10 ≤ ms then s.setBit F.LINE_SHORT_NOW pin false else s)

/-- Execute SHORT_RECOVER: 1 s after the end, the switch may close at the next boundary and detection resumes (R779). -/
def execShortRecover (pin : Fin 10) (ms : Nat) (s : State) : Host.Outcome State Fault Refusal :=
  s.done (if s.line.shortHold.testBit pin ∧ !s.bit F.LINE_SHORT_NOW pin ∧ 1000 ≤ ms then
    { s with line := { s.line with shortDone := putBit s.line.shortDone pin true } } else s)

/-- A boundary ends the holds that are over (R779). -/
def State.releaseShorts (s : State) : State :=
  if s.line.shortDone = 0 then s
  else
    ({ s with line := { s.line with
        shortHold := bitsWhere 10 (fun n => s.line.shortHold.testBit n && !s.line.shortDone.testBit n)
        shortDone := 0 } }).syncSuspend

/-! ### PSE ports at work -/

/-- PSE port `n` waits `ms` in STATE `v` before it returns to its step. -/
def State.pseWait (s : State) (n v ms : Nat) : State :=
  (s.setPse n v).updPse n (fun q => { q with wait := ms })

/-- A fault of R785 at PSE port `n`: it waits 1.0 s, and the eighth in a row latches it. -/
def State.pseFaulted (s : State) (n : Nat) (f : Fld) : State :=
  let s := (s.setB f true).setB F.LINE_IRQ_PSE_FAULT true
  let long := match (s.psePort n).poweredAt with
    | some k => decide (k + 4800000 ≤ s.stride)
    | none => false
  let s := s.set (F.PSE_RETRY_FAULTS n) (if long then 1 else min 8 (s.get (F.PSE_RETRY_FAULTS n) + 1))
  if s.get (F.PSE_RETRY_FAULTS n) = 8 then
    let s := (s.setB (F.PSE_RETRY_LATCHED n) true).setB F.LINE_IRQ_PSE_LATCHED true
    ((s.ev .pseLatched (34 + n) (n + 1) 0 0).updPse n (fun q => { q with enWasZero := false })).syncPower
  else (s.pseWait n 6 1000).syncPower

/-- Execute PSE_DETECTION: a valid signature goes on to classification; a voltage above 10.0 V applies no power and
waits 2 s; else 500 ms (R782, R783). -/
def execPseDetection (n : Fin 2) (maxMv sig : Nat) (s : State) : Host.Outcome State Fault Refusal :=
  s.done (if s.pseState n ≠ 2 ∨ (s.psePort n).wait ≠ 0 then s
  else if 10000 < maxMv then
    (((s.setB (F.PSE_FAULT_EXT_POWERED n) true).setB F.LINE_IRQ_PSE_FAULT true).pseWait n 8 2000).syncPower
  else
    let s := s.set (F.PSE_STATUS_SIGNATURE n) (min 65535 sig)
    if 190 ≤ sig ∧ sig ≤ 265 then s.setPse n 3 else s.pseWait n 2 500)

/-- Execute PSE_CLASSIFICATION: the lower of the measured class and MAX_CLASS by allocation, its request, and power-up
where the budget of R786 covers it (R781, R782). -/
def execPseClassification (n : Fin 2) (cls : Fin 5) (s : State) : Host.Outcome State Fault Refusal :=
  s.done (if s.pseState n ≠ 3 then s
  else
    let m := s.get (F.PSE_CFG_MAX_CLASS n)
    let c := if pseAlloc.getD cls 0 ≤ pseAlloc.getD m 0 then cls.val else m
    let s := (s.set (F.PSE_STATUS_CLASS n) c).updPse n (fun q => { q with alloc := pseAlloc.getD c 0 })
    (if s.pseSum + s.pseWant n ≤ s.pseBudget then s.setPse n 4 else s.setPse n 1).syncPower)

/-- Execute PSE_POWER_UP: POWERED at VIN − 1.0 V within 75 ms, else a START fault (R782). -/
def execPsePowerUp (n : Fin 2) (mv vin ms : Nat) (s : State) : Host.Outcome State Fault Refusal :=
  s.done (if s.pseState n ≠ 4 then s
  else if vin ≤ mv + 1000 ∧ ms ≤ 75 then (s.setPse n 5).syncPower
  else if 75 ≤ ms then s.pseFaulted n (F.PSE_FAULT_START n) else s)

/-- Execute PSE_FAULT: OVERLOAD, ILIM, SHORT or VIN_RANGE of a powered port (R784, R785). -/
def execPseFault (n : Fin 2) (kind : Fin 4) (value ms : Nat) (s : State) : Host.Outcome State Fault Refusal :=
  s.done (if s.pseState n ≠ 5 then s
  else match kind.val with
    | 0 => if s.pseWant n * 105 < value * 100 ∧ 60 ≤ ms then s.pseFaulted n (F.PSE_FAULT_OVERLOAD n) else s
    | 1 => if 850 ≤ value ∧ 60 ≤ ms then s.pseFaulted n (F.PSE_FAULT_ILIM n) else s
    | 2 => if 2000 < value then s.pseFaulted n (F.PSE_FAULT_SHORT n) else s
    | _ =>
      if (value < 43000 ∨ 57500 < value) ∧ 1 ≤ ms then
        (((s.setB (F.PSE_FAULT_VIN_RANGE n) true).setB F.LINE_IRQ_PSE_FAULT true).pseWait n 0 1000).syncPower
      else s)

/-- Execute PSE_DISCONNECT: below 10 mA for 350 ms (R784). -/
def execPseDisconnect (n : Fin 2) (ma ms : Nat) (s : State) : Host.Outcome State Fault Refusal :=
  s.done (if s.pseState n = 5 ∧ ma < 10 ∧ 350 ≤ ms then (s.pseWait n 2 2000).syncPower else s)

/-- Execute PSE_RETRY_WAIT_END: the port returns to its step (R782–R785). -/
def execPseRetryWaitEnd (n : Fin 2) (ms : Nat) (s : State) : Host.Outcome State Fault Refusal :=
  s.done (if (s.psePort n).wait = 0 ∨ ms < (s.psePort n).wait then s
  else
    let s := s.updPse n (fun q => { q with wait := 0 })
    (if s.pseState n = 6 ∨ s.pseState n = 8 then s.setPse n 2 else s).syncPower)

/-- The latch of PSE port `n` cleared (R785). -/
def State.pseLatchCleared (s : State) (n : Nat) : State :=
  if s.getB (F.PSE_RETRY_LATCHED n) then
    (((s.setB (F.PSE_RETRY_LATCHED n) false).set (F.PSE_RETRY_FAULTS n) 0).updPse n (fun q => { q with wait := 0 })).syncPower
  else s

/-- A write of PSE_n_CFG.EN as it takes effect: EN 0 and then 1 clears the latch (R785). -/
def State.pseEnWritten (s : State) (n : Nat) : State :=
  if s.getB (F.PSE_CFG_EN n) then
    (if (s.psePort n).enWasZero then (s.updPse n (fun q => { q with enWasZero := false })).pseLatchCleared n else s).syncPower
  else (s.updPse n (fun q => { q with enWasZero := true, wait := 0 })).syncPower

/-! ### Temperature -/

/-- The level of a die. -/
def dieLevel (d : Nat) : Fld := if d = 0 then F.THERM_STATUS_LOGIC else F.THERM_STATUS_LINE

/-- The thresholds of a die in °C: WARM, HOT, CRIT. -/
def State.thermThresh (s : State) (d : Nat) : List Nat :=
  [s.get (F.THERM_THRESH_WARM d), s.get (F.THERM_THRESH_HOT d), s.get (F.THERM_THRESH_CRIT d)]

/-- The thermal watch of die `d`. -/
def State.die (s : State) (d : Nat) : DieTherm := s.power.die.getD d ⟨[], [0, 0, 0], [0, 0, 0], 2000⟩

/-- The thermal watch of die `d` replaced. -/
def State.setDie (s : State) (d : Nat) (t : DieTherm) : State :=
  { s with power := { s.power with die := s.power.die.set d t } }

/-- A threshold write restarts the dwell counts of its die (R788). -/
def State.threshWritten (s : State) (d : Nat) : State :=
  s.setDie d { s.die d with above := [0, 0, 0], below := [0, 0, 0] }

/-- One sample of die `d`: T_f is the mean of its last 16 samples, of all while there are fewer (R787); a quotient that
is no whole number of 0.25 °C reads as one of its neighbours (log entry 15). -/
def State.thermDie (s : State) (d : Nat) (sensors : List Int) : State :=
  match sensors with
  | [] => s
  | x :: xs =>
    let t := s.die d
    let l := ((xs.foldl max x) :: t.samples).take 16
    let sum := l.foldl (· + ·) 0
    let n : Int := l.length
    let up := if sum % n = 0 then false else s.freeBool.1
    let s := if sum % n = 0 then s else s.freeBool.2
    let v := sum / n + (if up then 1 else 0)
    let th := s.thermThresh d
    let s := s.setDie d ⟨l,
      (List.range 3).map (fun k => if ((4 * th.getD k 0 : Nat) : Int) * n < sum then min 251 (t.above.getD k 0 + 1) else 0),
      (List.range 3).map (fun k => if sum ≤ (4 * ((th.getD k 0 : Nat) : Int) - 16) * n then min 2001 (t.below.getD k 0 + 1) else 0),
      min 2000 (t.sinceChange + 1)⟩
    let tf := if d = 0 then F.THERM_TEMP_LOGIC else F.THERM_TEMP_LINE
    let mx := if d = 0 then F.THERM_MAX_LOGIC else F.THERM_MAX_LINE
    let s := s.setI tf v
    if s.getI mx < v then s.setI mx v else s

/-- Execute THERM_SAMPLE (R787). -/
def execThermSample (logic line : List Int) (s : State) : Host.Outcome State Fault Refusal :=
  s.done ((s.thermDie 0 logic).thermDie 1 line)

/-- The level that die `d` changes to now, if its dwell and rate limit hold (R788). -/
def State.nextLevel (s : State) (d : Nat) : Option Nat :=
  let t := s.die d
  let l := s.get (dieLevel d)
  if l < 3 ∧ 251 ≤ t.above.getD 2 0 then some 3
  else if t.sinceChange < 2000 then none
  else if l < 2 ∧ 251 ≤ t.above.getD l 0 then some (l + 1)
  else if 0 < l ∧ 2001 ≤ t.below.getD (l - 1) 0 then some (l - 1)
  else none

/-- Execute THERM_LEVEL_CHANGE: the die's new level, its record, and the node level's actions (R788–R791). -/
def execThermLevelChange (die : Fin 2) (s : State) : Host.Outcome State Fault Refusal :=
  s.done (match s.nextLevel die with
  | none => s
  | some v =>
    let old := s.get (dieLevel die)
    let node := s.nodeLevel
    let s := (s.set (dieLevel die) v).setDie die { s.die die with sinceChange := 0 }
    let s := (s.inc F.THERM_CNT_CHANGES).setB F.THERM_IRQ_LEVEL true
    let s := if v = 3 then s.inc F.THERM_CNT_CRITICAL else s
    let s := s.ev .thermLevel 255 die old v
    let now := max (s.get F.THERM_STATUS_LOGIC) (s.get F.THERM_STATUS_LINE)
    let s := s.set F.THERM_STATUS_NODE now
    let s := if now = 3 ∧ node ≠ 3 then s.setB F.THERM_IRQ_CRITICAL true else s
    let s := if now < 2 ∧ 2 ≤ node then
        (List.range 2).foldl (fun s n => if s.pseState n = 9 then s.setPse n 0 else s) s
      else s
    s.syncPower)

/-- Execute THERM_SHUTDOWN: a line-die sensor above 135 °C resets the line die (R792). -/
def execThermShutdown (hottest : Int) (s : State) : Host.Outcome State Fault Refusal :=
  s.done (if 540 < hottest ∧ !s.getB F.THERM_STATUS_SHUTDOWN then
    ((s.setB F.THERM_STATUS_SHUTDOWN true).setB F.THERM_IRQ_SHUTDOWN true).lineDieReset else s)

/-- Execute THERM_SHUTDOWN_END: every line-die sensor below 120 °C, the line die is reconfigured (R792). -/
def execThermShutdownEnd (hottest : Int) (s : State) : Host.Outcome State Fault Refusal :=
  s.done (if hottest < 480 ∧ s.getB F.THERM_STATUS_SHUTDOWN then
    (s.setB F.THERM_STATUS_SHUTDOWN false).reconfigure
  else s)

/-! ### Measurements -/

/-- The power meters' readings of a stride, and what follows from them (R727, R763; log entry 16). -/
def State.applyMeas (s : State) (m : PowerMeas) : State :=
  let s := (s.set F.PWR_VIN_MV (min 65535 m.vinMv)).set F.PWR_VIN_MA (min 65535 m.vinMa)
  let s := s.set F.PWR_RESERVED_MEASURED (min 65535 m.watts)
  let s := if s.power.brownout ∧ m.vinMv / 10 < s.get F.PWR_BROWNOUT_VIN_MIN then s.set F.PWR_BROWNOUT_VIN_MIN (m.vinMv / 10) else s
  let s := (List.range 2).foldl (fun s p =>
    let s := if s.domOn (32 + p) then
        (s.set (F.LINE_MEAS_MV p) (min 65535 (m.lineMv.getD p 0))).setI (F.LINE_MEAS_MA p) (m.lineMa.getD p 0) else s
    if s.domOn (34 + p) then
      (s.set (F.PSE_MEAS_MV p) (min 65535 (m.pseMv.getD p 0))).set (F.PSE_MEAS_MA p) (min 65535 (m.pseMa.getD p 0)) else s) s
  s.syncPower

end Sys2Proof.Machine
end

