-- ==== Sys2Proof/Machine/NetBase.lean ====
section
/-! DEFINITION. What every port does with a frame (chapter 11): statistics, steps 1, 2 and 4 of the receive checks, wake
patterns, sending, low-power idle, and the secure associations of MACsec (chapter 14). -/

namespace Sys2Proof.Machine

/-! ### Ports -/

/-- MAC port `p` beside its registers. -/
def State.mac (s : State) (p : Nat) : MacPort := s.net.ports.getD p ⟨[], [], none, 0, none, 0, 0⟩

/-- MAC port `p` changed by `f`. -/
def State.updMac (s : State) (p : Nat) (f : MacPort → MacPort) : State :=
  { s with net := { s.net with ports := s.net.ports.set p (f (s.mac p)) } }

/-- MACsec of port `p`. -/
def State.sec (s : State) (p : Nat) : SecPort := s.net.sec.getD p ⟨none, 0, none, none, none, false, 1, 1, 1⟩

/-- MACsec of port `p` changed by `f`. -/
def State.updSec (s : State) (p : Nat) (f : SecPort → SecPort) : State :=
  { s with net := { s.net with sec := s.net.sec.set p (f (s.sec p)) } }

/-- The address of port `p`. -/
def State.macAddr (s : State) (p : Nat) : Nat := s.net.macs.getD p 0

/-- Port `p` carries frames: its domain on, its link up at full duplex (R472, R474). -/
def State.carries (s : State) (p : Nat) : Bool :=
  s.domOn (5 + p) && s.getB (F.MAC_STATUS_LINK p) && !s.getB (F.MAC_STATUS_HALF_DUPLEX p)

/-- Both directions of port `p` are secured. -/
def State.secured (s : State) (p : Nat) : Bool :=
  s.getB (F.SEC_MACSEC_TX_SECURED p) && s.getB (F.SEC_MACSEC_RX_SECURED p)

/-- Ring port `p` may carry Wilnan frames (R341). -/
def State.ringLink (s : State) (p : Nat) : Bool :=
  s.carries p && s.get (F.MAC_STATUS_SPEED p) == 2 && (!s.approved || s.secured p)

/-! ### Statistics -/

/-- Add `n` to counter `k` of port `p`; bit 31 rising sets the half-range bit (R513, R514). -/
def State.stat (s : State) (p k n : Nat) : State :=
  let old := s.get (F.STAT_CNT_COUNT p k)
  let s := s.set (F.STAT_CNT_COUNT p k) (old + n)
  if old < 2 ^ 31 ∧ (old + n).testBit 31 then
    (if k < 32 then s.setBit (F.STAT_HALF_LO_HALF p) k true else s.setBit (F.STAT_HALF_HI_HALF p) (k - 32) true)
  else s

/-- The size bin of an accepted frame of length `n` (R512). -/
def sizeBin (n : Nat) : Nat :=
  if n ≤ 64 then 5 else if n ≤ 127 then 6 else if n ≤ 255 then 7 else if n ≤ 511 then 8 else if n ≤ 1023 then 9
  else if n ≤ 1518 then 10 else 11

/-- The counters of an accepted frame (R476, R512). -/
def State.countAccepted (s : State) (p : Nat) (h : EthHdr) (n : Nat) : State :=
  let s := ((s.stat p 0 1).stat p 1 n).stat p (sizeBin n) 1
  let s := s.stat p (if h.da = broadcast then 4 else if isGroup h.da then 3 else 2) 1
  if h.tags.isEmpty then s else s.stat p 12 1

/-! ### Receive checks -/

/-- The counter of step 1 that a frame fails, if any (R475). -/
def State.lengthFault (s : State) (p : Nat) (f : RxFrame) : Option Nat :=
  if (rxLength f) < 64 then some (if f.fcs.val = 0 ∧ !f.cut then 20 else 21)
  else if f.cut then some 21
  else if s.get (F.MAC_CFG_MAX_LEN p) < (rxLength f) then some 22
  else if f.phyErr then some 19
  else if f.fcs.val ≠ 0 then some 18 else none

/-- The hash index of an address (R478). -/
def hashIndex (da : Nat) : Nat := crc32 (beBytes da 6) / 2 ^ 23

/-- The address filter of port `p` (R477), on a ring port for a ring group address with the ring's EtherType (R346). -/
def State.addressOk (s : State) (p da etype : Nat) : Bool :=
  (List.range 16).any (fun n => s.getB (F.MAC_UCAST_EN p n) &&
    s.get (F.MAC_UCAST_ADDR_0_1 p n) * 2 ^ 32 + s.get (F.MAC_UCAST_ADDR_2_5 p n) == da) ||
  (isGroup da && da != broadcast && s.bit (F.MAC_HASH_HASH p (hashIndex da / 32)) (hashIndex da % 32)) ||
  (da == broadcast && s.getB (F.MAC_CFG_BCAST_EN p)) ||
  da == 0x0180C2000001 || da == 0x0180C2000003 || da == 0x0180C200000E ||
  (decide (p < 2) && isRingGroup da && etype == s.get F.RING_ETYPE_ETYPE) || (p == 2 && s.getB (F.MAC_CFG_PROMISC p))

/-- The bytes of a frame as they were on the wire, without the FCS (R480). -/
def rxWire (f : RxFrame) : List Byte := if (ethHdr f.bytes).secTag then f.bytes.take 28 ++ f.cipher else f.bytes

/-- The offsets that wake pattern `k` of port `p` selects (R480). -/
def State.wakeOffsets (s : State) (p k : Nat) : List Nat :=
  (List.range 128).filter (fun i => s.bit (F.MAC_WAKE_MASK_MASK p k (i / 32)) (i % 32))

/-- Wake pattern `k` of port `p` matches (R481, R482). -/
def State.wakeMatch (s : State) (p k : Nat) (l : List Byte) : Bool :=
  let o := s.wakeOffsets p k
  s.getB (F.MAC_WAKE_CRC_EN p k) && !o.isEmpty && o.all (fun i => decide (i < l.length)) &&
  crc16 (o.map (fun i => l.getD i 0)) == s.get (F.MAC_WAKE_CRC_CRC p k)

/-- The wake patterns on an accepted frame (R483). -/
def State.wakeFrame (s : State) (p : Nat) (l : List Byte) : State :=
  let m := bitsWhere 8 (fun k => s.wakeMatch p k l)
  if m = 0 then s
  else
    let s := s.set (F.MAC_WAKE_STATUS_MATCH p) (Nat.lor (s.get (F.MAC_WAKE_STATUS_MATCH p)) m)
    ((s.stat p 37 1).setB (F.MAC_IRQ_WAKE p) true).requestDomain 3

/-- Steps 1 and 2 of R475: the state they leave, and whether the frame is accepted. -/
def State.acceptFrame (s : State) (p : Nat) (f : RxFrame) : State × Bool :=
  let h := ethHdr f.bytes
  match s.lengthFault p f with
  | some k => (s.stat p k 1, false)
  | none =>
    if s.addressOk p h.da h.etype then ((s.countAccepted p h (rxLength f)).wakeFrame p (rxWire f), true) else (s.stat p 23 1, false)

/-- MACSEC_REQ of port `p` (R489). -/
def State.macsecReq (s : State) (p : Nat) : Bool := s.getB (F.MAC_CFG_MACSEC_REQ p) || (s.approved && decide (p < 2))

/-! ### Replay protection (R651, R652, R656) -/

/-- The association number of a SecTAG, and the PN field (IEEE 802.1AE, which R643 and R648 name). -/
def secTagAn (l : List Byte) : Nat := beAt l 14 1 % 4
def secTagPn (l : List Byte) : Nat := beAt l 16 4

/-- The PN that the receive SA `an` of port `p` expects next; none where no installed SA has that number (R651). -/
def State.rxNext (s : State) (p an : Nat) : Option Nat :=
  let q := s.sec p
  if q.rxAn = some an then some q.rxPn else if q.oldAn = some an then some q.oldPn else none

/-- The lowest PN that an SA of port `p` accepts: the replay window is 0 on a ring port and 64 frames on port C (R652). -/
def lowestPn (p next : Nat) : Nat := if p < 2 then next else next - 64

/-- The PN of a frame: with XPN the 32 bits sent stand for the PN near the lowest acceptable one (PRESUMED: IEEE 802.1AE, log
entry 60). -/
def State.framePn (s : State) (p next : Nat) (l : List Byte) : Nat :=
  let low := secTagPn l
  let x := lowestPn p next
  if s.get (F.SEC_MACSEC_SUITE p) ≠ 2 then low
  else if 2 ^ 31 ≤ x % 2 ^ 32 ∧ low < 2 ^ 31 then (x / 2 ^ 32 + 1) * 2 ^ 32 + low
  else x / 2 ^ 32 * 2 ^ 32 + low

/-- The association number and PN of a frame that the replay check of port `p` passes (R652). -/
def State.replayPass (s : State) (p : Nat) (l : List Byte) : Option (Nat × Nat) :=
  match s.rxNext p (secTagAn l) with
  | none => none
  | some next =>
    let pn := s.framePn p next l
    if 0 < pn ∧ lowestPn p next ≤ pn then some (secTagAn l, pn) else none

/-- A SecTAG says that the frame is confidential: E and C are set. -/
def confidential (l : List Byte) : Bool := bitOf (beAt l 14 1) 3 && bitOf (beAt l 14 1) 2

/-- The SecTAG and replay checks of a frame (R488, R652): it names the peer's channel, a receive SA is installed, its PN is acceptable,
and in approved mode it is confidential (R631). -/
def State.secTagGood (s : State) (p : Nat) (f : RxFrame) : Bool :=
  f.secOk && s.getB (F.SEC_MACSEC_RX_SECURED p) && (s.replayPass p f.bytes).isSome && (!s.approved || confidential f.bytes)

/-- A frame whose ICV verified and whose FCS is not poisoned moves its SA's replay state; the first under the new SA retires the old
one, once transmit has moved too (R651, R652, R656; log entry 60). -/
def State.advancePn (s : State) (p : Nat) (x : Option (Nat × Nat)) : State :=
  match x with
  | none => s
  | some (an, pn) => s.updSec p (fun q =>
      if q.rxAn = some an then
        { q with rxPn := max q.rxPn (pn + 1), oldAn := if q.nextTx.isNone then none else q.oldAn }
      else if q.oldAn = some an then { q with oldPn := max q.oldPn (pn + 1) } else q)

/-- The ICV of a frame verifies, its SecTAG and replay checks standing. -/
def State.icvGood (s : State) (p : Nat) (f : RxFrame) : Bool := (ethHdr f.bytes).secTag && f.icvOk && s.secTagGood p f

/-- Step 4 of R475 (R488): the state it leaves, and whether the frame passes. -/
def State.macsecCheck (s : State) (p : Nat) (f : RxFrame) : State × Bool :=
  let h := ethHdr f.bytes
  if !h.secTag then
    (if s.macsecReq p && h.etype != 0x888E && h.etype != 0x88CC then (s.stat p 33 1, false) else (s, true))
  else if s.icvGood p f then ((s.advancePn p (s.replayPass p f.bytes)).stat p 13 1, true)
  else (s.stat p 32 1, false)

/-! ### The DRBG (R644, R645) -/

/-- The next block that the entropy source conditions. -/
def State.takeBlock (s : State) : BitVec 512 × State :=
  (Config.entropyBlock s.isle.blocks, { s with isle := { s.isle with blocks := s.isle.blocks + 1 } })

/-- The DRBG is instantiated with one conditioned block as entropy input and a second as nonce (R645). -/
def State.drbgStart (s : State) : State :=
  let e := s.takeBlock
  let n := e.2.takeBlock
  { n.2 with isle := { n.2.isle with drbg := some ⟨Config.drbgSeed e.1 n.1, 0⟩ } }

/-- The DRBG reseeds (R645). -/
def State.drbgReseed (s : State) : State :=
  match s.isle.drbg with
  | none => s
  | some d =>
    let e := s.takeBlock
    { e.2 with isle := { e.2.isle with drbg := some ⟨Config.drbgReseed d.vKey e.1, 0⟩ } }

/-- One generate request; after 2^20 of them the DRBG reseeds (R645). -/
def State.drbgDraw (s : State) : State :=
  match s.isle.drbg with
  | none => s
  | some d =>
    let t := { s with isle := { s.isle with drbg := some ⟨Config.drbgNext d.vKey, d.uses + 1⟩ } }
    if 2 ^ 20 ≤ d.uses + 1 then t.drbgReseed else t

/-! ### Secure associations -/

/-- RX_SECURED and TX_SECURED of port `p`; a change sets SEC_IRQ.MACSEC. -/
def State.setSecured (s : State) (p : Nat) (rx tx : Bool) : State :=
  let s := if rx != s.getB (F.SEC_MACSEC_RX_SECURED p) || tx != s.getB (F.SEC_MACSEC_TX_SECURED p) then
      s.setB F.SEC_IRQ_MACSEC true else s
  (s.setB (F.SEC_MACSEC_RX_SECURED p) rx).setB (F.SEC_MACSEC_TX_SECURED p) tx

/-- A new SAK with association number `an` is installed for receive; transmit waits for the peer (R651). -/
def State.installSak (s : State) (p an : Nat) : State :=
  let s := s.updSec p (fun q => { q with
    oldAn := q.rxAn, oldPn := q.rxPn, rxAn := some an, rxPn := 1, nextTx := some an, peerHas := false })
  (s.inc (F.SEC_MACSEC_REKEYS p)).setSecured p true (s.getB (F.SEC_MACSEC_TX_SECURED p))

/-- The key server generates a new SAK and distributes it (R651). -/
def State.distributeSak (s : State) (p : Nat) : State :=
  s.drbgDraw.installSak p (match (s.sec p).rxAn with
    | some a => (a + 1) % 4
    | none => 0)

/-- The transmit PN at which the key server distributes a new SAK (R651). -/
def State.pnLimit (s : State) (p : Nat) : Nat :=
  if s.get (F.SEC_MACSEC_SUITE p) = 2 then 0xC000000000000000 else 0xC0000000

/-- The secure channel of port `p` ends (R653). -/
def State.endSecure (s : State) (p : Nat) : State :=
  let s := s.updSec p (fun q => { q with
    rxAn := none, oldAn := none, nextTx := none, peerHas := false, pn := 1, rxPn := 1, oldPn := 1 })
  (s.setB (F.SEC_MACSEC_PEER_LIVE p) false).setSecured p false false

/-! ### Sending -/

/-- A frame starts on port `p`: it is padded to 60 bytes, takes the next PN where the port is secured, and counts (R501,
R512, R654). EAPOL and LLDP frames go out unsecured (R488). -/
def State.sendFrame (s : State) (p : Nat) (bytes : List Byte) (poisoned wilnan : Bool) : State :=
  let b := padBytes 60 bytes
  let h := ethHdr b
  let sec := s.getB (F.SEC_MACSEC_TX_SECURED p) && h.etype != 0x888E && h.etype != 0x88CC
  let n := b.length + (if sec then 32 else 0) + 4
  let s := { s with net := { s.net with sent := s.net.sent ++ [(⟨p, b, poisoned, sec, if sec then (s.sec p).pn else 0, false⟩ : Sent)] } }
  let s := if poisoned then s.stat p 45 1
    else ((s.stat p 38 1).stat p 39 n).stat p (if h.da = broadcast then 42 else if isGroup h.da then 41 else 40) 1
  let s := if wilnan then s.stat p 43 1 else s
  if sec then
    let s := (s.stat p 44 1).updSec p (fun q => { q with pn := q.pn + 1 })
    if (s.sec p).pn = s.pnLimit p ∧ s.getB (F.SEC_MACSEC_KEY_SERVER p) then s.distributeSak p else s
  else s

/-- `n` events fewer of counter `k` of port `p`. -/
def State.unstat (s : State) (p k n : Nat) : State := s.set (F.STAT_CNT_COUNT p k) (s.get (F.STAT_CNT_COUNT p k) + 2 ^ 32 - n)

/-- The counters of a frame that the start of it counted as sent, taken back: a frame counts at its last byte (R513). -/
def State.unsend (s : State) (x : Sent) : State :=
  let h := ethHdr x.bytes
  if x.poisoned then s.unstat x.port 45 1
  else ((s.unstat x.port 38 1).unstat x.port 39 (x.bytes.length + (if x.secured then 32 else 0) + 4)).unstat x.port
    (if h.da = broadcast then 42 else if isGroup h.da then 41 else 40) 1

/-- The last frame that port `p` started. -/
def State.lastSent (s : State) (p : Nat) : Option Sent := s.net.sent.reverse.find? (fun x => x.port = p)

/-- The last frame that port `p` started is abandoned (R518): it does not reach its last byte, so what its start counted is taken
back, and it counts in TX_DISCARD. -/
def State.abandonFrame (s : State) (p : Nat) : State :=
  match s.lastSent p with
  | none => s.stat p 47 1
  | some x =>
    let s := { s with net := { s.net with sent := s.net.sent.reverse.erase x |>.reverse } }
    let s := s.unsend x
    let s := if p < 2 ∧ (ethHdr x.bytes).etype = s.get F.RING_ETYPE_ETYPE then s.unstat p 43 1 else s
    (if x.secured then s.unstat p 44 1 else s).stat p 47 1

/-- Zeroisation reaches the last frame that port `p` started, still being sent under MACsec: it ends with a poisoned FCS and an ICV
field of 16 zero bytes (R660). -/
def State.spoilFrame (s : State) (p : Nat) : State :=
  match s.lastSent p with
  | none => s
  | some x =>
    if !x.secured then s
    else
      let y := { x with poisoned := true, icvZero := true }
      let s := { s with net := { s.net with sent := s.net.sent.reverse.replace x y |>.reverse } }
      (s.unsend x).stat p 45 1

/-- Zeroisation reaches the frames being sent (R660). Time inside a stride is not modelled (log entry 1): whether the last frame that a
port started in this stride under MACsec is still being sent is free. -/
def State.spoilFrames (s : State) : State :=
  (List.range 3).foldl (fun s p =>
    if (s.lastSent p).any Sent.secured then
      let d := s.freeBool
      if d.1 then d.2.spoilFrame p else d.2
    else s) s

/-! ### Low-power idle -/

/-- T_w of port `p` in µs (R506). -/
def State.lpiTw (s : State) (p : Nat) : Nat :=
  max (s.get (F.MAC_EEE_TW_US p)) (if s.get (F.MAC_STATUS_SPEED p) = 2 then 17 else 30)

/-- Port `p` may be in transmit LPI (R505). -/
def State.eeeOn (s : State) (p : Nat) : Bool :=
  s.carries p && s.getB (F.MAC_EEE_EN p) && s.get (F.MAC_STATUS_SPEED p) != 0

/-- Port `p` enters transmit LPI (R507, R508, R512). -/
def State.enterLpi (s : State) (p : Nat) : State :=
  if s.eeeOn p && !s.getB (F.MAC_STATUS_LPI_TX p) then
    ((s.setB (F.MAC_STATUS_LPI_TX p) true).stat p 48 1).updMac p (fun q => { q with lpiSince := s.stride })
  else s

/-- Port `p` leaves transmit LPI, `at_` ns after the last boundary and `us` after it entered (R506, R509, R512). -/
def State.leaveLpi (s : State) (p at_ us : Nat) : State :=
  if s.getB (F.MAC_STATUS_LPI_TX p) then
    let s := (s.setB (F.MAC_STATUS_LPI_TX p) false).stat p 49 us
    (s.set (F.MAC_EEE_TW_APPLIED p) (s.lpiTw p)).updMac p (fun q => { q with lpiLeft := some (s.stride, at_) })
  else s

/-- A frame may start on port `p` `at_` ns after the last boundary: awake, and T_w passed (R506). -/
def State.awakeAt (s : State) (p at_ : Nat) : Bool :=
  !s.getB (F.MAC_STATUS_LPI_TX p) && (match (s.mac p).lpiLeft with
    | none => true
    | some (k, ns) => decide (1000 * s.lpiTw p + ns ≤ 125000 * (s.stride - k) + at_))

/-! ### Queues -/

/-- Put a frame in transmit queue `q` of port `p`. -/
def State.enqueue (s : State) (p q : Nat) (bytes : List Byte) : State :=
  s.updMac p (fun m => { m with txq := m.txq ++ [(q, bytes)] })

/-- Fill of the frames of queue `q` in 64-byte units. -/
def fillUnits (l : List (Nat × List Byte)) (q : Nat) : Nat :=
  (((l.filter (fun x => x.1 = q)).foldl (fun n x => n + x.2.length) 0) + 63) / 64

/-- The receive queue registers of port `p`. -/
def State.showQueues (s : State) (p : Nat) : State :=
  let l := (s.mac p).rxq
  let s := (List.range 8).foldl (fun s q =>
    (s.set (F.MAC_RXQ_STATUS_FRAMES p q) (l.filter (fun x => x.1 = q)).length).set (F.MAC_RXQ_STATUS_LEVEL p q) (fillUnits l q)) s
  (s.set (F.MAC_EXC_STATUS_FRAMES p) (l.filter (fun x => x.1 = 8)).length).set (F.MAC_EXC_STATUS_LEVEL p) (fillUnits l 8)

/-- The receive queue for class `c` at port `p` (R496): the class's own, else the highest below it; MEDIA only class 5. -/
def State.rxQueue (s : State) (p c : Nat) : Option QueueRec :=
  match s.fab.image with
  | none => none
  | some im =>
    let qs := im.queues.filter (fun r => r.port = p ∧ !r.transmit ∧ r.cls ≤ c ∧ (c ≠ 5 ∨ r.cls = 5) ∧ ¬ (p < 2 ∧ r.queue = 0))
    qs.foldl (fun m r => match m with
      | none => some r
      | some q => if q.cls < r.cls ∨ (q.cls = r.cls ∧ r.queue < q.queue) then some r else some q) none

/-- Store a whole frame in receive queue `q` of `size` bytes (8 the exception queue); `drop` counts what does not fit
(R497, R498). -/
def State.storeFrame (s : State) (p q size : Nat) (bytes : List Byte) : State × Bool :=
  let used := ((s.mac p).rxq.filter (fun x => x.1 = q)).foldl (fun n x => n + x.2.length) 0
  if size < used + bytes.length then (s, false)
  else ((s.updMac p (fun m => { m with rxq := m.rxq ++ [(q, bytes)] })).showQueues p, true)

end Sys2Proof.Machine
end

