-- ==== Sys2Proof/Machine/Iop.lean ====
section
/-! DEFINITION. Interop streams, network time and the media clock (chapter 12). -/

namespace Sys2Proof.Machine

/-! ### Media time -/

/-- The media time of a PTP time, in 1/65,536 samples modulo 2^48 (chapter 12, Read position). -/
def mediaTime (sec ns : Nat) : Nat := (sec * 48000 * 65536 + ns * 48000 * 65536 / 1000000000) % 2 ^ 48

/-- D(k) = M(k) − 6k, in 1/65,536 samples modulo 2^48 (R541). -/
def State.mediaD (s : State) : Nat := (s.net.media.1 + 2 ^ 48 - 6 * s.count * 65536 % 2 ^ 48) % 2 ^ 48

/-- R_k of receive stream `k`, in 1/65,536 samples modulo 2^48, with the LATENCY of the last boundary (R527, R545). -/
def State.readPos (s : State) (k : Nat) : Nat :=
  (s.net.media.1 + 65536 * (s.get (F.IOP_RX_OFFSET_RTP_OFFSET k) + 2 ^ 32 - (s.net.rx.getD k IopRx.idle).latency)) % 2 ^ 48

/-- The receive channel ring's sample with timestamp `t`; 0 where the slot holds another (R526, R532). -/
def State.rxSample (s : State) (ch t : Nat) : Option Int :=
  match s.net.ringRx.find? (fun e => e.1 = 1024 * ch + t % 1024) with
  | some e => if e.2.1 = t % 2 ^ 32 then some e.2.2 else none
  | none => none

/-- The net state changed by `f`. -/
def State.updNet (s : State) (f : NetNode → NetNode) : State := { s with net := f s.net }

/-! ### Receiving a stream (R524–R528) -/

/-- Receive stream `k` is enabled. -/
def State.rxOn (s : State) (k : Nat) : Bool := decide (k < s.iopRxCount) && s.getB (F.IOP_RX_CFG_EN k)

/-- The destination address of a stream in its four words, IPv4 in word 0 only. -/
def State.rxAddr (s : State) (k : Nat) : Nat :=
  if s.getB (F.IOP_RX_CFG_IPV6 k) then
    s.get (F.IOP_RX_ADDR_ADDR k 0) * 2 ^ 96 + s.get (F.IOP_RX_ADDR_ADDR k 1) * 2 ^ 64 + s.get (F.IOP_RX_ADDR_ADDR k 2) * 2 ^ 32 +
      s.get (F.IOP_RX_ADDR_ADDR k 3)
  else s.get (F.IOP_RX_ADDR_ADDR k 0)

/-- The enabled receive stream that a UDP packet on port C matches (R524). -/
def State.rxMatch (s : State) (v6 : Bool) (da port : Nat) : Option Nat :=
  (List.range 32).find? (fun k => s.rxOn k && s.getB (F.IOP_RX_CFG_IPV6 k) == v6 && s.rxAddr k == da &&
    s.get (F.IOP_RX_PORT_UDP k) == port)

/-- The bytes of one sample frame of receive stream `k` (R494). -/
def State.rxFrameBytes (s : State) (k : Nat) : Nat :=
  s.get (F.IOP_RX_CFG_CHANNELS k) * (if s.getB (F.IOP_RX_CFG_FORMAT k) then 3 else 2)

/-- The audio word of a payload sample (R526). -/
def payloadSample (l24 : Bool) (l : List Byte) (o : Nat) : Int :=
  if l24 then signedOf (beAt l o 3) 24 else signedOf (beAt l o 2) 16 * 256

/-- A value put in a receive ring slot. -/
def ringPut (key t : Nat) (v : Int) : List (Nat × Nat × Int) → List (Nat × Nat × Int)
  | [] => [(key, t, v)]
  | e :: r => if e.1 < key then e :: ringPut key t v r else if e.1 = key then (key, t, v) :: r else (key, t, v) :: e :: r

/-- The samples of a media packet go into the receive rings (R526). -/
def State.storeMedia (s : State) (k ts n : Nat) (payload : List Byte) : State :=
  let ch := s.get (F.IOP_RX_CFG_CHANNELS k)
  let base := s.get (F.IOP_RX_CFG_CH_BASE k)
  let l24 := s.getB (F.IOP_RX_CFG_FORMAT k)
  let w := if l24 then 3 else 2
  let puts := (List.range n).flatMap (fun i => (List.range ch).map (fun c =>
    (1024 * (base + c) + (ts + i) % 1024, (ts + i) % 2 ^ 32, payloadSample l24 payload ((i * ch + c) * w))))
  s.updNet (fun q => { q with ringRx := puts.foldl (fun l x => ringPut x.1 x.2.1 x.2.2 l) q.ringRx })

/-- A media packet of receive stream `k`: its RTP header begins `rtp`, its payload is `payload` (R525, R528). -/
def State.mediaIn (s : State) (k : Nat) (rtp payload : List Byte) : State :=
  let pt := beAt rtp 1 1 % 128
  let ts := beAt rtp 4 4
  let ssrc := beAt rtp 8 4
  let n := payload.length / s.rxFrameBytes k
  let cnt := fun (s : State) (i : Nat) => s.inc (F.IOP_RX_CNT_COUNT k i)
  let upd := fun (s : State) (f : IopRx → IopRx) =>
    s.updNet (fun q => { q with rx := q.rx.set k (f (q.rx.getD k IopRx.idle)) })
  let locked := s.getB (F.IOP_RX_STATUS_SSRC_LOCKED k)
  if pt ≠ s.get (F.IOP_RX_CFG_PT k) ∨ (locked ∧ ssrc ≠ s.get (F.IOP_RX_SSRC_SSRC k)) then cnt s 4
  else
    let s := if locked then s else (s.set (F.IOP_RX_SSRC_SSRC k) ssrc).setB (F.IOP_RX_STATUS_SSRC_LOCKED k) true
    let s := upd s (fun r => { r with lockedAt := s.stride })
    let ahead := signedOf ((ts + n - 1) * 65536 + 2 ^ 48 - s.readPos k) 48
    if ahead < -8 * 65536 then cnt s 1
    else if 1008 * 65536 ≤ ahead then cnt s 2
    else
      let s := cnt (s.storeMedia k ts n payload) 0
      (upd s (fun r => { r with storedAt := some s.stride })).setB (F.IOP_RX_STATUS_ACTIVE k) true

/-- Execute SSRC_TIMEOUT: 8,000 strides without a packet from the locked SSRC (R525). -/
def execSsrcTimeout (k : Fin 32) (s : State) : Host.Outcome State Fault Refusal :=
  s.done (if s.rxOn k && s.getB (F.IOP_RX_STATUS_SSRC_LOCKED k) &&
      decide ((s.net.rx.getD k IopRx.idle).lockedAt + 8000 ≤ s.stride) then
    s.setB (F.IOP_RX_STATUS_SSRC_LOCKED k) false else s)

/-! ### Enabling a stream (R522) -/

/-- What R522 compares of a stream: channel base and count, address, UDP port, IP version. -/
def State.streamKey (s : State) (tx : Bool) (k : Nat) : Nat × Nat × List Nat × Bool :=
  if tx then
    (s.get (F.IOP_TX_CFG_CH_BASE k), s.get (F.IOP_TX_CFG_CHANNELS k),
      s.get (F.IOP_TX_PORTS_DST k) :: (List.range (if s.getB (F.IOP_TX_CFG_IPV6 k) then 4 else 1)).map (fun w => s.get (F.IOP_TX_ADDR_ADDR k w)),
      s.getB (F.IOP_TX_CFG_IPV6 k))
  else
    (s.get (F.IOP_RX_CFG_CH_BASE k), s.get (F.IOP_RX_CFG_CHANNELS k),
      s.get (F.IOP_RX_PORT_UDP k) :: (List.range (if s.getB (F.IOP_RX_CFG_IPV6 k) then 4 else 1)).map (fun w => s.get (F.IOP_RX_ADDR_ADDR k w)),
      s.getB (F.IOP_RX_CFG_IPV6 k))

/-- Two channel ranges overlap. -/
def rangesMeet (a n b m : Nat) : Bool := decide (a < b + m ∧ b < a + n)

/-- Some rule of R522 keeps stream `k` from being enabled, as its registers stand. -/
def State.streamConflict (s : State) (tx : Bool) (k : Nat) : Bool :=
  let x := s.streamKey tx k
  let on := fun j => j ≠ k ∧ s.getB (if tx then F.IOP_TX_CFG_EN j else F.IOP_RX_CFG_EN j) = true
  let others := (List.range (if tx then s.iopTxCount else s.iopRxCount)).filter (fun j => on j)
  decide (64 < x.1 + x.2.1) ||
  others.any (fun j =>
    let y := s.streamKey tx j
    rangesMeet x.1 x.2.1 y.1 y.2.1 || (x.2.2.1 == y.2.2.1 && x.2.2.2 == y.2.2.2)) ||
  (!tx && s.fab.links.any (fun l => !l.retiring && l.cfg.src == 0x84 && rangesMeet x.1 x.2.1 l.cfg.srcPort l.cfg.channels &&
    decide (3 < (others.filter (fun j =>
      rangesMeet (s.streamKey false j).1 (s.streamKey false j).2.1 l.cfg.srcPort l.cfg.channels)).length)))

/-- O is set to D(k) rounded (R543). -/
def State.setMediaO (s : State) : State :=
  (s.set F.PTP_MEDIA_O_O ((s.mediaD + 32768) / 65536)).updNet (fun q => { q with oSet := true })

/-- Stream `k` has become enabled (R525, R534, R543). -/
def State.streamEnabled (s : State) (tx : Bool) (k : Nat) : State :=
  if tx then
    let first := !(List.range s.iopTxCount).any (fun j => j != k && s.getB (F.IOP_TX_CFG_EN j))
    let s := if first then s.setMediaO else s
    let r := s.freeNat
    r.2.updNet (fun q => { q with tx := q.tx.set k ⟨r.1 % 65536, none, 0, []⟩ })
  else
    (s.setB (F.IOP_RX_STATUS_SSRC_LOCKED k) false).updNet (fun q => { q with rx := q.rx.set k ⟨none, s.stride, 0, s.get (F.IOP_RX_LATENCY_LATENCY k)⟩ })

/-- Stream `k` has become disabled. -/
def State.streamDisabled (s : State) (tx : Bool) (k : Nat) : State :=
  if tx then (s.setB (F.IOP_TX_STATUS_SENDING k) false).setB (F.IOP_TX_STATUS_UNRESOLVED k) false
  else (s.setB (F.IOP_RX_STATUS_SSRC_LOCKED k) false).setB (F.IOP_RX_STATUS_ACTIVE k) false

/-- EN of stream `k` after a write that would make it `on`, the other fields being written; `was` is EN before (R522). -/
def State.writeStreamEn (s : State) (tx : Bool) (k : Nat) (was on : Bool) : State :=
  let f := if tx then F.IOP_TX_CFG_EN k else F.IOP_RX_CFG_EN k
  if on && !was then
    (if s.streamConflict tx k then (s.setB f false).setB F.IOP_IRQ_CFG_ERR true
     else (s.setB f true).streamEnabled tx k)
  else if !on && was then (s.setB f false).streamDisabled tx k
  else s

/-! ### Sending a stream (R533–R535) -/

/-- Samples in a packet (R533). -/
def packetSamples (ptime : Nat) : Nat := if ptime = 0 then 6 else if ptime = 1 then 12 else 48

/-- The sum of 16-bit words, most significant byte first, an odd last byte padded. -/
def wordSum : List Byte → Nat
  | [] => 0
  | [a] => a.toNat * 256
  | a :: b :: t => a.toNat * 256 + b.toNat + wordSum t

/-- A ones' complement sum folded to 16 bits; four folds suffice for any frame. -/
def foldSum (n : Nat) : Nat :=
  let f := fun (x : Nat) => x % 65536 + x / 65536
  f (f (f (f n)))

/-- The Internet checksum of a list with its checksum field 0. -/
def inetChecksum (l : List Byte) : Nat := 65535 - foldSum (wordSum l)

/-- A list whose Internet checksum field is in place checks. -/
def inetOk (l : List Byte) : Bool := foldSum (wordSum l) == 65535

/-- The payload word of a sample (R534). -/
def sampleBytes (l24 : Bool) (x : Int) : List Byte :=
  if l24 then beBytes (unsignedOf x 24) 3
  else
    let y := roundDiv x 256
    beBytes (unsignedOf (if 32767 < y then 32767 else y) 16) 2

/-- The node's own address, as its application core has it (free, log entry 4). -/
def ownAddress (v6 : Bool) : List Byte :=
  if v6 then (List.range 4).flatMap (fun w => beBytes (Config.nodeAddress (w + 1)).toNat 4)
  else beBytes (Config.nodeAddress 0).toNat 4

/-- The destination address of transmit stream `k`. -/
def State.txAddr (s : State) (k : Nat) : List Byte :=
  if s.getB (F.IOP_TX_CFG_IPV6 k) then (List.range 4).flatMap (fun w => beBytes (s.get (F.IOP_TX_ADDR_ADDR k w)) 4)
  else beBytes (s.get (F.IOP_TX_ADDR_ADDR k 0)) 4

/-- The MAC address that a multicast IP address maps to; none for a unicast one (R535). -/
def multicastMac (v6 : Bool) (a : List Byte) : Option Nat :=
  if v6 then (if beAt a 0 1 = 0xFF then some (0x333300000000 + beAt a 12 4) else none)
  else if beAt a 0 1 / 16 = 0xE then some (0x01005E000000 + beAt a 0 4 % 2 ^ 23) else none

/-- A UDP datagram in IP, checksums in place (R535). -/
def ipUdp (v6 : Bool) (dscp ttl : Nat) (src dst : List Byte) (sp dp : Nat) (data : List Byte) : List Byte :=
  let ulen := 8 + data.length
  let udp0 := beBytes sp 2 ++ beBytes dp 2 ++ beBytes ulen 2
  let pseudo := src ++ dst ++ beBytes ulen 4 ++ beBytes 17 4
  let c := inetChecksum (pseudo ++ udp0 ++ [0, 0] ++ data)
  let udp := udp0 ++ beBytes (if c = 0 then 65535 else c) 2 ++ data
  if v6 then beBytes (6 * 2 ^ 28 + dscp * 2 ^ 22) 4 ++ beBytes ulen 2 ++ [17, BitVec.ofNat 8 ttl] ++ src ++ dst ++ udp
  else
    let h0 := [0x45, BitVec.ofNat 8 (dscp * 4)] ++ beBytes (20 + ulen) 2 ++ [0, 0, 0x40, 0] ++ [BitVec.ofNat 8 ttl, 17]
    h0 ++ beBytes (inetChecksum (h0 ++ [0, 0] ++ src ++ dst)) 2 ++ src ++ dst ++ udp

/-- The RTP packet of transmit stream `k` whose first sample has index `first` (R534). -/
def State.rtpPacket (s : State) (k seq first : Nat) (frames : List (List Sample)) : List Byte :=
  let l24 := s.getB (F.IOP_TX_CFG_FORMAT k)
  [0x80] ++ beBytes (s.get (F.IOP_TX_CFG_PT k)) 1 ++ beBytes seq 2 ++
    beBytes (first + s.get F.PTP_MEDIA_O_O + s.get (F.IOP_TX_OFFSET_OFFSET k)) 4 ++ beBytes (s.get (F.IOP_TX_SSRC_SSRC k)) 4 ++
    frames.flatMap (fun fr => fr.flatMap (sampleBytes l24))

/-- The class-5 transmit queue of port C (R533). -/
def State.mediaTxQueue (s : State) : Option Nat :=
  match s.fab.image with
  | none => none
  | some im => (im.queues.find? (fun r => r.port = 2 ∧ r.transmit ∧ r.cls = 5)).map (·.queue)

/-- A packet of transmit stream `k` reaches port C's class-5 queue (R533–R535). -/
def State.sendPacket (s : State) (k mac first : Nat) (frames : List (List Sample)) : State :=
  let t := s.net.tx.getD k ⟨0, none, 0, []⟩
  let v6 := s.getB (F.IOP_TX_CFG_IPV6 k)
  let ip := ipUdp v6 (s.get (F.IOP_TX_IP_DSCP k)) (s.get (F.IOP_TX_IP_TTL k)) (ownAddress v6) (s.txAddr k)
    (s.get (F.IOP_TX_PORTS_SRC k)) (s.get (F.IOP_TX_PORTS_DST k)) (s.rtpPacket k t.seq first frames)
  let et := if v6 then 0x86DD else 0x0800
  let vid := s.get (F.IOP_TX_IP_VID k)
  let frame := if vid = 0 then ethFrame mac (s.macAddr 2) et ip
    else ethFrame mac (s.macAddr 2) 0x8100 (beBytes (s.get (F.IOP_TX_IP_PCP k) * 2 ^ 13 + vid) 2 ++ beBytes et 2 ++ ip)
  let s := s.updNet (fun q => { q with tx := q.tx.set k { t with seq := (t.seq + 1) % 65536 } })
  match s.mediaTxQueue with
  | none => s
  | some n => (s.enqueue 2 n frame).inc (F.IOP_TX_CNT_COUNT k)

/-- Six sample frames of the transmit channels of stream `k`, as sink endpoint 0x85 latched them (R521). -/
def State.txFrames (s : State) (k : Nat) : List (List Sample) :=
  let base := s.get (F.IOP_TX_CFG_CH_BASE k)
  let chans := (List.range (s.get (F.IOP_TX_CFG_CHANNELS k))).map (fun c => (s.sinkAt 0x85 (base + c)).getD (List.replicate 6 0))
  (List.range 6).map (fun j => chans.map (fun ch => ch.getD j 0))

/-- Transmit stream `k` at a boundary: the six sample frames just latched are those of the last stride; a packet that they
complete is sent, a multiple of its samples from index 0 (R533, R535). -/
def State.txStream (s : State) (k : Nat) : State :=
  let v6 := s.getB (F.IOP_TX_CFG_IPV6 k)
  let t := s.net.tx.getD k ⟨0, none, 0, []⟩
  let n := packetSamples (s.get (F.IOP_TX_CFG_PTIME k))
  let i := 6 * (s.count + 2 ^ 48 - 1)
  let mac := match multicastMac v6 (s.txAddr k) with
    | some m => some m
    | none => t.mac
  let s := (s.setB (F.IOP_TX_STATUS_UNRESOLVED k) mac.isNone).setB (F.IOP_TX_STATUS_SENDING k) mac.isSome
  let start := if t.samples.isEmpty then decide (i % n = 0) else true
  let first := if t.samples.isEmpty then i else t.first
  let got := if start then t.samples ++ s.txFrames k else []
  let put := fun (s : State) (l : List (List Sample)) =>
    s.updNet (fun q => { q with tx := q.tx.set k { q.tx.getD k ⟨0, none, 0, []⟩ with first := first, samples := l } })
  if got.length < n then put s got
  else match mac with
    | none => put s []
    | some m => put (s.sendPacket k m first (got.take n)) []

/-- An address resolution that port C has received: a stream to that address takes its MAC address (R535). -/
def State.resolveMac (s : State) (v6 : Bool) (ip : List Byte) (mac : Nat) : State :=
  (List.range 32).foldl (fun s k =>
    if s.getB (F.IOP_TX_CFG_EN k) && s.getB (F.IOP_TX_CFG_IPV6 k) == v6 && s.txAddr k == ip then
      s.updNet (fun q => { q with tx := q.tx.set k { q.tx.getD k ⟨0, none, 0, []⟩ with mac := some mac } })
    else s) s

/-! ### Network time and the media clock (R537–R545) -/

/-- Execute PTP_LOCK (R539): the servo's report. -/
def execPtpLock (nowNs : Int) (maxNs ms path : Nat) (state : Fin 9) (s : State) : Host.Outcome State Fault Refusal :=
  s.done (if !(s.getB F.PTP_CFG_EN && s.domOn 8) then s
    else
      let sat := fun (x : Int) => if 2147483647 < x then 2147483647 else if x < -2147483648 then -2147483648 else x
      let s := (s.setI F.PTP_OFFSET_NS (sat nowNs)).setI F.PTP_PATH_NS (sat path)
      let s := (s.set F.PTP_STATUS_PORT_STATE state).setB F.PTP_STATUS_GM_SELF (state == 6)
      if 10000 < nowNs.natAbs then (s.setB F.PTP_STATUS_LOCKED false).setB F.PTP_MEDIA_ALIGNED false
      else if maxNs ≤ 1000 ∧ 2000 ≤ ms then s.setB F.PTP_STATUS_LOCKED true else s)

/-- |D(k) − O| exceeds 1.0 sample (R543). -/
def State.mediaSlipped (s : State) : Bool :=
  decide (65536 < (signedOf (s.mediaD + 2 ^ 48 - s.get F.PTP_MEDIA_O_O * 65536 % 2 ^ 48) 48).natAbs)

/-- O follows D(k) (R543). -/
def State.checkSlip (s : State) : State :=
  if s.net.oSet && s.mediaSlipped then ((s.setMediaO).inc F.PTP_MEDIA_SLIPS).setB F.IOP_IRQ_SLIP true else s

/-- Execute PTP_CLOCK_STEP: the local clock reads `sec` and `ns` at the last boundary (R539, R543, R544). D(k) has moved, so it is
no longer held (R541). -/
def execPtpClockStep (sec ns : Nat) (s : State) : Host.Outcome State Fault Refusal :=
  s.done (if !s.domOn 8 then s
    else
      let s := (s.setB F.PTP_STATUS_STEPPED true).setB F.PTP_MEDIA_ALIGNED false
      let s := s.updNet (fun q => { q with
        clock := (sec, ns)
        media := (mediaTime sec ns, q.media.2)
        rx := q.rx.map (fun r => { r with hush := 486 }) })
      s.checkSlip)

/-- D(k) joins the watch of R542, and TRACEABLE follows. -/
def State.watchD (s : State) : State :=
  let s := if s.net.dLow.isEmpty then s.updNet (fun q => { q with dStart := s.stride, dRef := s.mediaD }) else s
  let v := (s.mediaD + 2 ^ 48 + 2 ^ 47 - s.net.dRef) % 2 ^ 48
  let s := s.updNet (fun q => { q with dLow := addSlack s.stride v q.dLow, dHigh := addSlack s.stride (2 ^ 48 - v) q.dHigh })
  let ok := match minSlack s.stride 8000 s.net.dLow, minSlack s.stride 8000 s.net.dHigh with
    | some lo, some hi => decide (20 * (2 ^ 48 - hi - lo) < 65536)
    | _, _ => false
  s.setB F.PTP_MEDIA_TRACEABLE (ok && s.getB F.PTP_STATUS_LOCKED && decide (s.net.dStart + 7999 ≤ s.stride))

/-- A receive stream at a boundary: ACTIVE falls after 8,000 strides without a stored packet. -/
def State.rxBoundary (s : State) (k : Nat) : State :=
  match (s.net.rx.getD k IopRx.idle).storedAt with
  | some t =>
    if s.getB (F.IOP_RX_STATUS_ACTIVE k) && decide (t + 8000 ≤ s.stride) then
      (s.setB (F.IOP_RX_STATUS_ACTIVE k) false).setB F.IOP_IRQ_RX_LOSS true
    else s
  | none => s

/-- r − 1 in 0.1 ppm, saturating (IOP_RX_STATUS.RATIO), for a predicted advance of R in 1/65,536 samples. -/
def ratioField (adv : Nat) : Int :=
  let x := roundDiv (((adv : Int) - 393216) * 10000000) 393216
  if 32767 < x then 32767 else if x < -32768 then -32768 else x

/-- The interop engine at a boundary, after the sinks have latched: M(k) and the predicted advance of the read positions,
the receive and transmit streams, O and TRACEABLE (R527, R533, R542, R543). -/
def State.iopBoundary (s : State) (time : Nat × Nat) (adv : Nat) : State :=
  if !s.domOn 8 then s
  else
    let m := mediaTime time.1 time.2
    let lat := fun k => s.get (F.IOP_RX_LATENCY_LATENCY k)
    let s := (List.range s.iopRxCount).foldl (fun s k => s.setB (F.IOP_RX_STATUS_CLAMPED k) (s.net.clamped.contains k)) s
    let s := s.updNet (fun q => { q with
      media := (m, adv), clock := time, stamps := [], missed := [], clamped := []
      rx := q.rx.zipIdx.map (fun r => { r.1 with hush := r.1.hush - 6, latency := lat r.2 }) })
    let s := s.checkSlip.watchD
    let s := (List.range s.iopRxCount).foldl (fun s k =>
      if s.getB (F.IOP_RX_CFG_EN k) then (s.setI (F.IOP_RX_STATUS_RATIO k) (ratioField adv)).rxBoundary k else s) s
    (List.range s.iopTxCount).foldl (fun s k => if s.getB (F.IOP_TX_CFG_EN k) then s.txStream k else s) s

end Sys2Proof.Machine
end

