-- ==== Sys2Proof/Machine/RingBase.lean ====
section
/-! DEFINITION. What the ring engine shares (chapters 08 and 09): node and port states, numbering, sending beams and
control frames, phases, and the return to gate. -/

namespace Sys2Proof.Machine

/-! ### Numbering -/

/-- The ring state changed by `f`. -/
def State.updRing (s : State) (f : RingNode → RingNode) : State := { s with ring := f s.ring }

/-- The stride, on the node's time base, whose count ends in the 32 bits `k`: the nearest (R348). -/
def State.beamAt (s : State) (k : Nat) : Nat :=
  let d := (k + 2 ^ 32 - s.count % 2 ^ 32) % 2 ^ 32
  if d < 2 ^ 31 then s.stride + d else s.stride + d - 2 ^ 32

/-- The time `at_` ns after the last boundary on the node's time base. -/
def State.nsAt (s : State) (at_ : Nat) : Nat := 125000 * s.stride + at_

/-- `n` events more of RING_CNT_k (R398). -/
def State.ringCnt (s : State) (k : Nat) : State := s.inc (F.RING_CNT_COUNT k)

/-- One event more of RING_FAULT_CNT_k (R440). -/
def State.faultCnt (s : State) (k : Nat) : State := s.inc (F.RING_FAULT_CNT_COUNT k)

/-! ### The node -/

/-- RING_STATE.STATE: 0 gate, 1 member, 2 lighthouse, 3 stabled. -/
def State.ringState (s : State) : Nat := s.get F.RING_STATE_STATE

/-- The node takes part in the ring (R344, R390). -/
def State.ringOn (s : State) : Bool :=
  (s.getB F.RING_CTRL_ENABLE || s.ring.leaveAt.isSome) && !s.halter && s.domOn 5

/-- A full load holds the ring ports in the gate state (R92). -/
def State.ringHeld (s : State) : Bool := s.fab.rampDown.isSome || !s.fab.running

/-- A member adds to the OUTs it forwards from the beam of its admission on (R343, R386); a leaving one no longer from beam m
(R390, R433). -/
def State.adding (s : State) (b : Beam) : Bool :=
  s.ringState == 1 && decide (s.ring.firstBeam ≤ s.beamAt b.stride) && (match s.ring.leaveAt with
    | some m => decide (s.beamAt b.stride < m)
    | none => true)

/-- A beam that carries the current lighthouse ID and EPOCH. -/
def State.currentBeam (s : State) (b : Beam) : Bool :=
  s.ring.known && b.lighthouse == s.get F.RING_STATE_LIGHTHOUSE && b.epoch == s.get F.RING_STATE_EPOCH

/-- A beam that this lighthouse launched. -/
def State.ownBeam (s : State) (b : Beam) : Bool := s.ringState == 2 && s.currentBeam b

/-- The node's own ID in the frames it sends: the admitted one, else the NODE_ID in effect (R352, R378, R391). -/
def State.ownId (s : State) : Nat := if s.getB F.RING_NODE_ASSIGNED then s.get F.RING_NODE_NODE else s.ring.askId

/-- RING_ID takes effect (R391). A new number lets go a node that another ring's frames held in gate (log entry 42). -/
def State.takeRingId (s : State) : State :=
  let n := s.get F.RING_ID_RING_NUMBER
  s.updRing (fun r => { r with number := n, askId := s.get F.RING_ID_NODE_ID, foreign := r.foreign && r.number == n })

/-- A frame of another ring has come: RING_MISMATCH shows, and a node in gate stays there (R346). -/
def State.sawForeign (s : State) : State :=
  (s.setB F.RING_STATE_RING_MISMATCH true).updRing (fun r => { r with foreign := r.foreign || s.ringState == 0 })

/-- The residence of R361, in ns. -/
def State.residence (s : State) : Nat := if s.secured 0 || s.secured 1 then 2400 else 1600

/-- STATE and STABLE_REASON; a change sets RING_IRQ.STATE, and stabling RING_IRQ.STABLED (R343, R387). -/
def State.setRingState (s : State) (st reason : Nat) : State :=
  let changed := s.ringState != st
  let s := (s.set F.RING_STATE_STATE st).set F.RING_STATE_STABLE_REASON (if st = 3 then reason else 0)
  let s := if st = 3 then s.setB F.RING_IRQ_STABLED true else s
  if changed then (s.setB F.RING_IRQ_STATE true).updRing (fun r => { r with musters := 0 }) else s

/-- RING_MUSTER and RING_LAP read 0 unless the node is lighthouse. -/
def State.hideLighthouse (s : State) : State :=
  ((s.set F.RING_LAP_LAP 0).set F.RING_MUSTER_ANSWERED 0).set F.RING_MUSTER_WAITING 0

/-- The node returns to gate: it gives up its ID and its phases, its listen endpoints fall silent and its store holds zeros
(R343, R376, R431). -/
def State.toGate (s : State) : State :=
  let s := (s.setB F.RING_NODE_ASSIGNED false).hideLighthouse
  let s := ((s.set F.RING_PHASE_P 0).set F.RING_PHASE_Q 0).setB F.RING_STATE_SLACK false
  let s := ((s.setB F.RING_WRAP_WRAPPED false).set (F.RING_CALL_RX_CALL 0) 0).set (F.RING_CALL_RX_CALL 1) 0
  let was := s.ringState
  let s := s.updRing (fun r => { r with
    admission := none, store := [], rets := [], blocks := [], masks := [(0, 0, 0), (0, 0, 0)], concealed := (0, 0)
    delivered := (none, none), limits := [], launches := [], unreturned := [], wrapDue := false, wrapAt := none
    closeDue := false, crossed := [], sentRets := [], winning := false, members := [], gates := [], released := []
    pFixed := false, qFixed := false, yields := false, known := r.known && was != 2 })
  s.setRingState 0 0

/-- A phase changed from `old` to `new`: P (0) or Q (1) (R375, R410, R411). -/
def State.phaseSlip (s : State) (which old new : Nat) : State :=
  (((s.set (if which = 0 then F.RING_PHASE_P else F.RING_PHASE_Q) new).ringCnt 1).setB F.RING_IRQ_PHASE_SLIP true).ev
    .phaseSlip 5 which old new

/-- P for an arrival `a` ns after the boundary (R374). -/
def phaseP (a : Nat) : Nat := (a - 2000) / 125000

/-- Q for an end `e` ns after the boundary (R374). -/
def phaseQ (e : Nat) : Nat := (e + 2000 + 124999) / 125000

/-! ### Ports -/

/-- Ring port `p` is dead (R412). -/
def State.portDead (s : State) (p : Nat) : Bool := s.get (F.RING_PORT_ROLE p) != 0

/-- Ring port `p` is mended (R425). -/
def State.portMended (s : State) (p : Nat) : Bool := s.getB (F.RING_PORT_MENDED p)

/-- Control frames cross port `p`: it is live or mended (R416, R427). -/
def State.ctlOk (s : State) (p : Nat) : Bool := s.ringLink p && (!s.portDead p || s.portMended p)

/-- The good probes counted on port `p`. -/
def State.setProbes (s : State) (p n : Nat) : State :=
  s.updRing (fun r => { r with probes := if p = 0 then (n, r.probes.2) else (r.probes.1, n) })

/-- The ROLE of port `p` and the END bit that shows it. -/
def State.setDead (s : State) (p : Nat) (dead : Bool) : State :=
  (s.setB (F.RING_PORT_ROLE p) dead).setB (if p = 0 then F.RING_WRAP_END_A else F.RING_WRAP_END_B) dead

/-- The causes of port `p` as they stand, and whether they make it dead (R412, R425). A mended port keeps its role until a
closed OUT or the lighthouse revives it (R423, R428, R429). -/
def State.evalPort (s : State) (p : Nat) : State :=
  let up := s.ringLink p
  let st := s.get (F.RING_PORT_STATE p)
  let mended := s.portMended p && up && st != 2
  let s := if s.portMended p && !mended then s.setProbes p 0 else s
  let s := s.setB (F.RING_PORT_MENDED p) mended
  let c := s.get (F.RING_PORT_CAUSE p)
  let s := if !up && !bitOf c 0 then s.setProbes p 0 else s
  let down := !up || (bitOf c 0 && !mended)
  let adrift := st == 2 || (bitOf c 1 && !(mended && st == 0))
  let silent := bitOf c 2 && !mended
  let leaving := bitOf c 3 && !mended
  let s := s.set (F.RING_PORT_CAUSE p) (bit1 down + 2 * bit1 adrift + 4 * bit1 silent + 8 * bit1 leaving)
  if (down || adrift || silent || leaving) && !s.portDead p then
    let s := (((s.setDead p true).setB (F.RING_PORT_MENDED p) false).setProbes p 0).setB F.RING_FAULT_IRQ_WRAP true
    s.updRing (fun r => { r with turned := r.turned.filter (fun t => t.2.2 ≠ p), outs := r.outs.filter (fun o => o.port ≠ p) })
  else s

/-- A cause that an event gives port `p` (R412). -/
def State.addCause (s : State) (p bit : Nat) : State :=
  ((s.setB (F.RING_PORT_MENDED p) false).setBit (F.RING_PORT_CAUSE p) bit true).evalPort p

/-- A mended port without causes becomes live (R423, R428, R429). -/
def State.revivePort (s : State) (p : Nat) : State :=
  if s.portDead p && s.portMended p && s.get (F.RING_PORT_CAUSE p) == 0 then
    ((s.setDead p false).setB (F.RING_PORT_MENDED p) false).setProbes p 0
  else s

/-- The state of port `p`: 0 moored, 1 drifting, 2 adrift; a change is shown and logged (R402). -/
def State.setPortState (s : State) (p new : Nat) : State :=
  let old := s.get (F.RING_PORT_STATE p)
  let s := s.set (F.RING_PORT_STATE p) new
  if old = new then s else (s.setB F.RING_FAULT_IRQ_PORT_STATE true).ev .portState 5 p old new

/-- The score of port `p` set; its state follows (R399, R400, R402). -/
def State.setScore (s : State) (p score : Nat) : State :=
  let old := s.get (F.RING_PORT_STATE p)
  let new := if old = 0 ∧ 96 ≤ score then 1 else if old = 1 ∧ score = 255 then 2 else if old ≠ 0 ∧ score ≤ 32 then 0 else old
  ((s.set (F.RING_PORT_SCORE p) score).setPortState p new).evalPort p

/-- A beam received on port `p` scores (R399). -/
def State.scoreBeam (s : State) (p : Nat) (bad good : Bool) : State :=
  let n := s.get (F.RING_PORT_SCORE p)
  if bad then (s.faultCnt p).setScore p (min 255 (n + 8)) else if good then s.setScore p (n - 1) else s

/-! ### Sending -/

/-- The ring's group address (R345). -/
def State.ringDa (s : State) : Nat := 0x0B5658000000 + s.ring.number

/-- A Wilnan frame with this body (R345). -/
def State.ringFrame (s : State) (da sa : Nat) (body : List Byte) : List Byte := ethFrame da sa (s.get F.RING_ETYPE_ETYPE) body

/-- The ports out of which a beam sent on port `p` at `at_` leaves: `p`, and a probe copy on the other port where that is
dead but meets R341 (R341, R426); a port whose T_w has not passed does not send it and counts it (R510). -/
def State.beamOut (s : State) (p at_ : Nat) (bytes : List Byte) : State × List (Nat × List Byte) :=
  let q := 1 - p
  let ports := (if s.ringLink p then [p] else []) ++ (if s.portDead q && s.ringLink q then [q] else [])
  (ports.foldl (fun s x => if s.awakeAt x at_ then s else s.stat x 47 1) s,
    (ports.filter (fun x => s.awakeAt x at_)).map (fun x => (x, bytes)))

/-- The frames of a beam end, poisoned or not (R404). -/
def State.emit (s : State) (out : List (Nat × List Byte)) (poisoned : Bool) : State :=
  out.foldl (fun s o => s.sendFrame o.1 o.2 poisoned true) s

/-- A beam sent whole on port `p` (R362, R421). -/
def State.sendBeam (s : State) (p at_ : Nat) (bytes : List Byte) : State :=
  let r := s.beamOut p at_ bytes
  r.1.emit r.2 false

/-- The bytes of a queued frame are a FOGHORN's. -/
def isFoghorn (bytes : List Byte) : Bool := beAt bytes 14 1 % 16 == 6

/-- A control frame is to leave by port `p`: it waits in queue 0, from which TX_FRAME_START starts it where it ends 1 µs
before the next beam (R358, R506); a FOGHORN goes ahead of every other control frame there (R435). -/
def State.sendCtlBytes (s : State) (p : Nat) (bytes : List Byte) : State :=
  if !s.ringLink p then s
  else if isFoghorn bytes then
    let fog := fun (x : Nat × List Byte) => x.1 == 0 && isFoghorn x.2
    s.updMac p (fun m => { m with txq := m.txq.filter fog ++ (0, bytes) :: m.txq.filter (fun x => !fog x) })
  else s.enqueue p 0 bytes

/-- The node's own control frame out of `ports` (R345, R352). -/
def State.sendOwnCtl (s : State) (ports : List Nat) (c : Ctl) : State :=
  ports.foldl (fun s p => s.sendCtlBytes p (s.ringFrame s.ringDa (s.macAddr p) (encodeCtl c))) s

/-- Ports out of which the node originates GATE and MUSTER frames: live or mended; a drifting one not while the other is
moored (R378, R402, R427, R428). -/
def State.originPorts (s : State) : List Nat :=
  [0, 1].filter (fun p => s.ctlOk p && !(s.get (F.RING_PORT_STATE p) == 1 && s.get (F.RING_PORT_STATE (1 - p)) == 0))

/-- A control frame of type `typ` (4 GATE, 5 MUSTER, 6 FOGHORN), with the next SEQ of its type (R352). -/
def State.newCtl (s : State) (typ : Nat) (body : List Byte) : State × Ctl :=
  let i := typ - 4
  let seq := (s.ring.seqs.getD i 0 + 1) % 65536
  let cls := if typ = 4 then 4 else if typ = 5 then 6 else 7
  (s.updRing (fun r => { r with seqs := r.seqs.set i seq }),
    { typ := typ, cls := cls, fromAdrift := false, ring := s.ring.number, hops := 0, sender := s.ownId
      stride := s.count, seq := seq, body := body })

/-! ### Claims and lighthouses -/

/-- One claim is better than another: PRECEDENCE, node ID (unassigned 256), MAC (R379). -/
def betterClaim (p1 i1 m1 p2 i2 m2 : Nat) : Bool :=
  let a := min i1 256
  let b := min i2 256
  decide (p1 < p2 ∨ (p1 = p2 ∧ (a < b ∨ (a = b ∧ m1 < m2))))

/-- A claim is better than this node's own (R379). -/
def State.betterThanOwn (s : State) (prec id mac : Nat) : Bool :=
  betterClaim prec id mac (s.get F.RING_CTRL_PRECEDENCE) s.ownId (s.macAddr 0)

/-- Lighthouse loss is declared (R430–R432). -/
def State.loseLighthouse (s : State) : State :=
  let was := (s.get F.RING_STATE_LIGHTHOUSE, s.get F.RING_STATE_EPOCH)
  let s := ((s.toGate).faultCnt 8).setB F.RING_FAULT_IRQ_LH_LOSS true
  s.updRing (fun r => { r with known := false, former := some was, enAt := s.stride, claiming := false, claims := [] })

/-- The node follows, or becomes, the lighthouse `id` of epoch `ep` (R381, R431). -/
def State.follow (s : State) (id ep : Nat) : State :=
  let changed := (s.get F.RING_STATE_LIGHTHOUSE, s.get F.RING_STATE_EPOCH) != (id, ep)
  let s := (s.set F.RING_STATE_LIGHTHOUSE id).set F.RING_STATE_EPOCH ep
  let s := if changed then s.setB F.RING_IRQ_LH_CHANGE true else s
  s.updRing (fun r => { r with known := true, former := none })

/-- The claim of lighthouse `id` as its last MUSTER bore it is better than this node's (R396). A beam bears no PRECEDENCE and
no MAC, so a lighthouse of which no MUSTER has come is compared when one does (log entry 42). -/
def State.heardBetter (s : State) (id : Nat) : Bool :=
  match s.ring.heard.lookup id with
  | some (prec, mac) => s.betterThanOwn prec id mac
  | none => false

/-- A valid beam of the node's ring has arrived on any port (R377, R396, R430, R431). -/
def State.seeLighthouse (s : State) (b : Beam) : State :=
  let s := s.updRing (fun r => { r with maxEpoch := some (max b.epoch (r.maxEpoch.getD 0)) })
  if s.ringState = 2 then
    (if s.currentBeam b then s else s.updRing (fun r => { r with yields := r.yields || s.heardBetter b.lighthouse }))
  else
    let s := if s.ring.known && !s.currentBeam b then s.loseLighthouse else s
    let s := if s.ring.known then s else s.follow b.lighthouse b.epoch
    let s := s.updRing (fun r => { r with lastValid := s.stride, slackSeen := b.slack, claiming := false, claims := [] })
    if b.typ = 1 then s.setB F.RING_STATE_SLACK b.slack else s

/-! ### The group map -/

/-- Ring sink endpoint `g` is linked, and ring source endpoint `g` (R73). -/
def State.ringLinked (s : State) (src : Bool) (g : Nat) : Bool :=
  s.linkRecs.any (fun l => if src then l.src == 0x86 && decide (l.srcPort ≤ g ∧ g < l.srcPort + l.channels)
    else l.dst == 0x86 && decide (l.dstPort ≤ g ∧ g < l.dstPort + l.channels))

/-- The ring group map in force, and the NOT_CARRIED bits of the groups the node uses (R388). -/
def State.setMap (s : State) (m : Nat) : State :=
  let s := (s.set (F.RING_MAP_MAP 0) m).set (F.RING_MAP_MAP 1) (m / 2 ^ 32)
  (List.range 64).foldl (fun s g => s.setB (F.RING_LISTEN_NOT_CARRIED g)
    ((s.ringLinked true g || s.ringLinked false g) && !m.testBit g)) s

/-- The ring group map in force. -/
def State.ringMap (s : State) : Nat := s.get (F.RING_MAP_MAP 0) + s.get (F.RING_MAP_MAP 1) * 2 ^ 32

end Sys2Proof.Machine
end

