-- ==== Sys2Proof/Machine/RingBeams.lean ====
section
/-! DEFINITION. Beams (chapters 08 and 09): what a node adds and stores, launch, OUT, RET and TURN as they start and as
they end, probes, and the delivery of mix-minus at a boundary. -/

namespace Sys2Proof.Machine

/-! ### Talk -/

/-- The ring talk blocks latched at this boundary (R137, R365). -/
def State.latchTalk (s : State) : State :=
  let b := (s.fab.sinks.filter (fun x => x.1 = 0x86)).map (fun x => (x.2.1, x.2.2))
  s.updRing (fun r => { r with talk := (s.stride, b) :: r.talk.take 31 })

/-- The ring talk blocks of boundary `k`. -/
def State.talkAt (s : State) (k : Nat) : List (Nat × List Sample) := (s.ring.talk.lookup k).getD []

/-- The groups with open talk of class `c` or above: local slots with talk open, and for class 0 the groups that no present
slot names as TALK and whose block is not all zero (R365). -/
def State.talkMask (s : State) (blocks : List (Nat × List Sample)) (c : Nat) : Nat :=
  bitsWhere 64 (fun g =>
    (List.range 32).any (fun k => s.slotTalk k && s.slotGroup k == g &&
      decide (c ≤ (if g = 63 then 3 else s.get (F.TG_KEY_SLOT_PRIORITY k)))) ||
    (c == 0 && blocks.any (fun b => b.1 == g && b.2.any (· != 0)) &&
      !(List.range 32).any (fun k => s.slotPresent k && s.getB (F.TG_KEY_SLOT_TALK k) && s.slotGroup k == g)))

/-- The groups that the call logic raises (R365, R451). -/
def State.callMask (s : State) : Nat := bitsWhere 64 s.raises

/-- Six words more a block, modulo 2^32 (R365). -/
def addWords (w : List Nat) (x : List Sample) : List Nat :=
  (w.zip x).map (fun p => (p.1 + unsignedOf p.2 32) % 2 ^ 32)

/-- An OUT with the node's blocks and masks added, and the words added by group (R365). -/
def State.addTo (s : State) (b : Beam) (blocks : List (Nat × List Sample)) : Beam × List (Nat × List Nat) :=
  let half := fun m => m / 2 ^ b.base % 2 ^ 32
  let words := b.groups.map (fun g => (g.1, match blocks.lookup g.1 with
    | some x => addWords (b.words g.2) x
    | none => b.words g.2))
  let mine := (b.groups.filter (fun g => (blocks.lookup g.1).isSome)).map (fun g =>
    (g.1, ((blocks.lookup g.1).getD []).map (fun x => unsignedOf x 32)))
  ({ b with
      adders := b.adders + 1
      talk := Nat.lor b.talk (half (s.talkMask blocks 0))
      int_ := Nat.lor b.int_ (half (s.talkMask blocks 1))
      all := Nat.lor b.all (half (s.talkMask blocks 2))
      call := Nat.lor b.call (half s.callMask)
      payload := words.flatMap (·.2) }, mine)

/-- The store entry of a beam: 2 × STRIDE[3:0] for beam A, the next for beam B (R367). -/
def storeIndex (b : Beam) : Nat := 2 * (b.stride % 16) + bit1 b.beamB

/-- What the node added to a beam goes into its entry (R367). -/
def State.storeBeam (s : State) (b : Beam) (words : List (Nat × List Nat)) : State :=
  s.updRing (fun r => { r with
    store := (storeIndex b, ⟨b.stride, words⟩) :: r.store.filter (fun e => e.1 ≠ storeIndex b) })

/-- The node's entry for a beam; none where it holds another STRIDE (R368). -/
def State.storedFor (s : State) (b : Beam) : Option Stored :=
  match s.ring.store.lookup (storeIndex b) with
  | some e => if e.stride = b.stride then some e else none
  | none => none

/-- An OUT forwarded or launched by port `p` is remembered (R412, R415). -/
def State.rememberOut (s : State) (b : Beam) (p : Nat) : State :=
  s.updRing (fun r => { r with outs := r.outs ++ [⟨b.stride, b.beamB, b.segB, b.wrapped, p⟩] })

/-! ### Launch (R362, R419) -/

/-- The lighthouse's OUT of a half, its contribution added (R362, R365). -/
def State.newOut (s : State) (beamB wrapped : Bool) : Beam × List (Nat × List Nat) :=
  let slack := s.getB F.RING_STATE_SLACK
  let map := if slack then 0 else if beamB then s.get (F.RING_MAP_MAP 1) else s.get (F.RING_MAP_MAP 0)
  let b : Beam := { typ := 1, beamB := beamB, wrapped := wrapped, slack := slack, segB := false
                    ring := s.ring.number, lighthouse := s.get F.RING_STATE_LIGHTHOUSE
                    stride := s.count % 2 ^ 32, offset := 0, epoch := s.get F.RING_STATE_EPOCH
                    length := 24 * popcount map 32, adders := 0, talk := 0, int_ := 0, all := 0, call := 0, bitmap := map
                    payload := List.replicate (6 * popcount map 32) 0 }
  s.addTo b (s.talkAt s.stride)

/-- Bytes from destination address to FCS of a frame that port `p` sends with `n` bytes before the FCS (R350, R654). -/
def State.wireLength (s : State) (p n : Nat) : Nat :=
  max 60 n + (if s.getB (F.SEC_MACSEC_TX_SECURED p) then 32 else 0) + 4

/-- The end, in ns on the node's time base, of the last beam that the lighthouse sent on port `p`. -/
def State.busyTo (s : State) (p : Nat) : Nat := if p = 0 then s.ring.busy.1 else s.ring.busy.2

/-- A beam of `n` bytes before the FCS has its SFD on port `p` at `sfd` ns on the node's time base (R363). -/
def State.keepBusy (s : State) (p sfd n : Nat) : State :=
  let e := sfd + 8 * s.wireLength p n
  s.updRing (fun r => { r with busy := if p = 0 then (e, r.busy.2) else (r.busy.1, e) })

/-- The SFD on port `p` of a beam due at `sfd` ns: not before the last one has ended and the minimum gap and the preamble
have passed (R363). -/
def State.freeAt (s : State) (p sfd : Nat) : Nat := max sfd (s.busyTo p + 160)

/-- One half launched out of `ports`: OUT A 4.000 µs after the boundary, OUT B with the minimum gap after it (R362). -/
def State.launchHalf (s : State) (ports : List Nat) (beamB wrapped : Bool) : State :=
  let r := s.newOut beamB wrapped
  let s := s.storeBeam r.1 r.2
  ports.foldl (fun s p =>
    let b := { r.1 with segB := wrapped && p == 1 }
    let at_ := if beamB then s.freeAt p (s.nsAt 4000) - s.nsAt 0 else 4000
    let bytes := s.ringFrame s.ringDa (s.macAddr p) (encodeBeam b)
    ((s.rememberOut b p).sendBeam p at_ bytes).keepBusy p (s.nsAt at_) bytes.length) s

/-- The live ring ports. -/
def State.livePorts (s : State) : List Nat := [0, 1].filter (fun p => !s.portDead p)

/-- BEAM_LAUNCH: OUT A and OUT B of this stride; in slack only at multiples of 80 (R362, R392, R419, R424). -/
def State.launch (s : State) : State :=
  let wrapped := s.getB F.RING_WRAP_WRAPPED
  let ports := if wrapped then s.livePorts else if s.portDead 0 then [] else [0]
  let s := s.updRing (fun r => { r with launchedAt := some s.stride })
  if ports.isEmpty then s
  else
    let s := (s.launchHalf ports false wrapped).launchHalf ports true wrapped
    s.updRing (fun r => if wrapped then
        { r with launches := r.launches ++ [⟨s.stride, ports, [], false, false, false⟩] }
      else { r with unreturned := r.unreturned ++ [s.stride] })

/-- Execute BEAM_LAUNCH (R362): 4 µs after a boundary, once. -/
def execBeamLaunch (s : State) : Host.Outcome State Fault Refusal :=
  s.done (if s.ringOn && s.ringState == 2 && s.strideOn && s.ring.launchedAt != some s.stride &&
      (!s.getB F.RING_STATE_SLACK || s.count % 80 == 0) then s.launch else s)

/-! ### RETs -/

/-- A RET is taken: kept with what the node's store holds, unless the beam has been had (R368, R371). -/
def State.takeRet (s : State) (b : Beam) : State :=
  let k := s.beamAt b.stride
  let last := if b.beamB then s.ring.delivered.2 else s.ring.delivered.1
  let had := s.ring.rets.any (fun r => r.stride == k && r.beam.beamB == b.beamB) ||
    (match last with
     | some d => decide (k ≤ d)
     | none => false)
  if had then s
  else match s.storedFor b with
    | none => s.ringCnt 4
    | some e => s.updRing (fun r => { r with rets := r.rets ++ [⟨k, b, e⟩] })

/-- RET B has ended at `ends`: E is measured; that of the first beam of a membership or lighthouse role fixes Q, and a late
RET raises it at once (R374, R386, R410). No Q passes 16: a member returns to gate, a lighthouse loses the beam (R376,
R395). -/
def State.retEnd (s : State) (b : Beam) (ends : Nat) (valid : Bool) : State :=
  let k := s.beamAt b.stride
  let base := if s.ringState = 1 ∨ s.ringState = 2 then some (125000 * k)
    else (s.ring.targets.lookup b.stride).map (·.1)
  match base with
  | none => s
  | some t =>
    let e := ends - t
    let s := s.updRing (fun r => { r with lastE := e })
    if !(s.ringState == 1 || s.ringState == 2) || decide (k < s.ring.firstBeam) then s
    else if !s.ring.qFixed then
      (if s.ringState = 1 ∧ 16 < phaseQ e then s.toGate
       else (s.set F.RING_PHASE_Q (min 16 (phaseQ e))).updRing (fun r => { r with qFixed := true }))
    else if valid then
      let q := s.get F.RING_PHASE_Q
      let new := if s.ringState = 2 then min 16 (phaseQ e) else phaseQ e
      if 125000 * (k + q) < ends + 1000 ∧ q < new then
        let s := (s.phaseSlip 1 q new).updRing (fun r => { r with firstBeam := k })
        if 16 < new then s.toGate else s
      else s
    else s

/-! ### The start of a received beam: what goes out while it still arrives -/

/-- The bytes of a beam that the node sends on: with a whole frame its header and payload, else the body as it came with
TYPE and OFFSET in place (R359). -/
def State.onward (s : State) (h : EthHdr) (raw : List Byte) (whole : Bool) (b : Beam) : List Byte :=
  s.ringFrame h.da h.sa (if whole then encodeBeam b
    else beBytes (16 + b.typ) 1 ++ (raw.drop 1).take 7 ++ beBytes b.offset 3 ++ raw.drop 11)

/-- OFFSET after a link and a residence (R359). -/
def State.nextOffset (s : State) (p : Nat) (b : Beam) : Nat :=
  min 0xFFFFFF (b.offset + s.get (F.RING_LINK_DELAY p) + s.residence)

/-- An admitted node becomes member with the beam whose STRIDE is `k` (R386). P and Q are those it has measured so far, until
the arrival of that beam fixes P and its return Q. -/
def State.joinRing (s : State) (k id : Nat) : State :=
  if s.ring.foreign then s
  else
    let s := ((s.set F.RING_PHASE_P (phaseP (s.get F.RING_ARRIVAL_A))).set F.RING_PHASE_Q (phaseQ s.ring.lastE)).ringCnt 5
    let s := (s.set F.RING_NODE_NODE id).setB F.RING_NODE_ASSIGNED true
    let s := s.updRing (fun r => { r with
      admission := none, lastId := some id, firstBeam := s.beamAt k, pFixed := false, qFixed := false })
    let s := s.setRingState 1 0
    if 16 < phaseQ s.ring.lastE then s.toGate else s

/-- The beam that an answer named, or one after it, arrives at a node that is not yet member (R386). -/
def State.admitAt (s : State) (b : Beam) : State :=
  match s.ring.admission with
  | none => s
  | some (k, id) => if (s.ringState = 0 ∨ s.ringState = 3) ∧ s.beamAt k ≤ s.beamAt b.stride then s.joinRing k id else s

/-- OUT A as a member, gate or stabled node measures it: its target of R373 and A of R374; P of the first beam of a
membership (R386), and the early OUT of R411. -/
def State.measureOut (s : State) (p : Nat) (b : Beam) (sfd hdr : Nat) : State :=
  if b.beamB then s
  else
    let target := sfd - (b.offset + s.get (F.RING_LINK_DELAY p) + 4000)
    let s := s.updRing (fun r => { r with
      targets := (b.stride, target, s.stride) :: (r.targets.filter (fun t => t.1 ≠ b.stride)).take 63 })
    let a := sfd + 8 * hdr - (if s.ringState = 1 then 125000 * s.beamAt b.stride else target)
    let s := s.set F.RING_ARRIVAL_A (min 0xFFFFFF a)
    let pp := s.get F.RING_PHASE_P
    if s.ringState = 1 ∧ !s.ring.pFixed ∧ s.ring.firstBeam ≤ s.beamAt b.stride then
      (s.set F.RING_PHASE_P (phaseP a)).updRing (fun r => { r with pFixed := true })
    else if s.adding b ∧ a < 125000 * pp + 1000 ∧ phaseP a < pp then s.phaseSlip 0 pp (phaseP a) else s

/-- A member's part in an OUT: it adds, or not, and stores (R365–R367). -/
def State.contribute (s : State) (b : Beam) (ok : Bool) : State × Beam :=
  if s.adding b && ok then
    if b.adders = 256 then ((s.ringCnt 0).storeBeam b [], b)
    else
      let r := s.addTo b (s.talkAt (s.beamAt b.stride + s.get F.RING_PHASE_P))
      (s.storeBeam b r.2, r.1)
  else (s.storeBeam b [], b)

/-- An OUT starts on live port `p` of a node that did not launch it: added to, then forwarded or turned (R365, R414,
R429). -/
def State.startOut (s : State) (p : Nat) (h : EthHdr) (raw : List Byte) (b : Beam) (ok : Bool) (sfd at_ hdr : Nat) :
    State × List (Nat × List Byte) :=
  let s := if ok then (s.admitAt b).measureOut p b sfd hdr else s
  let c := s.contribute b ok
  let s := c.1
  let b2 := { c.2 with offset := s.nextOffset p b }
  let q := 1 - p
  let s := if b.wrapped then s else s.revivePort q
  if s.portDead q then s.beamOut p (at_ + s.residence) (s.onward h raw ok { b2 with typ := 3 })
  else (s.rememberOut b q).beamOut q (at_ + s.residence) (s.onward h raw ok b2)

/-- The lighthouse sends beam `b`, which arrived on port `p` at `at_`, on as a RET out of port `q`: after its residence, but
not while an earlier beam leaves there; OFFSET takes in the wait (R348, R359, R363, R421). -/
def State.sendRet (s : State) (p q : Nat) (h : EthHdr) (raw : List Byte) (ok : Bool) (b : Beam) (at_ : Nat) :
    State × List (Nat × List Byte) :=
  let due := s.nsAt (at_ + s.residence)
  let sfd := s.freeAt q due
  let ret := { b with typ := 2, offset := min 0xFFFFFF (s.nextOffset p b + (sfd - due)) }
  let bytes := s.onward h raw ok ret
  (s.keepBusy q sfd bytes.length).beamOut q (sfd - s.nsAt 0) bytes

/-- The lighthouse's own OUT returns: closed, it goes on as the RET (R363, R405). -/
def State.startReturn (s : State) (p : Nat) (h : EthHdr) (raw : List Byte) (b : Beam) (ok : Bool) (sfd at_ : Nat) :
    State × List (Nat × List Byte) :=
  if b.wrapped then (s, [])
  else
    let k := s.beamAt b.stride
    let s := if b.beamB then s
      else (s.set F.RING_LAP_LAP (min 0xFFFFFF (sfd - (125000 * k + 4000)))).updRing (fun r => { r with
        unreturned := r.unreturned.filter (· ≠ k) })
    let s := s.updRing (fun r => { r with sentRets := (r.sentRets ++ [{ b with typ := 2 }]).drop (r.sentRets.length - 63) })
    if s.portDead (1 - p) then (s, []) else s.sendRet p (1 - p) h raw ok b at_

/-- A RET starts on live port `p` of a node that did not send it: forwarded, or consumed where the other port is dead
(R342, R417). -/
def State.startRet (s : State) (p : Nat) (h : EthHdr) (raw : List Byte) (b : Beam) (ok : Bool) (at_ : Nat) :
    State × List (Nat × List Byte) :=
  if s.portDead (1 - p) then (s, [])
  else s.beamOut (1 - p) (at_ + s.residence) (s.onward h raw ok { b with offset := s.nextOffset p b })

/-- The node sent the OUT of a TURN out of port `p` (R415). -/
def State.sentOutOf (s : State) (b : Beam) (p : Nat) : Bool :=
  s.ring.outs.any (fun o => o.stride == b.stride && o.beamB == b.beamB && o.segB == b.segB && o.port == p)

/-- A TURN starts on live port `p`: noted, and forwarded where the node sent its OUT out of that port (R412, R415); at the
wrapped lighthouse with one launch port it goes back as the RET (R421). -/
def State.startTurn (s : State) (p : Nat) (h : EthHdr) (raw : List Byte) (b : Beam) (ok : Bool) (at_ : Nat) :
    State × List (Nat × List Byte) :=
  let s := if b.wrapped && !b.beamB then
      s.updRing (fun r => { r with turned := (b.stride, b.segB, p) :: r.turned.take 255 }) else s
  let q := 1 - p
  if s.ownBeam b then
    (if !b.wrapped then (s.updRing (fun r => { r with wrapDue := true }), [])
     else if s.ring.launches.any (fun l => l.stride == s.beamAt b.stride && l.ports == [p]) && (b.segB == (p == 1)) && ok then
       s.sendRet p p h raw ok b at_
     else (s, []))
  else if s.ringState = 2 then (s, [])
  else if s.sentOutOf b p && !s.portDead q then
    s.beamOut q (at_ + s.residence) (s.onward h raw ok { b with offset := s.nextOffset p b })
  else (s.faultCnt 10, [])

/-! ### The end of a received beam -/

/-- A probe has ended (R425, R427). -/
def State.probeEnd (s : State) (p : Nat) (bad good : Bool) : State :=
  let n := if p = 0 then s.ring.probes.1 else s.ring.probes.2
  if bad then ((s.setB (F.RING_PORT_MENDED p) false).setProbes p 0).evalPort p
  else if good then
    let s := s.setProbes p (n + 1)
    if 63 ≤ n ∧ s.ringLink p ∧ s.get (F.RING_PORT_STATE p) ≠ 2 then (s.setB (F.RING_PORT_MENDED p) true).evalPort p else s
  else s

/-- The pair `k` of wrapped beams changed. -/
def State.updLaunch (s : State) (k : Nat) (f : Launch → Launch) : State :=
  s.updRing (fun r => { r with launches := r.launches.map (fun l => if l.stride = k then f l else l) })

/-- The pair `k` counts as one without a RET, once (R422). -/
def State.noRet (s : State) (k : Nat) : State :=
  if s.ring.launches.any (fun l => l.stride == k && !l.counted) then
    (s.faultCnt 5).updLaunch k (fun l => { l with counted := true })
  else s

/-- RET `half` of pair `l` is formed. -/
def Launch.finish (l : Launch) (beamB : Bool) : Launch := if beamB then { l with doneB := true } else { l with doneA := true }

/-- The RET that the wrapped lighthouse merges from two TURNs (R420). -/
def State.mergeTurns (s : State) (a b : Beam) : Beam :=
  let own := (s.storedFor a).getD ⟨a.stride, []⟩
  let words := a.groups.flatMap (fun g =>
    let c := (own.words.lookup g.1).getD (List.replicate 6 0)
    (List.range 6).map (fun j =>
      ((a.words g.2).getD j 0 + (b.words g.2).getD j 0 + 2 ^ 32 - c.getD j 0) % 2 ^ 32))
  { a with
    typ := 2
    offset := 0
    adders := a.adders + b.adders - 1
    talk := Nat.lor a.talk b.talk
    int_ := Nat.lor a.int_ b.int_
    all := Nat.lor a.all b.all
    call := Nat.lor a.call b.call
    payload := words }

/-- Talk in a returned TALK_MASK breaks the silence that slack waits for, and ends slack (R392, R393). -/
def State.talkBack (s : State) (b : Beam) : State :=
  if b.talk = 0 then s
  else s.updRing (fun r => { r with zeroSince := s.stride, slackWake := some (r.slackWake.getD s.stride) })

/-- A wrapped TURN of the lighthouse's own beam has ended (R420–R422). -/
def State.turnEnd (s : State) (p : Nat) (b : Beam) (at_ : Nat) (lost : Bool) : State :=
  let s := if lost then s else s.talkBack b
  let k := s.beamAt b.stride
  match s.ring.launches.find? (fun l => l.stride = k) with
  | none => s
  | some l =>
    let done := if b.beamB then l.doneB else l.doneA
    if done || !l.ports.contains p || b.segB != (p == 1) || !b.wrapped then s
    else if l.ports.length = 1 then
      let s := s.updLaunch k (·.finish b.beamB)
      if lost then s.noRet k else s.takeRet { b with typ := 2 }
    else
      let l2 := { l with turns := l.turns.filter (fun t => ¬ (t.1 = b.beamB ∧ t.2.1 = p)) ++ [(b.beamB, p, b, lost)] }
      let s := s.updLaunch k (fun _ => l2)
      match l2.turns.find? (fun t => t.1 = b.beamB ∧ t.2.1 = 0), l2.turns.find? (fun t => t.1 = b.beamB ∧ t.2.1 = 1) with
      | some x, some y =>
        let s := s.updLaunch k (·.finish b.beamB)
        if x.2.2.2 || y.2.2.2 then s.noRet k
        else
          let ret := s.mergeTurns x.2.2.1 y.2.2.1
          let s := l.ports.foldl (fun s p =>
            let bytes := s.ringFrame s.ringDa (s.macAddr p) (encodeBeam { ret with segB := p == 1 })
            let sfd := if b.beamB then s.freeAt p (s.nsAt (at_ + 2000)) else s.nsAt (at_ + 2000)
            (s.sendBeam p (sfd - s.nsAt 0) bytes).keepBusy p sfd bytes.length) s
          s.takeRet ret
      | _, _ => s

/-- A returned RET of the lighthouse is compared with the one it sent (R364). -/
def State.compareRet (s : State) (b : Beam) : State :=
  match s.ring.sentRets.find? (fun r => r.stride = b.stride ∧ r.beamB = b.beamB) with
  | none => s
  | some r =>
    let s := s.updRing (fun q => { q with sentRets := q.sentRets.filter (fun x => x ≠ r) })
    if r.payload = b.payload ∧ r.talk = b.talk ∧ r.int_ = b.int_ ∧ r.all = b.all ∧ r.call = b.call then s else s.ringCnt 3

/-- What a beam that ended on a live port does, once its checks stand (R406). -/
def State.beamUse (s : State) (e : PendRx) (lost : Bool) : State :=
  let b := e.beam
  let at_ := e.ends - 125000 * s.stride
  if s.ownBeam b then
    match b.typ with
    | 1 =>
      if lost then s
      else if b.wrapped then
        (if s.getB F.RING_WRAP_WRAPPED && b.segB != (e.port == 1) then s.updRing (fun r => { r with closeDue := true }) else s)
      else s.talkBack b
    | 2 =>
      let s := if b.wrapped || lost then s else (s.compareRet b).takeRet b
      if b.beamB && !b.wrapped then s.retEnd b e.ends (!lost) else s
    | _ => s.turnEnd e.port b at_ lost
  else if lost then s
  else
    let s := s.seeLighthouse b
    let s := if b.typ = 1 ∧ b.wrapped then s.setB F.RING_WRAP_SEGMENT b.segB else s
    if b.typ = 2 ∧ s.currentBeam b ∧ s.ringState ≠ 2 then
      let s := if s.ringState = 1 then s.takeRet b else s
      if b.beamB then s.retEnd b e.ends true else s
    else s

/-- A beam has ended with the verdict `ok` of its ICV: counters, score, the FCS of what the node sent for it, and its use
(R399, R404, R425, R655). -/
def State.beamEnd (s : State) (e : PendRx) (ok : Bool) : State :=
  let bad := e.bad || !ok
  let poisoned := e.poisoned && !bad
  let s := if e.secured && !e.bad && !e.poisoned then
      (if ok then (s.advancePn e.port e.pn).stat e.port 13 1 else s.stat e.port 32 1) else s
  let s := if bad || poisoned then s else s.stat e.port 14 1
  let s := s.emit e.out (bad || poisoned)
  let s := if bad && !e.out.isEmpty then s.faultCnt 2 else s
  let s := if poisoned then s.faultCnt 3 else s
  let lost := bad || poisoned || !e.lenOk || !e.ours
  let s := s.scoreBeam e.port bad (!bad && !poisoned && e.lenOk)
  if e.dead then
    let s := if lost then s else s.seeLighthouse e.beam
    s.probeEnd e.port bad (!lost && s.currentBeam e.beam)
  else if e.ours then s.beamUse e lost else s

/-! ### Reception -/

/-- What a ring port does with a beam as it arrives, `at_` ns after the last boundary, once steps 2 to 4 let it in. -/
def State.beamStart (s : State) (p : Nat) (f : RxFrame) (b : Beam) (at_ : Nat) (bad poisoned : Bool) : State × PendRx :=
  let h := ethHdr f.bytes
  let raw := rxBody f
  let ours := h.da % 256 == s.ring.number
  let s := if ours || bad || poisoned then s else s.sawForeign
  let ok := b.lengthOk raw.length
  let sfd := s.nsAt at_
  let q := 1 - p
  let s := if s.portDead p && ours && ok && !bad && !poisoned && b.typ == 1 && !b.wrapped && s.currentBeam b then
      s.revivePort p else s
  let e : PendRx := { port := p, beam := b, ours := ours, lenOk := ok, bad := bad, poisoned := poisoned
                      secured := h.secTag, sfd := sfd, ends := sfd + 8 * rxLength f, dead := s.portDead p, out := []
                      pn := if h.secTag then s.replayPass p f.bytes else none }
  let r : State × List (Nat × List Byte) :=
    if s.portDead p then
      (if s.portDead q && s.ringLink q && !bad && !poisoned && ok && ours && s.currentBeam b then
        (if s.awakeAt q (at_ + s.residence) then (s, [(q, s.onward h raw ok b)]) else (s.stat q 47 1, []))
      else (s, []))
    else if !ours then
      (if s.portDead q then (s, []) else s.beamOut q (at_ + s.residence) (s.onward h raw false b))
    else if s.ownBeam b then
      (if b.typ = 1 then s.startReturn p h raw b ok sfd at_ else if b.typ = 2 then (s, []) else s.startTurn p h raw b ok at_)
    else if b.typ = 3 then s.startTurn p h raw b ok at_
    else if s.ringState = 2 then (s, [])
    else if b.typ = 1 then s.startOut p h raw b ok sfd at_ (f.bytes.length - raw.length + 36)
    else s.startRet p h raw b ok at_
  (r.1, { e with out := r.2 })

/-- A beam frame of a ring port: its checks (R475, R476), its way through the node, and its end; with a SecTAG the end
waits for the ICV verdict (R655). -/
def State.receiveBeam (s : State) (p : Nat) (f : RxFrame) (b : Beam) (at_ : Nat) : State :=
  let h := ethHdr f.bytes
  if !h.secTag && s.macsecReq p then
    (let a := s.acceptFrame p f
     let s := if a.2 then a.1.stat p 33 1 else a.1
     if f.fcs == 2 && !decide (rxLength f < 64) then s else s.scoreBeam p true false)
  else
    let s := (s.acceptFrame p f).1
    let fault := decide (rxLength f < 64) || f.cut || f.phyErr || f.fcs == 1 ||
      (h.secTag && !s.secTagGood p f)
    let s := if h.secTag && f.fcs == 0 && !s.secTagGood p f then s.stat p 32 1 else s
    let r := s.beamStart p f b at_ fault (f.fcs == 2)
    if h.secTag && !fault then r.1.updRing (fun q => { q with pend := q.pend ++ [r.2] })
    else r.1.beamEnd r.2 true

/-- Zeroisation: no verdict comes for a beam that waits for one, and what went out for it ends poisoned, under MACsec with an ICV field of
zeros (R659, R660). -/
def State.cutBeams (s : State) : State :=
  let s := (s.ring.pend.flatMap (·.out)).foldl (fun s o => (s.emit [o] true).spoilFrame o.1) s
  s.updRing (fun r => { r with pend := [] })

/-- Execute ICV_VERDICT: the oldest beam of port `p` whose verdict is due (R655). -/
def execIcvVerdict (p : Fin 2) (ok : Bool) (s : State) : Host.Outcome State Fault Refusal :=
  s.done (match s.ring.pend.find? (fun e => e.port = p.val) with
    | none => s
    | some e =>
      let s := s.updRing (fun r => { r with pend := r.pend.filter (fun x => x ≠ e) })
      if s.ringOn then s.beamEnd e ok else s)

/-! ### Delivery at a boundary -/

/-- The largest `n` below `2^bits + lo` with (2n − 1) P ≤ 2 x C 10^(m / 200), C = 8,388,607: the magnitude `x` times the
gain, rounded to nearest (R118, R370). -/
def limSearch (x P m : Nat) : Nat → Nat → Nat
  | 0, lo => lo
  | b + 1, lo =>
    let n := lo + 2 ^ b
    if ((2 * n - 1) * P) ^ 200 ≤ (2 * x * 8388607) ^ 200 * 10 ^ m then limSearch x P m b n else limSearch x P m b lo

/-- A sample through the limiter gain 8,388,607 × 10^(m / 200) / P (R370). -/
def limSample (x : Int) (P m : Nat) : Int :=
  if 0 ≤ x then (limSearch x.toNat P m 24 0 : Int) else -(limSearch (-x).toNat P m 24 0 : Int)

/-- The gain (P, m) is below 1. -/
def limBelowOne (g : Nat × Nat) : Bool := decide (8388607 ^ 200 * 10 ^ g.2 < g.1 ^ 200)

/-- The smaller of two gains. -/
def limMin (a b : Nat × Nat) : Nat × Nat := if 10 ^ a.2 * b.1 ^ 200 ≤ 10 ^ b.2 * a.1 ^ 200 then a else b

/-- The limiter of a block with peak `P` whose last gain was `old`: its gain, none for 1 (R370). -/
def limStep (old : Option (Nat × Nat)) (P : Nat) : Option (Nat × Nat) :=
  let g := match old with
    | some (q, m) => limMin (q, m + 1) (P, 0)
    | none => (P, 0)
  if limBelowOne g then some g else none

/-- The mix-minus words of one group as an audio block (R368, R370): the block, the new gain, and whether it counts. -/
def listenBlock (shift : Nat) (limit : Bool) (old : Option (Nat × Nat)) (t c : List Nat) :
    List Sample × Option (Nat × Nat) × Bool :=
  let m := (List.range 6).map (fun j => roundDiv (signedOf (t.getD j 0 + 2 ^ 32 - c.getD j 0) 32) (2 ^ shift))
  if limit then
    let peak := m.foldl (fun n x => max n x.natAbs) 0
    match limStep old peak with
    | some g => (m.map (fun x => limSample x g.1 g.2), some g, true)
    | none => (m, none, false)
  else (m.map (fun x => (sat24 x).1), old, m.any (fun x => (sat24 x).2))

/-- One carried group of a delivered RET on its listen endpoint. -/
def State.deliverGroup (s : State) (r : RetHave) (g i : Nat) : State :=
  let c := (r.stored.words.lookup g).getD (List.replicate 6 0)
  let x := listenBlock (s.get (F.RING_LISTEN_SHIFT g)) (s.getB (F.RING_LISTEN_LIMIT g)) (s.ring.limits.lookup g)
    (r.beam.words i) c
  let lim := s.ring.limits.filter (fun l => l.1 ≠ g)
  let s := s.updRing (fun q => { q with
    blocks := q.blocks ++ [(g, x.1)]
    limits := match x.2.1 with
      | some v => lim ++ [(g, v)]
      | none => lim })
  if x.2.2 then s.ringCnt 2 else s

/-- The blocks of a half dropped. -/
def State.clearHalf (s : State) (h : Nat) : State :=
  s.updRing (fun r => { r with blocks := r.blocks.filter (fun b => b.1 / 32 ≠ h) })

/-- Concealed boundaries in a row of half `h`. -/
def State.concealedOf (s : State) (h : Nat) : Nat := if h = 0 then s.ring.concealed.1 else s.ring.concealed.2

/-- Concealed boundaries in a row of half `h`, set. -/
def State.setConcealed (s : State) (h n : Nat) : State :=
  s.updRing (fun r => { r with concealed := if h = 0 then (n, r.concealed.2) else (r.concealed.1, n) })

/-- The beam delivered last on half `h`. -/
def State.deliveredOf (s : State) (h : Nat) : Option Nat := if h = 0 then s.ring.delivered.1 else s.ring.delivered.2

/-- The RET of half `h` is delivered: blocks, classes and calls (R368–R372). -/
def State.deliverHalf (s : State) (h : Nat) (r : RetHave) : State :=
  let s := (s.clearHalf h).setConcealed h 0
  let s := (r.beam.groups.filter (fun g => s.ringLinked true g.1)).foldl (fun s g => s.deliverGroup r g.1 g.2) s
  let s := s.updRing (fun q => { q with
    masks := q.masks.set h (r.beam.talk, r.beam.int_, r.beam.all)
    delivered := if h = 0 then (some r.stride, q.delivered.2) else (q.delivered.1, some r.stride) })
  let s := s.set (F.RING_CALL_RX_CALL h) r.beam.call
  if s.ringState = 2 then s else s.setB F.RING_WRAP_WRAPPED r.beam.wrapped

/-- A half is concealed at this boundary: each sample halved toward zero, all zero after 24; classes and calls kept for 24
(R408, R409). -/
def State.concealHalf (s : State) (h : Nat) : State :=
  let n := s.concealedOf h + 1
  let s := s.setConcealed h n
  let s := s.updRing (fun r => { r with
    blocks := r.blocks.map (fun b => if b.1 / 32 = h then (b.1, b.2.map (fun x => if 24 < n then 0 else truncDiv x 2)) else b)
    masks := if 24 < n then r.masks.set h (0, 0, 0) else r.masks })
  if 24 < n then s.set (F.RING_CALL_RX_CALL h) 0 else s

/-- What a half does at this boundary: true where it is concealed. -/
def State.stepHalf (s : State) (h : Nat) : State × Bool :=
  let q := s.get F.RING_PHASE_Q
  let k := s.stride - q
  if s.stride < s.ring.firstBeam + q then
    (if (s.deliveredOf h).isSome then (s.concealHalf h, true) else (s.clearHalf h, false))
  else if s.getB F.RING_STATE_SLACK && (s.count + 2 ^ 48 - q) % 80 != 0 then (s.clearHalf h, false)
  else
    let repeated := match s.deliveredOf h with
      | some d => decide (k ≤ d)
      | none => false
    if repeated then (s, false)
    else match s.ring.rets.find? (fun r => r.stride = k ∧ r.beam.beamB = (h == 1)) with
      | some r => (s.deliverHalf h r, false)
      | none => (s.concealHalf h, true)

/-- The ring listen endpoints at this boundary (R343, R371, R408, R424). -/
def State.deliverRing (s : State) : State :=
  if !(s.ringOn && s.inRing) then s.updRing (fun r => { r with blocks := [] })
  else if s.ringState = 2 ∧ s.livePorts.isEmpty then s.updRing (fun r => { r with blocks := [] })
  else
    let a := s.stepHalf 0
    let b := a.1.stepHalf 1
    let s := if a.2 || b.2 then b.1.faultCnt 4 else b.1
    s.updRing (fun r => { r with rets := r.rets.filter (fun x => s.stride < x.stride + s.get F.RING_PHASE_Q + 17) })

/-- The block that ring source endpoint `g` carries. -/
def State.ringSource (s : State) (g : Nat) : List Sample := (s.ring.blocks.lookup g).getD (List.replicate 6 0)

/-- A remote announcement is live (R438). -/
def State.fogLive (s : State) : Bool := !s.ring.live.isEmpty

/-- The class of the talk that the ring carries on group `g`, if any: by its own bit for each class (R322, R323, R339, R372, R438). -/
def State.remoteClass (s : State) (g : Nat) : Option Nat :=
  if !(s.ringOn && s.inRing) then none
  else
    let m := s.ring.masks.getD (g / 32) (0, 0, 0)
    let i := g % 32
    if g = 63 ∧ (m.1.testBit i || s.fogLive) = true then some 3
    else if m.2.2.testBit i then some 2
    else if m.2.1.testBit i then some 1
    else if m.1.testBit i then some 0 else none

end Sys2Proof.Machine
end

