-- ==== Sys2Proof/Machine/RingControl.lean ====
section
/-! DEFINITION. Control frames, admission, election, links, wrapping, splicing and foghorns (chapters 08 and 09). -/

namespace Sys2Proof.Machine

/-! ### GATE (R354, R384, R387, R389, R390) -/

/-- FLAGS of this node's GATE. A port that is not live shows its MACSEC bit set: R385 asks for MACsec of live ports only, and
the GATE says by nothing else which of them are live (log entry 42). -/
def State.gateFlags (s : State) (member leave : Bool) : Nat :=
  bit1 (s.getB F.RING_CTRL_CANDIDATE) + 2 * bit1 (s.getB F.RING_STATE_LOCKED) + 4 * bit1 (s.secured 0 || s.portDead 0) +
    8 * bit1 (s.secured 1 || s.portDead 1) + 16 * bit1 s.approved + 32 * bit1 member + 64 * bit1 leave

/-- The node sends a GATE (R354, R431): an admission request, with which RING_ID takes effect (R391); a presence refresh; or a
LEAVE, out of each live port (R433). -/
def State.sendGate (s : State) (member leave : Bool) : State :=
  let s := if member || leave then s else s.takeRingId
  let q := if s.ring.lastE = 0 then 255 else min 255 (phaseQ s.ring.lastE)
  let r := s.newCtl 4 (gateBody (s.macAddr 0) (s.ring.lastId.getD s.ring.askId) (s.get F.RING_CTRL_PRECEDENCE)
    (s.gateFlags member leave) q s.groupMask)
  r.1.sendOwnCtl (if leave then [0, 1].filter (fun p => !s.portDead p) else r.1.originPorts) r.2

/-! ### Enabling and disabling (R344, R390, R391) -/

/-- RING_CTRL.ENABLE rises (R377, R391, R401, R402, R412). -/
def State.enableRing (s : State) : State :=
  let s := [0, 1].foldl (fun s p => (((((s.set (F.RING_PORT_SCORE p) 0).setPortState p 0).set
    (F.RING_PORT_CAUSE p) 0).setB (F.RING_PORT_MENDED p) false).setDead p false).setProbes p 0) s
  (s.toGate.takeRingId).updRing (fun r => { r with
    foreign := false, heard := [], busy := (0, 0), enAt := s.stride, known := false, claiming := false, claims := [], leaveAt := none, leaving := []
    turned := [], outs := [], pend := [], targets := [] })

/-- The node takes no further part in the ring: control frames that still wait are dropped (R344, R391, R847). -/
def State.leaveRing (s : State) : State :=
  let s := [0, 1].foldl (fun s p => s.updMac p (fun m => { m with txq := m.txq.filter (fun x => x.1 != 0) })) s
  (s.toGate).updRing (fun r => { r with
    leaveAt := none, known := false, claiming := false, claims := [], lastId := none, pend := [], live := [],
    bypassOpen := false })

/-- The first muster stride after the present stride, on the node's time base. -/
def State.nextMuster (s : State) : Nat := s.stride + (64 - s.count % 64)

/-- RING_CTRL has been written; `was` is ENABLE before (R377, R390, R433). A node that is no candidate drops its claim (R42). -/
def State.ringCtrlWritten (s : State) (was : Bool) : State :=
  let on := s.getB F.RING_CTRL_ENABLE
  let s := if s.getB F.RING_CTRL_CANDIDATE then s
    else s.updRing (fun r => { r with claiming := false, claims := [], winning := false })
  if on && !was then s.enableRing
  else if !on && was then
    (if s.ringState = 1 ∧ !s.halter then
      (s.sendGate false true).updRing (fun r => { r with leaveAt := some s.nextMuster })
     else s.leaveRing)
  else s

/-- NODE_ID has been written: the next request asks for it (R391). -/
def State.ringIdWritten (s : State) : State := s.updRing (fun r => { r with lastId := none })

/-! ### Musters (R383, R385, R388, R389, R397) -/

/-- The lowest node ID that is not taken. -/
def lowestFree (used : List Nat) : Nat := ((List.range 256).find? (fun i => !used.contains i)).getD 0

/-- The answer to one GATE request: RESULT and NODE_ID, given the requests answered before it in this MUSTER (R385). -/
def State.answerGate (s : State) (r : GateReq) (before : List GateReq) : Nat × Nat :=
  let own := s.get F.RING_NODE_NODE
  if 16 < r.q then (4, r.reqId)
  else if s.approved && !(bitOf r.flags 2 && bitOf r.flags 3) then (3, r.reqId)
  else if r.reqId = own ∨ s.ring.members.any (fun m => m.id = r.reqId ∧ m.mac ≠ r.mac) = true ∨
      before.any (fun b => b.reqId = r.reqId ∧ r.reqId ≠ 0xFFFF ∧ b.mac < r.mac) = true then (1, r.reqId)
  else if 255 ≤ s.ring.members.length then (2, r.reqId)
  else (0, if r.reqId = 0xFFFF then lowestFree (own :: s.ring.members.map (·.id)) else r.reqId)

/-- The waiting requests of earlier strides answered in order, at most `room` (R385); their entries. -/
def State.answerGates (s : State) : Nat → List GateReq → List (Nat × Nat × Nat) → State × List (Nat × Nat × Nat)
  | 0, _, acc => (s, acc)
  | room + 1, before, acc =>
    match s.ring.gates with
    | [] => (s, acc)
    | r :: rest =>
      if s.stride ≤ r.at_ then (s, acc)
      else
        let a := s.answerGate r before
        let s := s.updRing (fun q => { q with
          gates := rest
          members := if a.1 = 0 then q.members.filter (fun m => m.mac ≠ r.mac) ++ [⟨a.2, r.mac, r.mask, r.at_⟩]
            else q.members })
        State.answerGates s room (before ++ [r]) (acc ++ [(r.mac, a.2, a.1)])

/-- The lighthouse sends its MUSTER (R355, R383, R388, R428). -/
def State.sendMuster (s : State) : State :=
  let rel := (s.ring.released.take 8).map (fun x => (x.1, x.2, 5))
  let s := s.updRing (fun r => { r with released := r.released.drop 8, musterAt := some s.stride })
  let r := s.answerGates (8 - rel.length) [] []
  let entries := rel ++ r.2
  let s := r.1
  let map := s.ring.members.foldl (fun n m => Nat.lor n m.mask) (Nat.lor s.groupMask (2 ^ 63))
  let s := (s.setMap map).set F.RING_NODE_MEMBERS (s.ring.members.length + 1)
  let s := (s.set F.RING_MUSTER_ANSWERED r.2.length).set F.RING_MUSTER_WAITING (min 256 s.ring.gates.length)
  let c := s.newCtl 5 (musterBody (s.ring.members.length + 1) (s.get F.RING_CTRL_PRECEDENCE)
    (2 * bit1 s.approved + 4 * bit1 (s.getB F.RING_STATE_SLACK)) (s.macAddr 0) map entries)
  let s := c.1
  let ports := s.originPorts
  let s := if s.getB F.RING_WRAP_WRAPPED then
      s.updRing (fun q => { q with crossed := (⟨c.2.seq, ports, []⟩ :: q.crossed).take 4 }) else s
  s.sendOwnCtl ports c.2

/-- Whether the present stride is a muster stride: a multiple of 64, or of 80 in slack (R383, R392). -/
def State.musterStride (s : State) : Bool :=
  if s.getB F.RING_STATE_SLACK then s.count % 80 == 0 else s.count % 64 == 0

/-- Execute MUSTER_SEND: once in a muster stride, after OUT B (R383). -/
def execMusterSend (s : State) : Host.Outcome State Fault Refusal :=
  s.done (if s.ringOn && s.ringState == 2 && s.strideOn && s.musterStride && s.ring.launchedAt == some s.stride &&
      s.ring.musterAt != some s.stride then
    s.sendMuster else s)

/-- Execute NODE_ID_RELEASE: node ID `id` has had no GATE from its MAC for 2,048 ms (R389). -/
def execNodeIdRelease (id : Fin 256) (s : State) : Host.Outcome State Fault Refusal :=
  s.done (match s.ring.members.find? (fun m => m.id = id.val) with
    | none => s
    | some m =>
      if s.ringState = 2 ∧ m.lastGate + 16384 ≤ s.stride then
        s.updRing (fun r => { r with members := r.members.filter (fun x => x ≠ m), released := r.released ++ [(m.mac, m.id)] })
      else s)

/-! ### Control frames received (R346, R352, R353, R407) -/

/-- A received control frame goes on with HOPS one higher, out of the other port, or back where that is neither live nor
mended (R342, R380, R416). -/
def State.forwardCtl (s : State) (p : Nat) (h : EthHdr) (c : Ctl) : State :=
  s.sendCtlBytes (if s.ctlOk (1 - p) then 1 - p else p) (s.ringFrame h.da h.sa (encodeCtl { c with hops := c.hops + 1 }))

/-- A GATE at the lighthouse: refreshes or ends a membership, or waits for an answer (R385, R389, R390, R393). -/
def State.lighthouseGate (s : State) (c : Ctl) : State :=
  let mac := beAt c.body 0 6
  let flags := beAt c.body 9 1
  let s := s.updRing (fun r => { r with
    slackWake := some (r.slackWake.getD s.stride)
    members := r.members.map (fun m => if m.mac = mac then { m with lastGate := s.stride } else m) })
  if bitOf flags 6 then
    s.updRing (fun r => { r with
      members := r.members.filter (fun m => m.mac ≠ mac)
      released := r.released ++ (r.members.filter (fun m => m.mac = mac)).map (fun m => (m.mac, m.id)) })
  else if bitOf flags 5 || s.ring.gates.any (fun g => g.mac == mac) then s
  else
    let s := s.updRing (fun r => { r with
      gates := r.gates ++ [⟨mac, beAt c.body 6 2, flags, beAt c.body 10 1, beAt c.body 12 8, c.sender, s.stride⟩] })
    s.set F.RING_MUSTER_WAITING (min 256 s.ring.gates.length)

/-- A LEAVE at a neighbour and at the lighthouse (R433). -/
def State.leaveSeen (s : State) (p : Nat) (c : Ctl) : State :=
  let k := s.beamAt (c.stride % 2 ^ 32)
  let m := k + (64 - c.stride % 64)
  let s := if c.hops = 0 then s.updRing (fun r => { r with leaving := r.leaving ++ [(p, m + 1)] }) else s
  if s.ringState = 2 ∧ s.stride < m + 1 ∧ !s.getB F.RING_WRAP_WRAPPED then s.updRing (fun r => { r with wrapAt := some (m + 1) })
  else s

/-- A GATE frame (R385, R433). -/
def State.gateIn (s : State) (p : Nat) (h : EthHdr) (c : Ctl) : State :=
  let s := if bitOf (beAt c.body 9 1) 6 then s.leaveSeen p c else s
  let s := if s.ringState = 2 then s.lighthouseGate c else s
  s.forwardCtl p h c

/-- A claim (R380): a claimant that hears a better one stops and forwards it, and drops a worse one; others forward. -/
def State.claimIn (s : State) (p : Nat) (h : EthHdr) (c : Ctl) : State :=
  if s.ring.claiming then
    (if s.betterThanOwn (beAt c.body 2 1) c.sender (beAt c.body 4 6) then
      (s.updRing (fun r => { r with claiming := false, claims := [], winning := false, enAt := s.stride })).forwardCtl p h c
     else s)
  else s.forwardCtl p h c

/-- What this node's entry in a MUSTER does (R386, R387, R389). -/
def State.musterAnswer (s : State) (c : Ctl) : State :=
  match (musterEntries c.body).find? (fun e => e.1 = s.macAddr 0) with
  | none => s
  | some (_, id, res) =>
    let out := s.ringState == 0 || s.ringState == 3
    if res = 0 ∧ out then s.updRing (fun r => { r with admission := some ((c.stride + 64) % 2 ^ 32, id) })
    else if res = 5 ∧ s.ringState = 1 then s.toGate
    else if 1 ≤ res ∧ res ≤ 4 ∧ out then s.setRingState 3 res
    else s

/-- The GATE that a node sends after a MUSTER (R384, R387, R389). -/
def State.musterReply (s : State) (c : Ctl) : State :=
  let n := s.ring.musters
  let ready := s.getB F.RING_STATE_LOCKED && s.ring.lastE != 0 && decide (phaseQ s.ring.lastE ≤ 16) &&
    (!s.approved || (bitOf (beAt c.body 3 1) 1 && s.livePorts.all s.secured))
  if s.ring.foreign then s
  else if s.ringState = 0 ∧ s.ring.admission = none ∧ ready then s.sendGate false false
  else if s.ringState = 3 ∧ 0 < n ∧ n % 128 = 0 then s.sendGate false false
  else if s.ringState = 1 ∧ 0 < n ∧ n % 64 = 0 then s.sendGate true false
  else s

/-- A node in gate adopts the ring's count from the next boundary on (R801): the number of the boundary nearest the time
that R373 gives for the beam of the MUSTER's STRIDE, received in this stride. -/
def State.adoptCount (s : State) (c : Ctl) : State :=
  let id := (s.get F.RING_STATE_LIGHTHOUSE, s.get F.RING_STATE_EPOCH)
  match s.ring.targets.find? (fun t => t.1 = c.stride % 2 ^ 32 ∧ t.2.2 = s.stride) with
  | none => s
  | some t =>
    if s.ringState ≠ 0 ∨ !s.ring.known ∨ s.ring.adopted = some id ∨ c.sender ≠ id.1 then s
    else
      let n := (t.2.1 + 62500) / 125000
      s.updRing (fun r => { r with
        adopted := some id
        adoptAt := if (n + s.countAdj) % 2 ^ 48 = c.stride then none else some (c.stride + s.stride + 1 - n) })

/-- A MUSTER without CLAIM at a node that did not send it (R384–R389, R396, R430, R801). A lighthouse that hears a better one
gives way at the next boundary. -/
def State.musterIn (s : State) (p : Nat) (h : EthHdr) (c : Ctl) : State :=
  if s.ringState = 2 then
    let claim := (c.sender, beAt c.body 2 1, beAt c.body 4 6)
    (s.updRing (fun r => { r with
      heard := (claim :: r.heard.filter (fun x => x.1 ≠ c.sender)).take 256
      yields := r.yields || s.betterThanOwn claim.2.1 claim.1 claim.2.2 })).forwardCtl p h c
  else
    let s := s.updRing (fun r => { r with claiming := false, claims := [], winning := false })
    let s := if s.ring.known && c.sender != s.get F.RING_STATE_LIGHTHOUSE then s.loseLighthouse else s
    let s := s.adoptCount c
    let s := (s.setMap (beAt c.body 10 8)).set F.RING_NODE_MEMBERS (beAt c.body 0 2)
    let id := (beAt c.body 4 6, c.seq)
    let s :=
      if s.ringHeld ∨ s.ring.leaveAt.isSome ∨ s.ring.lastMuster = some id then s
      else
        let s := s.updRing (fun r => { r with lastMuster := some id, musters := r.musters + 1 })
        (s.musterAnswer c).musterReply c
    s.forwardCtl p h c

/-- This node's own control frame has come back: it is removed; a claim counts for its port, and a MUSTER that crossed the
ring counts for closing (R353, R381, R428). -/
def State.ownCtlBack (s : State) (p : Nat) (h : EthHdr) (c : Ctl) : State :=
  if c.typ ≠ 5 then s
  else if bitOf (beAt c.body 3 1) 0 then
    let cs := s.ring.claims.map (fun t => if t.seq = c.seq then { t with back := t.back ++ [p] } else t)
    let whole := fun (t : Track) => t.ports.all (fun q => t.back.contains q)
    let three := (List.range cs.length).any (fun i => decide (i + 3 ≤ cs.length) && ((cs.drop i).take 3).all whole)
    let may := s.getB F.RING_CTRL_CANDIDATE
    s.updRing (fun r => { r with
      claims := cs
      winning := r.winning || (r.claiming && three && may)
      claiming := r.claiming && !three })
  else if h.sa = s.macAddr (1 - p) then
    s.updRing (fun r => { r with crossed := r.crossed.map (fun t => if t.seq = c.seq then { t with back := t.back ++ [p] } else t) })
  else s

/-! ### Foghorns (R434–R439) -/

/-- A FOGHORN of this node (R434, R435): out of every port whose link is up and that is not adrift, else out of every port
whose link is up, marked FROM_ADRIFT. -/
def State.sendFoghorn (s : State) (kind origin fseq : Nat) : State :=
  if !s.ringOn then s
  else
    let up := [0, 1].filter s.ringLink
    let good := up.filter (fun p => s.get (F.RING_PORT_STATE p) ≠ 2)
    let mark := good.isEmpty && !up.isEmpty
    let r := s.newCtl 6 (foghornBody kind origin fseq)
    let s := r.1.sendOwnCtl (if mark then up else good) { r.2 with fromAdrift := mark }
    if mark then up.foldl (fun s _ => s.faultCnt 9) s else s

/-- RING_FOGHORN.LIVE as the live announcements stand (R438). -/
def State.showFogLive (s : State) : State := s.setB F.RING_FOGHORN_LIVE s.fogLive

/-- The local talk on group 63 at a boundary: an episode opens or closes (R434). -/
def State.fogBoundary (s : State) : State :=
  let open_ := s.tg.localTalk.testBit 63
  if open_ && !s.ring.fogOpen then
    let s := (s.set F.RING_FOGHORN_FSEQ (s.get F.RING_FOGHORN_FSEQ + 1)).set F.RING_FOGHORN_ACKS 0
    let s := s.updRing (fun r => { r with fogOpen := true, fogAt := s.stride, fogLeft := 0 })
    s.sendFoghorn 1 s.ownId (s.get F.RING_FOGHORN_FSEQ)
  else if !open_ && s.ring.fogOpen then
    let s := s.updRing (fun r => { r with fogOpen := false, fogAt := s.stride, fogLeft := 2 })
    s.sendFoghorn 2 s.ownId (s.get F.RING_FOGHORN_FSEQ)
  else s

/-- Execute FOGHORN_REPEAT: every 64 strides while the talk stays open (R434). -/
def execFoghornRepeat (s : State) : Host.Outcome State Fault Refusal :=
  s.done (if s.ring.fogOpen ∧ s.ring.fogAt + 64 ≤ s.stride then
    (s.updRing (fun r => { r with fogAt := s.stride })).sendFoghorn 1 s.ownId (s.get F.RING_FOGHORN_FSEQ) else s)

/-- Execute FOGHORN_RELEASE: the second and third RELEASE, 8 strides apart (R434). -/
def execFoghornRelease (s : State) : Host.Outcome State Fault Refusal :=
  s.done (if 0 < s.ring.fogLeft ∧ s.ring.fogAt + 8 ≤ s.stride then
    (s.updRing (fun r => { r with fogAt := s.stride, fogLeft := r.fogLeft - 1 })).sendFoghorn 2 s.ownId
      (s.get F.RING_FOGHORN_FSEQ) else s)

/-- TG_FOGHORN.ACK has been written: one ACK for each live announcement (R434). -/
def State.ackFoghorns (s : State) : State := s.ring.live.foldl (fun s a => s.sendFoghorn 3 a.origin a.fseq) s

/-- What a FOGHORN frame asks for, acted on once (R438, R439). -/
def State.fogAct (s : State) (c : Ctl) : State :=
  let kind := beAt c.body 0 1
  let origin := beAt c.body 2 2
  let fseq := beAt c.body 4 2
  let others := s.ring.live.filter (fun a => ¬ (a.origin = origin ∧ a.fseq = fseq))
  if kind = 1 then
    let s := if others.length = s.ring.live.length then s.setB F.RING_FAULT_IRQ_FOGHORN true else s
    (s.updRing (fun r => { r with live := others ++ [⟨origin, fseq, s.stride⟩] })).showFogLive
  else if kind = 2 then (s.updRing (fun r => { r with live := others })).showFogLive
  else if kind = 3 ∧ origin = s.ownId ∧ fseq = s.get F.RING_FOGHORN_FSEQ then s.incSat F.RING_FOGHORN_ACKS
  else s

/-- An accepted FOGHORN frame (R393, R436, R437). -/
def State.fogIn (s : State) (p : Nat) (h : EthHdr) (c : Ctl) : State :=
  let s := s.updRing (fun r => { r with slackWake := some (r.slackWake.getD s.stride) })
  let seen := s.ring.fogSeen.filter (fun x => decide (s.stride < x.2.2 + 1024))
  let s :=
    if seen.any (fun x => x.1 == c.sender && x.2.1 == c.seq) then s.updRing (fun r => { r with fogSeen := seen })
    else (s.updRing (fun r => { r with fogSeen := seen ++ [(c.sender, c.seq, s.stride)] })).fogAct c
  let q := if s.ringLink (1 - p) then 1 - p else p
  let adrift := c.fromAdrift || s.get (F.RING_PORT_STATE q) == 2
  let s := if adrift then s.faultCnt 9 else s
  s.sendCtlBytes q (s.ringFrame h.da h.sa (encodeCtl { c with hops := c.hops + 1, fromAdrift := adrift }))

/-- Execute FOGHORN_EXPIRY: 192 strides without a repeat (R438). -/
def execFoghornExpiry (origin : Nat) (s : State) : Host.Outcome State Fault Refusal :=
  s.done (s.updRing (fun r => { r with
    live := r.live.filter (fun a => ¬ (a.origin = origin ∧ a.at_ + 192 ≤ s.stride)) })).showFogLive

/-! ### Dispatch (R346, R347, R475 step 5) -/

/-- A control frame that passed its checks: with 255 hops it is dropped, the node's own goes no further (R353), and one of
another ring goes on as it came (R346), back where the port ahead is dead and not mended (R416). -/
def State.useCtl (s : State) (p : Nat) (h : EthHdr) (raw : List Byte) (c : Ctl) : State :=
  if c.hops = 255 then s
  else if h.sa = s.macAddr 0 ∨ h.sa = s.macAddr 1 then
    (if h.da % 256 = s.ring.number then s.ownCtlBack p h c else s)
  else if h.da % 256 ≠ s.ring.number then
    (if s.ctlOk (1 - p) || (c.typ == 6 && s.ringLink (1 - p)) then s.sawForeign.sendCtlBytes (1 - p) (s.ringFrame h.da h.sa raw)
     else s.sawForeign.forwardCtl p h c)
  else if c.typ = 6 then s.fogIn p h c
  else if c.typ = 4 then s.gateIn p h c
  else if bitOf (beAt c.body 3 1) 0 then s.claimIn p h c
  else s.musterIn p h c

/-- The frame fails its FCS or ICV check (R407). -/
def State.ctlBad (s : State) (p : Nat) (f : RxFrame) : Bool :=
  f.fcs != 0 || ((ethHdr f.bytes).secTag && !s.icvGood p f)

/-- A FOGHORN is accepted when its ICV verifies, or outside approved mode on a link without MACsec when its FCS is good
(R437). -/
def State.fogAccepted (s : State) (p : Nat) (f : RxFrame) : Bool :=
  !f.cut && (s.icvGood p f || (f.fcs == 0 && !(ethHdr f.bytes).secTag && !s.approved && !s.getB (F.SEC_MACSEC_RX_SECURED p)))

/-- A control frame of a ring port: store-and-forward; one that fails its FCS or ICV is discarded and counted; a FOGHORN is
accepted on its ICV alone (R407, R437). -/
def State.receiveCtl (s : State) (p : Nat) (f : RxFrame) (c : Ctl) : State :=
  let h := ethHdr f.bytes
  let a := s.acceptFrame p f
  let m := if a.2 then a.1.macsecCheck p f else (a.1, false)
  let good := if c.typ = 6 then s.fogAccepted p f else m.2
  let s := if a.2 && m.2 then m.1.stat p 14 1
    else if c.typ == 6 && f.fcs == 1 && s.icvGood p f then m.1.advancePn p (s.replayPass p f.bytes) else m.1
  if !s.ringOn then s
  else if !good then (if s.ctlBad p f then s.faultCnt 11 else s)
  else if s.ringLink p then s.useCtl p h (rxBody f) c else s

/-- A frame of EtherType RING_ETYPE on a ring port (R346, R347). -/
def State.receiveWilnan (s : State) (p : Nat) (f : RxFrame) (at_ : Nat) : State :=
  let h := ethHdr f.bytes
  let raw := rxBody f
  let refuse := fun (s : State) =>
    let a := s.acceptFrame p f
    if !a.2 then a.1
    else
      let m := a.1.macsecCheck p f
      if m.2 then m.1.stat p 34 1 else m.1
  if !h.tags.isEmpty || !isRingGroup h.da then refuse s
  else match parseBeam raw with
    | some b =>
      if s.ringOn && s.ringLink p then s.receiveBeam p f b at_
      else
        let a := s.acceptFrame p f
        if !a.2 then a.1
        else
          let m := a.1.macsecCheck p f
          if m.2 then m.1.stat p 14 1 else m.1
    | none =>
      match parseCtl raw with
      | some c => s.receiveCtl p f c
      | none =>
        let t := beAt raw 0 1 % 16
        let bad := f.fcs == 1 || decide (rxLength f < 64) || (h.secTag && !s.icvGood p f)
        let s := refuse s
        if s.ringOn && decide (1 ≤ t ∧ t ≤ 3) && bad then s.scoreBeam p true false
        else if s.ringOn && decide (4 ≤ t ∧ t ≤ 6) && s.ctlBad p f then s.faultCnt 11 else s

/-- A frame is a Wilnan frame of one of these types. -/
def State.isWilnan (s : State) (f : RxFrame) (types : List Nat) : Bool :=
  (ethHdr f.bytes).etype == s.get F.RING_ETYPE_ETYPE && types.contains (beAt (rxBody f) 0 1 % 16)

/-- A Wilnan frame of one of `types` on ring port `p`; another frame changes nothing, being another command. -/
def State.wilnanOf (s : State) (p : Nat) (f : RxFrame) (at_ : Nat) (types : List Nat) : State :=
  if s.carries p && s.isWilnan f types then s.receiveWilnan p f at_ else s

/-- Execute OUT_RECEIVED (R365). -/
def execOutReceived (p : Fin 2) (f : RxFrame) (at_ : Nat) (s : State) : Host.Outcome State Fault Refusal :=
  s.done (s.wilnanOf p f at_ [1])

/-- Execute RET_RECEIVED (R368). -/
def execRetReceived (p : Fin 2) (f : RxFrame) (at_ : Nat) (s : State) : Host.Outcome State Fault Refusal :=
  s.done (s.wilnanOf p f at_ [2])

/-- Execute TURN_RECEIVED (R415). -/
def execTurnReceived (p : Fin 2) (f : RxFrame) (at_ : Nat) (s : State) : Host.Outcome State Fault Refusal :=
  s.done (s.wilnanOf p f at_ [3])

/-- Execute GATE_RECEIVED (R385). -/
def execGateReceived (p : Fin 2) (f : RxFrame) (s : State) : Host.Outcome State Fault Refusal :=
  s.done (s.wilnanOf p f 0 [4])

/-- Execute MUSTER_RECEIVED (R384). -/
def execMusterReceived (p : Fin 2) (f : RxFrame) (s : State) : Host.Outcome State Fault Refusal :=
  s.done (s.wilnanOf p f 0 [5])

/-- Execute FOGHORN_RECEIVED (R437). -/
def execFoghornReceived (p : Fin 2) (f : RxFrame) (s : State) : Host.Outcome State Fault Refusal :=
  s.done (s.wilnanOf p f 0 [6])

/-! ### Phases and admission -/

/-- P one step by R375, and Q one step. -/
def State.checkPhases (s : State) : State :=
  let a := s.get F.RING_ARRIVAL_A
  let p := s.get F.RING_PHASE_P
  let s :=
    if a < 125000 * p + 1000 ∧ 0 < p then s.phaseSlip 0 p (p - 1)
    else if 125000 * p + 126000 < a then s.phaseSlip 0 p (p + 1) else s
  let e := s.ring.lastE
  let q := s.get F.RING_PHASE_Q
  let s :=
    if 125000 * q < e + 1000 then s.phaseSlip 1 q (q + 1)
    else if e + 126000 < 125000 * q then s.phaseSlip 1 q (q - 1) else s
  if 16 < s.get F.RING_PHASE_Q then s.toGate else s

/-- Execute MUSTER_PHASE_CHECK: a member at a muster stride, once (R375, R376). -/
def execMusterPhaseCheck (s : State) : Host.Outcome State Fault Refusal :=
  s.done (if s.ringOn && s.ringState == 1 && s.musterStride && s.ring.checkedAt != some s.stride then
    (s.updRing (fun r => { r with checkedAt := some s.stride })).checkPhases else s)

/-- Execute ADMISSION_EFFECT: from the boundary whose beam the answer named the node is member (R374, R386); should that beam
arrive first, its arrival does the same. -/
def execAdmissionEffect (s : State) : Host.Outcome State Fault Refusal :=
  s.done (match s.ring.admission with
    | none => s
    | some (k, id) =>
      if s.ringOn ∧ (s.ringState = 0 ∨ s.ringState = 3) ∧ s.beamAt k ≤ s.stride then s.joinRing k id else s)

/-- Execute PEER_DELAY (R360): L of a live ring port, with its correction. -/
def execPeerDelay (p : Fin 2) (ns : Nat) (s : State) : Host.Outcome State Fault Refusal :=
  s.done (if s.ringOn && s.ringLink p && !s.portDead p then
    s.set (F.RING_LINK_DELAY p) (min 0xFFFFFF ((ns : Int) + s.getI (F.RING_LINK_CORR p)).toNat) else s)

/-- Execute RING_LOCKED: LOCKED sets after 2 s within ±200 ns and clears beyond ±1 µs (R373). -/
def execRingLocked (maxNs nowNs ms : Nat) (s : State) : Host.Outcome State Fault Refusal :=
  s.done (if !s.ringOn ∨ s.ringState = 2 then s
    else if 1000 < nowNs then s.setB F.RING_STATE_LOCKED false
    else if maxNs ≤ 200 ∧ 2000 ≤ ms then s.setB F.RING_STATE_LOCKED true else s)

/-! ### Election (R377–R381) -/

/-- The node claims once more (R378). -/
def State.sendClaim (s : State) : State :=
  let ports := s.originPorts.filter (fun p => !s.portDead p)
  let r := s.newCtl 5 (musterBody 1 (s.get F.RING_CTRL_PRECEDENCE) (1 + 2 * bit1 s.approved) (s.macAddr 0)
    (Nat.lor s.groupMask (2 ^ 63)) [])
  let s := r.1.updRing (fun q => { q with claims := (⟨r.2.seq, ports, []⟩ :: q.claims).take 16, lastClaim := s.stride })
  let s := s.sendOwnCtl ports r.2
  let three := (s.ring.claims.take 3).length = 3 ∧ (s.ring.claims.take 3).all (fun t => t.ports.isEmpty)
  if three then s.updRing (fun q => { q with winning := true, claiming := false }) else s

/-- Execute LIGHTHOUSE_CLAIM: a candidate in gate that has had no valid beam for 64 strides (R377, R432). RING_ID takes effect:
a claimant makes no admission request (R391, log entry 42). -/
def execLighthouseClaim (s : State) : Host.Outcome State Fault Refusal :=
  s.done (if s.ringOn && !s.ringHeld && s.ringState == 0 && s.getB F.RING_CTRL_CANDIDATE && !s.ring.known && !s.ring.claiming &&
      !s.ring.winning && !s.ring.foreign && decide (s.ring.enAt + 64 ≤ s.stride) then
    (s.takeRingId.updRing (fun r => { r with claiming := true, claims := [] })).sendClaim else s)

/-- Execute CLAIM_SEND: every 8 strides, while the node is a candidate (R42, R378). -/
def execClaimSend (s : State) : Host.Outcome State Fault Refusal :=
  s.done (if s.ringOn && s.ring.claiming && s.getB F.RING_CTRL_CANDIDATE && decide (s.ring.lastClaim + 8 ≤ s.stride) then s.sendClaim else s)

/-- The claimant that has won becomes lighthouse at this boundary (R381). The map stands until its first MUSTER (R388). -/
def State.becomeLighthouse (s : State) : State :=
  let ep := match s.ring.maxEpoch with
    | some e => (e + 1) % 256
    | none => 0
  let id := if s.ring.askId ≤ 255 then s.ring.askId else 0
  let s := (s.set F.RING_NODE_NODE id).setB F.RING_NODE_ASSIGNED true
  let s := (((s.follow id ep).set F.RING_PHASE_P 0).set F.RING_PHASE_Q 16).set F.RING_NODE_MEMBERS 1
  let s := s.updRing (fun r => { r with
    winning := false, claiming := false, claims := [], maxEpoch := some (max ep (r.maxEpoch.getD 0)), lastId := some id
    members := [], gates := [], released := [], zeroSince := s.stride, firstBeam := s.stride, qFixed := false
    wrapDue := false, musterAt := none, heard := [], yields := false })
  s.setRingState 2 0

/-! ### Slack (R392, R393) -/

/-- Execute SLACK_ENTER (R392). -/
def execSlackEnter (s : State) : Host.Outcome State Fault Refusal :=
  s.done (if s.ringOn && s.ringState == 2 && s.getB F.RING_CTRL_SLACK_EN && !s.getB F.RING_STATE_SLACK && s.ring.gates.isEmpty &&
      decide (s.ring.zeroSince + 8000 ≤ s.stride) then
    (s.setB F.RING_STATE_SLACK true).updRing (fun r => { r with slackWake := none }) else s)

/-- Execute SLACK_LEAVE: at the first boundary after talk, a FOGHORN or a GATE (R393). -/
def execSlackLeave (s : State) : Host.Outcome State Fault Refusal :=
  s.done (if s.ringState == 2 && s.getB F.RING_STATE_SLACK && s.ring.slackWake.any (fun k => decide (k < s.stride)) then
    (s.setB F.RING_STATE_SLACK false).updRing (fun r => { r with slackWake := none, zeroSince := s.stride }) else s)

/-! ### Links and liveness -/

/-- The link of port `p` drops, with what that cuts (R412, R517, R518). -/
def State.linkDrop (s : State) (p : Nat) (cut : Cut) : State :=
  if !s.domOn (5 + p) || !s.getB (F.MAC_STATUS_LINK p) then s
  else
    let s := if cut.receiving then s.stat p 21 1 else s
    let s := if cut.sending then s.abandonFrame p else s
    let gone := fun (x : Nat × List Byte) => !(decide (p < 2) && x.1 == 0)
    let n := ((s.mac p).txq.filter gone).length
    let s := (s.stat p 47 n).updMac p (fun m => { m with txq := m.txq.filter (fun x => !gone x) })
    let s := (s.setB (F.MAC_STATUS_LINK p) false).setB (F.MAC_IRQ_LINK p) true
    let s := (s.setB (F.MAC_STATUS_LPI_TX p) false).setB (F.MAC_STATUS_LPI_RX p) false
    if p < 2 ∧ s.ringOn then s.evalPort p else s

/-- Execute LINK_DOWN (R412, R517, R518). -/
def execLinkDown (p : Fin 3) (cut : Cut) (s : State) : Host.Outcome State Fault Refusal :=
  s.done (s.linkDrop p cut)

/-- Execute LINK_UP (R412, R470, R472); no link comes up while the MAC transmit clocks stand still (R817). -/
def execLinkUp (p : Fin 3) (speed : Fin 3) (full : Bool) (s : State) : Host.Outcome State Fault Refusal :=
  s.done (if !s.domOn (5 + p) || s.getB F.CLK_STATUS_REF_LOST then s
    else
      let s := ((s.setB (F.MAC_STATUS_LINK p) true).set (F.MAC_STATUS_SPEED p) speed).setB (F.MAC_STATUS_HALF_DUPLEX p) (!full)
      let s := s.setB (F.MAC_IRQ_LINK p) true
      if p.val < 2 ∧ s.ringOn then s.evalPort p else s)

/-- The strides between beams: 1, or 80 in slack (R392). -/
def State.beamStep (s : State) : Nat := if s.getB F.RING_STATE_SLACK then 80 else 1

/-- A wrapped OUT A sent out of port `p` has had no TURN in its time (R412). -/
def State.unturned (s : State) (p : Nat) (o : OutSeen) : Bool :=
  let q := if s.ringState = 2 then 16 else s.get F.RING_PHASE_Q
  o.port == p && o.wrapped && !o.beamB && decide (s.beamAt o.stride + q ≤ s.stride) &&
    !s.ring.turned.any (fun t => t.1 == o.stride && t.2.1 == o.segB && t.2.2 == p)

/-- Execute SILENT_PORT: two consecutive wrapped beams without a TURN (R412). -/
def execSilentPort (p : Fin 2) (s : State) : Host.Outcome State Fault Refusal :=
  let l := s.ring.outs.filter (s.unturned p)
  s.done (if s.ringOn && !s.portDead p && l.any (fun a => l.any (fun b =>
      b.stride == (a.stride + s.beamStep) % 2 ^ 32 && a.segB == b.segB)) then s.addCause p 2 else s)

/-! ### Wrapping and closing (R418, R422, R423, R428) -/

/-- OUT A of two consecutive beams is overdue (R418). -/
def State.overdue (s : State) : Bool :=
  let lap := s.get F.RING_LAP_LAP
  let late := fun k => decide (125000 * k + 4000 + lap + 8000 < 125000 * s.stride)
  lap != 0 && s.ring.unreturned.any (fun k => late k && s.ring.unreturned.any (fun j => j == k + s.beamStep && late j))

/-- The lighthouse wraps (R418). -/
def State.wrapRing (s : State) : State :=
  let s := ((s.setB F.RING_WRAP_WRAPPED true).faultCnt 6).setB F.RING_FAULT_IRQ_WRAP true
  (s.ev .wrap 5 (s.get F.RING_STATE_LIGHTHOUSE) 0 0).updRing (fun r => { r with
    wrapDue := false, wrapAt := none, unreturned := [], closeDue := false, crossed := [] })

/-- Execute WRAP_ENTRY: at a boundary (R418, R433). -/
def execWrapEntry (s : State) : Host.Outcome State Fault Refusal :=
  s.done (if s.ringOn && s.ringState == 2 && !s.getB F.RING_WRAP_WRAPPED && (s.portDead 0 || s.portDead 1 || s.ring.wrapDue ||
      s.overdue || (match s.ring.wrapAt with
        | some m => decide (m ≤ s.stride)
        | none => false)) then s.wrapRing else s)

/-- The lighthouse closes the ring: its mended ports become live; while one is dead it stays wrapped (R423, R428). -/
def State.closeRing (s : State) : State :=
  let s := (s.updRing (fun r => { r with closeDue := false })).revivePort 0
  let s := s.revivePort 1
  if s.portDead 0 || s.portDead 1 then s
  else
    let s := ((s.setB F.RING_WRAP_WRAPPED false).faultCnt 7).setB F.RING_FAULT_IRQ_HEAL true
    (s.ev .heal 5 (s.get F.RING_STATE_LIGHTHOUSE) 0 0).updRing (fun r => { r with crossed := [], wrapDue := false })

/-- Execute RING_HEAL_CLOSE: the MUSTERs of 3 consecutive muster strides have crossed (R428). -/
def execRingHealClose (s : State) : Host.Outcome State Fault Refusal :=
  let three := s.ring.crossed.take 3
  s.done (if s.ringOn && s.ringState == 2 && s.getB F.RING_WRAP_WRAPPED && s.musterStride && three.length == 3 &&
      three.all (fun t => !t.back.isEmpty) then s.closeRing else s)

/-- Execute RET_MISSING: a TURN of beam `k` has not ended by boundary k + 16 (R422). -/
def execRetMissing (k : Nat) (s : State) : Host.Outcome State Fault Refusal :=
  s.done (if s.ring.launches.any (fun l => l.stride == k && !(l.doneA && l.doneB) && decide (l.stride + 16 ≤ s.stride)) then
    (s.noRet k).updRing (fun r => { r with launches := r.launches.filter (fun l => l.stride ≠ k) }) else s)

/-- Execute LIGHTHOUSE_LOSS: 24 strides, or 3 slack beams, without a valid beam of the lighthouse (R430, R431). -/
def execLighthouseLoss (s : State) : Host.Outcome State Fault Refusal :=
  s.done (if s.ringOn && s.ringState != 2 && s.ring.known &&
      decide (s.ring.lastValid + (if s.ring.slackSeen then 240 else 24) ≤ s.stride) then s.loseLighthouse else s)

/-! ### The ring at a boundary -/

/-- The adoption that waits takes effect at this boundary (R801, R802). -/
def State.adoptBoundary (s : State) : State :=
  match s.ring.adoptAt with
  | none => s
  | some n =>
    let old := s.count
    let s := { s with countAdj := (n + 2 ^ 48 - s.stride % 2 ^ 48) % 2 ^ 48 }
    let s := (s.updRing (fun r => { r with adoptAt := none })).inc F.CLK_ADOPT_COUNT
    let new := s.count
    (s.ev .strideAdopt 13 old new (old / 2 ^ 32 * 2 ^ 16 + new / 2 ^ 32)).clearHistory

/-- The ring at a boundary, before the launch: leaving, LEAVING marks, port causes, election, closing, delivery, talk and
foghorns. -/
def State.ringBoundary (s : State) : State :=
  let s := match s.ring.leaveAt with
    | some m => if m < s.stride then s.leaveRing else s
    | none => s
  if !s.ringOn then s.updRing (fun r => { r with blocks := [] })
  else
    let due := s.ring.leaving.filter (fun x => decide (x.2 ≤ s.stride))
    let s := s.updRing (fun r => { r with leaving := r.leaving.filter (fun x => decide (s.stride < x.2)) })
    let s := due.foldl (fun s x => s.addCause x.1 3) s
    let s := (s.evalPort 0).evalPort 1
    let s := if s.ring.yields && s.ringState == 2 then s.toGate.updRing (fun r => { r with enAt := s.stride }) else s
    let s := if s.ring.winning && s.ringState == 0 && s.getB F.RING_CTRL_CANDIDATE && !s.ringHeld then s.becomeLighthouse else s
    let s := if s.ringState == 2 && s.ring.closeDue then s.closeRing else s
    let s := s.updRing (fun r => { r with
      outs := r.outs.filter (fun o => decide (s.stride < s.beamAt o.stride + 256))
      launches := r.launches.filter (fun l => decide (s.stride < l.stride + 256)) })
    s.deliverRing

end Sys2Proof.Machine
end

