-- ==== Sys2Proof/Machine/Mac.lean ====
section
/-! DEFINITION. Frames at the MAC ports (chapter 11) and MACsec key agreement (chapter 14): the parser, the receive steps,
pause, transmit queues, low-power idle, snapshots, and the secure channels. -/

namespace Sys2Proof.Machine

/-! ### The parser (R490–R494) -/

/-- IPv6 extension headers from offset `o` with next header `nh`: the transport, its offset, whether a Fragment header
stands among them, and whether there are more than two (R491). -/
def extHeaders (l : List Byte) : Nat → Nat → Nat → Bool → Nat × Nat × Bool × Bool
  | 0, nh, o, frag => (nh, o, frag, nh == 0 || nh == 43 || nh == 44 || nh == 60)
  | n + 1, nh, o, frag =>
    if nh = 44 then extHeaders l n (beAt l o 1) (o + 8) true
    else if nh = 0 ∨ nh = 43 ∨ nh = 60 then extHeaders l n (beAt l o 1) (o + 8 * (beAt l (o + 1) 1 + 1)) frag
    else (nh, o, frag, false)

/-- The network header at offset `o`: transport, transport offset, fragment, more than two extensions, IP length. -/
def netHeader (l : List Byte) (v6 : Bool) (o : Nat) : Nat × Nat × Bool × Bool × Nat :=
  if v6 then
    let e := extHeaders l 2 (beAt l (o + 6) 1) (o + 40) false
    (e.1, e.2.1, e.2.2.1, e.2.2.2, 40 + beAt l (o + 4) 2)
  else (beAt l (o + 9) 1, o + 4 * (beAt l o 1 % 16), beAt l (o + 6) 2 % 16384 != 0, false, beAt l (o + 2) 2)

/-- The IP version of a frame, if it carries IP: true for IPv6. -/
def ipVersion (et : Nat) : Option Bool := if et = 0x0800 then some false else if et = 0x86DD then some true else none

/-- The enabled receive stream that a frame on port `p` matches (R524). -/
def State.frameStream (s : State) (p : Nat) (l : List Byte) (h : EthHdr) : Option Nat :=
  match ipVersion h.etype with
  | none => none
  | some v6 =>
    let n := netHeader l v6 h.off
    if p = 2 ∧ n.1 = 17 ∧ !n.2.2.1 then
      s.rxMatch v6 (if v6 then beAt l (h.off + 24) 16 else beAt l (h.off + 16) 4) (beAt l (n.2.1 + 2) 2)
    else none

/-- A PTP message: EtherType 0x88F7, or UDP port 319 or 320 (R491). -/
def isPtp (l : List Byte) (h : EthHdr) : Bool :=
  h.etype == 0x88F7 || (match ipVersion h.etype with
    | none => false
    | some v6 =>
      let n := netHeader l v6 h.off
      n.1 == 17 && !n.2.2.1 && (beAt l (n.2.1 + 2) 2 == 319 || beAt l (n.2.1 + 2) 2 == 320))

/-- The length of the RTP header at offset `o` (R491). -/
def rtpLength (l : List Byte) (o : Nat) : Nat :=
  let n := 12 + 4 * (beAt l o 1 % 16)
  if bitOf (beAt l o 1) 4 then n + 4 + 4 * beAt l (o + n + 2) 2 else n

/-- The offset at which the last needed header ends (R492). -/
def State.headersEnd (s : State) (p : Nat) (l : List Byte) (h : EthHdr) : Nat :=
  match ipVersion h.etype with
  | none => if h.etype = 0x88F7 then h.off + 34 else h.off
  | some v6 =>
    let n := netHeader l v6 h.off
    let ip := if v6 then n.2.1 else max (h.off + 20) n.2.1
    if n.1 ≠ 17 ∨ n.2.2.1 then ip
    else if (s.frameStream p l h).isSome then n.2.1 + 8 + rtpLength l (n.2.1 + 8)
    else if isPtp l h then n.2.1 + 42
    else n.2.1 + 8

/-- A frame is DEEP (R491). -/
def State.deepFrame (s : State) (p : Nat) (l : List Byte) (h : EthHdr) : Bool :=
  h.deep || decide (128 < s.headersEnd p l h) || (match ipVersion h.etype with
    | none => false
    | some v6 => (netHeader l v6 h.off).2.2.2.1)

/-- The counter of step 7 that an IP packet fails (R493). -/
def ipFault (l : List Byte) (h : EthHdr) : Option Nat :=
  match ipVersion h.etype with
  | none => none
  | some v6 =>
    let o := h.off
    let n := netHeader l v6 o
    let len := n.2.2.2.2
    let got := l.length - o
    let ulen := beAt l (n.2.1 + 4) 2
    let pay := o + len - n.2.1
    let sum := beAt l (n.2.1 + 6) 2
    let addrs := if v6 then (l.drop (o + 8)).take 32 else (l.drop (o + 12)).take 8
    if !v6 ∧ (n.2.1 < o + 20 ∨ len < n.2.1 - o) then some 28
    else if !v6 ∧ !inetOk ((l.drop o).take (n.2.1 - o)) then some 30
    else if got < len then some 27
    else if len < got ∧ 60 < l.length - (if h.secTag then 16 else 0) then some 28
    else if n.1 ≠ 17 ∨ n.2.2.1 then none
    else if ulen ≠ pay ∨ o + len < n.2.1 + 8 then some 29
    else if sum = 0 then (if v6 then some 30 else none)
    else if inetOk (addrs ++ beBytes ulen 4 ++ beBytes 17 4 ++ (l.drop n.2.1).take ulen) then none
    else some 30

/-- A frame without the bytes after its IP length (R493). -/
def stripFrame (l : List Byte) (h : EthHdr) : List Byte :=
  match ipVersion h.etype with
  | none => l
  | some v6 => l.take (h.off + (netHeader l v6 h.off).2.2.2.2)

/-- A media frame's RTP header and payload; none where R494 drops it. -/
def State.rtpParts (s : State) (k : Nat) (l : List Byte) (h : EthHdr) : Option (List Byte × List Byte) :=
  let o := (netHeader l (h.etype == 0x86DD) h.off).2.1 + 8
  let n := rtpLength l o
  let payload := l.drop (o + n)
  let unit := s.rxFrameBytes k
  if beAt l o 1 / 64 ≠ 2 ∨ bitOf (beAt l o 1) 5 ∨ l.length < o + n ∨ payload.isEmpty ∨ payload.length % unit ≠ 0 ∨
      48 * unit < payload.length then none
  else some ((l.drop o).take n, payload)

/-! ### Key agreement (R649–R653) -/

/-- A change of a port's secure channel bears on its ring link (R341, R412). -/
def State.afterSec (s : State) (p : Nat) : State := if p < 2 ∧ s.ringOn then s.evalPort p else s

/-- A received MKPDU of a port with a CAK (R650, R651). -/
def State.mkaIn (s : State) (p : Nat) (m : MkaSeen) : State :=
  if !m.icvOk || (s.sec p).cak.isNone then s
  else
    let joined := !s.getB (F.SEC_MACSEC_PEER_LIVE p)
    let s := (s.setB (F.SEC_MACSEC_PEER_LIVE p) true).setB (F.SEC_MACSEC_KEY_SERVER p) m.keyServer
    let s := if joined then s.setB F.SEC_IRQ_MACSEC true else s
    let s := if m.keyServer then (if joined then s.distributeSak p else s)
      else match m.sak with
        | some an => if (s.sec p).rxAn = some an.val then s else s.installSak p an.val
        | none => s
    (if m.installed then s.updSec p (fun q => { q with peerHas := q.nextTx.isSome }) else s).afterSec p

/-- Execute SA_SWITCH: transmit moves to the new SA (R651). -/
def execSaSwitch (p : Fin 3) (s : State) : Host.Outcome State Fault Refusal :=
  s.done (match (s.sec p).nextTx with
    | none => s
    | some an =>
      if (s.sec p).peerHas then
        let s := (s.set (F.SEC_MACSEC_TX_AN p) an).setSecured p (s.getB (F.SEC_MACSEC_RX_SECURED p)) true
        (s.updSec p (fun q => { q with nextTx := none, peerHas := false, pn := 1 })).afterSec p
      else s)

/-- The transmit queue of port `p` that serves class `c`: the class's own, else the highest below it. -/
def State.txQueueFor (s : State) (p c : Nat) : Option Nat :=
  match s.fab.image with
  | none => none
  | some im =>
    let qs := im.queues.filter (fun r => r.port = p ∧ r.transmit ∧ r.cls ≤ c ∧ ¬ (p < 2 ∧ r.queue = 0))
    (qs.foldl (fun (m : Option QueueRec) r => match m with
      | none => some r
      | some q => if q.cls < r.cls then some r else some q) none).map (·.queue)

/-- Execute MKA_HELLO: an MKPDU for each port with a CAK (R650); its parameter sets are IEEE 802.1X's. -/
def execMkaHello (s : State) : Host.Outcome State Fault Refusal :=
  s.done ((List.range 3).foldl (fun s p =>
    if s.carries p && (s.sec p).cak.isSome then
      match s.txQueueFor p 7 with
      | some q => s.enqueue p q (ethFrame 0x0180C2000003 (s.macAddr p) 0x888E [3, 5, 0, 0])
      | none => s
    else s) s)

/-- Execute MKA_LIFE_EXPIRY: 6 s without an MKPDU of the peer (R653). -/
def execMkaLifeExpiry (p : Fin 3) (ms : Nat) (s : State) : Host.Outcome State Fault Refusal :=
  s.done (if s.getB (F.SEC_MACSEC_PEER_LIVE p) && decide (6000 ≤ ms) then (s.endSecure p).afterSec p else s)

/-! ### Receiving (R475) -/

/-- A MAC control frame (R484–R487). -/
def State.controlFrame (s : State) (p : Nat) (l : List Byte) (h : EthHdr) : State :=
  if beAt l h.off 2 ≠ 1 then s
  else
    let s := s.stat p 17 1
    let q := beAt l (h.off + 2) 2
    let broken : Bool := match (s.mac 2).brokenAt with
      | some k => decide (s.stride < k + 8)
      | none => false
    if p ≠ 2 ∨ broken then s.stat p 50 1
    else ((s.setB (F.MAC_STATUS_PAUSED 2) (q != 0)).set (F.MAC_PAUSE_REMAIN 2) q).updMac 2 (fun m => { m with
      pauseQ := q, pausedAt := s.stride })

/-- The receive class of a frame: LINK 7, PTP 6, MEDIA 5, OTHER by its outermost tag (R495). -/
def State.frameClass (s : State) (p : Nat) (l : List Byte) (h : EthHdr) : Nat :=
  if h.etype = 0x88CC ∨ h.etype = 0x888E then 7
  else if isPtp l h then 6
  else if (s.frameStream p l h).isSome then 5
  else match h.tags with
    | [] => 0
    | t :: _ => if t / 2 ^ 13 = 5 then 4 else t / 2 ^ 13

/-- An address resolution that the application core reads from a queued frame (R535): an ARP reply, or a neighbour
advertisement with the target's link-layer address. -/
def State.learnMac (s : State) (p : Nat) (l : List Byte) (h : EthHdr) : State :=
  if p ≠ 2 then s
  else if h.etype = 0x0806 ∧ beAt l (h.off + 6) 2 = 2 then s.resolveMac false ((l.drop (h.off + 14)).take 4) (beAt l (h.off + 8) 6)
  else if h.etype = 0x86DD ∧ beAt l (h.off + 6) 1 = 58 ∧ beAt l (h.off + 40) 1 = 136 ∧ beAt l (h.off + 64) 2 = 0x0201 then
    s.resolveMac true ((l.drop (h.off + 48)).take 16) (beAt l (h.off + 66) 6)
  else s

/-- Step 9: the frame's queue (R495–R497). -/
def State.queueFrame (s : State) (p : Nat) (l : List Byte) (h : EthHdr) (mka : Option MkaSeen) : State :=
  let c := s.frameClass p l h
  match s.rxQueue p c with
  | none => s.stat p 25 1
  | some r =>
    if c = 5 then
      match s.frameStream p l h with
      | none => s
      | some k =>
        match s.rtpParts k l h with
        | none => s
        | some x => if r.sizeKb * 1024 < l.length then (s.stat p 24 1).setB (F.MAC_IRQ_OVERFLOW p) true
          else (s.stat p 16 1).mediaIn k x.1 x.2
    else
      let st := s.storeFrame p r.queue (r.sizeKb * 1024) l
      if !st.2 then (s.stat p 24 1).setB (F.MAC_IRQ_OVERFLOW p) true
      else
        let s := if c = 6 ∧ isPtp l h then st.1.stat p 15 1 else st.1
        let s := s.learnMac p l h
        match mka with
        | some m => if h.etype = 0x888E then s.mkaIn p m else s
        | none => s

/-- Steps 6 to 9 on a frame that passed steps 1 to 5. -/
def State.parseAndQueue (s : State) (p : Nat) (l : List Byte) (h : EthHdr) (mka : Option MkaSeen) : State :=
  if s.deepFrame p l h then
    let s := (s.stat p 26 1).setB (F.MAC_IRQ_DEEP p) true
    let st := s.storeFrame p 8 8192 l
    if st.2 then st.1 else s.stat p 35 1
  else match ipFault l h with
    | some k => s.stat p k 1
    | none =>
      let l := stripFrame l h
      match s.frameStream p l h with
      | some k => if (s.rtpParts k l h).isNone then s.stat p 31 1 else s.queueFrame p l h mka
      | none => s.queueFrame p l h mka

/-- The message type of a PTP message, and the offset of its common header. -/
def ptpHeader (l : List Byte) (h : EthHdr) : Nat × Nat :=
  let o := match ipVersion h.etype with
    | none => h.off
    | some v6 => (netHeader l v6 h.off).2.1 + 8
  (beAt l o 1 % 16, o)

/-- The local PTP time `at_` ns after the last boundary, with a correction in ns (R537). -/
def State.ptpTime (s : State) (at_ : Nat) (corr : Int) : Nat × Nat :=
  let t := ((s.net.clock.1 * 1000000000 + s.net.clock.2 + at_ : Nat) : Int) + corr
  (t.toNat / 1000000000 % 2 ^ 48, t.toNat % 1000000000)

/-- The PTP unit timestamps an event message, one of types 0 to 3, at its SFD (R537). -/
def State.stampPtp (s : State) (p : Nat) (sent : Bool) (l : List Byte) (h : EthHdr) (at_ : Nat) : State :=
  if s.domOn 8 && isPtp l h && decide ((ptpHeader l h).1 < 4) then
    let t := s.ptpTime at_ (if sent then s.getI (F.PTP_PORT_EGRESS p) else s.getI (F.PTP_PORT_INGRESS p))
    s.updNet (fun q => { q with stamps := q.stamps ++ [⟨p, sent, t.1, t.2⟩] })
  else s

/-- A Sync that goes out one-step: on port C over IEEE 802.3 or UDP/IPv4, ONE_STEP set and its twoStepFlag clear (R536). -/
def State.oneStep (s : State) (p : Nat) (l : List Byte) : Bool :=
  let h := ethHdr l
  let x := ptpHeader l h
  p == 2 && s.domOn 8 && s.getB F.PTP_CFG_EN && s.getB F.PTP_CFG_ONE_STEP && isPtp l h && h.etype != 0x86DD && x.1 == 0 &&
  !bitOf (beAt l (x.2 + 6) 1) 1

/-- `v` in place of the bytes of `l` from offset `o` on. -/
def putBytes (l : List Byte) (o : Nat) (v : List Byte) : List Byte := l.take o ++ v ++ l.drop (o + v.length)

/-- A frame as port `p` sends it at `at_`: a one-step Sync takes its transmit time as origin timestamp, before encryption, and UDP
checksum 0 (R537, R538). -/
def State.stampedFrame (s : State) (p : Nat) (l : List Byte) (at_ : Nat) : List Byte :=
  if s.oneStep p l then
    let h := ethHdr l
    let o := (ptpHeader l h).2
    let t := s.ptpTime at_ (s.getI (F.PTP_PORT_EGRESS p))
    let l := putBytes l (o + 34) (beBytes t.1 6 ++ beBytes t.2 4)
    if h.etype = 0x0800 then putBytes l (o - 2) [0, 0] else l
  else l

/-- A received frame through the steps of R475. -/
def State.receiveFrame (s : State) (p : Nat) (f : RxFrame) (at_ : Nat) (mka : Option MkaSeen) : State :=
  let h := ethHdr f.bytes
  if p < 2 ∧ h.etype = s.get F.RING_ETYPE_ETYPE then s.receiveWilnan p f at_
  else
    let a := s.acceptFrame p f
    if !a.2 then a.1
    else if h.etype = 0x8808 ∧ !h.secTag then a.1.controlFrame p f.bytes h
    else
      let m := a.1.macsecCheck p f
      if !m.2 then m.1 else (m.1.stampPtp p false f.bytes h at_).parseAndQueue p f.bytes h mka

/-- Execute FRAME_RECEIVED (R475). -/
def execFrameReceived (p : Fin 3) (f : RxFrame) (at_ : Nat) (mka : Option MkaSeen) (s : State) :
    Host.Outcome State Fault Refusal :=
  s.done (if s.carries p then s.receiveFrame p f at_ mka else s)

/-- Execute PAUSE_EXPIRY: quanta × 512 bit times have passed (R485). -/
def execPauseExpiry (bitTimes : Nat) (s : State) : Host.Outcome State Fault Refusal :=
  s.done (if s.getB (F.MAC_STATUS_PAUSED 2) && decide (512 * (s.mac 2).pauseQ ≤ bitTimes) then
    (s.setB (F.MAC_STATUS_PAUSED 2) false).set (F.MAC_PAUSE_REMAIN 2) 0 else s)

/-- Execute PAUSE_WATCHDOG: the pause has held transmit for WATCHDOG_MS without a break (R486). -/
def execPauseWatchdog (ms : Nat) (s : State) : Host.Outcome State Fault Refusal :=
  s.done (if s.getB (F.MAC_STATUS_PAUSED 2) && decide (s.get (F.MAC_PAUSE_WATCHDOG_MS 2) ≤ ms) then
    let s := ((s.setB (F.MAC_STATUS_PAUSED 2) false).set (F.MAC_PAUSE_REMAIN 2) 0).stat 2 51 1
    (s.setB (F.MAC_IRQ_PAUSE_BROKEN 2) true).updMac 2 (fun m => { m with brokenAt := some s.stride })
  else s)

/-- MAC_C_PAUSE.REMAIN at a boundary: the quanta of 512 bit times that are left, counted from the boundary before the pause
frame (R485). -/
def State.stepPause (s : State) : State :=
  if !s.getB (F.MAC_STATUS_PAUSED 2) then s
  else
    let ns := if s.get (F.MAC_STATUS_SPEED 2) = 2 then 512 else if s.get (F.MAC_STATUS_SPEED 2) = 1 then 5120 else 51200
    s.set (F.MAC_PAUSE_REMAIN 2) ((s.mac 2).pauseQ - 125000 * (s.stride - (s.mac 2).pausedAt) / ns)

/-! ### Transmitting (R499–R503) -/

/-- The frame that port `p` sends next: queue 0 of a ring port first, while the port carries Wilnan frames for a node on its
ring (R341, R344); then the highest CLASS, the lower QUEUE number between equal classes (R499). -/
def State.nextTx (s : State) (p : Nat) : Option (Nat × List Byte) :=
  let l := if p < 2 ∧ !(s.ringOn && s.ringLink p) then (s.mac p).txq.filter (fun x => x.1 ≠ 0) else (s.mac p).txq
  if p < 2 ∧ l.any (fun x => x.1 = 0) then l.find? (fun x => x.1 = 0)
  else
    let cls := fun q => ((s.queueRec p q true).map (fun (r : QueueRec) => r.cls)).getD 0
    (l.foldl (fun (m : Option Nat) x => match m with
      | none => some x.1
      | some q => if cls q < cls x.1 ∨ (cls q = cls x.1 ∧ x.1 < q) then some x.1 else some q) none).bind
        (fun q => l.find? (fun x => x.1 = q))

/-- The time a frame of `n` bytes takes on port `p`, in ns. -/
def State.wireNs (s : State) (p n : Nat) : Nat :=
  n * (if s.get (F.MAC_STATUS_SPEED p) = 2 then 8 else if s.get (F.MAC_STATUS_SPEED p) = 1 then 80 else 800)

/-- Drop the first frame of queue `q`. -/
def dropFirst (q : Nat) : List (Nat × List Byte) → List (Nat × List Byte)
  | [] => []
  | x :: t => if x.1 = q then t else x :: dropFirst q t

/-- Execute TX_FRAME_START: a frame starts once its threshold or all of it is queued; running dry poisons it (R500–R503). -/
def execTxFrameStart (p : Fin 3) (queued : Nat) (dry : Bool) (beamNs at_ : Nat) (s : State) :
    Host.Outcome State Fault Refusal :=
  s.done (match s.nextTx p with
    | none => s
    | some (q, l) =>
      let ring0 := decide (p.val < 2) && q == 0
      let cur := s.get (F.MAC_TXQ_THRESH_CURRENT p q)
      let n := s.wireLength p l.length
      let enough := decide (l.length ≤ queued) || (!ring0 && cur != 0 && decide (64 * cur ≤ queued))
      if !s.carries p || !s.awakeAt p at_ || (p.val == 2 && s.getB (F.MAC_STATUS_PAUSED 2)) || !enough ||
          (decide (p.val < 2) && decide (beamNs < s.wireNs p n + 1000)) then s
      else
        let s := s.updMac p (fun m => { m with txq := dropFirst q m.txq })
        let l := s.stampedFrame p l at_
        let s := s.stampPtp p true l (ethHdr l) at_
        if dry && decide (queued < l.length) then
          let s := ((s.sendFrame p (l.take queued) true false).stat p 46 1).setB (F.MAC_IRQ_UNDERRUN p) true
          s.set (F.MAC_TXQ_THRESH_CURRENT p q) (if (cur + 4) * 64 < s.get (F.MAC_CFG_MAX_LEN p) then cur + 4 else 0)
        else s.sendFrame p l false ring0)

/-! ### Low-power idle (R505–R512) -/

/-- Execute LPI_ENTER: port C's queues empty and no pause for IDLE_US (R507). -/
def execLpiEnter (us : Nat) (s : State) : Host.Outcome State Fault Refusal :=
  s.done (if (s.mac 2).txq.isEmpty && !s.getB (F.MAC_STATUS_PAUSED 2) && decide (s.get (F.MAC_EEE_IDLE_US 2) ≤ us) then
    s.enterLpi 2 else s)

/-- Execute LPI_LEAVE (R509, R511). -/
def execLpiLeave (p : Fin 3) (cause : Fin 4) (at_ us : Nat) (s : State) : Host.Outcome State Fault Refusal :=
  s.done (match cause with
    | 0 => if !(s.mac p).txq.isEmpty && !(p.val == 2 && s.getB (F.MAC_STATUS_PAUSED 2)) then s.leaveLpi p at_ us else s
    | 1 => (s.setB (F.MAC_STATUS_LPI_RX p) false).leaveLpi p at_ us
    | 2 => if p.val < 2 ∧ !s.getB (F.MAC_STATUS_LPI_TX (1 - p)) then s.leaveLpi p at_ us else s
    | _ => if p.val < 2 ∧ !s.getB F.RING_STATE_SLACK then s.leaveLpi p at_ us else s)

/-- Execute PHY_RX_LPI_ENTRY (R512). -/
def execPhyRxLpiEntry (p : Fin 3) (s : State) : Host.Outcome State Fault Refusal :=
  s.done (if s.carries p && !s.getB (F.MAC_STATUS_LPI_RX p) then (s.setB (F.MAC_STATUS_LPI_RX p) true).stat p 36 1 else s)

/-- The ring ports' low-power idle at a boundary: between 80m + 20 and 80m + 76 in slack (R508). -/
def State.ringLpi (s : State) : State :=
  let x := s.count % 80
  [0, 1].foldl (fun s p =>
    if s.getB F.RING_STATE_SLACK && decide (20 ≤ x ∧ x < 76) && (s.mac p).txq.isEmpty then s.enterLpi p
    else if s.getB (F.MAC_STATUS_LPI_TX p) && x == 76 then s.leaveLpi p 0 (125 * (s.stride - (s.mac p).lpiSince)) else s) s

/-! ### Snapshots (R515, R516) -/

/-- TAKE has been written with `mask`. -/
def State.takeSnapshot (s : State) (mask : Nat) : State :=
  if s.getB F.STAT_SNAP_STATUS_BUSY ∨ mask % 8 = 0 then s
  else
    let on := (List.range 3).filter (fun p => mask.testBit p && s.domOn (5 + p))
    let off := (List.range 3).filter (fun p => mask.testBit p && !s.domOn (5 + p))
    let s := off.foldl (fun s p => s.setBit F.STAT_SNAP_STATUS_VALID p false) s
    (s.setB F.STAT_SNAP_STATUS_BUSY true).updNet (fun q => { q with
      snap := on.map (fun p => (p, (List.range 52).map (fun k => s.get (F.STAT_CNT_COUNT p k)))) })

/-- Execute SNAPSHOT_DONE: the snapshot registers change together (R515). -/
def execSnapshotDone (s : State) : Host.Outcome State Fault Refusal :=
  s.done (if !s.getB F.STAT_SNAP_STATUS_BUSY then s
    else
      let s := s.net.snap.foldl (fun s x =>
        (x.2.zipIdx.foldl (fun s c => s.set (F.STAT_SNAP_COUNT x.1 c.2) c.1) s).setBit F.STAT_SNAP_STATUS_VALID x.1 true) s
      ((s.setB F.STAT_SNAP_STATUS_BUSY false).inc F.STAT_SNAP_STATUS_SEQ).updNet (fun q => { q with snap := [] }))

end Sys2Proof.Machine
end

