-- ==== Sys2Proof/Machine/Reset.lean ====
section
/-! DEFINITION. The resets (R21–R23, R668–R672) and halter mode (R54, R55, R707, R708) as shared operations. -/

namespace Sys2Proof.Machine

/-! ### Restoring fields -/

/-- The reset code of the field that a register-file entry holds; none for no field of the map. -/
def rstOfKey (k : Nat) : Option Rst :=
  match regRow (k / 32) with
  | none => none
  | some r => (r.fields.find? (fun f => f.fld.lo = k % 32)).map (·.rst)

/-- INTERRUPT_DIM takes the reset value that the running image gives it (R326). -/
def State.dimReset (s : State) (im : Option Image) : State :=
  match im with
  | none => s
  | some im => s.set F.TG_PRIO_INTERRUPT_DIM (if im.interruptDim = 255 then 40 else im.interruptDim)

/-- Restore the fields whose reset code is among `rs`: they hold their reset values (R21), the image that ran giving its own
(R326). MIC_PRIV_STATUS.PIN shows the mute, which only the ball's release ends (R213), and the tether link that is down stays
down until it is retrained, or until a reset that starts retraining again (R757, R758). -/
def State.restore (s : State) (rs : List Rst) : State :=
  ({ s with regs := s.regs.filter (fun e => match rstOfKey e.1 with
      | none => false
      | some r => !rs.contains r || e.1 == F.MIC_PRIV_STATUS_PIN.key ||
          (e.1 == F.PWR_TETHER_LOST.key && !rs.contains .wdt)) } : State).dimReset s.fab.image

/-- What power entry and line power keep over every reset: the ports start anew, nothing waits to power up, and no output has
been turned away. -/
def PowerState.afterReset (p : PowerState) : PowerState :=
  { p with
    upQueue := [], refusedAt := PowerState.reset.refusedAt, sourcingAt := PowerState.reset.sourcingAt
    pse := PowerState.reset.pse, avsLow := [], avsGood := 0 }

/-- Clear what the node keeps beside its registers, but for what every reset keeps: MRAM and fuses, the event log, the
stride counter, the power entry, the pins, and the node's addresses (R668). -/
def State.clearRun (s : State) : State :=
  { State.reset with
    regs := s.regs, stride := s.stride, countAdj := s.countAdj, strideOn := s.strideOn, freeCtr := s.freeCtr
    pending := s.pending, log := s.log, logTorn := s.logTorn, logOverrun := s.logOverrun
    mic := { MicState.reset with muteLow := s.mic.muteLow, silent := s.mic.silent, models := s.mic.models }
    journal := { s.journal with waits := [] }
    power := s.power.afterReset, boot := s.boot, clk := s.clk
    isle := { s.isle with cakOf := [none, none, none], mbox := none, challenges := [], locked := [], nets := [] }
    net := { NetNode.reset with macs := s.net.macs } }

/-- A reset during a host load loses it, as an abort by R115 (chapter 15, "When a reset arrives during a host load"). -/
def State.loadLost (s : State) : State :=
  let st := s.get F.HOST_LOAD_STATUS_STATE
  if (st = 1 ∨ st = 2) ∧ s.host.loadSink ≤ 2 then
    s.addLog Ev.imageRefused.type (if s.getB F.SYS_STRAPS_HOSTIF then 3 else 2) 255 15 (u32 s.host.loadBuf 0x10) s.host.loadSink
  else s

/-- The SEC block's session registers, and APPROVED with REQ_UNCONFIRMED, as the island's memory stands (R628–R630). -/
def State.showSec (s : State) : State :=
  let s := s.setB F.SEC_STATUS_FUSE s.isle.fuse
  let s := s.setB F.SEC_STATUS_STRAP (s.getB F.SYS_STRAPS_APPROVED)
  let s := s.setB F.SEC_STATUS_REQ_UNCONFIRMED (s.getB F.SYS_STRAPS_APPROVED && !s.isle.fuse)
  let s := s.set F.SEC_SESSIONS_NET s.isle.nets.length
  s.setB F.SEC_STATUS_APPROVED (s.getB F.SYS_STRAPS_APPROVED && s.isle.fuse && s.get F.SEC_STATUS_STATE == 1)

/-- Every session closes, and every challenge with it (R635). -/
def State.closeSessions (s : State) : State :=
  let s := { s with isle := { s.isle with challenges := [], locked := [], nets := [] } }
  (s.set F.SEC_SESSIONS_HOST 0).showSec

/-- The secure channels of every port end: their keys are gone (R646). -/
def State.endChannels (s : State) : State :=
  (List.range 3).foldl (fun s p => (s.endSecure p).afterSec p) s

/-- The island starts anew: its RAM is clear, and the self-tests run (R622). -/
def State.islandStart (s : State) : State :=
  let s := { s with isle := { s.isle with tested := false, challenges := [], locked := [], nets := [], mbox := none, drbg := none } }
  (s.set F.SEC_STATUS_STATE 0).showSec

/-! ### The boot record as registers -/

/-- BOOT_SLOTS and BOOT_STATUS.TRIAL as the boot record has them (R681). -/
def State.showBoot (s : State) : State :=
  let b := s.boot
  let s := s.set F.BOOT_SLOTS_FW_A (b.states.getD 0 0)
  let s := s.set F.BOOT_SLOTS_FW_B (b.states.getD 1 0)
  let s := s.set F.BOOT_SLOTS_TACK_0 (b.states.getD 2 0)
  let s := s.set F.BOOT_SLOTS_TACK_1 (b.states.getD 3 0)
  let s := s.set F.BOOT_SLOTS_FW_ACTIVE b.active.1
  let s := s.set F.BOOT_SLOTS_TACK_ACTIVE b.active.2
  let s := (List.range 4).foldl (fun s m => s.set ⟨0x10004, 8 + 2 * m, 2, 0⟩ (b.models.getD m 0)) s
  s.setB F.BOOT_STATUS_TRIAL
    ((b.fwImg.isSome && b.states.getD (s.get F.BOOT_STATUS_FW_SLOT) 0 == 3) ||
     (s.get F.BOOT_STATUS_PHASE == 3 && s.get F.BOOT_STATUS_SRC == 0 &&
      b.states.getD (2 + s.get F.BOOT_STATUS_TACK_SLOT) 0 == 3))

/-! ### Halter mode -/

/-- The ROM tack image (R708): line channel 0 to both headset outputs, the headset microphone to line channel 0, and
sidetone; the stall it uses is the model's choice (log entry 20). -/
def romImage (audio : Bool) : Image :=
  { partialImg := false, encrypted := false, imageId := 0, version := 0, baseDigest := []
    vec := ⟨1, 2, 0, 0, 0, 0, 0, 0, 65535⟩
    regions := [⟨0, false, 0, 1⟩]
    claims := ⟨1, 0, 0, 0, 0, 0, 0, 0, 5, 0⟩
    stalls := if audio then [⟨0, 0, 2, 0, 0, 1, 15, [2, 3, 40, 0], [], 0⟩] else []
    links := if audio then
      [⟨0x80, 0, 0, 0, 1, 2, false, 0, 0⟩, ⟨0x80, 8, 0, 1, 1, 2, false, 0, 0⟩,
       ⟨0, 0, 0x81, 8, 1, 2, false, 0, 0⟩, ⟨0, 1, 0x81, 9, 1, 2, false, 0, 0⟩, ⟨0, 2, 0x81, 0, 1, 2, false, 0, 0⟩]
      else []
    groupMask := 0, interruptDim := 255, keys := []
    xps := if audio then [⟨0, 0, 192⟩, ⟨0, 1, 192⟩, ⟨1, 2, 192⟩] else []
    ports := portsDefault, panel := [], queues := [], params := [], names := [] }

/-- The capability bits as SYS_PERSONA shows them. -/
def State.setCaps (s : State) (caps : Nat) : State :=
  let s := s.setB F.SYS_PERSONA_CAP_PL_SINK (caps.testBit 0)
  let s := s.setB F.SYS_PERSONA_CAP_PL_SOURCE (caps.testBit 1)
  let s := s.setB F.SYS_PERSONA_CAP_PD (caps.testBit 2)
  let s := s.setB F.SYS_PERSONA_CAP_PSE (caps.testBit 3)
  let s := s.setB F.SYS_PERSONA_CAP_SPEAKER (caps.testBit 4)
  s.setB F.SYS_PERSONA_CAP_HEADSET (caps.testBit 5)

/-- The panel map: GPIO functions and encoders (R610, R616). -/
def State.loadPanel (s : State) (im : Image) : State :=
  let s := { s with gpio := { s.gpio with panel := im.panel, detents := [] } }
  let s := (List.range 32).foldl (fun s n =>
    match im.panel.find? (fun p => p.gpio = n) with
    | none => (s.set (F.GPIO_PIN_FUNC n) 0).setBit F.GPIO_PANEL_PANEL n false
    | some p => ((s.set (F.GPIO_PIN_FUNC n) 4).set (F.GPIO_PIN_PWM_CH n) p.pwmCh).setBit F.GPIO_PANEL_PANEL n true) s
  let encs := im.panel.filter (fun p => p.function = 1)
  (List.range 4).foldl (fun s k =>
    match encs[k]? with
    | none => (((s.setB (F.GPIO_ENC_CFG_EN k) false).set (F.GPIO_ENC_CFG_PHASE_A k) 0).set (F.GPIO_ENC_CFG_PHASE_B k) 0).set
        (F.GPIO_ENC_CFG_TARGET k) 0
    | some a =>
      let b := ((im.panel.find? (fun p => p.function = 2 ∧ p.target = a.target)).map (fun p => p.gpio)).getD 0
      (((s.setB (F.GPIO_ENC_CFG_EN k) true).set (F.GPIO_ENC_CFG_PHASE_A k) a.gpio).set (F.GPIO_ENC_CFG_PHASE_B k) b).set
        (F.GPIO_ENC_CFG_TARGET k) a.target) s

/-- The node enters halter mode for `cause` (R707): the ROM tack image runs, the ports take R54's roles and the inputs R717's, the ring, the MAC
ports and the interop streams are off, and boot lock is set (R55, R344, R703, R708). -/
def State.enterHalter (s : State) (cause : Nat) : State :=
  let strap := s.get F.SYS_PERSONA_STRAP
  let caps := Nat.land (capsOf strap) 0x35
  let audio := caps.testBit 0 && caps.testBit 5
  let im := romImage audio
  let s := s.setB F.SYS_PERSONA_HALTER true
  let s := (s.set F.SYS_PERSONA_EFFECTIVE strap).setCaps caps
  let s := s.setB F.SYS_PERSONA_OVERRIDDEN false
  let s := s.set F.BOOT_STATUS_HALTER_CAUSE cause
  let s := s.set F.BOOT_STATUS_PHASE 4
  let s := (s.setB F.MIC_PRIV_LOCKED true).setB F.BOOT_STATUS_LOCKED true
  let s := s.set F.BOOT_TIME_AUDIO_MS 0
  let s := s.set F.SEC_STATUS_STATE (if s.get F.SEC_STATUS_STATE = 1 then 4 else s.get F.SEC_STATUS_STATE)
  let s := { s with boot := { s.boot with want := none, audioAt := none, softDue := false } }
  let s := { s with
    fab := { FabState.reset with image := some im, running := true }, swap := SwapState.reset, ring := RingNode.reset
    echo := EchoState.reset }
  let s := ((s.loadPanel im).installFabric im).showFabric im
  let s := s.powerGroups (if audio then 1 else 0)
  let s := (s.set F.FAB_IMAGE_INFO_SOURCE 2).set F.FAB_IMAGE_INFO_SLOT 0
  let s := (s.setB F.FAB_IMAGE_INFO_ENCRYPTED false).set F.FAB_IMAGE_INFO_REGIONS 1
  let s := (s.set F.FAB_IMAGE_ID_IMAGE_ID (Config.romImageId 0).toNat).set F.FAB_IMAGE_VER_IMAGE_VERSION (Config.romImageId 1).toNat
  let s := (s.set F.FAB_IMAGE_DIGEST_HI_DIGEST_0_3 (Config.romImageId 2).toNat).set F.FAB_IMAGE_DIGEST_LO_DIGEST_4_7
    (Config.romImageId 3).toNat
  let s := s.dimReset (some im)
  let s := { s with tg := { TgState.reset with xps := im.xps.map (fun (x : XpRec) => { emptyXp x.input x.output with stored := x.gain }) } }
  let s := if audio then ((s.set F.TG_SIDETONE_IN 1).set F.TG_SIDETONE_MODE 2).set F.TG_SIDETONE_GAIN 168 else s
  let s := if audio then s.set F.CONV_HSMIC_GAIN 30 else s
  let s := { s with line := { s.line with headset := audio, hsGain := if audio then 30 else 0 } }
  let s := s.set (F.HYB_CH_CFG_LEVEL 0) 20
  let s := ((s.setB F.RING_CTRL_ENABLE false).set F.RING_STATE_STATE 0)
  let s := [5, 6, 7, 8].foldl (fun s d => s.dropDomain d) s
  let s := { s with power := { s.power with psePorts := 0 } }
  let s := (List.range 2).foldl (fun s n => s.setB (F.PSE_CFG_EN n) false) s
  let s := { s with power := { s.power with vinMask := if caps.testBit 0 then 0xB else 0x9 } }
  let s := s.setRoleCode 0 (if caps.testBit 0 then 1 else 0) true
  let s := s.setRoleCode 1 0 true
  (s.reconfigure.showSec).showBoot

/-- The module enters the hard error state for test `t`: no service, no data output, halter mode (R626, R627). -/
def State.hardError (s : State) (t : Nat) : State :=
  let s := s.set F.SEC_STATUS_STATE 2
  let s := s.set F.SEC_ERROR_TEST t
  let s := s.setB F.SEC_IRQ_ERROR true
  let s := (s.closeSessions).endChannels
  let s := match s.isle.mbox with
    | none => s
    | some b => { s with isle := { s.isle with mbox := some { b with result := some (7, []) } } }
  s.enterHalter 2

/-! ### After a reset -/

/-- The steward's record of a reset (R672): LAST is written after the fields are restored (R22). -/
def State.recordReset (s : State) (last : Nat) : State :=
  let s := s.set F.SYS_RESET_CAUSE_LAST last
  s.ev .reset 255 last (s.get F.SYS_RESET_CAUSE_WDT_COUNT) 0

/-- The stride counter waits for the media PLL (R800), and what was timed by it starts anew (R747, R758). -/
def State.stopStride (s : State) : State :=
  let s := { s with
    power := { s.power with tetherAt := [], panelAt := 0 }
    stride := 0, countAdj := 0, strideOn := false, clk := { ClkState.reset with rtcSet := s.clk.rtcSet } }
  s.setB F.CLK_STATUS_SYS_LOCK true

end Sys2Proof.Machine
end

