-- ==== Sys2Proof/Machine/Boot.lean ====
section
/-! DEFINITION. Firmware images, compatibility, the choice of images and the resets that rerun it (chapter 15). -/

namespace Sys2Proof.Machine

/-! ### Firmware images (R679, R692) -/

/-- The compatibility vector at offset `a` (R62). -/
def vecAt (m : List Host.Cell) (a : Nat) : CompatVec :=
  ⟨u8 m a, u8 m (a + 1), u8 m (a + 4), u8 m (a + 5), u8 m (a + 6), u8 m (a + 7), u16 m (a + 8), u16 m (a + 10),
   u16 m (a + 12)⟩

/-- What the offset and length at `o` of the header name lies inside the signed span (R679). -/
def insideSpan (m : List Host.Cell) (o : Nat) : Bool := decide (u32 m o + u32 m (o + 4) ≤ imgLength m - 112)

/-- The format of a firmware image (R679). -/
def fwFormatOk (m : List Host.Cell) : Bool :=
  let sig := imgLength m - 112
  Memory.readAll m 0 4 == [0x56, 0x58, 0x46, 0x57] && u16 m 4 == 1 && u16 m 6 == 96 &&
  decide (208 ≤ imgLength m ∧ imgLength m ≤ 1048576) && sig % 16 == 0 &&
  insideSpan m 0x10 && insideSpan m 0x18 && insideSpan m 0x20 &&
  zeros m 0x28 8 && zeros m 0x50 16 && zeros m 0x32 2 && zeros m 0x3E 2 && zeros m 0x42 2 && zeros m 0x4E 2 &&
  u8 m sig == 255 && u8 m (sig + 1) == 1 && zeros m (sig + 2) 2 && zeros m (sig + 100) 12

/-- The vetted list of a firmware image (R692). -/
def vettedList (m : List Host.Cell) : List (Nat × Nat × Nat × Nat) :=
  let o := u32 m 0x20
  (List.range (u16 m o)).map (fun i =>
    let e := o + 8 + 12 * i
    (u8 m e, u16 m (e + 2), u16 m (e + 4), u16 m (e + 6)))

/-- What a firmware image says (R679). -/
def fwImage (m : List Host.Cell) : FwImage := ⟨u32 m 0x0C, vecAt m 0x30, vecAt m 0x40, vettedList m⟩

/-! ### Compatibility (R687–R693) -/

/-- A required charter is met by the provided one (R688). -/
def charterMet (reqMaj reqMin provMaj provMin : Nat) : Bool := reqMaj == provMaj && decide (reqMin ≤ provMin)

/-- The vector suits the running step B0 and has version 1 (R62, R689). -/
def vecStepOk (v : CompatVec) : Bool := v.version == 1 && v.stepMask.testBit 1

/-- The two parts of a firmware image agree (R689, R697). -/
def partsAgree (f : FwImage) : Bool :=
  vecStepOk f.steward && vecStepOk f.app &&
  charterMet f.app.stewardMajor f.app.stewardMinor f.steward.stewardMajor f.steward.stewardMinor &&
  charterMet f.steward.appMajor f.steward.appMinor f.app.appMajor f.app.appMinor &&
  decide (Nat.max f.steward.apiMin f.app.apiMin ≤ Nat.min f.steward.apiMax f.app.apiMax)

/-- A firmware image and a tack image's vector are compatible (R689). -/
def compatible (f : FwImage) (t : CompatVec) : Bool :=
  partsAgree f && vecStepOk t &&
  charterMet t.stewardMajor t.stewardMinor f.steward.stewardMajor f.steward.stewardMinor &&
  charterMet t.appMajor t.appMinor f.app.appMajor f.app.appMinor &&
  decide (t.schema ≤ Nat.min f.steward.schema f.app.schema) &&
  decide (Nat.max (Nat.max f.steward.apiMin f.app.apiMin) t.apiMin ≤
    Nat.min (Nat.min f.steward.apiMax f.app.apiMax) t.apiMax)

/-- A charter as one number: major in the high byte. -/
def charterOf (maj min : Nat) : Nat := 256 * maj + min

/-- A compatible pair is vetted (R693). -/
def vettedPair (f : FwImage) (schema : Nat) : Bool :=
  f.vetted.any (fun e => e.1 == 0xB0 && e.2.1 == charterOf f.steward.stewardMajor f.steward.stewardMinor &&
    e.2.2.1 == charterOf f.app.appMajor f.app.appMinor && e.2.2.2 == schema)

/-- The ROM firmware, whose vector the spec does not give (log entry 4). -/
def romFw : FwImage :=
  let w := fun i => (Config.romVector i).toNat
  let v : CompatVec := ⟨1, 2, w 0 / 256, w 0 % 256, w 1 / 256, w 1 % 256, w 2, w 3, w 4⟩
  ⟨0, v, v, []⟩

/-- The firmware that runs. -/
def State.running (s : State) : FwImage := s.boot.fwImg.getD romFw

/-- BOOT_API and BOOT_SCHEMA for the running firmware and, with `t`, a running tack image (R690). -/
def State.showApi (s : State) (t : Option CompatVec) : State :=
  let f := s.running
  let lo := Nat.max f.steward.apiMin f.app.apiMin
  let hi := Nat.min f.steward.apiMax f.app.apiMax
  let s := s.set F.BOOT_SCHEMA_READS (Nat.min f.steward.schema f.app.schema)
  match t with
  | none => ((s.set F.BOOT_API_MIN lo).set F.BOOT_API_MAX hi).set F.BOOT_SCHEMA_RUNNING 0
  | some v => ((s.set F.BOOT_API_MIN (Nat.max lo v.apiMin)).set F.BOOT_API_MAX (Nat.min hi v.apiMax)).set
      F.BOOT_SCHEMA_RUNNING v.schema

/-- The running firmware as the BOOT registers show it. -/
def State.showFw (s : State) : State :=
  let f := s.running
  let s := s.set F.BOOT_FW_VER_FW_VERSION f.version
  let s := s.set F.BOOT_CHARTER_STEWARD (charterOf f.steward.stewardMajor f.steward.stewardMinor)
  (s.set F.BOOT_CHARTER_APP (charterOf f.app.appMajor f.app.appMinor)).showApi none

/-! ### Tack candidates (R695, R696) -/

/-- Slot `n` of the boot record gets state `v`: 0 and 1 firmware, 2 and 3 tack. -/
def State.setSlot (s : State) (n v : Nat) : State :=
  ({ s with boot := { s.boot with states := s.boot.states.set n v } } : State).showBoot

/-- The QSPI directory is there (R696, R714). -/
def flashDirOk (m : List Host.Cell) : Bool := Memory.readAll m 0 4 == [0x56, 0x58, 0x51, 0x44] && u16 m 4 == 1

/-- The flash address of candidate `t` (R696). -/
def flashAddr (m : List Host.Cell) (t : Nat) : Nat := u32 m (8 + 8 * t)

/-- The flash bytes of candidate `t`, from its address up. -/
def flashImage (m : List Host.Cell) (t : Nat) : List Host.Cell :=
  (m.filter (fun c => decide (flashAddr m t ≤ c.1 ∧ c.1 < flashAddr m t + 1048576))).map
    (fun c => (c.1 - flashAddr m t, c.2))

/-- The state of tack candidate `t` for the boot source in use. -/
def State.tackState (s : State) (t : Nat) : Nat :=
  if s.get F.BOOT_STATUS_SRC = 1 then
    if !flashDirOk s.boot.flash || t ∈ s.boot.flashBad then 2
    else if flashAddr s.boot.flash t = 0xFFFFFFFF ∨ flashAddr s.boot.flash t % 4096 ≠ 0 then 0 else 1
  else s.boot.states.getD (2 + t) 0

/-- The commit serial of tack candidate `t`. -/
def State.tackSerial (s : State) (t : Nat) : Nat :=
  if s.get F.BOOT_STATUS_SRC = 1 then u32 s.boot.flash (12 + 8 * t) else s.boot.serials.getD (2 + t) 0

/-- The bytes of tack candidate `t`. -/
def State.tackBytes (s : State) (t : Nat) : List Host.Cell :=
  if s.get F.BOOT_STATUS_SRC = 1 then flashImage s.boot.flash t else s.boot.tack.getD t []

/-- The active tack candidate. -/
def State.tackActive (s : State) : Nat :=
  if s.get F.BOOT_STATUS_SRC = 1 then u8 s.boot.flash 24 % 2 else s.boot.active.2

/-- Mark tack candidate `t` INVALID. -/
def State.badTack (s : State) (t : Nat) : State :=
  if s.get F.BOOT_STATUS_SRC = 1 then { s with boot := { s.boot with flashBad := t :: s.boot.flashBad } }
  else s.setSlot (2 + t) 2

/-- valid() of a tack candidate: its format and STEP_MASK (R697). The STEP_MASK of a vector that is not version 1 is not decoded
(R62): such a candidate is a hard mismatch with every firmware (R689). -/
def State.tackValid (s : State) (t : Nat) : Bool :=
  let m := s.tackBytes t
  s.tackState t != 0 && headerOk m && reservedOk m && layoutOk m && !imgPartial m && (u8 m 0x40 != 1 || vecStepOk (imgVec m))

/-- valid() of firmware slot `f` (R679, R697). -/
def State.fwValid (s : State) (f : Nat) : Bool :=
  let m := s.boot.fw.getD f []
  s.boot.states.getD f 0 != 0 && fwFormatOk m && partsAgree (fwImage m) && s.boot.fwSig.getD f false

/-! ### Choosing images (R697–R700) -/

/-- The pairs of R697, (firmware slot, tack candidate), in their order. -/
def State.bootPairs (s : State) : List (Nat × Nat) :=
  let fa := s.boot.active.1
  let ta := s.tackActive
  let fw := decide (s.tackSerial ta ≤ s.boot.serials.getD fa 0)
  [(fa, ta), if fw then (1 - fa, ta) else (fa, 1 - ta), if fw then (fa, 1 - ta) else (1 - fa, ta), (1 - fa, 1 - ta)]

/-- A TRIAL slot `n` fails its trial and becomes `v` (R711). -/
def State.trialFailed (s : State) (n v : Nat) : State :=
  let s := ({ s with boot := { s.boot with fresh := s.boot.fresh.filter (· ≠ n) } } : State).setSlot n v
  let s := s.setB F.BOOT_IRQ_TRIAL_FAILED true
  s.ev .trialFailed 255 (if n < 2 then 0 else 1) (n % 2) 0

/-- Slots at the first boot after their commit: the chosen ones go on in trial; the others end it, and the other slot of their kind is
active again (R711). -/
def State.firstBoot (s : State) (f t : Nat) : State :=
  let fresh := s.boot.fresh
  let s := { s with boot := { s.boot with fresh := [] } }
  fresh.foldl (fun s n =>
    if (n < 2 ∧ n = f) ∨ (2 ≤ n ∧ n = t) then s
    else
      let a := s.boot.active
      let s := if a.2 + 2 = n then { s with boot := { s.boot with active := (a.1, 1 - a.2) } } else s
      s.trialFailed n (if s.boot.states.getD n 0 = 2 then 2 else 1)) s

/-- The approved mode that the straps and the fuse ask for, as the boot ROM takes it. -/
def State.approvedBoot (s : State) : Bool := s.getB F.SYS_STRAPS_APPROVED && s.isle.fuse

/-- Start pair (f, t): the boot record names it, the firmware runs, and the load of the tack image is due (R697, R700). -/
def State.startPair (s : State) (f t : Nat) (rest : List (Nat × Nat)) (first : Bool) : State :=
  let src := s.get F.BOOT_STATUS_SRC
  let s := { s with boot := { s.boot with
    active := (f, if src = 0 then t else s.boot.active.2), rest := rest, want := some t, wantSink := 0
    fwImg := some (fwImage (s.boot.fw.getD f [])) } }
  let s := s.firstBoot f (if src = 0 then 2 + t else 99)
  let s := (s.set F.BOOT_STATUS_FW_SLOT f).set F.BOOT_STATUS_TACK_SLOT t
  let s := s.set F.BOOT_STATUS_PHASE 2
  let s := if first then s else (s.setB F.BOOT_STATUS_FALLBACK true).setB F.BOOT_IRQ_FALLBACK true
  s.showFw.showBoot

/-- A compatible pair runs: one that is not vetted is marked and recorded (R694). -/
def State.markVetted (s : State) (schema : Nat) : State :=
  let fw := s.running
  if vettedPair fw schema then s.setB F.BOOT_STATUS_UNVETTED false
  else
    let s := (s.setB F.BOOT_STATUS_UNVETTED true).setB F.BOOT_IRQ_UNVETTED true
    s.ev .unvetted 255 (65536 * charterOf fw.steward.stewardMajor fw.steward.stewardMinor +
      charterOf fw.app.appMajor fw.app.appMinor) schema 0

/-- The pairs of `ps` from the first that can be started on, with what the procedure of R697 marks and records on its way
there. -/
def State.nextPair (s : State) : List (Nat × Nat) → State × List (Nat × Nat)
  | [] => (s, [])
  | (f, t) :: rest =>
    if s.boot.states.getD f 0 = 2 ∨ s.tackState t = 2 then s.nextPair rest
    else if !s.fwValid f || !s.tackValid t then
      let s' := if !s.fwValid f && s.boot.states.getD f 0 != 0 then s.setSlot f 2 else s
      let s' := if !s.tackValid t && s.tackState t != 0 then s'.badTack t else s'
      s'.nextPair rest
    else
      let fw := fwImage (s.boot.fw.getD f [])
      let tv := imgVec (s.tackBytes t)
      if !compatible fw tv then (s.ev .compatMismatch 255 f t 0).nextPair rest
      else if s.approvedBoot && !vettedPair fw tv.schema then (s.ev .unvettedRefused 255 f t 0).nextPair rest
      else (s, (f, t) :: rest)

/-- The procedure of R697 over the pairs `ps`. -/
def State.tryPairs (s : State) (ps : List (Nat × Nat)) : State :=
  let r := s.nextPair ps
  match r.2 with
  | [] => r.1.enterHalter 1
  | (f, t) :: rest => r.1.startPair f t rest (r.2.length == ps.length)

/-- The boot ROM's choice (R695, R697, R699). -/
def State.chooseImages (s : State) : State :=
  let src := s.get F.SYS_STRAPS_BOOT_SRC
  let s := s.set F.BOOT_STATUS_SRC src
  let s := { s with boot := { s.boot with
    flashBad := [], rest := [], want := none, fwImg := none, recovery := false, softDue := false } }
  if src = 3 then s.enterHalter 4
  else if src = 2 then
    let f := s.boot.active.1
    let f := if s.boot.states.getD f 0 ≠ 2 ∧ s.fwValid f then some f
      else if s.boot.states.getD (1 - f) 0 ≠ 2 ∧ s.fwValid (1 - f) then some (1 - f) else none
    match f with
    | none => s.enterHalter 1
    | some f =>
      let s := { s with boot := { s.boot with
        active := (f, s.boot.active.2), fwImg := some (fwImage (s.boot.fw.getD f [])) } }
      let s := s.firstBoot f 99
      (((s.set F.BOOT_STATUS_FW_SLOT f).set F.BOOT_STATUS_PHASE 6).showFw).showBoot
  else s.tryPairs s.bootPairs

/-! ### The resets -/

/-- The straps latched (R673), and the inputs enabled until a full load completes (R716). -/
def State.latchStraps (s : State) (t : Straps) : State :=
  let s := s.set F.SYS_STRAPS_PERSONA t.persona
  let s := s.set F.SYS_STRAPS_BOOT_SRC t.bootSrc
  let s := s.setB F.SYS_STRAPS_HOSTIF t.hostif
  let s := s.setB F.SYS_STRAPS_APPROVED t.approved
  let s := s.setB F.HOST_STATUS_I2C t.hostif
  let s := s.set F.SYS_PERSONA_STRAP t.persona
  let s := (s.set F.SYS_PERSONA_EFFECTIVE t.persona).setCaps (capsOf t.persona)
  if s.getB F.PWR_IN_STATUS_COLD_START then
    { s with power := { s.power with vinMask := if (capsOf t.persona).testBit 0 then 0xB else 0x9 } }
  else s

/-- The TRIAL firmware, once it has run, has suffered one more WDT reset; the third ends its trial (R711). -/
def State.countTrial (s : State) : State :=
  let f := s.boot.active.1
  if s.boot.states.getD f 0 = 3 ∧ ¬ f ∈ s.boot.fresh then
    let k := s.boot.trialResets + 1
    if 3 ≤ k then
      let s := { s with boot := { s.boot with active := (1 - f, s.boot.active.2), trialResets := 0 } }
      s.trialFailed f 2
    else { s with boot := { s.boot with trialResets := k } }
  else s

/-- What every WDT reset does before images are chosen (R21, R668, R671, R672): the line die is in its reset state first. -/
def State.wdtBase (s : State) : State :=
  let n := s.get F.SYS_RESET_CAUSE_WDT_COUNT
  let s := (s.loadLost).lineDieReset
  let s := ((s.restore [.wdt, .soft]).clearRun).stopStride
  let s := s.set F.SYS_RESET_CAUSE_WDT_COUNT (Nat.min 255 (n + 1))
  let s := ((s.islandStart).showBoot).syncPower
  let s := s.setB F.SYS_PERSONA_HALTER false
  s.recordReset 2

/-- A WDT reset that reruns the choice of images. -/
def State.wdtReset (s : State) : State := ((s.wdtBase).countTrial).chooseImages

/-- The ROM tack image runs as recovery boot has it: no halter mode, and the inputs stay as they are enabled (R713, R717). -/
def State.enterRecovery (s : State) : State :=
  let mask := s.power.vinMask
  let s := ((s.enterHalter 0).setB F.SYS_PERSONA_HALTER false).set F.BOOT_STATUS_PHASE 5
  ({ s with power := { s.power with vinMask := mask } }).syncPower

/-- A WDT reset into recovery boot: the ROM firmware and the audio of R708 run (R713). -/
def State.recoveryBoot (s : State) : State :=
  let s := s.wdtBase
  let s := s.set F.BOOT_STATUS_SRC (s.get F.SYS_STRAPS_BOOT_SRC)
  let s := { s with boot := { s.boot with recovery := true, fwImg := none, want := none } }
  s.enterRecovery.showFw.showBoot

/-- A POR is requested at the same time as the reset being run: it is the next command that waits (R23; log entry 28). -/
def State.porWaits (s : State) : Bool :=
  match s.pending.head? with
  | some (.powerOnReset _ _ _ _ _) => true
  | _ => false

/-- A POR or a PIN reset is requested at the same time as the reset being run: it is the next command that waits (R23; log
entry 28). -/
def State.hardResetWaits (s : State) : Bool :=
  s.porWaits || match s.pending.head? with
    | some (.pinReset us _ _) => decide (10 ≤ us)
    | _ => false

/-- Execute WATCHDOG_EXPIRY (R671): a WDT reset; while the node zeroises, the one reset that follows it restores the WDT
fields too, and with a POR or PIN reset requested at the same time it performs only that (R23). Halter mode for a hard
error or a zeroisation lasts on (R661, R707). -/
def execWatchdogExpiry (s : State) : Host.Outcome State Fault Refusal :=
  s.done (
    if s.hardResetWaits then s
    else if s.isle.zeroing.isSome then { s with isle := { s.isle with wdtDue := true } }
    else if s.getB F.SYS_PERSONA_HALTER && (s.get F.BOOT_STATUS_HALTER_CAUSE == 2 || s.get F.BOOT_STATUS_HALTER_CAUSE == 3) then
      let cause := s.get F.BOOT_STATUS_HALTER_CAUSE
      let s := ((s.wdtBase).enterHalter cause).showFw
      if cause = 2 then (s.set F.SEC_STATUS_STATE 2).showSec else s
    else s.wdtReset)

/-- The CSPs of the island are gone (steps 4 and 5 of R659). -/
def State.eraseCsps (s : State) : State :=
  { s with isle := { s.isle with
      tackKey := false, caks := [], identity := [], pwk := false, drbg := none, challenges := [], locked := [], nets := [], mbox := none
      cakOf := s.isle.cakOf } }

/-- The ports hold the CAKs that SET_MACSEC names and the island has (R650). -/
def State.syncCaks (s : State) : State :=
  (List.range 3).foldl (fun s p =>
    s.updSec p (fun q => { q with cak := match s.isle.cakOf.getD p none with
      | none => none
      | some c => if s.isle.caks.any (fun k => k.1 = c) && s.get (F.SEC_MACSEC_SUITE p) != 0 then some c else none })) s

/-- Step 6 of R659: the cause, the record, the ZERO reset, and halter mode (R661); a WDT expiry that coincided is in the
same reset (R23). -/
def State.zeroReset (s : State) (cause : Nat) : State :=
  let wdt := s.isle.wdtDue
  let n := s.get F.SYS_RESET_CAUSE_WDT_COUNT
  let s := (s.loadLost).eraseCsps
  let s := { s with isle := { s.isle with zeroing := none, wdtDue := false } }
  let s := s.set F.SEC_ZERO_CAUSE_CAUSE cause
  let s := s.setB F.SEC_IRQ_ZEROISED true
  let s := s.ev .zeroised 255 cause 0 0
  let s := (s.restore (if wdt then [.zero, .wdt, .soft] else [.zero, .soft])).clearRun
  let s := if wdt then (s.stopStride).set F.SYS_RESET_CAUSE_WDT_COUNT (Nat.min 255 (n + 1)) else s
  let s := (((s.islandStart).syncCaks).showBoot).syncPower
  let s := s.recordReset 3
  let s := { s with boot := { s.boot with fwImg := none } }
  (s.enterHalter 3).showFw

/-- Execute ZEROISATION_COMPLETE (R659). -/
def execZeroisationComplete (s : State) : Host.Outcome State Fault Refusal :=
  s.done (match s.isle.zeroing with
    | none => s
    | some c => s.zeroReset c)

/-- The part that POR and PIN share before the choice of images: straps, self-tests, the log (R668, R831). -/
def State.coldBase (s : State) (straps : Straps) (flash : List (Nat × Byte)) (last : Nat) : State :=
  let s := (s.clearRun).stopStride
  let s := { s with
    log := [], logTorn := [], logOverrun := []
    mic := { MicState.reset with muteLow := s.mic.muteLow }
    isle := { s.isle with zeroing := none, wdtDue := false, osc := 65535 }
    boot := { s.boot with flash := flash.foldl (fun m (c : Nat × Byte) => Memory.write m c.1 c.2) [], recovery := false } }
  let s := (s.latchStraps straps).islandStart
  let s := (s.lineDieReset).showBoot
  s.recordReset last

/-- Execute POWER_ON_RESET (R668): every field is restored, and what power supplies starts anew; a zeroisation that power
failed in completes before the self-tests, and leaves the node in halter mode with no choice of images (R23, R659, R666). A sequence violation that held reset is recorded after the reset (R22, R743). -/
def execPowerOnReset (straps : Straps) (flash : List (Nat × Byte)) (serial mac : Nat) (self : Bool) (s : State) :
    Host.Outcome State Fault Refusal :=
  s.done (
    let zero := s.isle.zeroing
    let seq := s.power.seqBroken
    let s := ({ s with fab := FabState.reset } : State).restore [.por, .pin, .wdt, .zero, .soft]
    let s := { s with
      power := { PowerState.reset with vinLost := s.power.vinLost && !self, seqBroken := 0 }
      net := { s.net with macs := [mac, mac + 1, mac + 2] }, clk := ClkState.reset }
    let s := s.set F.SYS_SERIAL_SERIAL serial
    let s := s.set F.SYS_MAC_HI_BASE_0_1 (mac / 2 ^ 32)
    let s := s.set F.SYS_MAC_LO_BASE_2_5 mac
    let s := s.setB F.SYS_STRAPS_SUPPLY_MODE self
    let s := s.setB F.PWR_RAILS_SELF self
    let s := if seq = 0 then s else (s.setB F.PWR_AON_STATUS_SEQ_FAULT true).set F.PWR_AON_STATUS_SEQ_RULE seq
    let s := (List.range 3).foldl (fun s p =>
      ((s.set (F.MAC_UCAST_ADDR_2_5 p 0) (mac + p)).set (F.MAC_UCAST_ADDR_0_1 p 0) ((mac + p) / 2 ^ 32)).setB
        (F.MAC_UCAST_EN p 0) true) s
    let s := s.coldBase straps flash 0
    match zero with
    | none => s.chooseImages
    | some c => s.zeroReset c)

/-- Execute PIN_RESET (R669): an assertion of RST_N of 10 µs or more resets the node as POR does, but for the fields marked
POR; one shorter than 1 µs is ignored, and between the two the spec leaves it open (log entry 4). With a POR requested at the same
time the node performs only that (R23). -/
def execPinReset (us : Nat) (straps : Straps) (flash : List (Nat × Byte)) (s : State) :
    Host.Outcome State Fault Refusal :=
  s.done (
    if us < 1 || s.porWaits then s
    else
      let d := if 10 ≤ us then (true, s) else s.freeBool
      let s := d.2
      if !d.1 then s
      else
        let s := match s.isle.zeroing with
          | none => s
          | some c => s.zeroReset c
        let s := s.restore [.pin, .wdt, .zero, .soft]
        let s := (List.range 3).foldl (fun s p =>
          let a := s.macAddr p
          ((s.set (F.MAC_UCAST_ADDR_2_5 p 0) a).set (F.MAC_UCAST_ADDR_0_1 p 0) (a / 2 ^ 32)).setB (F.MAC_UCAST_EN p 0) true) s
        (s.coldBase straps flash 1).chooseImages)

end Sys2Proof.Machine
end

