-- ==== Sys2Proof/Machine/Security.lean ====
section
/-! DEFINITION. The security island (chapter 14): self-tests and error states, approved mode, the services of the SEC
mailbox, and zeroisation. The layout of a service's input bytes is the order of R638's table (log entry 21). -/

namespace Sys2Proof.Machine

/-! ### Self-tests and error states -/

/-- How many oscillators are enabled. -/
def State.oscCount (s : State) : Nat := popcount s.isle.osc 16

/-- OSC_ON: the live count, saturating at 15. -/
def State.showOsc (s : State) : State := s.set F.SEC_ERROR_OSC_ON (Nat.min 15 s.oscCount)

/-- SEC_KEYS as the partition holds it (R883). -/
def State.showKeys (s : State) : State :=
  let bits := fun (l : List Nat) => bitsWhere 12 (fun i => l.contains i)
  let s := s.set F.SEC_KEYS_OPERATORS (bits (s.isle.operators.map (·.slot)))
  let s := s.set F.SEC_KEYS_IMAGE_KEYS (bits (s.isle.imageKeys.map (·.1)))
  let s := s.set F.SEC_KEYS_CAKS (bits (s.isle.caks.map (·.1)))
  let s := s.setB F.SEC_KEYS_TACK_KEY s.isle.tackKey
  s.setB F.SEC_KEYS_IDENTITY (!s.isle.identity.isEmpty)

/-- Execute SELF_TESTS_COMPLETE (R622–R626, R661, R883): the DRBG is instantiated, and generates the partition wrapping key and the node
identity where the partition holds none (R645, R646). -/
def execSelfTestsComplete (failed : Fin 11) (osc : Nat) (ident : List Byte) (pairOk : Bool) (s : State) :
    Host.Outcome State Fault Refusal :=
  s.done (
    if s.get F.SEC_STATUS_STATE ≠ 0 ∨ s.isle.zeroing.isSome then s
    else if failed.val ≠ 0 then s.hardError failed
    else
      let s := ({ s with isle := { s.isle with osc := Nat.land s.isle.osc (osc % 65536), tested := true } } : State).showOsc
      if s.oscCount < 12 then s.hardError 12
      else
        let fresh := s.isle.identity.isEmpty
        if fresh && !pairOk then s.hardError 11
        else
          let s := s.drbgStart
          let s := if s.isle.pwk then s else { s.drbgDraw with isle := { s.drbgDraw.isle with pwk := true } }
          let s := if fresh then { s.drbgDraw with isle := { s.drbgDraw.isle with identity := ident } } else s
          let s := (s.showKeys).syncCaks
          (s.set F.SEC_STATUS_STATE (if s.getB F.SYS_PERSONA_HALTER then 4 else 1)).showSec)

/-- Execute ENTROPY_HEALTH_FAIL: the oscillator is disabled; with fewer than 12 left the source has failed (R624, R625). -/
def execEntropyHealthFail (osc : Fin 16) (run count : Nat) (s : State) : Host.Outcome State Fault Refusal :=
  s.done (
    if (run < 41 ∧ count < 800) ∨ !s.isle.osc.testBit osc then s
    else
      let s := { s with isle := { s.isle with osc := putBit s.isle.osc osc false } }
      let s := if s.isle.tested then s.showOsc else s
      if s.oscCount < 12 ∧ s.get F.SEC_STATUS_STATE ≠ 2 ∧ s.isle.tested then s.hardError 12 else s)

/-! ### The mailbox -/

/-- The input bytes of the mailbox, LENGTH of them. -/
def State.mboxIn (s : State) : List Byte :=
  ((List.range 64).flatMap (fun w => beBytes (s.get (F.SEC_MBOX_IN_DATA w)) 4)).take (s.get F.SEC_MBOX_CTRL_LENGTH)

/-- The code of the host master (R547). -/
def State.hostCode (s : State) : Nat := if s.getB F.SYS_STRAPS_HOSTIF then 3 else 2

/-- GO of SEC_MBOX_CTRL written 1: the service starts, or the request is turned away (R627, R638). -/
def State.mboxGo (s : State) : State :=
  let known : List Nat := [0x10, 0x11, 0x12, 0x13, 0x20, 0x21, 0x22, 0x23, 0x24, 0x25, 0x26, 0x27, 0x28]
  if s.getB F.SEC_MBOX_STATUS_BUSY then s.set F.SEC_MBOX_STATUS_CODE 10
  else
    let sv := s.get F.SEC_MBOX_CTRL_SERVICE
    let r : Option (Nat × List Byte) :=
      if s.get F.SEC_STATUS_STATE = 2 then some (7, [])
      else if s.get F.SEC_STATUS_STATE = 3 then some (11, [])
      else if !known.contains sv ∨ 256 < s.get F.SEC_MBOX_CTRL_LENGTH then some (6, []) else none
    ({ s with isle := { s.isle with mbox := some ⟨sv, r⟩ } } : State).setB F.SEC_MBOX_STATUS_BUSY true

/-- The mailbox service `sv` runs: `f` gives the state it leaves, its mailbox code and its output. It waits while the
self-tests run, and for the identity that R661 makes (R623, R661). -/
def State.service (s : State) (sv : Nat) (f : State → State × Nat × List Byte) : State :=
  match s.isle.mbox with
  | none => s
  | some b =>
    if b.service ≠ sv ∨ b.result.isSome ∨ !s.isle.tested then s
    else
      let r := f s
      match r.1.isle.mbox with
      | none => r.1
      | some b' =>
        if b'.result.isSome then r.1
        else { r.1 with isle := { r.1.isle with mbox := some { b' with result := some r.2 } } }

/-- A mailbox service ends with `code` and output `out`, its input cleared (R638). -/
def State.endService (s : State) (code : Nat) (out : List Byte) : State :=
  let s := { s with isle := { s.isle with mbox := none } }
  let s := (s.setB F.SEC_MBOX_STATUS_BUSY false).set F.SEC_MBOX_STATUS_CODE code
  let s := s.set F.SEC_MBOX_STATUS_OUT_LENGTH out.length
  let s := (List.range 64).foldl (fun s w =>
    (s.set (F.SEC_MBOX_IN_DATA w) 0).set (F.SEC_MBOX_OUT_DATA w) (beNat (padBytes 4 ((out.drop (4 * w)).take 4)))) s
  s.setB F.SEC_IRQ_MBOX_DONE true

/-- Execute MBOX_SERVICE_DONE: output and code are written, the input is cleared, and BUSY ends (R638). -/
def execMboxServiceDone (s : State) : Host.Outcome State Fault Refusal :=
  s.done (match s.isle.mbox with
    | none => s
    | some b =>
      match b.result with
      | none => s
      | some (code, out) => s.endService code out)

/-- The island's answer to GET_CHALLENGE of master code `m` (R633, R634): it draws the nonce, the ephemeral key and the number that signs
from the DRBG (R643, log entry 60); a key pair that fails its pairwise test is a hard error (R624). -/
def State.challenge (s : State) (m : Nat) (out : Challenge) : State × Nat × List Byte :=
  if m ∈ s.isle.locked then (s, 8, [])
  else
    let s := s.drbgDraw.drbgDraw.drbgDraw
    if !out.pairOk then (s.hardError 11, 7, [])
    else ({ s with isle := { s.isle with challenges := m :: s.isle.challenges.filter (· ≠ m) } }, 0, out.bytes)

/-- Execute GET_CHALLENGE. -/
def execGetChallenge (out : Challenge) (s : State) : Host.Outcome State Fault Refusal :=
  s.done (s.service 0x10 (fun s => s.challenge s.hostCode out))

/-- The island's answer to AUTHENTICATE of master code `m` with request body `body` (R633–R635): the role on success. -/
def State.authenticate (s : State) (m : Nat) (body : List Byte) (sigOk : Bool) : State × Nat × Nat :=
  if body.length ≠ 195 then (s, 6, 0)
  else if m ∉ s.isle.challenges then (s, 3, 0)
  else
    let s := { s with isle := { s.isle with challenges := s.isle.challenges.filter (· ≠ m) } }
    let slot := beAt body 0 1
    let op := s.isle.operators.find? (fun o => o.slot = slot)
    match op with
    | none => ({ s with isle := { s.isle with locked := m :: s.isle.locked.filter (· ≠ m) } }, if slot < 12 then 2 else 5, 0)
    | some o =>
      if sigOk && beAt body 98 1 == m then (s, 0, o.role)
      else ({ s with isle := { s.isle with locked := m :: s.isle.locked.filter (· ≠ m) } }, 2, 0)

/-- Execute AUTHENTICATE: the host's session; a new AUTHENTICATE closes the one before, and the DRBG reseeds at its establishment (R635,
R645). -/
def execAuthenticate (sigOk : Bool) (session : Nat) (s : State) : Host.Outcome State Fault Refusal :=
  s.done (s.service 0x11 (fun s =>
    let s := s.set F.SEC_SESSIONS_HOST 0
    let r := s.authenticate s.hostCode s.mboxIn sigOk
    if r.2.1 = 0 then (r.1.drbgReseed.set F.SEC_SESSIONS_HOST r.2.2, 0, beBytes (65536 * (session % 65536) + r.2.2) 4)
    else (r.1, r.2.1, [])))

/-- Execute CLOSE_SESSION (R635). -/
def execCloseSession (s : State) : Host.Outcome State Fault Refusal :=
  s.done (s.service 0x12 (fun s =>
    if s.get F.SEC_SESSIONS_HOST = 0 then (s, 1, []) else (s.set F.SEC_SESSIONS_HOST 0, 0, [])))

/-- Execute GET_IDENTITY (R638). -/
def execGetIdentity (s : State) : Host.Outcome State Fault Refusal :=
  s.done (s.service 0x13 (fun s => (s, 0, s.isle.identity)))

/-- A Crypto Officer holds the host session. -/
def State.co (s : State) : Bool := s.get F.SEC_SESSIONS_HOST == 2

/-- A CO service: refused with NO_ROLE to anyone else. -/
def State.coService (s : State) (f : State × Nat × List Byte) : State × Nat × List Byte := if s.co then f else (s, 1, [])

/-- Execute ENROL_OPERATOR: slot, role, public key; the first CO needs no session (R638, R639). -/
def execEnrolOperator (s : State) : Host.Outcome State Fault Refusal :=
  s.done (s.service 0x20 (fun s =>
    let b := s.mboxIn
    let slot := beAt b 0 1
    let role := beAt b 1 1
    if !(s.co || (role == 2 && !s.isle.operators.any (fun o => o.role = 2))) then (s, 1, [])
    else if b.length ≠ 99 ∨ (role ≠ 1 ∧ role ≠ 2) then (s, 6, [])
    else if 12 ≤ slot then (s, 5, [])
    else
      let s := { s with isle := { s.isle with
        operators := s.isle.operators.filter (fun (o : Operator) => o.slot ≠ slot) ++ [(⟨slot, role, b.drop 2⟩ : Operator)] } }
      (s.showKeys, 0, [])))

/-- Execute REMOVE_OPERATOR: not the last CO (R640). -/
def execRemoveOperator (s : State) : Host.Outcome State Fault Refusal :=
  s.done (s.service 0x21 (fun s => s.coService (
    let b := s.mboxIn
    let slot := beAt b 0 1
    let left := s.isle.operators.filter (fun o => o.slot ≠ slot)
    if b.length ≠ 1 then (s, 6, [])
    else if 12 ≤ slot then (s, 5, [])
    else if !left.any (fun o => o.role = 2) then (s, 9, [])
    else (({ s with isle := { s.isle with operators := left } } : State).showKeys, 0, []))))

/-- Execute ENROL_IMAGE_KEY: slot and public key; an empty key removes (R638). -/
def execEnrolImageKey (s : State) : Host.Outcome State Fault Refusal :=
  s.done (s.service 0x22 (fun s => s.coService (
    let b := s.mboxIn
    let slot := beAt b 0 1
    if b.length ≠ 1 ∧ b.length ≠ 98 then (s, 6, [])
    else if 4 ≤ slot then (s, 5, [])
    else
      let left := s.isle.imageKeys.filter (fun k => k.1 ≠ slot)
      let keys := if b.length = 1 then left else left ++ [(slot, b.drop 1)]
      (({ s with isle := { s.isle with imageKeys := keys } } : State).showKeys, 0, []))))

/-- Execute LOAD_KEY: type 1 the tack image key, type 2 a CAK with its CKN (R638, R624). -/
def execLoadKey (unwrapOk : Bool) (s : State) : Host.Outcome State Fault Refusal :=
  s.done (s.service 0x23 (fun s => s.coService (
    let b := s.mboxIn
    let slot := beAt b 1 1
    if beAt b 0 1 = 1 ∧ b.length = 42 then
      if slot ≠ 0 then (s, 5, [])
      else if !unwrapOk then (s, 4, [])
      else (({ s with isle := { s.isle with tackKey := true } } : State).showKeys, 0, [])
    else if beAt b 0 1 = 2 ∧ 43 ≤ b.length ∧ b.length ≤ 74 then
      if 4 ≤ slot then (s, 5, [])
      else if !unwrapOk then (s, 4, [])
      else
        let ckn := (b.drop 2).take (b.length - 42)
        (((({ s with isle := { s.isle with
          caks := s.isle.caks.filter (fun k => k.1 ≠ slot) ++ [(slot, ckn)] } } : State).showKeys).syncCaks), 0, [])
    else (s, 6, []))))

/-- Execute DELETE_KEY (R638); a deleted CAK takes its ICK and KEK with it (R646). -/
def execDeleteKey (s : State) : Host.Outcome State Fault Refusal :=
  s.done (s.service 0x24 (fun s => s.coService (
    let b := s.mboxIn
    let slot := beAt b 1 1
    if b.length ≠ 2 then (s, 6, [])
    else if beAt b 0 1 = 1 then
      if slot ≠ 0 then (s, 5, [])
      else (({ s with isle := { s.isle with tackKey := false } } : State).showKeys, 0, [])
    else if beAt b 0 1 = 2 then
      if 4 ≤ slot then (s, 5, [])
      else ((({ s with isle := { s.isle with caks := s.isle.caks.filter (fun k => k.1 ≠ slot) } } : State).showKeys).syncCaks,
        0, [])
    else (s, 6, []))))

/-- Execute GEN_IDENTITY: a key pair that fails its pairwise test is a hard error (R624, R626). -/
def execGenIdentity (pub : List Byte) (pairOk : Bool) (s : State) : Host.Outcome State Fault Refusal :=
  s.done (s.service 0x25 (fun s => s.coService (
    let s := s.drbgDraw
    if !pairOk then (s.hardError 11, 7, [])
    else (({ s with isle := { s.isle with identity := pub } } : State).showKeys, 0, pub))))

/-- Execute SET_MACSEC: port, suite, CAK slot, key-server priority; suite 0 is not permitted on a ring port in approved mode
(R641, R649). A new choice ends the port's secure channel. -/
def execSetMacsec (s : State) : Host.Outcome State Fault Refusal :=
  s.done (s.service 0x26 (fun s => s.coService (
    let b := s.mboxIn
    let p := beAt b 0 1
    let suite := beAt b 1 1
    if b.length ≠ 4 ∨ 3 ≤ p ∨ 3 ≤ suite then (s, 6, [])
    else if 4 ≤ beAt b 2 1 then (s, 5, [])
    else if suite = 0 ∧ p < 2 ∧ s.approved then (s, 9, [])
    else
      let s := (s.endSecure p).set (F.SEC_MACSEC_SUITE p) suite
      let s := { s with isle := { s.isle with cakOf := s.isle.cakOf.set p (some (beAt b 2 1)) } }
      let s := s.updSec p (fun q => { q with prio := beAt b 3 1 })
      ((s.syncCaks).afterSec p, 0, []))))

/-- Execute COMMIT_APPROVED: the confirmation word burns the fuse (R629). -/
def execCommitApproved (s : State) : Host.Outcome State Fault Refusal :=
  s.done (s.service 0x27 (fun s => s.coService (
    if s.mboxIn ≠ [0x41, 0x50, 0x52, 0x56] then (s, 6, [])
    else (({ s with isle := { s.isle with fuse := true } } : State).showSec, 0, []))))

/-! ### Zeroisation (R658–R667) -/

/-- A host load, a full load, a commit and a SOFT reset that wait end at once, with their ramp to silence (R116). -/
def State.dropLoads (s : State) : State :=
  let up := if s.fab.running then s.fab.outRamp.aim true 240 else s.fab.outRamp
  { s with
    boot := { s.boot with want := none, commitDue := none, softDue := false }
    host := { s.host with loadLen := 0 }
    swap := SwapState.reset
    fab := { s.fab with loaded := false, rampDown := none, outRamp := up } }

/-- Every load and swap ends at once: what had entered goes (R112, R116). -/
def State.endLoads (s : State) : State :=
  let t := if s.get F.FAB_SWAP_STATUS_STATE < 2 then s else s.dropEntering
  ((t.dropLoads).set F.HOST_LOAD_STATUS_STATE 0).set F.FAB_SWAP_STATUS_STATE 0

/-- Steps 1 to 3 of R659 for `cause`: services, sessions and channels end, a service under way ends with ZEROISED, the frames being sent
under MACsec end poisoned, and a load or swap ends (R116, R660, R665). -/
def State.startZero (s : State) (cause : Nat) : State :=
  if s.isle.zeroing.isSome then s
  else
    let s := s.spoilFrames.cutBeams
    let s := { s with isle := { s.isle with zeroing := some cause } }
    let s := (s.set F.SEC_STATUS_STATE 3).closeSessions
    let s := s.endChannels
    let s := match s.isle.mbox with
      | none => s
      | some _ => s.endService 11 []
    s.endLoads

/-- Execute ZEROISE: the service starts zeroisation (R658). -/
def execZeroise (s : State) : Host.Outcome State Fault Refusal :=
  s.done (s.service 0x28 (fun s => s.coService (s.startZero 2, 11, [])))

/-- Execute ZERO_PIN: 450,000 island cycles without a break (R658, R667). -/
def execZeroPin (cycles : Nat) (s : State) : Host.Outcome State Fault Refusal :=
  s.done (if 450000 ≤ cycles then s.startZero 1 else s)

/-- Execute SHIELD_BREACH (R663). -/
def execShieldBreach (s : State) : Host.Outcome State Fault Refusal := s.done (s.startZero 3)

/-- Execute ENV_FAILURE (R664): low VDD_CORE holds the island in reset; the others zeroise. -/
def execEnvFailure (kind : Fin 4) (value : Int) (us : Nat) (s : State) : Host.Outcome State Fault Refusal :=
  s.done (match kind.val with
    | 0 => if value < 600 ∧ s.isle.zeroing.isNone then (s.closeSessions).endChannels.islandStart else s
    | 1 => if 950 < value ∧ 10 ≤ us then s.startZero 4 else s
    | 2 => if 140 < value ∨ value < -50 then s.startZero 5 else s
    | _ => if (value < 40000 ∨ 60000 < value) ∧ 1 ≤ us then s.startZero 6 else s)

/-- Execute CHALLENGE_EXPIRY: 10 s (R634). -/
def execChallengeExpiry (m : Master) (ms : Nat) (s : State) : Host.Outcome State Fault Refusal :=
  s.done (if 10000 ≤ ms then { s with isle := { s.isle with challenges := s.isle.challenges.filter (· ≠ m.code) } } else s)

/-- Execute LOCKOUT_END: 1 s (R634). -/
def execLockoutEnd (m : Master) (ms : Nat) (s : State) : Host.Outcome State Fault Refusal :=
  s.done (if 1000 ≤ ms then { s with isle := { s.isle with locked := s.isle.locked.filter (· ≠ m.code) } } else s)

end Sys2Proof.Machine
end

