-- ==== Sys2Proof/Machine/Pins.lean ====
section
/-! DEFINITION. The digital output balls of the logic die, as its state drives them (R560, R610–R612, R614, R630, R816, R843,
R844, R846, R847). The microphones' balls stand with the mute in `Machine/Wake.lean`, the TDM slots' bits in
`Machine/Line.lean`. -/

namespace Sys2Proof.Machine

/-! ### Levels -/

/-- A ball driven to a level. -/
def Ball.ofBool (b : Bool) : Ball := if b then .high else .low

/-- The level that PANEL_FLAGS bit 0 turns a driven ball to (R611). -/
def Ball.inverted : Ball → Ball
  | .highZ => .highZ
  | .low => .high
  | .high => .low
  | .pwm c i => .pwm c (!i)
  | .clock => .clock

/-! ### PWM (R614) -/

/-- Media master cycles of one PWM period at each code of FREQ (R614, R796). -/
def pwmPeriod (freq : Nat) : Nat := [24576, 12288, 6144, 1024].getD freq 6144

/-- The high time of channel `k` in its present period, in media master cycles, a tie rounding up (R614; log entry 59). -/
def State.pwmHigh (s : State) (k : Nat) : Nat := (2 * s.gpio.pwmDuty.getD k 0 * pwmPeriod s.gpio.pwmFreq + 1000) / 2000

/-- The PWM channels over one stride: at the start of a period they take the new FREQ and DUTY (R614). Periods start on boundaries,
three of 24 kHz in a stride and the others every 2, 4 or 8 strides, so a change shows at the first boundary where one starts. -/
def State.stepPwm (s : State) : State :=
  if 3072 < s.gpio.pwmLeft then { s with gpio := { s.gpio with pwmLeft := s.gpio.pwmLeft - 3072 } }
  else
    { s with gpio := { s.gpio with
        pwmFreq := s.get F.GPIO_PWM_CFG_FREQ
        pwmDuty := (List.range 8).map (fun k => s.get (F.GPIO_PWM_DUTY k))
        pwmLeft := pwmPeriod (s.get F.GPIO_PWM_CFG_FREQ) } }

/-- The ball that PWM channel `k` drives: DUTY 0 and 1,000 hold it (R614). -/
def State.pwmBall (s : State) (k : Nat) : Ball :=
  let d := s.gpio.pwmDuty.getD k 0
  if d = 0 then .low else if 1000 ≤ d then .high else .pwm k false

/-! ### GPIO (R610–R612, R675) -/

/-- A lamp of the panel map is in an on phase (R461, R462, R611). The pattern that source 0xFE has on a panel lamp, which has no
HOST_PATTERN, is free (log entry 59). -/
def State.panelLampOn (s : State) (r : PanelRec) : Bool :=
  s.patternOn (s.sourcePattern r.target (Config.panelHostPattern r.gpio).toNat)

/-- A PANEL ball as its record binds (R611): keys and encoder phases are inputs. -/
def State.panelBall (s : State) (r : PanelRec) : Ball :=
  if r.function ≤ 2 then .highZ
  else
    let b := if !s.panelLampOn r then Ball.low else if r.function = 3 then s.pwmBall r.pwmCh else .high
    if r.activeLow then b.inverted else b

/-- Ball GPIO_n: high-impedance until boot lock and whenever the pads are off, then as its function says (R610, R675, R843). -/
def State.gpioBall (s : State) (n : Nat) : Ball :=
  if s.padsOff || !s.getB F.BOOT_STATUS_LOCKED then .highZ
  else match s.get (F.GPIO_PIN_FUNC n) with
    | 1 => .ofBool (s.bit F.GPIO_OUT_OUT n)
    | 2 => if s.bit F.GPIO_OUT_OUT n then .highZ else .low
    | 3 => s.pwmBall (s.get (F.GPIO_PIN_PWM_CH n))
    | 4 => match s.gpio.panel.find? (fun r => r.gpio = n) with
      | none => .highZ
      | some r => s.panelBall r
    | _ => .highZ

/-- The level of GPIO_n: as the node drives it, else as the board does (GPIO_IN_LEVEL holds what the board drives, as GPIO_EDGE and
KEY_DEBOUNCE brought it). Where in a PWM period a read falls is free (R612, log entry 59). -/
def State.gpioLevel (s : State) (n : Nat) : Bool :=
  match s.gpioBall n with
  | .highZ => s.bit F.GPIO_IN_LEVEL n
  | .low => false
  | .high => true
  | .pwm _ _ => Config.pwmLevel n s.stride s.host.nextTxn
  | .clock => true

/-- GPIO_IN: the level of every ball, whatever its function (R612). -/
def State.gpioIn (s : State) : Nat := bitsWhere 32 s.gpioLevel

/-! ### The other outputs -/

/-- IRQ_N: open-drain, low while a pending cause is unmasked (R560, R844). -/
def State.irqBall (s : State) : Ball := if !s.padsOff && s.irqAsserted then .low else .highZ

/-- PHY_BYPASS_N (R844, R847). -/
def State.phyBypassBall (s : State) : Ball :=
  if s.padsOff then .highZ
  else if s.ring.bypassOpen then .high
  else if s.domOn 5 || s.domOn 6 then .low else .highZ

/-- The outputs of MAC port `p` are driven: its domain is powered (R474, R844). -/
def State.macDriven (s : State) (p : Nat) : Bool := !s.padsOff && s.domOn (5 + p)

/-- APPROVED_IND (R630, R843). -/
def State.approvedBall (s : State) : Ball := if s.padsOff then .highZ else .ofBool s.approved

/-- AON_CLK_OUT: the RTC clock while enabled, from boot lock on (R675, R816). -/
def State.aonClkBall (s : State) : Ball :=
  if !s.padsOff && s.getB F.BOOT_STATUS_LOCKED && s.getB F.CLK_RTC_CFG_OUT_EN then .clock else .highZ

/-- BCLK and FSYNC of TDM port `t`, which a master drives: clocks while EN is 1, low otherwise; a slave's are inputs (R262, R263,
R844). -/
def State.tdmClockBall (s : State) (t : Nat) : Ball :=
  if s.padsOff || !s.tdmClaimed t || !s.getB (F.TDM_CFG_MASTER t) then .highZ
  else if s.getB (F.TDM_CFG_EN t) && s.getB F.CLK_STATUS_MEDIA_LOCK then .clock else .low

/-- TDM_t_DOUT is driven, with the bits of `State.tdmDout` (R263, R844). -/
def State.tdmDriven (s : State) (t : Nat) : Bool := !s.padsOff && s.tdmClaimed t

/-- MIC_CLK_p: its clock, or low; high-impedance until the image instantiates it (R162, R212, R844). -/
def State.micClockBall (s : State) (p : Nat) : Ball :=
  if s.padsOff || s.fab.image.isNone then .highZ else if s.micClock p then .clock else .low

end Sys2Proof.Machine
end

