-- ==== Sys2Proof/Machine/Access.lean ====
section
/-! DEFINITION. Register access: what an access reaches and how it fails (R821, R828, R829), reads, and the rules that
decide a write: access codes, admissible values, reins and arbitration (R17–R20, R590–R594, R824–R826). -/

namespace Sys2Proof.Machine

/-! ### Reaching a register (R828, R829) -/

/-- What an access reaches. -/
inductive Reach where
  /-- a word of the page window -/
  | window (off : Nat)
  /-- a word of the copy buffer -/
  | buffer (off : Nat)
  | reg (r : RegRow)
  /-- the access fails with a code, at a power domain -/
  | fail (c : Code) (domain : Nat)
deriving DecidableEq, Repr

/-- The host master (R547). -/
def State.hostMaster (s : State) : Master := if s.getB F.SYS_STRAPS_HOSTIF then .hostI2c else .hostSpi

/-- A master is one of the two host masters. -/
def isHost (m : Master) : Bool := m == .hostSpi || m == .hostI2c

/-- The master exists: the host that the strap selects, the debug port outside approved mode (R547, R548); nothing accesses
while reset is held. -/
def State.exists_ (s : State) (m : Master) : Bool :=
  !s.power.resetHeld && (if isHost m then m == s.hostMaster else m != .debug || !s.approved)

/-- Where an access of master `m` to address `a` arrives; `viaCopy`: by the copy engine (R601, R819, R828). -/
def State.reach (s : State) (m : Master) (a : Nat) (viaCopy : Bool) : Reach :=
  if a % 4 ≠ 0 then .fail .badAddr 63
  else if 0x1000000 ≤ a ∧ a < 0x1000200 then
    (if isHost m && !viaCopy then .window (a - 0x1000000) else .fail .badAddr 63)
  else if 0x2000000 ≤ a ∧ a < 0x2010000 then .buffer (a - 0x2000000)
  else if viaCopy ∧ a / 0x10000 = 9 then .fail .badAddr 63
  else match regRow a with
    | none => .fail .badAddr 63
    | some r =>
      if !s.present a r then .fail .notPresent (s.powerDomain r.dom)
      else if !s.domOn (s.powerDomain r.dom) then .fail .accessErr (s.powerDomain r.dom)
      else .reg r

/-- A failed access in its master's bank (R829). -/
def State.accessError (s : State) (m : Master) (a : Nat) (c : Code) (domain : Nat) : State :=
  { s with banks := s.banks.set m.code (
      let b := s.banks.getD m.code ⟨0, false, false, false, false, 0, 0⟩
      { b with
        count := (b.count + 1) % 256
        badAddr := b.badAddr || c == .badAddr
        notPresent := b.notPresent || c == .notPresent
        off := b.off || c == .accessErr
        domain := domain, addr := a }) }

/-! ### Reading -/

/-- The bank of a master as the word of SYS_ACCESS_ERR. -/
def AccessBank.word (b : AccessBank) : Nat :=
  b.count * 2 ^ 24 + bit1 b.timeout * 2 ^ 11 + bit1 b.badAddr * 2 ^ 10 + bit1 b.notPresent * 2 ^ 9 +
    bit1 b.off * 2 ^ 8 + b.domain

/-- The groups that a master holds (REINS_MINE). -/
def State.heldBy (s : State) (m : Nat) : Nat := bitsWhere 16 (fun g => s.get (F.REINS_HOLDER_HOLDER g) == m)

/-- The code of the first word that was not OK, or OK (R553). -/
def firstBad : List (Nat × Code) → Code
  | [] => .ok
  | b :: _ => b.2

/-- Note the code `c` of word `w`: a word counts once, the words in their order (R553). -/
def noteBad (w : Nat) (c : Code) (l : List (Nat × Code)) : List (Nat × Code) :=
  if c = .ok ∨ l.any (fun b => b.1 = w) then l else insertBy (fun a b => decide (a.1 ≤ b.1)) (w, c) l

/-- The STATUS byte of the host master (R553). -/
def State.statusByte (s : State) : Nat :=
  (firstBad s.host.decided.bad).num + 16 * bit1 (decide (2 ≤ s.host.decided.bad.length)) + 32 * bit1 (!s.host.open_.isEmpty) + 64 * bit1 s.irqAsserted

/-- Clock domain `n` of R803 has a running clock (R150, R155, R741, R803, R817); a received clock runs while the state shows it
(log entry 6). -/
def State.clockRuns (s : State) (n : Nat) : Bool :=
  if n < 128 then (s.stallAt n).isSome && s.stallRuns n
  else if n < 160 then s.domOn 8 && s.getB (F.IOP_RX_CFG_EN (n - 128))
  else if n = 160 ∨ n = 170 then s.getB F.CLK_STATUS_MEDIA_LOCK
  else if n < 167 then
    let p := (n - 161) / 2
    s.domOn (5 + p) && (if n % 2 = 1 then s.getB (F.MAC_STATUS_LINK p) else !s.getB F.CLK_STATUS_REF_LOST)
  else if n = 167 then s.domOn 8
  else if n = 168 then (List.range 4).any (fun p => s.micClock p)
  else if n = 169 then s.domOn 9 && s.getB F.CLK_STATUS_MEDIA_LOCK
  else if n = 171 then s.domOn 4 && !s.getB F.SYS_STRAPS_HOSTIF
  else if n = 172 then s.domOn 4 && s.getB F.SYS_STRAPS_HOSTIF
  else if n = 173 then false
  else if n = 174 then s.domOn 3
  else if n < 179 ∨ n = 207 ∨ n = 208 then true
  else if n < 195 then bitOf s.isle.osc (n - 179)
  else if n < 203 then s.getB F.PWR_RAILS_SELF
  else if n < 206 then s.domOn (n - 169)
  else if n = 206 then !(s.getB F.CLK_RTC_CFG_SRC && s.getB F.CLK_STATUS_REF_LOST)
  else if n < 213 then
    let t := n - 209
    s.domOn 8 && s.tdmClaimed t && s.getB (F.TDM_CFG_EN t) && (s.getB (F.TDM_CFG_MASTER t) || s.getB (F.TDM_STATUS_SYNC t))
  else false

/-- The value of a register as master `m` reads it; the fields that follow other state are computed here. -/
def State.readReg (s : State) (m : Master) (a : Nat) (r : RegRow) : Nat :=
  let b := s.banks.getD m.code ⟨0, false, false, false, false, 0, 0⟩
  if a = 0x30 then b.word
  else if a = 0x34 then b.addr
  else if a = 0x40010 then s.count % 2 ^ 32
  else if 0x40040 ≤ a ∧ a < 0x4005C then
    (List.range 32).foldl (fun n b => n + bit1 (s.clockRuns (8 * (a - 0x40040) + b)) * 2 ^ b) 0
  else if a = 0x50008 then s.heldBy m.code
  else if a = 0x60000 then
    m.code * 2 ^ 12 + s.get F.HOST_STATUS_QUAD * 2 ^ 11 + s.get F.HOST_STATUS_I2C * 2 ^ 10 +
      (if isHost m then s.statusByte else 0)
  else if a = 0x60004 then s.causes
  else if a = 0x60030 ∧ s.approved then s.word r % 2 ^ 31
  else if a = F.PWR_CORE_AVS_EN.addr ∧ !s.getB F.PWR_RAILS_SELF then 800
  else if a = 0x80100 then s.gpioIn
  else if a = 0x80108 ∨ a = 0x8010C then s.get F.GPIO_OUT_OUT
  else if a = F.TG_XP_READ_EFFECTIVE.addr then s.xpRead
  else if a = F.MIC_PRIV_STATUS_PIN.addr then
    (s.word r - s.get F.MIC_PRIV_STATUS_SEALED * 2 ^ F.MIC_PRIV_STATUS_SEALED.lo
      - s.get F.MIC_PRIV_STATUS_APPROVED_SEAL * 2 ^ F.MIC_PRIV_STATUS_APPROVED_SEAL.lo
      - s.get F.MIC_PRIV_STATUS_IND * 2 ^ F.MIC_PRIV_STATUS_IND.lo)
      + bit1 s.sealed * 2 ^ F.MIC_PRIV_STATUS_SEALED.lo
      + bit1 s.approved * 2 ^ F.MIC_PRIV_STATUS_APPROVED_SEAL.lo
      + bit1 s.muteInd * 2 ^ F.MIC_PRIV_STATUS_IND.lo
  else if s.approved ∧ (a = 0x130000 ∨ a = 0x134000) ∧ !s.getB (F.MAC_CFG_MACSEC_REQ ((a - 0x130000) / 0x4000)) then
    s.word r + 2 ^ 8
  else
    -- a write-only field reads 0 (R17)
    r.fields.foldl (fun n f => if f.acc = .wo then n else n + s.get f.fld * 2 ^ f.fld.lo) 0

/-- A word of the open or held page; with none, 0 with PAGE_NONE (R577). -/
def State.readWindow (s : State) (off : Nat) : Code × Nat :=
  match s.host.page with
  | none => (.pageNone, 0)
  | some p => (.ok, beAt p.bytes off 4)

/-- Read one word: its code, its value, and the state, which only a failed access changes (R18, R829). -/
def State.readWord (s : State) (m : Master) (a : Nat) (viaCopy : Bool) : Code × Nat × State :=
  match s.reach m a viaCopy with
  | .window o => ((s.readWindow o).1, (s.readWindow o).2, s)
  | .buffer o => (.ok, beNat (Memory.readAll s.copy.buf o 4), s)
  | .reg r => (.ok, s.readReg m a r, s)
  | .fail c d => (c, 0, s.accessError m a c d)

/-! ### What a field takes (R826) -/

/-- The value `v` written to a field is one that its table takes; `w` is the word written. -/
def Chk.ok (s : State) (w : Nat) (width v : Nat) : Chk → Bool
  | .any => true
  | .range lo hi => decide (lo ≤ v ∧ v ≤ hi)
  | .signed n => decide ((signedOf v width).natAbs ≤ n)
  | .twoBits => popcount v width == 2
  | .nodeId => decide (v ≤ 255) || v == 0xFFFF
  | .lampSrc => lampSource v
  | .capSrc => decide (v < 128) || v ∈ [0x80, 0x82, 0x83, 0x84, 0x86]
  | .encTarget => Sys2Proof.Machine.encTarget v
  | .lineIlim p =>
    let pass := if s.getB F.BOOT_STATUS_LOCKED then s.getB (F.LINE_SRC_CFG_PASS_EN p) else bitOf w 30
    decide (1 ≤ v ∧ v ≤ (if pass then 60 else 10))
  | .txqCurrent _ _ => true

/-- THERM_THRESH_d takes all of a write or nothing of it (R826). -/
def thermThreshOk (w : Nat) : Bool :=
  let warm := bitsOf w 0 8
  let hot := bitsOf w 8 8
  let crit := bitsOf w 16 8
  decide (60 ≤ warm ∧ warm + 5 ≤ hot ∧ hot + 5 ≤ crit ∧ crit ≤ 120)

/-! ### What a field's write comes to before arbitration -/

/-- The outcome for one field. -/
inductive Admit where
  /-- the write may set the field -/
  | take
  /-- no effect, no error -/
  | skip
  /-- the field keeps its value, with a WRITE_REFUSED record (R19, R105) -/
  | refuse
  /-- the field keeps its value, with a PERSONA_REFUSED record (R32) -/
  | persona
deriving DecidableEq, Repr

/-- A write that would enable a capability outside the effective set (R32): the speaker, a PSE port, sourcing. -/
def State.enables (s : State) (f : Fld) (v : Nat) : Bool :=
  v != 0 && s.get f == 0 &&
  ((f == F.CONV_SPK_EN && !s.getB F.SYS_PERSONA_CAP_SPEAKER) ||
   ((f == F.PSE_CFG_EN 0 || f == F.PSE_CFG_EN 1) && !s.getB F.SYS_PERSONA_CAP_PSE) ||
   ((f == F.LINE_SRC_CFG_EN 0 || f == F.LINE_SRC_CFG_EN 1) && !s.getB F.SYS_PERSONA_CAP_PL_SOURCE))

/-- A field whose writes have no effect in the node's present mode: approved mode (R158, R489, R580), external supply
(PWR_CORE.AVS_EN), the promiscuous mode of a ring port, the RO bits of group 63. -/
def State.inert (s : State) (a : Nat) (f : Fld) : Bool :=
  (s.approved && (f == F.HOST_CAP_CTRL_EN || (f.addr / 0x10000 == 0x10 && f == F.FAB_STALL_CTRL_FORCE_FALLBACK ((a - 0x100000) / 0x100)) ||
    f == F.MAC_CFG_MACSEC_REQ 0 || f == F.MAC_CFG_MACSEC_REQ 1)) ||
  (f == F.PWR_CORE_AVS_EN && !s.getB F.PWR_RAILS_SELF) ||
  f == F.MAC_CFG_PROMISC 0 || f == F.MAC_CFG_PROMISC 1

/-- A PANEL ball keeps its function, and PANEL is never written (R610). -/
def State.panelFunc (s : State) (f : Fld) (v : Nat) : Bool :=
  f.addr / 0x100 == 0x800 && f.lo == 0 && (v == 4 || decide (5 ≤ v) || s.bit F.GPIO_PANEL_PANEL (f.addr % 0x100 / 4))

/-- A field of an enabled interop stream other than EN and LATENCY (R523). -/
def State.streamLocked (s : State) (a : Nat) (f : Fld) : Bool :=
  decide (0x150000 ≤ a ∧ a < 0x151000) &&
  (let tx := decide (0x150800 ≤ a)
   let k := (a % 0x800) / 0x40
   s.getB (if tx then F.IOP_TX_CFG_EN k else F.IOP_RX_CFG_EN k) &&
   f != (if tx then F.IOP_TX_CFG_EN k else F.IOP_RX_CFG_EN k) && f != F.IOP_RX_LATENCY_LATENCY k)

/-- A layer end that a steward write leaves as it is: the ends change only with a full load, while which its PARAM records may
set those of its layers (R135, R136). -/
def State.layerEndFixed (s : State) (a : Nat) : Bool :=
  decide (0x108044 ≤ a ∧ a < 0x108064) && !(s.fab.loaded && decide ((a - 0x108044) / 4 < s.get F.FAB_LAYERS_COUNT))

/-- What comes of writing `v` to field `f` of the register at `a`, `w` being the word (R17, R19, R20, R32, R105, R523,
R826). MIC_PRIV keeps its masks once LOCKED is set, whoever writes (R210–R212). -/
def State.admitField (s : State) (m : Master) (a w : Nat) (f : FieldRow) (v : Nat) : Admit :=
  let retiring := decide (0x100000 ≤ a ∧ a < 0x108000) &&
    s.fab.stalls.any (fun t => t.n = (a - 0x100000) / 0x100 ∧ t.retiring = true)
  if retiring then .refuse
  else if f.acc = .ro then .skip
  else if s.inert a f.fld then .skip
  else if f.acc = .rwl ∧ s.getB F.BOOT_STATUS_LOCKED then (if v = s.get f.fld then .skip else .refuse)
  else if f.acc = .rws ∧ m ≠ .steward then (if v = s.get f.fld then .skip else .refuse)
  else if (f.acc = .rw ∨ f.acc = .rwl ∨ f.acc = .rws ∨ f.acc = .wo) ∧ !f.chk.ok s w f.fld.width v then .skip
  else if a = F.MIC_PRIV_MUTE.addr ∧ s.getB F.MIC_PRIV_LOCKED then (if v = s.get f.fld then .skip else .refuse)
  else if a = 0x30010 ∨ a = 0x30014 then (if thermThreshOk w then .take else .skip)
  else if s.panelFunc f.fld v then .skip
  else if s.streamLocked a f.fld || s.layerEndFixed a then .skip
  else if s.enables f.fld v then .persona
  else .take

/-! ### Arbitration (R590–R594) -/

/-- A write within one period: what of its word the period decides. -/
structure PWrite where
  master : Master
  addr : Nat
  val : Nat
  mask : Nat
  src : WSrc
deriving DecidableEq, Repr

/-- One thing that a write of the period writes: which write, whose, the key of its target, the bits of the target, the
value; whether it is a quiet value of a safety-quiet field; whether it can never contradict; the register and bits of the
write; and the rein group. -/
structure UWrite where
  idx : Nat
  master : Nat
  key : Nat
  lo : Nat
  width : Nat
  val : Nat
  quiet : Bool
  loose : Bool
  addr : Nat
  fieldLo : Nat
  fieldWidth : Nat
  rein : Option Nat
deriving DecidableEq, Repr

/-- The units of one field of one write, `f` being admitted (R592, R613). -/
def State.fieldUnits (s : State) (i : Nat) (p : PWrite) (rein : Option Nat) (f : FieldRow) : List UWrite :=
  let v := bitsOf p.val f.fld.lo f.fld.width
  let cur := s.get f.fld
  let u : UWrite := ⟨i, p.master.code, f.fld.key, 0, f.fld.width, v, false, false, p.addr, f.fld.lo, f.fld.width, rein⟩
  let bits := (List.range f.fld.width)
  if p.addr = 0x80108 ∨ p.addr = 0x8010C then
    (bits.filter (fun b => v.testBit b)).map (fun b =>
      { u with key := F.GPIO_OUT_OUT.key, lo := b, width := 1, val := if p.addr = 0x80108 then 1 else 0
               fieldLo := b, fieldWidth := 1 })
  else match f.acc with
  | .ro => []
  | .w1c | .w1s => if v = 0 then [] else [{ u with loose := true }]
  | .wo =>
    if p.addr = F.TG_XP_WRITE_GAIN.addr then
      (if f.fld = F.TG_XP_WRITE_GAIN then [{ u with key := 2 ^ 40 + p.val / 2 ^ 8 % 2 ^ 16 }] else [])
    else if v = 0 ∧ f.fld.width < 8 then []
    else match f.quiet with
      | some _ => (bits.filter (fun b => v.testBit b)).map (fun b =>
          { u with lo := b, width := 1, val := 1, quiet := true, fieldLo := f.fld.lo, fieldWidth := f.fld.width })
      | none => [{ u with loose := decide (f.fld = F.TG_KEY_TOGGLE_TOGGLE ∨ p.addr = 0x50000 ∨ p.addr = 0x50004) }]
  | .rw | .rwl | .rws =>
    match f.quiet with
    | none => if v = cur then [] else [u]
    | some q =>
      let qb := q != 0
      (bits.filter (fun b => v.testBit b != cur.testBit b || v.testBit b == qb)).map (fun b =>
        { u with lo := b, width := 1, val := bit1 (v.testBit b), quiet := v.testBit b == qb })

/-- Two units name overlapping bits of one target. -/
def UWrite.meets (a b : UWrite) : Bool := a.key == b.key && decide (a.lo < b.lo + b.width ∧ b.lo < a.lo + a.width)

/-- Two units of different masters contradict: they would leave common bits with different values (R592). -/
def UWrite.contra (a b : UWrite) : Bool :=
  a.meets b && a.master != b.master && !a.loose && !b.loose &&
  (let lo := Nat.max a.lo b.lo
   let hi := Nat.min (a.lo + a.width) (b.lo + b.width)
   bitsOf a.val (lo - a.lo) (hi - lo) != bitsOf b.val (lo - b.lo) (hi - lo))

/-- A later unit of the same master on the same bits replaces an earlier one (R592). -/
def lastStands : List UWrite → List UWrite
  | [] => []
  | u :: t =>
    if !u.loose && t.any (fun v => v.master == u.master && v.key == u.key && v.lo == u.lo && v.width == u.width) then lastStands t
    else u :: lastStands t

/-- The holder of a unit's rein group; 15 none. -/
def State.holderOf (s : State) (u : UWrite) : Nat :=
  match u.rein with
  | none => 15
  | some g => s.get (F.REINS_HOLDER_HOLDER g)

/-- A unit is kept out by another master's reins (R590). -/
def State.blocked (s : State) (u : UWrite) : Bool := s.holderOf u != 15 && s.holderOf u != u.master && !u.quiet

/-- The unit that beats `u`, if any (R593): a quiet one; the holder's; the earlier in the fixed order. -/
def State.beats (s : State) (us : List UWrite) (u : UWrite) : Option UWrite :=
  let vs := us.filter (fun v => u.contra v && !s.blocked v)
  if u.quiet then none
  else
    match vs.find? (·.quiet) with
    | some v => some v
    | none =>
      match vs.find? (fun v => v.master == s.holderOf v) with
      | some v => some v
      | none => if s.holderOf u == u.master then none else vs.find? (fun v => decide (v.master < u.master))

/-- What comes of a unit: it stands, loses to a winner (R594), or is kept out with NO_REINS. -/
inductive Verdict where
  | stands
  | loses (winner : Nat)
  | noReins
deriving DecidableEq, Repr

/-- The verdict on unit `u` among all units `us` of the period (R590, R593). -/
def State.verdict (s : State) (us : List UWrite) (u : UWrite) : Verdict :=
  if s.blocked u then
    (if us.any (fun v => v.master == s.holderOf u && v.meets u) then .loses (s.holderOf u) else .noReins)
  else match s.beats us u with
    | none => .stands
    | some v => .loses v.master

/-- A losing write's record and counts (R594). -/
def State.conflict (s : State) (u : UWrite) (winner : Nat) : State :=
  let dom := match regRow u.addr with
    | none => 255
    | some r => s.powerDomain r.dom
  let s := s.addLog Ev.conflict.type u.master dom u.addr winner ((u.fieldLo + u.fieldWidth - 1) * 256 + u.fieldLo)
  (s.inc F.REINS_CONFLICT_CNT_COUNT).setB F.HOST_IRQ_CONFLICT true

end Sys2Proof.Machine
end

