-- ==== Sys2Proof/Machine/Writes.lean ====
section
/-! DEFINITION. What a write to a register does once it is decided: the fields take their values, and the register's own
rule follows. -/

namespace Sys2Proof.Machine

/-! ### Reins (R586–R588) -/

/-- A write of `mask` to REINS_TAKE by `m` (R586, R587). -/
def State.takeReins (s : State) (m : Master) (mask : Nat) : State × Code :=
  (List.range 16).foldl (fun (sc : State × Code) g =>
    let s := sc.1
    if !mask.testBit g then sc
    else
      let h := s.get (F.REINS_HOLDER_HOLDER g)
      if m = .steward then
        let s := if h ≠ 15 ∧ h ≠ 0 then
            (s.addLog Ev.reinsTaken.type 0 1 (2 ^ g) h 0).setB F.HOST_IRQ_REINS_TAKEN true
          else s
        (s.set (F.REINS_HOLDER_HOLDER g) 0, sc.2)
      else if h = 15 ∨ h = m.code then (s.set (F.REINS_HOLDER_HOLDER g) m.code, sc.2)
      else (s, .noReins)) (s, .ok)

/-- A write of `mask` to REINS_GIVE by `m` (R588). -/
def State.giveReins (s : State) (m : Master) (mask : Nat) : State :=
  (List.range 16).foldl (fun s g =>
    if mask.testBit g && s.get (F.REINS_HOLDER_HOLDER g) == m.code then s.set (F.REINS_HOLDER_HOLDER g) 15 else s) s

/-! ### Resets, commits and loads asked for by a write -/

/-- The ramp to silence before a load or a SOFT reset begins: the hidden blocks hide, a swap ends, the ring ports go to the
gate state, and every MAC queue empties (R92, R93, R112, R519). -/
def State.startRamp (s : State) : State :=
  let s := { s with fab := { s.fab with rampDown := some 40, outRamp := s.fab.outRamp.aim false 240, hidden := true } }
  let s := if 2 ≤ s.get F.FAB_SWAP_STATUS_STATE then
      (s.dropEntering.set F.FAB_SWAP_STATUS_STATE 0).set F.FAB_SWAP_STATUS_RESULT 15
    else s.set F.FAB_SWAP_STATUS_STATE 0
  let s := { s with swap := SwapState.reset }
  let s := if s.ringState = 1 ∨ s.ringState = 2 then s.toGate else s
  (List.range 3).foldl (fun s p => (s.updMac p (fun q => { q with rxq := [], txq := [] })).showQueues p) s

/-- The SOFT reset itself (R21, R668, R670): the SOFT fields are restored, and the running tack image is to be
reloaded, the registers that its ramp to silence hid staying hidden until then (R93). -/
def State.softReset (s : State) : State :=
  let running := s.get F.BOOT_STATUS_PHASE == 3 || s.get F.BOOT_STATUS_PHASE == 2
  let hidden := s.fab.hidden && running
  let halter := s.halter
  let cause := s.get F.BOOT_STATUS_HALTER_CAUSE
  let slot := s.get F.BOOT_STATUS_TACK_SLOT
  let s := (((s.loadLost).closeSessions).restore [.soft]).clearRun
  let s := { s with fab := { s.fab with hidden := hidden } }
  let s := s.setB F.BOOT_STATUS_LOCKED false
  let s := { s with boot := { s.boot with softDue := false, audioAt := none, want := if running then some slot else none } }
  let s := if running then s.set F.BOOT_STATUS_PHASE 2 else s
  let s := ((s.syncCaks).showSec).syncPower
  let s := s.recordReset 4
  if halter then s.enterHalter cause else if s.boot.recovery then s.enterRecovery else s

/-- A write of SYS_RESET.SOFT: the outputs ramp to silence first where audio runs (R670). -/
def State.startSoft (s : State) : State :=
  if s.boot.softDue then s
  else if s.fab.running then
    let s := { s with boot := { s.boot with softDue := true } }
    if s.fab.rampDown.isSome then s else s.startRamp
  else s.softReset

/-- A write of SYS_RESET by `m` with word `w` (R670, R709, R713). -/
def State.resetWritten (s : State) (m : Master) (w : Nat) : State × Code :=
  if bitsOf w 16 16 ≠ 0x5253 ∨ !(isHost m || m == .steward) then (s, .ok)
  else if bitOf w 1 then
    (if (s.halter && s.get F.BOOT_STATUS_HALTER_CAUSE != 1) || (s.approved && !s.co) then (s, .refused)
     else (s.recoveryBoot, .ok))
  else if bitOf w 0 then (s.startSoft, .ok)
  else (s, .ok)

/-- The declared level lies outside the running range (R705). -/
def State.apiBad (s : State) : Bool :=
  !s.getB F.SYS_HOST_API_DECLARED || decide (s.get F.SYS_HOST_API_LEVEL < s.get F.BOOT_API_MIN) ||
    decide (s.get F.BOOT_API_MAX < s.get F.SYS_HOST_API_LEVEL)

/-- The host has declared its level (R705). -/
def State.apiDeclared (s : State) : State :=
  let s := s.setB F.SYS_HOST_API_DECLARED true
  if s.apiBad then
    let s := (s.setB F.SYS_HOST_API_MISMATCH true).setB F.BOOT_IRQ_API_MISMATCH true
    s.addLog Ev.apiMismatch.type s.hostCode 255 (s.get F.SYS_HOST_API_LEVEL)
      (s.get F.BOOT_API_MAX * 65536 + s.get F.BOOT_API_MIN) 0
  else s.setB F.SYS_HOST_API_MISMATCH false

/-- The largest image a sink takes (R90, R99, R679, R680); 0 for no sink of R582. -/
def sinkLimit : Nat → Nat
  | 1 => 524288
  | 2 => 131072
  | 3 => 1048576
  | 4 => 114688
  | _ => 0

/-- A write of 1 to HOST_LOAD_CTRL.START (R582); the standby slot is EMPTY until its commit (chapter 15, Upgrade). -/
def State.loadStart (s : State) : State × Code :=
  let sink := s.get F.HOST_LOAD_CTRL_SINK
  let len := s.get F.HOST_LOAD_CTRL_LENGTH
  if s.get F.HOST_LOAD_STATUS_STATE = 1 ∨ s.get F.HOST_LOAD_STATUS_STATE = 2 then (s, .busy)
  else if sinkLimit sink < len ∨ sinkLimit sink = 0 then (s, .refused)
  else
    let slot := if sink = 1 then 1 - s.boot.active.2 else if sink = 3 then 1 - s.boot.active.1 else 0
    let s := { s with host := { s.host with
      loadPos := 0, loadLen := len, loadSink := sink, loadSlot := slot, loadBuf := [] } }
    let s := { s with boot := { s.boot with done := s.boot.done.filter (fun d => d.1 ≠ sink) } }
    let s := if sink = 1 then s.setSlot (2 + slot) 0 else if sink = 3 then s.setSlot slot 0 else s
    let s := if sink = 2 ∧ s.get F.FAB_SWAP_STATUS_STATE ≤ 1 then
        ({ s with swap := SwapState.reset } : State).set F.FAB_SWAP_STATUS_STATE 0
      else if sink = 2 then { s with swap := { s.swap with buf := [], len := 0, fresh := false } } else s
    (((s.set F.HOST_LOAD_STATUS_STATE 1).set F.HOST_LOAD_STATUS_CODE 0).set F.HOST_LOAD_STATUS_PAGES 0, .ok)

/-- A write of 1 to FAB_SWAP_CTRL.GO (R100, R111): verification of the staged image begins, and the groups that its claims name
power up (R153, R154). DEDUCED (log entry 25): the image and AT_STRIDE are those that GO finds, so a later load or write of the register moves nothing of this swap. -/
def State.swapGo (s : State) : State :=
  if 2 ≤ s.get F.FAB_SWAP_STATUS_STATE then
    (s.set F.FAB_SWAP_STATUS_RESULT 13).ev .imageRefused 255 13 (u32 s.swap.buf 0x10) 2
  else
    let s := { s with swap := { s.swap with
      cur := s.swap.buf, fresh := false, img := none, at_ := none, k := 0, passed := false
      atStride := if s.getB F.FAB_SWAP_CTRL_AT_STRIDE_EN then some (s.get F.FAB_SWAP_CTRL_AT_STRIDE) else none } }
    let s := (s.set F.FAB_SWAP_STATUS_STATE 2).set F.FAB_SWAP_STATUS_RESULT 0
    if formatOk s.swap.cur then s.requestGroups (imgClaims s.swap.cur).stalls else s

/-- A write of 1 to BOOT_CONFIRM.CONFIRM: every running TRIAL slot becomes VALID (R711). -/
def State.confirmTrials (s : State) : State :=
  let f := s.get F.BOOT_STATUS_FW_SLOT
  let t := s.get F.BOOT_STATUS_TACK_SLOT
  let s := if s.boot.fwImg.isSome ∧ s.boot.states.getD f 0 = 3 then
      ({ s with boot := { s.boot with trialResets := 0, fresh := s.boot.fresh.filter (· ≠ f) } } : State).setSlot f 1 else s
  if s.get F.BOOT_STATUS_PHASE = 3 ∧ s.get F.BOOT_STATUS_SRC ≠ 1 ∧ s.boot.states.getD (2 + t) 0 = 3 then
    ({ s with boot := { s.boot with fresh := s.boot.fresh.filter (· ≠ 2 + t) } } : State).setSlot (2 + t) 1
  else s

/-! ### Copy channels (R601–R608) -/

/-- The region of the copy space that holds `a`, with its bounds (R601). -/
def copyRegion (a : Nat) : Option (Nat × Nat) :=
  if a < 0x1000000 then (if a / 0x10000 = 9 then none else some (0, 0x1000000))
  else if 0x2000000 ≤ a ∧ a < 0x2010000 then some (0x2000000, 0x2010000)
  else if 0x10000000 ≤ a ∧ a < 0x10000000 + 128 * 0x10000 then some (0x10000000, 0x10000000 + 128 * 0x10000)
  else none

/-- The last address + 1 of a rectangle's extent (R603). -/
def extentEnd (a stride width height : Nat) : Nat := a + stride * (height - 1) + width

/-- The rectangle lies in the copy space's region that holds its first byte (R602). -/
def rectInside (a stride width height : Nat) : Bool :=
  match copyRegion a with
  | none => true
  | some (_, hi) => decide (extentEnd a stride width height ≤ hi)

/-- The checks of a descriptor before any byte moves: its code, and whether rows descend (R601–R605). -/
def copyCheck (src dst ss ds width height : Nat) : Code × Bool :=
  let se := extentEnd src ss width height
  let de := extentEnd dst ds width height
  if src % 4 ≠ 0 ∨ dst % 4 ≠ 0 ∨ width % 4 ≠ 0 ∨ ss % 4 ≠ 0 ∨ ds % 4 ≠ 0 ∨ width < 4 ∨ height < 1 ∨
      (1 < height ∧ (ss < width ∨ ds < width)) ∨ !rectInside src ss width height ∨ !rectInside dst ds width height ∨
      (0x10000000 ≤ dst ∧ (dst / 0x10000 ≠ (de - 1) / 0x10000 ∨ 4096 < width * height)) then (.badDesc, false)
  else if (copyRegion src).isNone ∨ (copyRegion dst).isNone then (.badAddr, false)
  else if src < de ∧ dst < se then
    (if (ss = ds ∨ height = 1) ∧ width ≤ 4096 then (.ok, decide (src < dst)) else (.overlapUnsafe, false))
  else (.ok, false)

/-- A channel ends with `c` (R609). -/
def State.copyEnd (s : State) (n : Nat) (c : Code) : State :=
  let s := { s with copy := { s.copy with run := s.copy.run.set n none } }
  let s := s.set (F.COPY_CH_STATUS_CODE n) c.num
  if c = .ok then (s.set (F.COPY_CH_STATUS_STATE n) 2).setBit F.COPY_IRQ_DONE n true
  else (s.set (F.COPY_CH_STATUS_STATE n) 3).setBit F.COPY_IRQ_ERR n true

/-- GO on channel `n` by `m` (R602, R604, R608). -/
def State.copyGo (s : State) (n : Nat) (m : Master) : State × Code :=
  if (s.copy.run.getD n none).isSome then (s, .busy)
  else
    let src := s.get (F.COPY_CH_SRC_ADDR n)
    let dst := s.get (F.COPY_CH_DST_ADDR n)
    let ss := s.get (F.COPY_CH_STRIDE_SRC_STRIDE n)
    let ds := s.get (F.COPY_CH_STRIDE_DST_STRIDE n)
    let w := s.get (F.COPY_CH_SIZE_WIDTH n)
    let h := s.get (F.COPY_CH_SIZE_HEIGHT n)
    let r := copyCheck src dst ss ds w h
    let s := ((s.set (F.COPY_CH_STATUS_MASTER n) m.code).set (F.COPY_CH_STATUS_ROWS n) 0).setB (F.COPY_CH_STATUS_ORDER n) r.2
    if r.1 ≠ .ok then (s.copyEnd n r.1, .ok)
    else
      let rows := List.range h
      let c : CopyRun := ⟨src, dst, ss, ds, w, m, if r.2 then rows.reverse else rows, false, 0⟩
      let s := { s with copy := { s.copy with run := s.copy.run.set n (some c) } }
      ((s.set (F.COPY_CH_STATUS_STATE n) 1).set (F.COPY_CH_STATUS_CODE n) 0, .ok)

/-- ABORT of channel `n` (R608). -/
def State.copyAbort (s : State) (n : Nat) : State :=
  { s with copy := { s.copy with run := s.copy.run.set n ((s.copy.run.getD n none).map (fun r => { r with abort := true })) } }

/-! ### The settings journal's fields (R683) -/

/-- A field of R683's table, but for TG_XP_WRITE. -/
def journalled (f : FieldRow) : Bool :=
  let a := f.fld.addr
  f.acc == .rw &&
  (a ∈ [0x11018C, 0x11019C, 0x1101E0, 0x1101E8, 0xB0000, 0xB0010, 0xB0014, 0xB0020, 0xF0104, 0xF0108, 0xF010C, 0xF0114,
      0xF0118] ||
   (decide (0xC0000 ≤ a ∧ a < 0xC0400) && (a % 0x100 == 4 || (a % 0x100 == 0 && f.fld.lo != 16))) ||
   (decide (0xE0000 ≤ a ∧ a < 0xE0100) && a % 0x40 == 0) || decide (0xE0100 ≤ a ∧ a < 0xE0150) ||
   decide (0xE0200 ≤ a ∧ a < 0xE0210) || decide (0x120100 ≤ a ∧ a < 0x120200) || decide (0x80140 ≤ a ∧ a < 0x80160) ||
   decide (0x80180 ≤ a ∧ a < 0x80190))

/-- Note what a master other than the steward has changed (R684). -/
def State.noteChanges (s old : State) (m : Master) (r : RegRow) : State :=
  if m = .steward then s
  else r.fields.foldl (fun s f =>
    if journalled f && s.get f.fld != old.get f.fld then
      s.journalChanged m.code f.fld.addr ((2 ^ f.fld.width - 1) * 2 ^ f.fld.lo) (s.get f.fld * 2 ^ f.fld.lo)
    else s) s

/-! ### The registers' own rules, block by block -/

/-- The load sink that BOOT_COMMIT.TARGET names (R582, R710). -/
def commitSink (w : Nat) : Nat := [0, 1, 3, 4].getD (bitsOf w 4 2) 0

/-- BOOT_COMMIT written: the commit of the last load that reached DONE for the target, or of none (R549, R710). -/
def State.commitGo (s : State) (m : Master) (w : Nat) : State × Code :=
  if bitsOf w 16 16 ≠ 0x434D ∨ !bitOf w 0 ∨ bitsOf w 4 2 = 0 then (s, .ok)
  else if !s.boot.done.any (fun d => d.1 = commitSink w) then (s, .pageNone)
  else if bitsOf w 4 2 = 1 ∧ (s.boot.want.isSome ∨ s.fab.loaded ∨ s.fab.rampDown.isSome) then (s, .busy)
  else ({ s with boot := { s.boot with commitDue := some (m.code, w) } }, .ok)

/-- SYS, BOOT, PWR, THERM, CLK and REINS. -/
def State.hookSys (s old : State) (m : Master) (a w : Nat) : State × Code :=
  if a = 0x10 then s.resetWritten m w
  else if a = 0x1C then (s.apiDeclared, .ok)
  else if a = 0x28 then
    (({ s with host := { s.host with wdogRunning := true } } : State).setB F.SYS_PERSONA_HOST_LOST false, .ok)
  else if a = 0x10020 then
    s.commitGo m w
  else if a = 0x10024 then (if bitOf w 0 then s.confirmTrials else s, .ok)
  else if a = F.PWR_CORE_AVS_EN.addr then (s.avsWritten, .ok)
  else if a = 0x30010 then ((s.threshWritten 0), .ok)
  else if a = 0x30014 then ((s.threshWritten 1), .ok)
  else if a / 0x10000 = 2 ∨ a / 0x10000 = 3 then (s.syncPower, .ok)
  else if a = 0x40014 then
    (if bitOf w 0 then
      ((s.inc F.CLK_CAP_HI_SEQ).set F.CLK_CAP_HI_COUNT_HI (s.count / 2 ^ 32)).set F.CLK_CAP_LO_COUNT (s.count % 2 ^ 32)
     else s, .ok)
  else if a = 0x40100 then
    (({ s with clk := { s.clk with rtcSet := some w } } : State).set F.CLK_RTC_SEC_SEC (old.get F.CLK_RTC_SEC_SEC), .ok)
  else if a = 0x50000 then s.takeReins m w
  else if a = 0x50004 then (s.giveReins m w, .ok)
  else (s, .ok)

/-- HOST, COPY, GPIO and SEC. -/
def State.hookHost (s : State) (m : Master) (a w : Nat) : State × Code :=
  if a = 0x60040 then (if bitOf w 4 then s.loadStart else (s, .ok))
  else if a / 0x10000 = 7 ∧ a % 0x40 = 0x10 ∧ a < 0x70100 then
    let n := (a - 0x70000) / 0x40
    let s := if bitOf w 1 then s.copyAbort n else s
    (if bitOf w 0 then s.copyGo n m else (s, .ok))
  else if a = 0x80108 then (s.set F.GPIO_OUT_OUT (Nat.lor (s.get F.GPIO_OUT_OUT) w), .ok)
  else if a = 0x8010C then (s.set F.GPIO_OUT_OUT (s.get F.GPIO_OUT_OUT - Nat.land (s.get F.GPIO_OUT_OUT) w), .ok)
  else if a = 0x90100 then (if bitOf w 31 then s.mboxGo else s, .ok)
  else (s, .ok)

/-- LINE, CONV and HYB. -/
def State.hookLine (s old : State) (a w : Nat) : State :=
  if a / 0x10000 = 0xA then
    let s := if a = 0xA000C ∨ a = 0xA010C then (if bitOf w 31 then s.lineLatchCleared ((a - 0xA000C) / 0x100) else s)
      else if a = 0xA0400 ∨ a = 0xA0500 then s.pseEnWritten ((a - 0xA0400) / 0x100)
      else if a = 0xA0410 ∨ a = 0xA0510 then (if bitOf w 31 then s.pseLatchCleared ((a - 0xA0410) / 0x100) else s)
      else s
    s.syncPower
  else if a = F.CONV_SPK_EN.addr then
    (s.spkWritten).syncPower
  else if a / 0x10000 = 0xC then
    let c := (a - 0xC0000) / 0x100
    if a % 0x100 = 0 then (if s.get (F.HYB_CH_CFG_TERM c) ≠ old.get (F.HYB_CH_CFG_TERM c) then s.termChanged c else s)
    else if a % 0x100 = 4 then
      (if s.get (F.HYB_CH_TRIM_R_TRIM c) ≠ old.get (F.HYB_CH_TRIM_R_TRIM c) ∨
          s.get (F.HYB_CH_TRIM_C_TRIM c) ≠ old.get (F.HYB_CH_TRIM_C_TRIM c) then s.trimChanged c else s)
    else if a % 0x100 = 0x10 then (if bitOf w 0 then s.balRequest c else s)
    else s
  else s

/-- ECHO, MIC and FAB. -/
def State.hookAudio (s : State) (a w : Nat) : State :=
  if a / 0x10000 = 0xD ∧ a % 0x100 = 0 then
    let i := (a - 0xD0000) / 0x100
    let s := s.freezeWritten i (s.get (F.ECHO_CTRL_FREEZE i))
    if bitOf w 1 then s.clearEcho i else s
  else if a = 0xF0000 ∨ a = 0xF0040 then s.showMuted
  else if a = 0xF0100 then (let s := s.wakeSync; if bitOf w 1 then s.forceWake else s)
  else if a = 0x108020 then (if bitOf w 0 then s.swapGo else s)
  else s

/-- TG (R313, R314, R321, R332, R333, R335). -/
def State.hookTg (s old : State) (m : Master) (a w : Nat) : State :=
  if a = F.TG_KEY_TOGGLE_TOGGLE.addr then { s with tg := { s.tg with toggles := Nat.lor s.tg.toggles w } }
  else if a = F.TG_KEY_CLOSE_CLOSE.addr then { s with tg := { s.tg with closes := Nat.lor s.tg.closes w } }
  else if a = F.TG_XP_WRITE_GAIN.addr then
    let i := bitsOf w 16 8
    let o := bitsOf w 8 8
    let s' := s.xpWrite i o (bitsOf w 0 8)
    let had := (s.xp i o).map (fun (x : Xp) => x.stored)
    if m ≠ .steward ∧ (s'.xp i o).map (fun (x : Xp) => x.stored) ≠ had then
      s'.journalChanged m.code a 0x00FFFFFF (w % 2 ^ 24) else s'
  else if a = F.TG_SIDETONE_IN.addr then
    (if s.sidetoneBad (s.get F.TG_SIDETONE_IN) then
      old.setB F.TG_STATUS_XP_ERR true else s)
  else if a = F.TG_FOGHORN_ACK.addr then
    (if bitOf w 24 && s.foghorn then (s.foghornAcked).ackFoghorns else s)
  else s

/-- The local PTP time latched into PTP_TIME (PTP_CAPTURE.GO). -/
def State.capturePtp (s : State) (sec ns : Nat) : State :=
  let s := (s.inc F.PTP_TIME_SEC_HI_SEQ).set F.PTP_TIME_SEC_HI_SEC_HI (sec / 2 ^ 32)
  (s.set F.PTP_TIME_SEC_LO_SEC sec).set F.PTP_TIME_NS_NS ns

/-- RING, MAC, STAT, IOP, PTP and TDM. A capture of the PTP time, which the node's registers do not hold, latches a free time; the
PTP_CAPTURE command brings the time itself (log entry 5). -/
def State.hookNet (s old : State) (a w : Nat) : State :=
  if a = F.RING_CTRL_ENABLE.addr then s.ringCtrlWritten (old.getB F.RING_CTRL_ENABLE)
  else if a = F.RING_ID_NODE_ID.addr then
    (if s.get F.RING_ID_NODE_ID ≠ old.get F.RING_ID_NODE_ID then s.ringIdWritten else s)
  else if a = 0x130000 ∨ a = 0x134000 then s.afterSec ((a - 0x130000) / 0x4000)
  else if 0x170000 ≤ a ∧ a < 0x170400 ∧ a % 0x100 = 0 then s.tdmWritten ((a - 0x170000) / 0x100)
  else if a = 0x140800 then s.takeSnapshot (w % 8)
  else if a = F.PTP_MEDIA_SOURCE.addr then (if s.getB F.PTP_MEDIA_SOURCE then s else s.setB F.PTP_MEDIA_ALIGNED false)
  else if a = F.PTP_CAPTURE_GO.addr then
    (if bitOf w 0 then
      let x := s.freeNat
      let y := x.2.freeNat
      let z := y.2.freeNat
      ({ z.2 with clk := { s.clk with ptpDue := true } } : State).capturePtp (x.1 * 2 ^ 32 + y.1) (z.1 % 1000000000)
     else s)
  else if 0x150000 ≤ a ∧ a < 0x151000 then
    let tx := decide (0x150800 ≤ a)
    let k := (a % 0x800) / 0x40
    let en := if tx then F.IOP_TX_CFG_EN k else F.IOP_RX_CFG_EN k
    let was := old.getB en
    if a % 0x40 = 0 then (s.setB en was).writeStreamEn tx k was (bitOf w 31) else s
  else s

/-- A write to a register of an enabled stream that names another value for a locked field sets CFG_ERR (R523). -/
def State.streamErr (s : State) (a w : Nat) (r : RegRow) : Bool :=
  decide (0x150000 ≤ a ∧ a < 0x151000) &&
  r.fields.any (fun f => f.acc == .rw && s.streamLocked a f.fld && bitsOf w f.fld.lo f.fld.width != s.get f.fld)

/-- A write of `m` to TG_SIDETONE, `mask` being the bits now decided, that names an IN which no headset output shares, its reins
free or its own: it sets XP_ERR even where it repeats what the register holds (R335). -/
def State.sidetoneErr (s : State) (m : Master) (a w mask : Nat) (r : RegRow) : Bool :=
  a == F.TG_SIDETONE_IN.addr && bitOf mask F.TG_SIDETONE_IN.lo && s.sidetoneBad (bitsOf w F.TG_SIDETONE_IN.lo F.TG_SIDETONE_IN.width) &&
  (match r.rein with
   | none => true
   | some g => s.get (F.REINS_HOLDER_HOLDER g) == 15 || s.get (F.REINS_HOLDER_HOLDER g) == m.code)

/-- The rule of the register at `a`, `w` being the word as decided and `old` the state before. -/
def State.hook (s old : State) (m : Master) (a w : Nat) : State × Code :=
  if (resultCells 0 ++ resultCells 1 ++ resultCells 2 ++ resultCells 3).contains (a - 0x10) ∧ 0xC0000 ≤ a then
    (s.ackCell (a - 0x10) (w % 256), .ok)
  else if a / 0x10000 ≤ 5 then s.hookSys old m a w
  else if a / 0x10000 ≤ 9 then s.hookHost m a w
  else if a / 0x10000 ≤ 0xC then (s.hookLine old a w, .ok)
  else if a / 0x10000 = 0x11 then (s.hookTg old m a w, .ok)
  else if a / 0x10000 ≤ 0x10 then (s.hookAudio a w, .ok)
  else (s.hookNet old a w, .ok)

/-! ### Applying a decided write -/

/-- The fields of row `r` take the bits of `mask` of word `w` (R17, R825). -/
def State.setFields (s : State) (r : RegRow) (w mask : Nat) : State :=
  r.fields.foldl (fun s f =>
    let fm := bitsOf mask f.fld.lo f.fld.width
    let v := bitsOf w f.fld.lo f.fld.width
    let cur := s.get f.fld
    if fm = 0 then s
    else match f.acc with
      | .ro | .wo | .w1s => s
      | .w1c => if f.fld.addr = 0x8010C then s else s.set f.fld (cur - Nat.land cur (Nat.land v fm))
      | .rw | .rwl | .rws => s.set f.fld (cur - Nat.land cur fm + Nat.land v fm)) s

/-- One bank's flags cleared by a write of SYS_ACCESS_ERR (R17, R829). -/
def State.clearBank (s : State) (m : Master) (w : Nat) : State :=
  { s with banks := s.banks.set m.code (
      let b := s.banks.getD m.code ⟨0, false, false, false, false, 0, 0⟩
      { b with timeout := b.timeout && !bitOf w 11, badAddr := b.badAddr && !bitOf w 10
               notPresent := b.notPresent && !bitOf w 9, off := b.off && !bitOf w 8 }) }

/-- Apply what survives of a write: `mask` is the bits that it writes. -/
def State.applyWrite (s : State) (m : Master) (a w mask : Nat) (r : RegRow) : State × Code :=
  let t := s.setFields r w mask
  let t := if s.streamErr a w r then t.setB F.IOP_IRQ_CFG_ERR true else t
  let eff := Nat.land w mask
  let h := t.hook s m a (if a = 0x1C ∨ a % 0x40 = 0 ∧ 0x150000 ≤ a ∧ a < 0x151000 then w else eff)
  (h.1.noteChanges s m r, h.2)

/-! ### Deciding the writes of one period -/

/-- A host write that the host may not make now: the API check and halter mode (R642, R705, R709). -/
def State.hostBar (s : State) (m : Master) (a : Nat) : Option Code :=
  let open_ := a == 0x10 || a == 0x1C
  let mailbox := decide (0x90100 ≤ a ∧ a < 0x90400)
  if !isHost m || open_ then none
  else if s.halter then (if mailbox then none else some .refused)
  else if s.apiBad then some .apiMismatch
  else none

/-- A write whose register is reached: what stands in its way as a whole. -/
def State.bar (s : State) (p : PWrite) (r : RegRow) : Option Code :=
  match s.hostBar p.master p.addr with
  | some c => some c
  | none =>
    if r.hostOnly && !isHost p.master then some .ok
    else if 0x70000 ≤ p.addr ∧ p.addr < 0x70100 ∧ (s.copy.run.getD ((p.addr - 0x70000) / 0x40) none).isSome ∧
        s.get (F.COPY_CH_STATUS_MASTER ((p.addr - 0x70000) / 0x40)) ≠ p.master.code then some .busy
    else none

/-- The refusals of one write's fields: WRITE_REFUSED and PERSONA_REFUSED records, one for each kind (R19, R32). -/
def State.logRefusals (s : State) (p : PWrite) (r : RegRow) (as : List Admit) : State :=
  let dom := s.powerDomain r.dom
  let s := if as.contains .refuse then s.addLog Ev.writeRefused.type p.master.code dom p.addr p.val 0 else s
  if as.contains .persona then s.addLog Ev.personaRefused.type p.master.code dom p.addr 0 0 else s

/-- The fields of a row that the mask covers. -/
def coveredFields (r : RegRow) (mask : Nat) : List FieldRow := r.fields.filter (fun f => bitsOf mask f.fld.lo f.fld.width != 0)

/-- One write of the period as prepared: its row, the outcomes of its fields, its units. -/
structure Prepared where
  p : PWrite
  row : Option RegRow
  code : Code
  admits : List Admit
  units : List UWrite
deriving DecidableEq, Repr

/-- A write is by the copy engine. -/
def viaCopy : WSrc → Bool
  | .copy _ => true
  | _ => false

/-- Prepare write `i` of a period. -/
def State.prepare (s : State) (i : Nat) (p : PWrite) : Prepared :=
  match s.reach p.master p.addr (viaCopy p.src) with
  | .fail c _ => ⟨p, none, c, [], []⟩
  | .window _ => ⟨p, none, .ok, [], []⟩
  | .buffer _ => ⟨p, none, .ok, [], []⟩
  | .reg r =>
    match s.bar p r with
    | some c => ⟨p, none, c, [], []⟩
    | none =>
      let fs := coveredFields r p.mask
      let ads := fs.map (fun f => s.admitField p.master p.addr p.val f (bitsOf p.val f.fld.lo f.fld.width))
      let us := (fs.zip ads).flatMap (fun x => if x.2 = .take then s.fieldUnits i p r.rein x.1 else [])
      ⟨p, some r, .ok, ads, us⟩

/-- The bits of a word that a unit stands for. -/
def UWrite.wordMask (u : UWrite) : Nat :=
  if 2 ^ 40 ≤ u.key then 0x00FFFFFF
  else if u.fieldWidth = u.width then (2 ^ u.width - 1) * 2 ^ u.fieldLo
  else (2 ^ u.width - 1) * 2 ^ (u.fieldLo + u.lo)

/-- Carry out one prepared write, `us` being every standing or losing unit of the period and `s0` its start. -/
def State.carry (s s0 : State) (us : List UWrite) (x : Prepared) : State × Code :=
  match x.row with
  | none =>
    match s0.reach x.p.master x.p.addr (viaCopy x.p.src) with
    | .fail c d => (s.accessError x.p.master x.p.addr c d, c)
    | .buffer o => ({ s with copy := { s.copy with buf := Memory.writeAll s.copy.buf o (beBytes x.p.val 4) } }, x.code)
    | _ => (s, x.code)
  | some r =>
    let s := s.logRefusals x.p r x.admits
    let mine := x.units.filter (fun u => us.contains u)
    let lost := mine.filterMap (fun u => match s0.verdict us u with
      | .loses w => some (u, w)
      | _ => none)
    let kept := mine.any (fun u => s0.verdict us u = .noReins)
    let mask := mine.foldl (fun n u => if s0.verdict us u = .stands then Nat.lor n u.wordMask else n) 0
    let s := (lost.foldl (fun (st : State × List Nat) (uw : UWrite × Nat) =>
      if st.2.contains uw.1.fieldLo then st else (st.1.conflict uw.1 uw.2, uw.1.fieldLo :: st.2)) (s, [])).1
    let s := if x.p.addr = 0x30 then s.clearBank x.p.master x.p.val else s
    let d := if mask ≠ 0 ∨ x.p.addr = 0x1C ∨ s0.streamErr x.p.addr x.p.val r ∨ s0.sidetoneErr x.p.master x.p.addr x.p.val x.p.mask r then
        s.applyWrite x.p.master x.p.addr x.p.val mask r else (s, .ok)
    (d.1, if !lost.isEmpty then .conflict
      else if x.admits.contains .refuse || x.admits.contains .persona then .refused
      else if kept then .noReins else d.2)

/-- Decide the writes of one period at one place in time, in order of arrival; the codes answer them in that order. -/
def State.decideWrites (s : State) (ps : List PWrite) : State × List Code :=
  let xs := ((List.range ps.length).zip ps).map (fun ip => s.prepare ip.1 ip.2)
  let us := lastStands (xs.flatMap (·.units))
  let r := xs.foldl (fun (a : State × List Code) x =>
    let d := a.1.carry s us x
    (d.1, d.2 :: a.2)) (s, [])
  (r.1, r.2.reverse)

/-- The bits of a row's word that wait for the stride boundary (R591). -/
def strideMask (r : RegRow) : Nat :=
  r.fields.foldl (fun n f => if f.stride then Nat.lor n ((2 ^ f.fld.width - 1) * 2 ^ f.fld.lo) else n) 0

/-- A part of a write waits for the stride boundary: its register is reached, nothing bars it, and it has such fields
(R591). -/
def State.waits (s : State) (p : PWrite) : Bool :=
  match s.reach p.master p.addr (viaCopy p.src) with
  | .reg r => (s.bar p r).isNone && r.fields.any (·.stride)
  | _ => false

/-- The bits of a write to `a` that belong to its register cycle. -/
def cycleMask (a : Nat) : Nat :=
  match regRow a with
  | none => 2 ^ 32 - 1
  | some r => (2 ^ 32 - 1) - strideMask r

/-- Accept a word written by `m` to `a`, with the writes `rivals` of other masters in the same register cycle: what belongs to
the cycle is decided now, what belongs to the stride waits for its boundary. The state, the code of what is decided, and
whether a part waits (R559, R591). -/
def State.accept (s : State) (m : Master) (a w : Nat) (rivals : List (Master × Nat × Nat)) (src : WSrc) : State × Code × Bool :=
  if !s.exists_ m then (s, .ok, false)
  else
    let ps : List PWrite := ⟨m, a, w, cycleMask a, src⟩ ::
      ((rivals.filter (fun q => s.exists_ q.1 && q.1 != m)).map (fun q =>
        ⟨q.1, q.2.1, q.2.2 % 2 ^ 32, cycleMask q.2.1, .direct⟩))
    let s' := { s with queued := s.queued ++ (ps.filter s.waits).map (fun (p : PWrite) => (⟨p.master, p.addr, BitVec.ofNat 32 p.val, p.src⟩ : QWrite)) }
    let d := s'.decideWrites ps
    (d.1, d.2.getD 0 .ok, match ps with
      | p :: _ => s.waits p
      | [] => false)

/-- A direct write by `m`, its effect alone. -/
def State.write (s : State) (m : Master) (a : Nat) (w : Word) : State := (s.accept m a w.toNat [] .direct).1

end Sys2Proof.Machine
end

