-- ==== Sys2Proof/Machine/Host.lean ====
section
/-! DEFINITION. The host port: transactions and their decisions (R549–R559), the page window (R569–R581), and loads through
it (R582–R584, R115). -/

namespace Sys2Proof.Machine

/-! ### Transactions (R551–R559) -/

/-- Host state changed by `f`. -/
def State.updHost (s : State) (f : HostState → HostState) : State := { s with host := f s.host }

/-- A host transaction has ended: with no undecided write it is decided, and the latest decided one shows (R553, R559). -/
def State.endTxn (s : State) (t : Txn) : State :=
  if t.undecided = 0 then s.updHost (fun h => { h with decided := if h.decided.id ≤ t.id then t else h.decided })
  else s.updHost (fun h => { h with open_ := h.open_ ++ [t] })

/-- The decision of an undecided write of host transaction `id`, word `word` (R559). -/
def State.settleHost (s : State) (id word : Nat) (c : Code) : State :=
  match s.host.open_.find? (fun t => t.id = id) with
  | none => s
  | some t =>
    let t' : Txn := { t with bad := noteBad word c t.bad, undecided := t.undecided - 1 }
    if t'.undecided = 0 then
      (s.updHost (fun h => { h with open_ := h.open_.filter (fun u => u.id ≠ id) })).endTxn t'
    else s.updHost (fun h => { h with open_ := h.open_.map (fun u => if u.id = id then t' else u) })

/-- The number of a new transaction, and the state that has given it. -/
def State.newTxn (s : State) : Nat × State :=
  (s.host.nextTxn, s.updHost (fun h => { h with nextTxn := h.nextTxn + 1 }))

/-- The STATUS byte that a transaction returns: none for a write-type command in quad mode or over I²C (R553, R556, R557). -/
def State.statusSent (s : State) (read : Bool) : Nat :=
  if read || !(s.getB F.HOST_STATUS_QUAD || s.getB F.HOST_STATUS_I2C) then s.statusByte else 0

/-- A transaction of the host ends: the answer, and the transaction's codes. -/
def State.answerHost (s : State) (status : Nat) (t : Txn) (words : List Word) (bytes : List Byte) : State :=
  { s.endTxn t with answer := ⟨firstBad t.bad, status, words, bytes⟩ }

/-- The words of a WRITE from word `i` on, in order (R555, R559). -/
def State.writeWords (s : State) (a id i : Nat) (t : Txn) : List Word → State × Txn
  | [] => (s, t)
  | w :: ws =>
    let r := s.accept s.hostMaster (a + 4 * i) w.toNat [] (.host id i)
    r.1.writeWords a id (i + 1)
      { t with bad := noteBad i r.2.1 t.bad, undecided := t.undecided + bit1 r.2.2 } ws

/-- A WRITE transaction of the host (R552, R555, R558, R747). -/
def State.hostWrite (s : State) (fr : Framing) (a : Nat) (ws : List Word) : State :=
  if s.power.resetHeld then s
  else
    let status := s.statusSent false
    let n := s.newTxn
    let t : Txn := ⟨n.1, [], 0⟩
    if fr = .badOpcode then n.2.answerHost status { t with bad := [(0, .framing)] } [] []
    else if a % 4 ≠ 0 then
      (n.2.accessError s.hostMaster a .badAddr 63).answerHost status { t with bad := [(0, .badAddr)] } [] []
    else
      let r := n.2.hostWakes.writeWords a n.1 0 t ws
      let t := if fr = .whole then r.2 else { r.2 with bad := noteBad ws.length .framing r.2.bad }
      r.1.answerHost status t [] []

/-- `k` words of a READ from word `i` on: their codes, their values, the state. -/
def State.readWords (s : State) (a i : Nat) : Nat → List (Nat × Code) × List Word × State
  | 0 => ([], [], s)
  | k + 1 =>
    let r := s.readWord s.hostMaster (a + 4 * i) false
    let q := r.2.2.readWords a (i + 1) k
    (if r.1 = .ok then q.1 else (i, r.1) :: q.1, BitVec.ofNat 32 r.2.1 :: q.2.1, q.2.2)

/-- A READ transaction of the host (R552, R554, R555). -/
def State.hostRead (s : State) (fr : Framing) (a k : Nat) : State :=
  if s.power.resetHeld then s
  else
    let status := s.statusSent true
    let n := s.newTxn
    let t : Txn := ⟨n.1, [], 0⟩
    if fr = .badOpcode then n.2.answerHost status { t with bad := [(0, .framing)] } [] []
    else if a % 4 ≠ 0 then
      (n.2.accessError s.hostMaster a .badAddr 63).answerHost status { t with bad := [(0, .badAddr)] } [] []
    else
      let r := n.2.readWords a 0 k
      let bad := if fr = .whole then r.1 else noteBad k .framing r.1
      r.2.2.answerHost status { t with bad := bad } r.2.1 []

/-- Execute HOST_WRITE. -/
def execHostWrite (fr : Framing) (addr : Nat) (words : List Word) (s : State) : Host.Outcome State Fault Refusal :=
  s.done (s.hostWrite fr addr words)

/-- Execute HOST_READ. -/
def execHostRead (fr : Framing) (addr count : Nat) (s : State) : Host.Outcome State Fault Refusal :=
  s.done (s.hostRead fr addr count)

/-- A write of one word by `m`: of the host masters, a transaction of the one that the strap selects (R547, R551). -/
def State.rowWrite (s : State) (m : Master) (a : Nat) (w : Word) : State :=
  if isHost m then (if m = s.hostMaster then s.hostWrite .whole a [w] else s) else s.write m a w

/-- A transaction whose opcode is not one of the port's mode ends with FRAMING (R552, R557). -/
def State.framingTxn (s : State) (read : Bool) : State :=
  let n := s.newTxn
  n.2.answerHost (s.statusSent read) ⟨n.1, [(0, .framing)], 0⟩ [] []

/-- Execute ENTER_QUAD: SPI mode only (R552, R556, R557). -/
def execEnterQuad (s : State) : Host.Outcome State Fault Refusal :=
  s.done (if s.power.resetHeld then s
    else if s.getB F.HOST_STATUS_I2C || s.getB F.HOST_STATUS_QUAD then s.framingTxn false
    else
      let n := s.newTxn
      (n.2.answerHost (s.statusSent false) ⟨n.1, [], 0⟩ [] []).setB F.HOST_STATUS_QUAD true)

/-- Execute EXIT_QUAD: quad mode only (R552, R556, R557). -/
def execExitQuad (s : State) : Host.Outcome State Fault Refusal :=
  s.done (if s.power.resetHeld then s
    else if s.getB F.HOST_STATUS_I2C || !s.getB F.HOST_STATUS_QUAD then s.framingTxn false
    else
      let n := s.newTxn
      (n.2.answerHost (s.statusSent false) ⟨n.1, [], 0⟩ [] []).setB F.HOST_STATUS_QUAD false)

/-! ### Page sources (R569, R570, R581, R832) -/

/-- The bytes of one event-log record (R832). -/
def LogRec.bytes (r : LogRec) : List Byte :=
  leBytes r.type 2 ++ leBytes r.master 1 ++ leBytes r.domain 1 ++ leBytes r.serial 4 ++ leBytes r.rtcSec 4 ++
    leBytes (r.ticks % 2 ^ 15) 2 ++ leBytes 0 2 ++ leBytes r.stride 4 ++ leBytes r.arg0 4 ++ leBytes r.arg1 4 ++
    leBytes r.arg2 4

/-- The page of the event log that holds a record (R831, R832). -/
def LogRec.page (r : LogRec) : Nat := (r.serial - 1) / 15

/-- Page `n` of the event log (R570, R579, R832). -/
def State.logPage (s : State) (n : Nat) : List Byte :=
  let rs := s.log.filter (fun r => r.page = n)
  let status := 2 * bit1 (s.logTorn.contains n) + 4 * bit1 (s.logOverrun.contains n) + 16 * bit1 (decide (rs.length < 15))
  padTo 512 ([3, BitVec.ofNat 8 status] ++ leBytes n 2 ++ leBytes rs.length 2 ++ List.replicate 10 0 ++ rs.flatMap LogRec.bytes)

/-- The bytes of one NAMES record (R84). -/
def NameRec.bytes (r : NameRec) : List Byte :=
  leBytes r.kind 1 ++ leBytes r.index 1 ++ leBytes r.text.length 1 ++ [0] ++ padTo 32 r.text

/-- The NAMES records of the running image. -/
def State.nameRecs (s : State) : List NameRec := (s.fab.image.map (·.names)).getD []

/-- Page `n` of the names (R570, R581). -/
def State.namesPage (s : State) (n : Nat) : List Byte :=
  let rs := (s.nameRecs.drop (13 * n)).take 13
  padTo 512 ([5, 0] ++ leBytes n 2 ++ leBytes rs.length 2 ++ List.replicate 10 0 ++ rs.flatMap NameRec.bytes)

/-- A diagnostic capture page (R569, R580). -/
def HistPage.captureBytes (p : HistPage) : List Byte :=
  let status := 2 * bit1 p.torn + 4 * bit1 p.overrun + 16 * bit1 (decide (p.vals.length < 124))
  [4, BitVec.ofNat 8 status] ++ leBytes p.num 2 ++ leBytes p.first 6 ++ leBytes p.vals.length 2 ++ [0, 0, 0, 0] ++
    padTo 496 (p.vals.flatMap (fun v => leBytes (unsignedOf v 32) 4))

/-- The pages that source `src` holds, by number, oldest first. -/
def State.pageNums (s : State) (src : Nat) : List Nat :=
  match src with
  | 1 => (s.mic.comp.map (·.num)).reverse
  | 2 => (s.mic.full.map (·.num)).reverse
  | 3 => (distinct (s.log.map LogRec.page))
  | 4 => (s.host.capture.map (·.num)).reverse
  | 5 => List.range ((s.nameRecs.length + 12) / 13)
  | _ => []

/-- The 512 bytes of page `n` of source `src`, copied as it stands (R206, R207, R218, R571). -/
def State.pageBytes (s : State) (src n : Nat) : List Byte :=
  match src with
  | 1 => ((s.mic.comp.find? (fun p => p.num = n)).map (s.histBytes true)).getD []
  | 2 => ((s.mic.full.find? (fun p => p.num = n)).map (s.histBytes false)).getD []
  | 3 => s.logPage n
  | 4 => ((s.host.capture.find? (fun p => p.num = n)).map HistPage.captureBytes).getD []
  | _ => s.namesPage n

/-- The page that a PAGE_READ opens (R571). -/
def State.choosePage (s : State) (src mode seq : Nat) : Option Nat :=
  let ns := s.pageNums src
  match mode with
  | 0 => ns.find? (fun n => decide (s.host.ptr.getD (src - 1) 0 ≤ n))
  | 1 => ns.find? (fun n => n % 2 ^ 16 = seq)
  | _ => ns.getLast?

/-! ### Opening, consuming and holding (R571–R576) -/

/-- HOST_PAGE_STATUS as the window's page stands. -/
def State.showPage (s : State) : State :=
  match s.host.page with
  | none => ((s.set F.HOST_PAGE_STATUS_OPEN_SEQ 0).set F.HOST_PAGE_STATUS_POSITION 0).setB F.HOST_PAGE_STATUS_HELD false
  | some p => ((s.set F.HOST_PAGE_STATUS_OPEN_SEQ p.seq).set F.HOST_PAGE_STATUS_POSITION p.pos).setB
      F.HOST_PAGE_STATUS_HELD p.held

/-- The read pointer of source `src` moves past page `n` (R572, R576). -/
def State.passPage (s : State) (src n : Nat) : State :=
  s.updHost (fun h => { h with ptr := h.ptr.set (src - 1) (n + 1) })

/-- The page `n` of source `src` is marked TORN in its ring, if it is still there (R576). -/
def State.markTorn (s : State) (src n : Nat) : State :=
  let f := fun (p : HistPage) => if p.num = n then { p with torn := true } else p
  match src with
  | 1 => { s with mic := { s.mic with comp := s.mic.comp.map f } }
  | 2 => { s with mic := { s.mic with full := s.mic.full.map f } }
  | 3 => if (s.pageNums 3).contains n && !s.logTorn.contains n then { s with logTorn := s.logTorn ++ [n] } else s
  | 4 => s.updHost (fun h => { h with capture := h.capture.map f })
  | _ => s

/-- A held page is released as R576 binds. -/
def State.releasePage (s : State) : State :=
  match s.host.page with
  | none => s
  | some p =>
    let s := s.markTorn p.source p.seq
    let s := (s.inc F.HOST_PAGE_STATUS_TORN_CNT).setB F.HOST_IRQ_TORN true
    let s := if p.mode = 0 then s.passPage p.source p.seq else s
    (s.updHost (fun h => { h with page := none })).showPage

/-- `k` words more of the open page are sent: at 128 it is consumed, below it is held (R572, R573). -/
def State.sendPage (s : State) (p : OpenPage) (k : Nat) : State :=
  let pos := Nat.min 128 (p.pos + k)
  if pos = 128 then
    let s := if p.mode = 0 then s.passPage p.source p.seq else s
    (s.updHost (fun h => { h with page := none })).showPage
  else (s.updHost (fun h => { h with page := some { p with pos := pos, held := true } })).showPage

/-- A page transaction that sends `k` words from where the page `p` stands. -/
def State.pageTxn (s : State) (status : Nat) (fr : Framing) (p : OpenPage) (k : Nat) : State :=
  let n := s.newTxn
  let bytes := (p.bytes.drop (4 * p.pos)).take (4 * k)
  let bad := if fr = .whole then [] else [(k, Code.framing)]
  (n.2.sendPage p k).answerHost status ⟨n.1, bad, 0⟩ [] bytes

/-- PAGE_READ of `k` words: a held page is released first, then the page chosen is copied and sent (R571, R575). -/
def State.pageRead (s : State) (fr : Framing) (k : Nat) : State :=
  let status := s.statusSent true
  let s := s.releasePage
  let src := s.get F.HOST_PAGE_SEL_SOURCE
  let mode := s.get F.HOST_PAGE_SEL_MODE
  match s.choosePage src mode (s.get F.HOST_PAGE_SEL_SEQ) with
  | none =>
    let n := s.newTxn
    n.2.answerHost status ⟨n.1, [(0, .pageNone)], 0⟩ [] []
  | some q => s.pageTxn status fr ⟨src, mode, q, s.pageBytes src q, 0, false⟩ k

/-- Execute PAGE_READ. -/
def execPageRead (fr : Framing) (count : Nat) (s : State) : Host.Outcome State Fault Refusal :=
  s.done (if s.power.resetHeld then s else if fr = .badOpcode then s.framingTxn true else s.pageRead fr count)

/-- Execute READ_CONTINUE: with no held page it acts as PAGE_READ (R574). -/
def execReadContinue (fr : Framing) (count : Nat) (s : State) : Host.Outcome State Fault Refusal :=
  s.done (if s.power.resetHeld then s else if fr = .badOpcode then s.framingTxn true
    else match s.host.page with
      | none => s.pageRead fr count
      | some p => s.pageTxn (s.statusSent true) fr p count)

/-- Execute PAGE_HOLD_EXPIRY: HOLD_MS after the transaction that left the page held (R573, R576). -/
def execPageHoldExpiry (ms : Nat) (s : State) : Host.Outcome State Fault Refusal :=
  s.done (if s.getB F.HOST_PAGE_STATUS_HELD && decide (s.get F.HOST_PAGE_SEL_HOLD_MS ≤ ms) then s.releasePage else s)

/-! ### Diagnostic capture (R580) -/

/-- The samples that one channel of a harness source put on its links in the stride that ends. -/
def State.captured (s : State) (src port ch : Nat) : Option (List Sample) :=
  (s.fab.links.find? (fun l => l.cfg.src = src ∧ l.cfg.srcPort ≤ port ∧ !l.retiring ∧
      (if src < 128 then l.cfg.srcPort = port else port < l.cfg.srcPort + l.cfg.channels))).map (fun l =>
    channel (l.slots.headD []) (if src < 128 then ch else port - l.cfg.srcPort))

/-- One sample more of the capture ring, index `idx` (R578, R580). -/
def State.captureSample (s : State) (idx : Nat) (x : Int) : State :=
  let start := histStarts 124 s.host.capture
  let ovr := start && replacesUnread (s.host.ptr.getD 3 0) s.host.captureSeq 64
  let s := if ovr then s.countOverrun 4 else s
  s.updHost (fun h => { h with
    capture := histPush 124 64 h.captureSeq idx false 0 0 ovr x h.capture
    captureSeq := if start then h.captureSeq + 1 else h.captureSeq })

/-- Diagnostic capture over the stride that ends at this boundary (R180, R580). -/
def State.stepCapture (s : State) : State :=
  if !s.getB F.HOST_CAP_CTRL_EN || s.approved then s
  else
    match s.captured (s.get F.HOST_CAP_CTRL_SRC) (s.get F.HOST_CAP_CTRL_PORT) (s.get F.HOST_CAP_CTRL_CHANNEL) with
    | none => s
    | some l => ((List.range 6).zip l).foldl (fun s v => s.captureSample (((s.count + 2 ^ 48 - 1) % 2 ^ 48) * 6 + v.1) v.2) s

/-! ### Loads (R582–R584, R115) -/

/-- The running load's state: LOADING or HELD. -/
def State.loadRuns (s : State) : Bool := s.get F.HOST_LOAD_STATUS_STATE == 1 || s.get F.HOST_LOAD_STATUS_STATE == 2

/-- The running load ends with ABORTED (R583); the standby slot stays EMPTY, and the swap buffer is emptied (R115). -/
def State.loadAbort (s : State) : State :=
  let sink := s.host.loadSink
  let s := (s.set F.HOST_LOAD_STATUS_STATE 0).set F.HOST_LOAD_STATUS_CODE Code.aborted.num
  let s := s.setB F.HOST_IRQ_LOAD_ABORT true
  let s := s.updHost (fun h => { h with loadBuf := [], loadPos := 0 })
  if sink = 2 then
    let s := { s with swap := { s.swap with buf := [], len := 0, fresh := false } }
    if s.get F.FAB_SWAP_STATUS_STATE ≤ 1 then s.set F.FAB_SWAP_STATUS_STATE 0 else s
  else s

/-- LENGTH bytes have arrived: the load is DONE, and its bytes stand in their slot or in the swap buffer (R582, R583,
R680). -/
def State.loadDone (s : State) : State :=
  let b := s.host.loadBuf
  let slot := if s.host.loadSink = 4 then u8 b 12 else s.host.loadSlot
  let s := (s.set F.HOST_LOAD_STATUS_STATE 3).set F.HOST_LOAD_STATUS_CODE 0
  let s := s.updHost (fun h => { h with loadBuf := [], loadPos := 0 })
  let note := fun (s : State) => { s with boot := { s.boot with done := s.boot.done ++ [(s.host.loadSink, slot)] } }
  match s.host.loadSink with
  | 1 => note { s with boot := { s.boot with tack := s.boot.tack.set slot b } }
  | 2 =>
    let s := { s with swap := { s.swap with buf := b, len := s.host.loadLen, fresh := true } }
    if s.get F.FAB_SWAP_STATUS_STATE ≤ 1 then s.set F.FAB_SWAP_STATUS_STATE 1 else s
  | 3 => note { s with boot := { s.boot with fw := s.boot.fw.set slot b } }
  | _ => note (({ s with boot := { s.boot with
      wake := s.boot.wake.set slot b, models := s.boot.models.set slot 0 } } : State).showBoot)

/-- Bytes of a load arrive: a page is 512 bytes, and bytes past it or past LENGTH are ignored (R583). -/
def State.loadBytes (s : State) (data : List Byte) : State :=
  let pos := s.host.loadPos
  let len := s.host.loadLen
  let part := (data.take (512 - pos % 512)).take (len - pos)
  let now := pos + part.length
  let s := s.updHost (fun h => { h with loadBuf := Memory.writeAll h.loadBuf pos part, loadPos := now })
  if len ≤ now then (s.set F.HOST_LOAD_STATUS_PAGES ((len + 511) / 512)).loadDone
  else (s.set F.HOST_LOAD_STATUS_PAGES (now / 512)).set F.HOST_LOAD_STATUS_STATE 2

/-- A PAGE_WRITE, or with `cont` a WRITE_CONTINUE (R583, R584). -/
def State.pageWrite (s : State) (cont : Bool) (fr : Framing) (bytes : List Byte) : State :=
  let status := s.statusSent false
  let n := s.newTxn
  let s := n.2
  if !s.loadRuns then s.answerHost status ⟨n.1, [(0, .pageNone)], 0⟩ [] []
  else if !cont && s.host.loadPos % 512 != 0 then s.loadAbort.answerHost status ⟨n.1, [(0, .aborted)], 0⟩ [] []
  else
    let words := bytes.length / 4
    let cut := fr ≠ .whole ∨ bytes.length % 4 ≠ 0
    let s := s.loadBytes (bytes.take (4 * words))
    s.answerHost status ⟨n.1, if cut then [(words, .framing)] else [], 0⟩ [] []

/-- Execute PAGE_WRITE. -/
def execPageWrite (fr : Framing) (bytes : List Byte) (s : State) : Host.Outcome State Fault Refusal :=
  s.done (if s.power.resetHeld then s else if fr = .badOpcode then s.framingTxn false else s.pageWrite false fr bytes)

/-- Execute WRITE_CONTINUE. -/
def execWriteContinue (fr : Framing) (bytes : List Byte) (s : State) : Host.Outcome State Fault Refusal :=
  s.done (if s.power.resetHeld then s else if fr = .badOpcode then s.framingTxn false else s.pageWrite true fr bytes)

/-- Execute LOAD_HOLD_EXPIRY: the load is aborted, and one of a tack image is recorded (R583, R115). -/
def execLoadHoldExpiry (ms : Nat) (s : State) : Host.Outcome State Fault Refusal :=
  s.done (if s.get F.HOST_LOAD_STATUS_STATE = 2 ∧ s.get F.HOST_PAGE_SEL_HOLD_MS ≤ ms then
      let sink := s.host.loadSink
      let iid := u32 s.host.loadBuf 0x10
      let s := s.loadAbort
      if sink ≤ 2 then s.addLog Ev.imageRefused.type s.hostMaster.code 255 15 iid sink else s
    else s)

end Sys2Proof.Machine
end

