-- ==== Sys2Proof/Machine/WriteRows.lean ====
section
/-! DEFINITION. The commands that are a write of one register by one master: each is that write, under the access rules of
R828, access codes, reins, arbitration and the host's barriers; what the write does is the rule of its register
(`State.hook`). -/

namespace Sys2Proof.Machine

/-- Execute REGISTER_WRITE (R826): the writes of one register cycle; where one is the host's, it is a transaction of one word
(R551, R559). -/
def execRegisterWrite (m : Master) (addr : Nat) (w : Word) (rivals : List (Master × Nat × Word)) (s : State) :
    Host.Outcome State Fault Refusal :=
  s.done (
    let all := (m, addr, w.toNat) :: rivals.map (fun q => (q.1, q.2.1, q.2.2.toNat))
    match all.find? (fun q => q.1 = s.hostMaster) with
    | some q =>
      if s.power.resetHeld then s
      else
        let others := all.filter (fun r => !isHost r.1)
        let status := s.statusSent false
        let n := s.newTxn
        let r := n.2.hostWakes.accept q.1 q.2.1 q.2.2 others (.host n.1 0)
        r.1.answerHost status ⟨n.1, noteBad 0 r.2.1 [], bit1 r.2.2⟩ [] []
    | none =>
      match all.find? (fun q => s.exists_ q.1) with
      | some q => (s.accept q.1 q.2.1 q.2.2 (all.filter (fun r => r.1 ≠ q.1)) .direct).1
      | none => s)

/-- Execute SOFT_RESET (R670). -/
def execSoftReset (m : Master) (w : Word) (s : State) : Host.Outcome State Fault Refusal := s.done (s.rowWrite m 0x10 w)

/-- Execute RECOVER (R713). -/
def execRecover (m : Master) (w : Word) (s : State) : Host.Outcome State Fault Refusal := s.done (s.rowWrite m 0x10 w)

/-- Execute HOST_API_DECLARE (R705). -/
def execHostApiDeclare (m : Master) (w : Word) (s : State) : Host.Outcome State Fault Refusal := s.done (s.rowWrite m 0x1C w)

/-- Execute HOST_ALIVE (R49, R51). -/
def execHostAlive (m : Master) (w : Word) (s : State) : Host.Outcome State Fault Refusal := s.done (s.rowWrite m 0x28 w)

/-- Execute BOOT_CONFIRM (R711). -/
def execBootConfirm (m : Master) (w : Word) (s : State) : Host.Outcome State Fault Refusal := s.done (s.rowWrite m 0x10024 w)

/-- Execute STRIDE_CAPTURE (R800). -/
def execStrideCapture (m : Master) (w : Word) (s : State) : Host.Outcome State Fault Refusal := s.done (s.rowWrite m 0x40014 w)

/-- Execute RTC_SET (R813). -/
def execRtcSet (m : Master) (w : Word) (s : State) : Host.Outcome State Fault Refusal := s.done (s.rowWrite m 0x40100 w)

/-- Execute REINS_TAKE (R586, R587). -/
def execReinsTake (m : Master) (w : Word) (s : State) : Host.Outcome State Fault Refusal := s.done (s.rowWrite m 0x50000 w)

/-- Execute REINS_GIVE (R588). -/
def execReinsGive (m : Master) (w : Word) (s : State) : Host.Outcome State Fault Refusal := s.done (s.rowWrite m 0x50004 w)

/-- Execute LOAD_START (R582). -/
def execLoadStart (m : Master) (w : Word) (s : State) : Host.Outcome State Fault Refusal := s.done (s.rowWrite m 0x60040 w)

/-- The address of result cell `i` (R568). -/
def cellAddr (i : Nat) : Nat :=
  (resultCells 0 ++ resultCells 1 ++ resultCells 2 ++ resultCells 3).getD i 0

/-- Execute RESULT_ACK (R566): the ACK register follows the four words of its cell (R562). -/
def execResultAck (m : Master) (cell : Fin 33) (w : Word) (s : State) : Host.Outcome State Fault Refusal :=
  s.done (s.rowWrite m (cellAddr cell + 0x10) w)

/-- Execute COPY_GO (R602, R604, R608). -/
def execCopyGo (m : Master) (ch : Fin 4) (w : Word) (s : State) : Host.Outcome State Fault Refusal :=
  s.done (s.rowWrite m (0x70010 + 0x40 * ch) w)

/-- Execute COPY_ABORT (R608). -/
def execCopyAbort (m : Master) (ch : Fin 4) (w : Word) (s : State) : Host.Outcome State Fault Refusal :=
  s.done (s.rowWrite m (0x70010 + 0x40 * ch) w)

/-- Execute GPIO_OUT_SET (R613). -/
def execGpioOutSet (m : Master) (w : Word) (s : State) : Host.Outcome State Fault Refusal := s.done (s.rowWrite m 0x80108 w)

/-- Execute GPIO_OUT_CLR (R613). -/
def execGpioOutClr (m : Master) (w : Word) (s : State) : Host.Outcome State Fault Refusal := s.done (s.rowWrite m 0x8010C w)

/-- Execute LINE_LATCH_CLEAR (R776). -/
def execLineLatchClear (m : Master) (p : Fin 2) (w : Word) (s : State) : Host.Outcome State Fault Refusal :=
  s.done (s.rowWrite m (0xA000C + 0x100 * p) w)

/-- Execute PSE_LATCH_CLEAR (R785). -/
def execPseLatchClear (m : Master) (n : Fin 2) (w : Word) (s : State) : Host.Outcome State Fault Refusal :=
  s.done (s.rowWrite m (0xA0410 + 0x100 * n) w)

/-- Execute TERM_WRITE (R233, R236). -/
def execTermWrite (m : Master) (c : Fin 4) (w : Word) (s : State) : Host.Outcome State Fault Refusal :=
  s.done (s.rowWrite m (0xC0000 + 0x100 * c) w)

/-- Execute LEVEL_WRITE (R272). -/
def execLevelWrite (m : Master) (c : Fin 4) (w : Word) (s : State) : Host.Outcome State Fault Refusal :=
  s.done (s.rowWrite m (0xC0000 + 0x100 * c) w)

/-- Execute TRIM_WRITE (R244). -/
def execTrimWrite (m : Master) (c : Fin 4) (w : Word) (s : State) : Host.Outcome State Fault Refusal :=
  s.done (s.rowWrite m (0xC0004 + 0x100 * c) w)

/-- Execute BALANCE_START (R240, R242). -/
def execBalanceStart (m : Master) (c : Fin 4) (w : Word) (s : State) : Host.Outcome State Fault Refusal :=
  s.done (s.rowWrite m (0xC0010 + 0x100 * c) w)

/-- Execute ECHO_RESET (R293). -/
def execEchoReset (m : Master) (inst : Fin 20) (w : Word) (s : State) : Host.Outcome State Fault Refusal :=
  s.done (s.rowWrite m (0xD0000 + 0x100 * inst) w)

/-- Execute WAKE_FORCE (R209). -/
def execWakeForce (m : Master) (w : Word) (s : State) : Host.Outcome State Fault Refusal := s.done (s.rowWrite m 0xF0100 w)

/-- Execute SWAP_GO (R100, R111). -/
def execSwapGo (m : Master) (w : Word) (s : State) : Host.Outcome State Fault Refusal := s.done (s.rowWrite m 0x108020 w)

/-- Execute KEY_TOGGLE: the write waits for the boundary, where it makes a press and release (R313, R591). -/
def execKeyToggle (m : Master) (w : Word) (s : State) : Host.Outcome State Fault Refusal :=
  s.done (s.rowWrite m F.TG_KEY_TOGGLE_TOGGLE.addr w)

/-- Execute TALK_CLOSE: the write waits for the boundary, where it clears latches and blocks requests (R314, R591). -/
def execTalkClose (m : Master) (w : Word) (s : State) : Host.Outcome State Fault Refusal :=
  s.done (s.rowWrite m F.TG_KEY_CLOSE_CLOSE.addr w)

/-- Execute XP_WRITE: the write waits for the boundary, where it sets one stored gain, or XP_ERR (R321, R591). -/
def execXpWrite (m : Master) (w : Word) (s : State) : Host.Outcome State Fault Refusal :=
  s.done (s.rowWrite m F.TG_XP_WRITE_GAIN.addr w)

/-- Execute SIDETONE_WRITE (R335, R591). -/
def execSidetoneWrite (m : Master) (w : Word) (s : State) : Host.Outcome State Fault Refusal :=
  s.done (s.rowWrite m F.TG_SIDETONE_IN.addr w)

/-- Execute FOGHORN_ACK (R332, R434, R591). -/
def execFoghornAck (m : Master) (w : Word) (s : State) : Host.Outcome State Fault Refusal :=
  s.done (s.rowWrite m F.TG_FOGHORN_ACK.addr w)

/-- Execute RING_DISABLE (R390): with ENABLE 1 it is the write that enables the ring (R377). -/
def execRingDisable (m : Master) (w : Word) (s : State) : Host.Outcome State Fault Refusal :=
  s.done (s.rowWrite m F.RING_CTRL_ENABLE.addr w)

/-- Execute STAT_SNAPSHOT (R515). -/
def execStatSnapshot (m : Master) (w : Word) (s : State) : Host.Outcome State Fault Refusal := s.done (s.rowWrite m 0x140800 w)

/-- Execute IOP_STREAM_ENABLE (R522). -/
def execIopStreamEnable (m : Master) (tx : Bool) (k : Fin 32) (w : Word) (s : State) : Host.Outcome State Fault Refusal :=
  s.done (s.rowWrite m ((if tx then 0x150800 else 0x150000) + 0x40 * k) w)

/-- Execute PTP_CAPTURE: GO latches the local PTP time (R537). -/
def execPtpCapture (m : Master) (w : Word) (sec ns : Nat) (s : State) : Host.Outcome State Fault Refusal :=
  s.done (
    let s := ({ s with clk := { s.clk with ptpDue := false } } : State).rowWrite m F.PTP_CAPTURE_GO.addr w
    if s.clk.ptpDue then
      (((s.set F.PTP_TIME_SEC_HI_SEC_HI (sec / 2 ^ 32)).set F.PTP_TIME_SEC_LO_SEC sec).set F.PTP_TIME_NS_NS ns)
    else s)

end Sys2Proof.Machine
end

