-- ==== Sys2Proof/Machine/NetControl.lean ====
section
/-! DEFINITION. Network control frames (R596–R600) and the opening of network sessions (R636). -/

namespace Sys2Proof.Machine

/-- Whether the application core takes control datagrams: HOST_NET_CFG.EN, port C carrying frames, the core on (R596,
R747). -/
def State.netListens (s : State) : Bool :=
  !s.power.resetHeld && s.getB F.HOST_NET_CFG_EN && s.carries 2 && s.domOn 3

/-- A datagram keeps R597. -/
def netHdrOk (h : NetHdr) : Bool :=
  h.version == 1 && h.flags == 0 && h.reserved == 0 && decide (1 ≤ h.opCount ∧ h.opCount ≤ 32 ∧ h.size ≤ 1472) && h.opsOk

/-- The session of a datagram. -/
def State.netSession (s : State) (id : Nat) : Option NetSession := s.isle.nets.find? (fun n => n.id = id)

/-- Accept or discard the datagram of a first operation (R598). -/
def State.takeDatagram (s : State) (h : NetHdr) (opOk : Bool) : State × Option NetGram :=
  match s.netSession h.session with
  | none => (s.inc F.HOST_NET_CNT_DISCARDED, none)
  | some n =>
    if netHdrOk h && opOk && h.tagOk && decide (n.lastSeq < h.seq) && h.session != 0 then
      let t := s.newTxn
      let s := t.2.inc F.HOST_NET_CNT_ACCEPTED
      let s := { s with isle := { s.isle with
        nets := s.isle.nets.map (fun m => if m.id = h.session then { m with lastSeq := h.seq } else m) } }
      (s, some ⟨t.1, h.session, h.seq, h.opCount, [], 0⟩)
    else (s.inc F.HOST_NET_CNT_DISCARDED, none)

/-- The datagram that an operation belongs to: a first operation brings it, a later one goes on with the one accepted. -/
def State.datagramFor (s : State) (h : NetHdr) (opOk : Bool) : State × Option NetGram :=
  if !s.netListens then (s, none)
  else if h.index = 0 then s.takeDatagram h opOk
  else (s, s.host.grams.find? (fun g => g.session = h.session ∧ g.seq = h.seq ∧ g.ops.length = h.index ∧ h.index < g.opCount))

/-- The bytes of an operation in a response (R597, R599). -/
def NetOp.bytes (o : NetOp) : List Byte :=
  [BitVec.ofNat 8 o.op, BitVec.ofNat 8 o.count, BitVec.ofNat 8 (firstBad o.bad).num, 0] ++ beBytes o.addr 4 ++
    o.data.flatMap (fun w => beBytes w.toNat 4)

/-- A response without its TAG (R597). -/
def netResponse (session seq opCount : Nat) (ops : List NetOp) : List Byte :=
  [1, 1] ++ beBytes session 2 ++ beBytes seq 4 ++ [BitVec.ofNat 8 opCount, 0, 0, 0] ++ ops.flatMap NetOp.bytes

/-- A datagram goes on: once its last operation is decided the node answers (R599). -/
def State.putGram (s : State) (g : NetGram) : State :=
  let s := s.updHost (fun h => { h with grams := h.grams.filter (fun x => x.id ≠ g.id) })
  if g.ops.length = g.opCount ∧ g.undecided = 0 then
    { s with answer := ⟨firstBad (g.ops.flatMap (·.bad)), 0, g.ops.flatMap (·.data), netResponse g.session g.seq g.opCount g.ops⟩ }
  else s.updHost (fun h => { h with grams := insertBy (fun a b => decide (a.id ≤ b.id)) g h.grams })

/-- The decision of an undecided write of operation `op` of datagram `id`, word `word` (R599). -/
def State.settleNet (s : State) (id op word : Nat) (c : Code) : State :=
  match s.host.grams.find? (fun g => g.id = id) with
  | none => s
  | some g => s.putGram { g with
      ops := g.ops.zipIdx.map (fun o => if o.2 = op then { o.1 with bad := noteBad word c o.1.bad } else o.1)
      undecided := g.undecided - 1 }

/-- The words of a network WRITE from word `i` on. -/
def State.netWriteWords (s : State) (g : NetGram) (a i : Nat) (bad : List (Nat × Code)) (und : Nat) :
    List Word → State × List (Nat × Code) × Nat
  | [] => (s, bad, und)
  | w :: ws =>
    let r := s.accept .network (a + 4 * i) w.toNat [] (.net g.id g.ops.length i)
    r.1.netWriteWords g a (i + 1) (noteBad i r.2.1 bad) (und + bit1 r.2.2) ws

/-- The words of a network READ from word `i` on. -/
def State.netReadWords (s : State) (a i : Nat) : Nat → List (Nat × Code) × List Word × State
  | 0 => ([], [], s)
  | k + 1 =>
    let r := s.readWord .network (a + 4 * i) false
    let q := r.2.2.netReadWords a (i + 1) k
    (if r.1 = .ok then q.1 else (i, r.1) :: q.1, BitVec.ofNat 32 r.2.1 :: q.2.1, q.2.2)

/-- Execute NET_READ (R599). -/
def execNetRead (h : NetHdr) (addr count : Nat) (s : State) : Host.Outcome State Fault Refusal :=
  s.done (
    let d := s.datagramFor h (decide (1 ≤ count ∧ count ≤ 32))
    match d.2 with
    | none => d.1
    | some g =>
      let r := d.1.netReadWords addr 0 count
      r.2.2.putGram { g with ops := g.ops ++ [⟨1, count, addr, r.1, r.2.1⟩] })

/-- Execute NET_WRITE (R599). -/
def execNetWrite (h : NetHdr) (addr : Nat) (words : List Word) (s : State) : Host.Outcome State Fault Refusal :=
  s.done (
    let d := s.datagramFor h (decide (1 ≤ words.length ∧ words.length ≤ 32))
    match d.2 with
    | none => d.1
    | some g =>
      let r := d.1.netWriteWords g addr 0 [] 0 words
      r.1.putGram { g with ops := g.ops ++ [⟨2, words.length, addr, r.2.1, []⟩], undecided := g.undecided + r.2.2 })

/-- One operation of a datagram that carries only ADDR, applied by `f`, which gives its code too. -/
def State.netPlain (s : State) (h : NetHdr) (op addr : Nat) (f : State → State × Code) : State :=
  let d := s.datagramFor h true
  match d.2 with
  | none => d.1
  | some g =>
    let r := f d.1
    r.1.putGram { g with ops := g.ops ++ [⟨op, 1, addr, noteBad 0 r.2 [], []⟩] }

/-- Execute NET_KEY: the network's request of every slot (R308, R599). -/
def execNetKey (h : NetHdr) (addr : Word) (s : State) : Host.Outcome State Fault Refusal :=
  s.done (s.netPlain h 3 addr.toNat (fun s => ({ s with tg := { s.tg with netReq := addr.toNat } }, .ok)))

/-- Execute NET_REINS_TAKE (R586, R599). -/
def execNetReinsTake (h : NetHdr) (addr : Word) (s : State) : Host.Outcome State Fault Refusal :=
  s.done (s.netPlain h 4 addr.toNat (fun s => s.takeReins .network addr.toNat))

/-- Execute NET_REINS_GIVE (R588, R599). -/
def execNetReinsGive (h : NetHdr) (addr : Word) (s : State) : Host.Outcome State Fault Refusal :=
  s.done (s.netPlain h 5 addr.toNat (fun s => (s.giveReins .network addr.toNat, .ok)))

/-! ### Sessions (R598, R600, R633–R636) -/

/-- A session-0 datagram is taken (R636): its TAG is 24 zero bytes (`tagOk`), and its operation is the only one. -/
def State.takeOpening (s : State) (h : NetHdr) : Bool := s.netListens && netHdrOk h && h.tagOk && h.session == 0 && h.opCount == 1

/-- The island serves authentications (R623, R626, R659). -/
def State.islandServes (s : State) : Bool :=
  s.isle.tested && s.get F.SEC_STATUS_STATE != 2 && s.get F.SEC_STATUS_STATE != 3

/-- Bytes as words, the last padded with zeros. -/
def packWords (k : Nat) (l : List Byte) : List Word := (beWords (padTo (4 * k) l) k).map (BitVec.ofNat 32)

/-- The answer to a session-0 datagram. -/
def State.answerOpening (s : State) (h : NetHdr) (o : NetOp) : State :=
  { s.inc F.HOST_NET_CNT_ACCEPTED with answer := ⟨firstBad o.bad, 0, o.data, netResponse 0 h.seq 1 [o]⟩ }

/-- Execute NET_GET_CHALLENGE (R633, R634, R636). -/
def execNetGetChallenge (h : NetHdr) (out : Challenge) (s : State) : Host.Outcome State Fault Refusal :=
  s.done (
    if !s.netListens then s
    else if !s.takeOpening h then s.inc F.HOST_NET_CNT_DISCARDED
    else if !s.islandServes then s.answerOpening h ⟨16, 61, 0, [(0, .refused)], []⟩
    else
      let r := s.challenge 4 out
      if r.2.1 = 0 then r.1.answerOpening h ⟨16, 61, 0, [], packWords 61 r.2.2⟩
      else r.1.answerOpening h ⟨16, 61, 0, [(0, .refused)], []⟩)

/-- A new network session; a fifth closes the oldest (R635). -/
def State.openNet (s : State) (id role : Nat) : State :=
  let old := s.isle.nets.filter (fun n => n.id ≠ id)
  let old := if 4 ≤ old.length then old.drop (old.length - 3) else old
  ({ s with isle := { s.isle with nets := old ++ [⟨id, role, 0, s.stride⟩] } } : State).showSec

/-- Execute NET_AUTHENTICATE (R633–R636). -/
def execNetAuthenticate (h : NetHdr) (body : List Byte) (sigOk : Bool) (session : Nat) (s : State) :
    Host.Outcome State Fault Refusal :=
  s.done (
    if !s.netListens then s
    else if !s.takeOpening h then s.inc F.HOST_NET_CNT_DISCARDED
    else if !s.islandServes then s.answerOpening h ⟨17, 1, 0, [(0, .refused)], []⟩
    else
      let r := s.authenticate 4 body sigOk
      if r.2.1 = 0 then
        let id := session % 2 ^ 16
        (r.1.drbgReseed.openNet id r.2.2).answerOpening h ⟨17, 1, 0, [], [BitVec.ofNat 32 (id * 2 ^ 16 + r.2.2)]⟩
      else r.1.answerOpening h ⟨17, 1, 0, [(0, .refused)], []⟩)

/-- Execute NET_SESSION_EXPIRY (R600, R635). -/
def execNetSessionExpiry (session secs : Nat) (s : State) : Host.Outcome State Fault Refusal :=
  s.done (if (s.netSession session).isSome && decide (s.get F.HOST_NET_CFG_HOLD_S ≤ secs) then
      let s := { s with isle := { s.isle with nets := s.isle.nets.filter (fun n => n.id ≠ session) } }
      let s := { s with tg := { s.tg with netReq := 0 } }
      ((s.giveReins .network 0xFFFF).setB F.HOST_IRQ_NET_EXPIRED true).showSec
    else s)

/-- Execute HOST_WDOG_EXPIRY: in hosted mode, TIMEOUT ms after the last write of SYS_HOST_ALIVE (R49, R50, R311, R589,
R635). -/
def execHostWdogExpiry (ms : Nat) (s : State) : Host.Outcome State Fault Refusal :=
  s.done (
    let t := s.get F.SYS_HOST_WDOG_TIMEOUT
    if s.getB F.SYS_PERSONA_HOST_MODE && t != 0 && decide (t ≤ ms) && s.host.wdogRunning then
      let held := s.heldBy s.hostMaster.code
      let s := s.updHost (fun h => { h with wdogRunning := false })
      let s := s.setB F.SYS_PERSONA_HOST_LOST true
      let s := s.addLog Ev.hostLost.type s.hostMaster.code 255 held 0 0
      let s := s.giveReins s.hostMaster 0xFFFF
      let s := s.set F.TG_KEY_HOST_REQ 0
      { s.set F.SEC_SESSIONS_HOST 0 with isle := { s.isle with challenges := s.isle.challenges.filter (· ≠ s.hostMaster.code) } }
    else s)

end Sys2Proof.Machine
end

