-- ==== Sys2Proof/Machine/Copy.lean ====
section
/-! DEFINITION. The copy engine's rows (R601–R609), GPIO edges (R612), and the encoders (R615–R617). -/

namespace Sys2Proof.Machine

/-! ### The copy space (R601, R606, R607) -/

/-- Stall SRAM: the stall and the offset that a copy-space address names. -/
def sramAt (a : Nat) : Option (Nat × Nat) :=
  if 0x10000000 ≤ a ∧ a < 0x10000000 + 128 * 0x10000 then some ((a - 0x10000000) / 0x10000, a % 0x10000) else none

/-- The SRAM of stall `n` as a load fills it (R70, R120): the configuration block, then INIT (log entry 22). -/
def sramImage (r : StallRec) : List Byte := r.config.flatMap (fun w => leBytes w 4) ++ r.init

/-- The SRAM of every stall of `l` filled anew. -/
def State.fillSram (s : State) (l : List StallRec) : State :=
  { s with copy := { s.copy with sram := l.foldl (fun m r =>
      Memory.writeAll (m.filter (fun c => decide (c.1 / 0x10000 ≠ r.stall))) (r.stall * 0x10000) (sramImage r)) s.copy.sram } }

/-- A claimed stall's INIT contents as its SRAM now has them: the coefficients it computes with from its next start on
(R126, R607). -/
def State.syncInit (s : State) (n : Nat) : State :=
  s.updStall n (fun t => { t with cfg := { t.cfg with
    init := Memory.readAll s.copy.sram (n * 0x10000 + 4 * t.cfg.config.length) t.cfg.init.length } })

/-- The stall whose SRAM the copy engine may reach: claimed and not retiring (R606). -/
def State.sramOpen (s : State) (n : Nat) : Bool := s.fab.stalls.any (fun t => t.n = n ∧ t.retiring = false)

/-- Read one word of the copy space for a channel of master `m` (R206, R606). -/
def State.copyRead (s : State) (m : Master) (a : Nat) : Code × Nat × State :=
  match sramAt a with
  | some (n, o) =>
    if !s.sramOpen n then (.notPresent, 0, s)
    else if (s.fab.stalls.find? (fun t => t.n = n ∧ t.retiring = false)).any (fun t => t.cfg.template = 8) then (.sealed, 0, s)
    else (.ok, leNat (Memory.readAll s.copy.sram (n * 0x10000 + o) 4), s)
  | none => s.readWord m a true

/-- The words of one row, read whole before any is written: the words, or the first code that is not OK (R604, R606). -/
def State.copyReadRow (s : State) (m : Master) (a : Nat) : Nat → Code × List Nat × State
  | 0 => (.ok, [], s)
  | k + 1 =>
    let r := s.copyRead m a
    if r.1 ≠ .ok then (r.1, [], r.2.2)
    else
      let q := r.2.2.copyReadRow m (a + 4) k
      (q.1, r.2.1 :: q.2.1, q.2.2)

/-- Write one word of the copy space for channel `ch` of master `m`: its code, and whether it waits for the boundary. -/
def State.copyWrite (s : State) (ch : Nat) (m : Master) (a w : Nat) : State × Code × Bool :=
  match sramAt a with
  | some (n, o) =>
    if !s.sramOpen n then (s, .notPresent, false)
    else
      let s := { s with copy := { s.copy with sram := Memory.writeAll s.copy.sram (n * 0x10000 + o) (leBytes w 4) } }
      (s.syncInit n, .ok, false)
  | none => s.accept m a w [] (.copy ch)

/-- The words of one row written in order, up to the first that is not OK: the state, the code, how many wait. -/
def State.copyWriteRow (s : State) (ch : Nat) (m : Master) (a und : Nat) : List Nat → State × Code × Nat
  | [] => (s, .ok, und)
  | w :: ws =>
    let r := s.copyWrite ch m a w
    if r.2.1 ≠ .ok then (r.1, r.2.1, und + bit1 r.2.2)
    else r.1.copyWriteRow ch m (a + 4) (und + bit1 r.2.2) ws

/-! ### Rows (R604–R609) -/

/-- Channel `n` changed by `f`, while it runs. -/
def State.updRun (s : State) (n : Nat) (f : CopyRun → CopyRun) : State :=
  { s with copy := { s.copy with run := s.copy.run.set n ((s.copy.run.getD n none).map f) } }

/-- Channel `n` has no undecided word and its row is complete: it counts, and the last ends the channel (R609). -/
def State.rowDone (s : State) (n : Nat) : State :=
  let s := s.inc (F.COPY_CH_STATUS_ROWS n)
  match s.copy.run.getD n none with
  | none => s
  | some r => if r.rows.isEmpty then s.copyEnd n .ok else s

/-- The decision of a word that channel `n` wrote (R591, R606). -/
def State.settleCopy (s : State) (n : Nat) (c : Code) : State :=
  match s.copy.run.getD n none with
  | none => s
  | some r =>
    if c ≠ .ok then s.copyEnd n c
    else
      let s := s.updRun n (fun r => { r with undecided := r.undecided - 1 })
      if r.undecided = 1 then s.rowDone n else s

/-- The next row of a channel goes into the SRAM of a stall between its start and its commit: it waits for the commit (R607). -/
def State.rowHeld (s : State) (c : CopyRun) : Bool :=
  match c.rows, !c.abort with
  | r :: _, true => match sramAt (c.dst + r * c.dstStride) with
    | some (n, _) => s.fab.stalls.any (fun t => t.n == n && !t.retiring && t.started && !t.worked)
    | none => false
  | _, _ => false

/-- The channel served next: the first in turn after the last served that runs, has nothing undecided, and does not wait for a
stall's commit (R607, R608). -/
def State.nextChannel (s : State) : Option Nat :=
  ((List.range 4).map (fun k => (s.copy.last + 1 + k) % 4)).find? (fun n => match s.copy.run.getD n none with
    | none => false
    | some r => r.undecided == 0 && !s.rowHeld r)

/-- The engine moves one row of channel `n`, or ends it where ABORT is asked (R604, R605, R608). -/
def State.serveRow (s : State) (n : Nat) : State :=
  let s := { s with copy := { s.copy with last := n } }
  match s.copy.run.getD n none with
  | none => s
  | some c =>
    if c.abort then s.copyEnd n .aborted
    else
      match c.rows with
      | [] => s.copyEnd n .ok
      | r :: rest =>
        let rd := s.copyReadRow c.master (c.src + r * c.srcStride) (c.width / 4)
        if rd.1 ≠ .ok then rd.2.2.copyEnd n rd.1
        else
          let wr := rd.2.2.copyWriteRow n c.master (c.dst + r * c.dstStride) 0 rd.2.1
          if wr.2.1 ≠ .ok then wr.1.copyEnd n wr.2.1
          else
            let s := wr.1.updRun n (fun c => { c with rows := rest, undecided := wr.2.2 })
            if wr.2.2 = 0 then s.rowDone n else s

/-- Execute COPY_ROW: channels take turns, one row at a time (R608). -/
def execCopyRow (s : State) : Host.Outcome State Fault Refusal :=
  s.done (match s.nextChannel with
    | none => s
    | some n => s.serveRow n)

/-! ### GPIO and encoders -/

/-- Execute GPIO_EDGE: GPIO_IN follows the ball; a selected edge on an INPUT ball that has been stable for the debounce time
sets its bit of GPIO_IRQ (R612). -/
def execGpioEdge (gpio : Fin 32) (level : Bool) (us : Nat) (s : State) : Host.Outcome State Fault Refusal :=
  s.done (
    let s := s.setBit F.GPIO_IN_LEVEL gpio level
    let e := s.get (F.GPIO_PIN_EDGE gpio)
    if s.get (F.GPIO_PIN_FUNC gpio) = 0 ∧ (if level then e % 2 = 1 else e / 2 = 1) ∧ s.get F.GPIO_DEBOUNCE_MS * 1000 ≤ us then
      s.setBit F.GPIO_IRQ_EDGE gpio true
    else s)

/-- Execute ENCODER_DETENT: the count moves, the application core wakes, and the change waits for the boundary (R616, R617,
R747). -/
def execEncoderDetent (k : Fin 4) (clockwise : Bool) (s : State) : Host.Outcome State Fault Refusal :=
  s.done (if s.getB (F.GPIO_ENC_CFG_EN k) then
      let f := F.GPIO_ENC_COUNT_COUNT k
      let s := s.setI f (s.getI f + (if clockwise then 1 else -1))
      let s := { s with power := { s.power with panelAt := s.stride } }
      let s := s.requestDomain 3
      { s with gpio := { s.gpio with detents := s.gpio.detents ++ [(k.val, clockwise)] } }
    else s)

/-- `v` moved by `d` within `lo` to `hi`. -/
def clampMove (v : Nat) (d : Int) (lo hi : Nat) : Nat := (max (lo : Int) (min (hi : Int) (v + d))).toNat

/-- The word that the writes `ws` of the application core leave to be written at address `a`, with the bits of `mask` as in `w`; `w` where
they write none such. -/
def lastWrite (ws : List (Nat × Nat)) (a w mask : Nat) : Nat :=
  ((ws.reverse.find? (fun x => x.1 = a ∧ Nat.land x.2 mask = Nat.land w mask)).map (·.2)).getD w

/-- A write of TG_XP_WRITE that moves the gain of a crosspoint by `d` codes from its stored gain, or from where `ws` moves it; none
where it is −∞ (R617). -/
def State.moveGain (s : State) (ws : List (Nat × Nat)) (d : Int) (i o : Nat) : List (Nat × Nat) :=
  match s.xp i o with
  | none => []
  | some x =>
    let a := F.TG_XP_WRITE_GAIN.addr
    let at_ := i * 2 ^ 16 + o * 2 ^ 8
    if x.stored = 0 then [] else [(a, at_ + clampMove (lastWrite ws a (at_ + x.stored) 0xFFFF00 % 2 ^ 8) d 1 216)]

/-- A write of the register of field `f` that moves the field by `d` within `lo` to `hi`, from where it stands or `ws` moves it, the
register's other fields as they stand (R617). -/
def State.moveField (s : State) (ws : List (Nat × Nat)) (f : Fld) (d : Int) (lo hi : Nat) : List (Nat × Nat) :=
  let w := lastWrite ws f.addr (s.regWord f.addr) 0
  let v := bitsOf w f.lo f.width
  [(f.addr, w - v * 2 ^ f.lo + clampMove v d lo hi * 2 ^ f.lo)]

/-- The crosspoints into outputs `os`. -/
def State.xpsInto (s : State) (os : List Nat) : List (Nat × Nat) :=
  (s.tg.xps.filter (fun x => x.output ∈ os)).map (fun x => (x.input, x.output))

/-- The writes that `n` detents (clockwise counted up) of encoder `k` make after those of `ws`: address and word (R615, R617). -/
def State.detentWrites (s : State) (ws : List (Nat × Nat)) (k : Nat) (n : Int) : List (Nat × Nat) :=
  let t := s.get (F.GPIO_ENC_CFG_TARGET k)
  let d := n * s.get (F.GPIO_ENC_CFG_STEP k)
  if n = 0 then []
  else if t < 32 then
    (if s.slotPresent t then
      match s.listenPoint (s.slotGroup t) with
      | none => []
      | some i => s.foghornOutputs.flatMap (fun o => s.moveGain ws d i o)
    else [])
  else if t = 0x20 then
    (s.xpsInto s.headsetOutputs).flatMap (fun p => if s.isSidetone p.1 p.2 then [] else s.moveGain ws d p.1 p.2)
  else if t = 0x21 then
    (s.xpsInto (mixOutputsTo s.recs s.linkRecs 0x81 10)).flatMap (fun p => s.moveGain ws d p.1 p.2)
  else if t = 0x22 then s.moveField ws F.TG_SIDETONE_GAIN d 0 216
  else if t = 0x23 then s.moveField ws F.CONV_HSMIC_GAIN n 0 60
  else if t ≤ 0x27 then s.moveField ws (F.HYB_CH_CFG_LEVEL (t - 0x24)) n 0 28
  else []

/-- The application core's writes for the detents since the last boundary, and the state without them (R617). -/
def State.takeDetents (s : State) : List PWrite × State :=
  let net := fun k => (s.gpio.detents.filter (fun d => d.1 = k)).foldl (fun (n : Int) d => if d.2 then n + 1 else n - 1) 0
  let ws := (List.range 4).foldl (fun ws k => ws ++ s.detentWrites ws k (net k)) []
  (ws.map (fun w => (⟨.app, w.1, w.2, 2 ^ 32 - 1, .direct⟩ : PWrite)),
   { s with gpio := { s.gpio with detents := [] } })

end Sys2Proof.Machine
end

