-- ==== Sys2Proof/Machine/Clocks.lean ====
section
/-! DEFINITION. Clocks: the media PLL and its modes, the reference, the real-time clock, and accesses that time out
(chapter 18). -/

namespace Sys2Proof.Machine

/-! ### The media PLL (R797–R800) -/

/-- Execute MEDIA_PLL_LOCK (R800): the stride counter starts at the next boundary. -/
def execMediaPllLock (s : State) : Host.Outcome State Fault Refusal :=
  s.done (s.setB F.CLK_STATUS_MEDIA_LOCK true)

/-- A beam of the current lighthouse was measured in the last 24 strides, in slack the last 240, at a node that R373 governs
(R797). -/
def State.ringGoverns (s : State) : Bool :=
  s.ringOn && s.ringState != 2 &&
    s.ring.targets.any (fun t => decide (s.stride < t.2.2 + (if s.ring.slackSeen then 240 else 24)))

/-- The mode that R797 gives: 0 FREE, 1 RING, 2 PTP, 3 HOLDOVER; while the reference is lost, HOLDOVER (R817). -/
def State.mediaMode (s : State) : Nat :=
  if s.getB F.CLK_STATUS_REF_LOST then 3
  else if s.ringGoverns then 1
  else if s.getB F.PTP_MEDIA_SOURCE && s.getB F.PTP_STATUS_LOCKED then 2
  else if s.clk.governed then 3
  else 0

/-- What the PLL shows in mode `mode`: its phase error and pull while a target steers it, the held pull in HOLDOVER, nominal
rate in FREE (R795, R798, R799). -/
def State.steer (s : State) (mode : Nat) (phaseNs ppm : Int) : State :=
  let s := s.set F.CLK_STATUS_MODE mode
  if mode = 1 ∨ mode = 2 then
    let s := { s with clk := { s.clk with governed := true, held := clampTo 20000 ppm } }
    let s := s.setI F.CLK_MEDIA_FREQ_PPM (clampTo 20000 ppm)
    let s := s.setI F.CLK_MEDIA_FREQ_PHASE_NS (max (-32768) (min 32767 phaseNs))
    s.setB F.CLK_STATUS_ACQUIRING (decide (1000 < phaseNs.natAbs))
  else
    let s := (s.setI F.CLK_MEDIA_FREQ_PHASE_NS 0).setB F.CLK_STATUS_ACQUIRING false
    s.setI F.CLK_MEDIA_FREQ_PPM (if mode = 3 then s.clk.held else 0)

/-- Execute MEDIA_MODE_CHANGE (R540, R797–R799): the first row of R797 whose condition holds sets the mode. The pull held from
then on in HOLDOVER is the mean that the event brings. -/
def execMediaModeChange (phaseNs ppm : Int) (s : State) : Host.Outcome State Fault Refusal :=
  let mode := s.mediaMode
  let held := if mode = 3 ∧ s.get F.CLK_STATUS_MODE ≠ 3 then clampTo 20000 ppm else s.clk.held
  s.done (({ s with clk := { s.clk with held := held } } : State).steer mode phaseNs ppm)

/-- Execute MEDIA_ALIGN: steered to PTP, the node has brought the fraction of D(k) to 0 and holds it (R541); a node that the ring
governs follows the ring instead (R540). -/
def execMediaAlign (d : Nat) (s : State) : Host.Outcome State Fault Refusal :=
  s.done (if s.getB F.PTP_MEDIA_SOURCE && s.getB F.PTP_STATUS_LOCKED && !s.ringGoverns && d % 65536 == 0 then
    s.setB F.PTP_MEDIA_ALIGNED true else s)

/-! ### The reference (R817) -/

/-- Execute REF_LOST (R817): the record, HOLDOVER on the internal oscillator, and every port's link fails (R517, R518). -/
def execRefLost (us : Nat) (loss : RefLoss) (s : State) : Host.Outcome State Fault Refusal :=
  s.done (if us < 10 || s.getB F.CLK_STATUS_REF_LOST then s
    else
      let held := if s.get F.CLK_STATUS_MODE = 1 ∨ s.get F.CLK_STATUS_MODE = 2 then clampTo 20000 loss.ppm else s.clk.held
      let s := { s with clk := { s.clk with held := held } }
      let s := (s.setB F.CLK_STATUS_REF_LOST true).ev .refLost 1 0 0 0
      let s := s.steer 3 0 0
      (List.range 3).foldl (fun s p => s.linkDrop p (loss.cuts.getD p ⟨false, false⟩)) s)

/-- Execute REF_RESTORED (R817): the PLLs are back on the reference, and MODE follows R797. -/
def execRefRestored (ms : Nat) (s : State) : Host.Outcome State Fault Refusal :=
  s.done (if ms < 10 || !s.getB F.CLK_STATUS_REF_LOST then s
    else
      let s := s.setB F.CLK_STATUS_REF_LOST false
      s.steer s.mediaMode (s.getI F.CLK_MEDIA_FREQ_PHASE_NS) (s.getI F.CLK_MEDIA_FREQ_PPM))

/-! ### The real-time clock (R813–R815) -/

/-- Execute RTC_XTAL_SWITCH (R815): the RTC moves to the crystal; no tick is lost or repeated. -/
def execRtcXtalSwitch (ms : Nat) (s : State) : Host.Outcome State Fault Refusal :=
  s.done (if 1000 < ms then s else (s.setB F.CLK_RTC_CFG_XTAL_OK true).setB F.CLK_RTC_CFG_SRC false)

/-- The RTC counts `n` ticks of 1/32,768 s; at the first a write of CLK_RTC_SEC that waits sets the seconds and clears the
ticks. It stands still while it runs from a lost reference (R813–R815). -/
def State.rtcTicks (s : State) (n : Nat) : State :=
  if n = 0 || (s.getB F.CLK_RTC_CFG_SRC && s.getB F.CLK_STATUS_REF_LOST) then s
  else
    let t := match s.clk.rtcSet with
      | some w => w * 32768 + (n - 1)
      | none => s.get F.CLK_RTC_SEC_SEC * 32768 + s.get F.CLK_RTC_SUB_TICKS + n
    let s := { s with clk := { s.clk with rtcSet := none } }
    ((s.set F.CLK_RTC_SEC_SEC (t / 32768)).set F.CLK_RTC_SUB_TICKS (t % 32768)).set F.CLK_RTC_SUB_SEC_LO (t / 32768)

/-! ### Accesses that time out (R809) -/

/-- Execute ACCESS_TIMEOUT (R809, R829): only an access that reaches a register can time out. -/
def execAccessTimeout (m : Master) (addr : Nat) (s : State) : Host.Outcome State Fault Refusal :=
  s.done (match s.exists_ m, s.reach m addr false with
    | true, .reg r =>
      let dom := s.clockDomain r.dom
      let s := { s with banks := s.banks.set m.code (
        let b := s.banks.getD m.code ⟨0, false, false, false, false, 0, 0⟩
        { b with count := (b.count + 1) % 256, timeout := true, domain := s.powerDomain r.dom, addr := addr }) }
      let s := (s.set F.CLK_TIMEOUT_DOMAIN dom).incSat F.CLK_TIMEOUT_COUNT
      s.addLog Ev.accessTimeout.type m.code (s.powerDomain r.dom) addr dom 0
    | _, _ => s)

end Sys2Proof.Machine
end

