-- ==== Sys2Proof/Machine/Filters.lean ====
section
/-! DEFINITION. The level detectors and filters of the templates DYN, LEC, AEC and NLP (R276–R289, R882): what the spec binds of
them is exact, and what it leaves to the chip is drawn from free values (log entry 10). -/

namespace Sys2Proof.Machine

/-! ### Levels and gains in 0.1 dB -/

/-- A free value from `lo` to `hi`. -/
def State.freeIn (s : State) (lo hi : Nat) : Nat × State := (lo + s.freeNat.1 % (hi + 1 - lo), s.freeNat.2)

/-- By how many whole 0.1 dB power `p` exceeds power `q`, at most 204.7 dB; 0 where it does not. The comparison is exact:
p / q ≥ 10^(k / 100). -/
def tenthsOver (p q : Nat) : Nat :=
  (List.range 11).foldl (fun k b =>
    let c := k + 2 ^ (10 - b)
    if q ^ 100 * 10 ^ c ≤ p ^ 100 then c else k) 0

/-- A factor × 2^20 in whole 0.1 dB, toward 0. -/
def gainTenths (f : Nat) : Int :=
  if 2 ^ 20 ≤ f then (tenthsOver (f * f) (2 ^ 40) : Nat) else -(tenthsOver (2 ^ 40) (f * f) : Nat)

/-- The last `n` samples of a line that a block is added to; before the first there is silence. -/
def lastOf (n : Nat) (line block : List Int) : List Int :=
  let l := line ++ block
  List.replicate (n - l.length) 0 ++ l.drop (l.length - n)

/-! ### BEAM (R172, R173) -/

/-- A BEAM stall: its used inputs, each DELAY_p / 8 + 8 samples late, summed, divided by their number, times OUT_GAIN, and rounded
once. Silence that reaches an input's filter stays silence. -/
def computeBeam (t : Stall) (x : List (List Sample)) : List Sample × StallMem :=
  let lines := match t.mem with
    | .beam l => l
    | _ => []
  let used := (List.range 8).filter (fun p => (t.cfg.w 0).testBit p)
  let line := fun p => lastOf 48 (lines.getD p []) []
  let late := fun p j =>
    let w := ((line p ++ x.getD p []).drop (32 + j - t.cfg.w (1 + p) / 8)).take 17
    if w.all (· == 0) then (0 : Int) else (Config.fracDelay (t.cfg.w (1 + p) % 8) w).toInt
  ((List.range 6).map (fun j =>
      let sum := used.foldl (fun (v : Int) p => v + late p j) 0
      roundDiv (sum * gainFactor (t.cfg.w 9)) (used.length * 2 ^ 36)),
   .beam ((List.range 8).map (fun p => (line p ++ x.getD p []).drop 6)))

/-! ### DYN (R882) -/

/-- The sum of the squares of a full-scale sine over 48 samples. -/
def fullPeriod : Nat := 24 * 8388607 * 8388607

/-- 48 samples of a sine of 1 kHz, rounded to audio words: each sample keeps the recurrence of that sine. -/
def kilohertz (l : List Int) : Bool :=
  l.any (fun x => x != 0) && (l.zip ((l.drop 1).zip (l.drop 2))).all (fun q =>
    decide (((q.1 + q.2.2) * 1000000000 - 1982889723 * q.2.1).natAbs ≤ 2000000000))

/-- The samples of the channel with the greatest power (R882). -/
def loudest (l : List (List Int)) : List Int := l.foldl (fun a x => if sumSq a < sumSq x then x else a) []

/-- The bounds of the steady gain before MAKEUP, in 0.1 dB, for a 1 kHz sine that lies `b` to `b` + 1 tenths below full scale
(R882). -/
def dynBounds (t : StallRec) (b : Nat) : Option Int × Option Int :=
  let thr := 5 * signedOf (t.w 2) 32
  let r : Int := t.w 3
  let hi : Int := -(b : Int)
  let lo : Int := hi - 1
  match t.w 1 with
  | 0 =>
    if hi ≤ thr - 60 then (some (-2), some 2)
    else if thr + 60 ≤ lo then (some ((thr - hi) * (r - 10) / r - 11), some ((thr - lo) * (r - 10) / r + 11))
    else (none, none)
  | 1 => if hi ≤ thr - 60 then (some (-2), some 2) else if thr ≤ lo then (none, some (thr + 5 - lo)) else (none, none)
  | 2 =>
    if thr + 30 ≤ lo then (some (-2), some 2)
    else if hi ≤ thr - 30 then (none, some (-(min 800 ((r - 10) * (thr - hi) / 10))))
    else (none, none)
  | _ => if thr - 300 ≤ lo ∧ hi ≤ thr + 200 then (some (thr - 10 - hi), some (thr + 10 - lo)) else (none, none)

/-- The bounds that hold `steady` strides after a step of the level, the gain having stood at `g`: none before ATTACK or RELEASE
is over, then within a tenth of the change, and the steady bounds once ten times it has passed (R882; DESIGN CHOICE: that the
gain is then steady, log entry 10). -/
def dynNow (t : StallRec) (b steady : Nat) (g : Int) : Option Int × Option Int :=
  let q := dynBounds t b
  let up := (t.w 4 + 124) / 125
  let down := 8 * t.w 5
  let n := if (q.2.map (fun h => decide (h < g))).getD false then up
    else if (q.1.map (fun l => decide (g < l))).getD false then down else max up down
  if steady < n then (none, none)
  else if steady < 10 * n then
    (q.1.map (fun l => l - ((g - l).natAbs : Int) / 10 - 1), q.2.map (fun h => h + ((g - h).natAbs : Int) / 10 + 1))
  else q

/-- A factor held within bounds in 0.1 dB. -/
def clampGain (q : Option Int × Option Int) (f : Nat) : Nat :=
  let f := match q.2 with
    | none => f
    | some h => min f (tenthFactor h + 1)
  match q.1 with
  | none => f
  | some l => max f (tenthFactor l)

/-- A DYN stall: one gain for all its channels, taken from the loudest channel of port 0, or from port 1 when KEYED, free within
the bounds of R882; MAKEUP then applies. -/
def State.computeDyn (s : State) (t : Stall) (x : Block) : List Block × StallMem × State :=
  let seen := if t.cfg.w 7 = 1 then (s.inBlock t.n 1).getD [] else x
  let m : List (List Int) × Nat × Nat × Nat × Nat := match t.mem with
    | .dyn l n b f g => (l, n, b, f, g)
    | _ => ([], 0, 0, 2 ^ 20, 2 ^ 20)
  let lines := seen.zipIdx.map (fun c => lastOf 48 (m.1.getD c.2 []) c.1)
  let l := loudest lines
  let b := tenthsOver fullPeriod (sumSq l)
  let steady := if kilohertz l && b == m.2.2.1 then m.2.1 + 1 else 0
  let from_ := if steady = 0 then m.2.2.2.2 else m.2.2.2.1
  let q := if steady = 0 then (none, none) else dynNow t.cfg b steady (gainTenths from_)
  let fs := (List.range 6).map (fun j => clampGain q ((Config.freeWord (s.freeCtr + j)).toNat % 2 ^ 28))
  let out := x.map (fun c => (c.zip fs).map (fun y =>
    gainSample (roundDiv (y.1 * y.2) (2 ^ 20)) (gainFactor (t.cfg.w 6))))
  ([out], .dyn lines steady b from_ (fs.getLastD (2 ^ 20)), { s with freeCtr := s.freeCtr + 6 })

/-! ### Echo cancellers (R276, R277, R280, R283) -/

/-- The subbands of an instance and their decimation: 32 by 24 for an LEC, 64 by 48 for an AEC (R276). -/
def echoBands (t : StallRec) : Nat × Nat := if t.template = 3 then (32, 24) else (64, 48)

/-- The length of the tail window in samples (R280). -/
def echoTail (t : StallRec) : Nat := 48 * t.w 0

/-- How far back the references are held: the window of the sample that the outputs give, 48 samples late. -/
def echoReach (t : StallRec) : Nat := 47 + t.w 5 + echoTail t

/-- What an LEC or AEC holds of its inputs, silence where it has none yet. -/
def echoHeld (t : StallRec) : StallMem → List Int × List (List Int)
  | .echo a b => (a, b)
  | _ => (List.replicate 48 0, List.replicate (if t.template = 3 then 1 else t.w 1) (List.replicate (echoReach t) 0))

/-- The reference samples that reach sample `j` of the block: lags BULK_DELAY to BULK_DELAY + 48 × TAIL_MS − 1 of the near-end
sample that the outputs give (R277, R280). -/
def echoWindow (t : StallRec) (refs : List (List Int)) (j : Nat) : List Int :=
  refs.flatMap (fun r => (r.drop j).take (echoTail t))

/-- The taps of a stall's instance: its entry's; those of an instance that retires are no longer held there, and are free. -/
def State.echoTapsOf (s : State) (t : Stall) : Nat × State :=
  if t.retiring then s.freeNat
  else (match s.echoInst (echoIndex t.cfg) with
    | none => 0
    | some e => e.taps, s)

/-- An LEC or AEC: its residual and its echo estimate, 48 samples late. With cleared taps the residual is the near end and there
is no estimate (R277, R296). -/
def State.computeEcho (s : State) (t : Stall) (x : Block) : List Block × StallMem × State :=
  let h := echoHeld t.cfg t.mem
  let near := h.1 ++ channel x 0
  let in1 := (s.inBlock t.n 1).getD []
  let refs := h.2.zipIdx.map (fun r => r.1 ++ channel in1 r.2)
  let mem := StallMem.echo (near.drop 6) (refs.map (·.drop 6))
  let k := s.echoTapsOf t
  if k.1 = 0 then ([[near.take 6], silence 1], mem, k.2)
  else
    let q := echoBands t.cfg
    let out := fun p => (List.range 6).map (fun j =>
      (Config.echoSample p q.1 q.2 ((6 * s.stride + j) % q.2) k.1 (near.take (49 + j)) (echoWindow t.cfg refs j)).toInt)
    ([[out 0], [out 1]], mem, k.2)

/-! ### NLP (R277, R282, R286–R289) -/

/-- The echo stall that an NLP stall follows (R282). -/
def State.nlpSource (s : State) (t : Stall) : Option Stall :=
  match s.inLinks t.n 1 with
  | [] => none
  | l :: _ => s.stallAt l.cfg.src

/-- MODE, SUPPRESS_MAX and COMFORT of an NLP stall: the registers of its associated instance, which its configuration block
sets at its start (R278, R282). -/
def State.nlpCtrl (s : State) (t : Stall) : Nat × Nat × Nat :=
  match t.retiring, s.nlpSource t with
  | false, some u =>
    let i := echoIndex u.cfg
    (s.get (F.ECHO_NLP_MODE i), s.get (F.ECHO_NLP_SUPPRESS_MAX i), s.get (F.ECHO_NLP_COMFORT i))
  | _, _ => (t.cfg.w 0, t.cfg.w 1, t.cfg.w 2)

/-- The double-talk state that an NLP reads: its instance's in this stride, or that of the instance's last committed stride
while it is late or lame; free for an instance that retires (R289). -/
def State.nlpTalk (s : State) (t : Stall) : Bool × State :=
  match t.retiring, s.nlpSource t with
  | false, some u =>
    let i := echoIndex u.cfg
    if s.lame u.n || (s.slices u).any (fun v => v.lateNow) then
      (match s.echoInst i with
       | none => false
       | some e => e.lastTalk, s)
    else (s.getB (F.ECHO_STATUS_DTD i), s)
  | _, _ => s.freeBool

/-- One subband's attenuation and background in a stride: toward the ratio of the estimate's power to the residual's, capped,
with ATTACK on rises and RELEASE on falls, and at most `most` at once (R286, R287, R288). -/
def State.nlpStep (s : State) (t : StallRec) (cap : Nat) (quiet : Bool) (res est : Nat) (b : NlpBand) : NlpBand × State :=
  let goal := min cap (tenthsOver est res)
  let rising := decide (b.att < goal)
  let moving := if b.att = goal then 0 else if b.rising == rising then b.moving + 1 else 1
  let done := decide (8 * (if rising then t.w 3 else t.w 4) ≤ moving)
  let f := s.freeIn (min b.att goal) (max b.att goal)
  let g := f.2.freeIn (min b.background res) (max b.background res)
  ({ att := min cap (if done then goal else f.1), moving := moving, rising := rising
     background := if quiet then g.1 else b.background }, g.2)

/-- The powers of the noise that fills the attenuated subbands, each within ±3 dB of its background (R288). -/
def State.nlpNoise (s : State) (bands : List NlpBand) : List Nat × State :=
  bands.foldl (fun (a : List Nat × State) b =>
    if b.att = 0 then (a.1 ++ [0], a.2)
    else
      let f := a.2.freeIn ((b.background * 1000 + 1994) / 1995) (b.background * 1995 / 1000)
      (a.1 ++ [f.1], f.2)) ([], s)

/-- An NLP stall, 24 samples late: in MODE 0 its input; in MODE 1 or 2 its input with 32 subbands attenuated, and filled with noise
where COMFORT is 1 (R277, R286–R289). -/
def State.computeNlp (s : State) (t : Stall) (x : Block) : List Block × StallMem × State :=
  let m : List Int × List Int × List NlpBand := match t.mem with
    | .nlp r e b => (r, e, b)
    | _ => (List.replicate 24 0, List.replicate 18 0, List.replicate 32 ⟨0, 0, false, 0⟩)
  let line := m.1 ++ channel x 0
  let est := m.2.1 ++ channel ((s.inBlock t.n 1).getD []) 0
  let c := s.nlpCtrl t
  if c.1 = 0 then
    ([[line.take 6]], .nlp (line.drop 6) (est.drop 6) (m.2.2.map (fun b => { b with att := 0, moving := 0 })), s)
  else
    let talk := s.nlpTalk t
    let quiet := ((s.inBlock t.n 2).getD []).all belowM60 && !talk.1
    let cap := if talk.1 then min (10 * c.2.1) (if c.1 = 1 then 60 else 150) else 10 * c.2.1
    let r := m.2.2.zipIdx.foldl (fun (a : List NlpBand × State) b =>
      let q := a.2.nlpStep t.cfg cap quiet (Config.bandPower b.2 (line.drop 6)).toNat (Config.bandPower b.2 est).toNat b.1
      (a.1 ++ [q.1], q.2)) ([], talk.2)
    let n := if c.2.2 = 1 then r.2.nlpNoise r.1 else (List.replicate 32 0, r.2)
    ([[(List.range 6).map (fun j => (Config.nlpSample (r.1.map (·.att)) n.1 line j).toInt)]],
     .nlp (line.drop 6) (est.drop 6) r.1, n.2)

end Sys2Proof.Machine
end

