-- ==== Sys2Proof/Machine/Templates.lean ====
section
/-! DEFINITION. What a stall's template computes in a stride (chapters 03, 04, 06, 10 and 12), and the start of a stall's
stride. MIX, EQ, DELAY and METER are exact, and so is every other template where a rule fixes its output; an output that the
spec binds only within tolerances is free (log entry 10). -/

namespace Sys2Proof.Machine

/-! ### TONE (R459) -/

/-- The largest sample of a sine at −`level` dBFS; the factor's own rounding is allowed for. -/
def tonePeak (level : Nat) : Int := roundDiv (8388607 * gainFactor (192 - 2 * level)) (2 ^ 20) + 4

/-- A TONE stall: silence while its source is not active, 2 ms ramps of R878, and the same samples on every channel; the sine's
samples are free within its level, but that it starts at phase 0. -/
def State.computeTone (s : State) (t : Stall) : List Block × StallMem × State :=
  let m : Ramp × Nat := match t.mem with
    | .tone r n => (r, n)
    | _ => (Ramp.silent, 0)
  let on := s.sourceActive (t.cfg.w 4) && (t.cfg.w 3 == 0 || s.patternOn 2)
  let ramp := m.1.aim on 96
  if ramp.isSilent then ([silence (t.cfg.w 0)], .tone Ramp.silent 0, s)
  else
    let a := s.freeBlock 1
    let raw := (channel a.1 0).map (clampTo (tonePeak (t.cfg.w 2)))
    let sine := if m.1.isSilent then 0 :: raw.drop 1 else raw
    ([List.replicate (t.cfg.w 0) (ramp.block sine)], .tone ramp.step (m.2 + 6), a.2)

/-! ### ASRC (R529–R532, R544) -/

/-- The enabled receive stream that brings channel `ch`. -/
def State.streamOf (s : State) (ch : Nat) : Option Nat :=
  (List.range s.iopRxCount).find? (fun k => s.rxOn k && decide (s.get (F.IOP_RX_CFG_CH_BASE k) ≤ ch) &&
    decide (ch < s.get (F.IOP_RX_CFG_CH_BASE k) + s.get (F.IOP_RX_CFG_CHANNELS k)))

/-- |r − 1| exceeds RATIO_LIMIT (R531). -/
def ratioOver (adv limit : Nat) : Bool := decide (limit * 393216 < ((adv : Int) - 393216).natAbs * 1000000)

/-- The advance of R over the stride, r clamped to the limit (R531). -/
def clampAdvance (adv limit : Nat) : Nat :=
  if ratioOver adv limit then (if 393216 < adv then 393216 + 393216 * limit / 1000000 else 393216 - 393216 * limit / 1000000)
  else adv

/-- The position of output sample `j`, R_k + j × r, in 1/65,536 samples (R530). -/
def asrcPos (r adv j : Nat) : Nat := r + j * adv / 6

/-- The timestamps within ±8 samples of the six positions that start at `r` and advance by `adv` over the stride (R530). -/
def neededSlots (r adv : Nat) : List Nat :=
  let lo := (r + 2 ^ 48 - 8 * 65536 + 65535) / 65536
  let hi := (asrcPos (r + 2 ^ 48) adv 5 + 8 * 65536) / 65536
  (List.range (hi + 1 - lo)).map (fun i => (lo + i) % 2 ^ 32)

/-- What the interpolator makes of the ring samples within ±8 of position `pos` (R530). -/
def asrcSample (read : Nat → Int) (pos : Nat) : Int :=
  let lo := (pos + 2 ^ 48 - 8 * 65536 + 65535) / 65536
  let n := (pos + 2 ^ 48 + 8 * 65536) / 65536 + 1 - lo
  (Config.asrcSample (pos % 65536) ((List.range n).map (fun i => read ((lo + i) % 2 ^ 32)))).toInt

/-- One channel of an ASRC stall: silence from the ring or a clock step is exact, a ramp after the step is R878's, and what it
makes of the samples within reach is free. -/
def State.asrcChannel (s : State) (limit ch : Nat) : List Sample × State :=
  match s.streamOf ch with
  | none => (List.replicate 6 0, s)
  | some k =>
    let adv := s.net.media.2
    let pos := s.readPos k
    let step := clampAdvance adv limit
    let read := fun t => (s.rxSample ch t).getD 0
    let slots := (neededSlots pos step).map (s.rxSample ch)
    let miss := slots.any (·.isNone) && !s.net.missed.contains k
    let s := if miss then s.inc (F.IOP_RX_CNT_COUNT k 3) else s
    let s := s.updNet (fun q => { q with
      missed := if miss then k :: q.missed else q.missed
      clamped := if ratioOver adv limit && !q.clamped.contains k then k :: q.clamped else q.clamped })
    let hush := (s.net.rx.getD k IopRx.idle).hush
    if slots.all (fun x => x.getD 0 == 0) || decide (240 < hush) then (List.replicate 6 0, s)
    else ((Ramp.mk 0 1 true (240 - hush) 240).block ((List.range 6).map (fun j => asrcSample read (asrcPos pos step j))), s)

/-- An ASRC stall: its channels from the first to the last. -/
def State.computeAsrc (s : State) (t : Stall) : List Block × State :=
  let base := match s.inLinks t.n 0 with
    | [] => 0
    | l :: _ => l.cfg.srcPort
  let r := (List.range (t.cfg.w 0)).foldl (fun (a : Block × State) c =>
    let q := a.2.asrcChannel (t.cfg.w 1) (base + c)
    (a.1 ++ [q.1], q.2)) ([], s)
  ([r.1], r.2)

/-! ### A stall's stride -/

/-- What a stall computes in a stride: its output blocks by port before saturation, whether a sample saturated inside,
its memory, and the state, from which free samples are drawn. -/
def State.compute (s : State) (t : Stall) : List Block × Bool × StallMem × State :=
  let x := (s.inBlock t.n 0).getD (silence (t.cfg.w 0))
  match t.cfg.template with
  | 0 =>
    let all := s.mixBlock t
    let ports := (mixOutputs (s.fab.links.map (·.cfg)) t.n).zipIdx
    let r := s.stepRamps t
    ((List.range 8).map (fun p => (ports.filter (fun q => q.1.1 = p)).map (fun q => channel all q.2)), false, r.1, r.2)
  | 1 =>
    let r := (x.zip (eqHist t.cfg t.mem)).zipIdx.map (fun q => eqChannel t.cfg q.2 q.1.2 q.1.1)
    ([r.map (·.1)], r.any (·.2.1), .eq (r.map (·.2.2)), s)
  | 11 =>
    let r := (x.zip (delayLines t.cfg t.mem)).map (fun q => q.2 ++ q.1)
    ([r.map (·.take 6)], false, .delay (r.map (·.drop 6)), s)
  | 12 => ([x], false, t.mem, s)
  | 2 => let r := s.computeDyn t x; (r.1, false, r.2.1, r.2.2)
  | 3 => let r := s.computeEcho t x; (r.1, false, r.2.1, r.2.2)
  | 4 => let r := s.computeEcho t x; (r.1, false, r.2.1, r.2.2)
  | 5 => let r := s.computeNlp t x; (r.1, false, r.2.1, r.2.2)
  | 6 => let r := computeBeam t ((List.range 8).map (fun p => channel ((s.inBlock t.n p).getD (silence 1)) 0)); ([[r.1]], false, r.2, s)
  | 7 => let r := s.computeAsrc t; (r.1, false, t.mem, r.2)
  | 8 => if s.get F.HIST_STATUS_MODE = 0 then ([x], false, t.mem, s) else let a := s.freeBlock 1; ([a.1], false, t.mem, a.2)
  | 9 => let a := s.freeBlock (t.cfg.w 1); ([a.1], false, t.mem, a.2)
  | 10 => let r := s.computeTone t; (r.1, false, r.2.1, r.2.2)
  | _ => let a := s.freeBlock (t.cfg.w 0); ([a.1], false, t.mem, a.2)

/-- The adaptation and double-talk detection of an echo instance, in the slice that carries its outward blocks (R275, R283,
R284). -/
def State.echoWork (s : State) (n : Nat) : State :=
  match s.stallAt n with
  | none => s
  | some t =>
    if (t.cfg.template ≠ 3 ∧ t.cfg.template ≠ 4) ∨ !outwardSlice t ∨ t.retiring then s
    else
      let z := s.slice0 t
      let outs := ((s.stallAt z).map (·.outs)).getD []
      let held := match s.stallAt z with
        | none => ([], [])
        | some u => echoHeld u.cfg u.mem
      let q := echoBands t.cfg
      s.echoStride (echoIndex t.cfg) (channel ((s.inBlock z 0).getD []) 0) ((s.inBlock z 1).getD [])
        (channel (outs.getD 0 []) 0) (channel (outs.getD 1 []) 0)
        (fun k => Config.echoTaps q.1 q.2 (s.get (F.ECHO_CTRL_STEP (echoIndex t.cfg))) k held.1 held.2.flatten)

/-- The work of stall `n` for its stride: slice 0 computes the instance's outputs, the HCODEC stall records its input (R177), and
the slice that carries the outward links detects double talk and adapts (R275). -/
def State.runStall (s : State) (n : Nat) : State :=
  match s.stallAt n with
  | none => s
  | some t =>
    if t.cfg.slice ≠ 0 then (s.updStall n (fun u => { u with started := true })).echoWork n
    else
      let r := s.compute t
      let sat := r.1.any (fun b => (satBlock b).2) || r.2.1
      let s := r.2.2.2.updStall n (fun u => { u with
        started := true, outs := r.1.map (fun b => (satBlock b).1), mem := r.2.2.1 })
      let s := if sat then (s.setB (F.FAB_STALL_STATUS_SAT n) true).setB F.FAB_IRQ_SAT true else s
      let s := if t.cfg.template = 8 ∧ (s.hcodecStall.map (·.n)) = some n then s.recordHistory n else s
      s.echoWork n

/-- What stall `t` waits for has reached it: slice 0 its input blocks; a further slice of an LEC the analysis of slice 0; an AEC's
tail slice the results of its analysis slice, and its synthesis slice those of every other slice (R137, R275, R881). -/
def State.stallReady (s : State) (t : Stall) : Bool :=
  if t.cfg.slice = 0 then s.inputsReady t.n
  else if t.cfg.template = 3 then (s.slices t).any (fun u => u.cfg.slice == 0 && u.started)
  else if outwardSlice t then s.othersWorked t
  else (s.slices t).any (fun u => u.cfg.slice == 0 && u.worked)

/-- STALL_START: a stall starts its stride once what it waits for has reached it and the work of an earlier late stride is done
(R137 step 3, R140). -/
def State.startStall (s : State) (n : Nat) : State :=
  match s.stallAt n with
  | none => s
  | some t => if !s.stallRuns n || t.started || t.owes != 0 || !s.stallReady t then s else s.runStall n

/-- As a stride ends, a late stall that has not started it still does its work for it: its state advances, and its output is
discarded (R140). -/
def State.finishWork (s : State) : State :=
  (sortBy (fun (a b : Stall) => decide (a.layer < b.layer ∨ (a.layer = b.layer ∧ a.cfg.slice ≤ b.cfg.slice))) s.fab.stalls).foldl
    (fun s t => if (t.lateNow || t.fellBack) && !t.started && s.stallRuns t.n then s.runStall t.n else s) s

/-- Execute STALL_START (R137). -/
def execStallStart (n : Fin 128) (s : State) : Host.Outcome State Fault Refusal := s.done (s.startStall n)

end Sys2Proof.Machine
end

