-- ==== Sys2Proof/Machine/Load.lean ====
section
/-! DEFINITION. Loading a full tack image (R82–R93, R303, R610, R685, R698) and starting its stalls (R91 step 10, R703,
R704, R706). -/

namespace Sys2Proof.Machine

/-! ### The checks of R88 -/

/-- The bytes of an image with its ciphertext decrypted (R87). -/
def plainBytes (m : List Host.Cell) (ev : ImgEv) : List Host.Cell :=
  if imgEncrypted m then
    let a := firstSection m
    let n := imgLength m - 128 - a
    Memory.writeAll m a ((ev.plain ++ List.replicate n 0).take n)
  else m

/-- The first eight bytes of an image's digest (R59, R95). -/
def digest8 (ev : ImgEv) : List Byte := (ev.digest ++ List.replicate 8 0).take 8

/-- The node as it would run `im`: what its registers' presence is judged by (R83). -/
def State.asImage (s : State) (im : Image) : State :=
  ({ s with fab := { s.fab with image := some im, hidden := false } } : State).installFabric im

/-- The region whose stall or instance owns a register. -/
def State.ownerRegion (s : State) : Owner → Option Nat
  | .stall n => (s.stallAt n).map (fun t => t.cfg.region)
  | .echo i => (s.echoStall i).map (fun t => t.cfg.region)
  | .nlp i => (s.nlpStall i).map (fun t => t.cfg.region)
  | .callDet d => (s.calldetStall d).map (fun t => t.cfg.region)
  | .hcodec => s.hcodecStall.map (fun t => t.cfg.region)
  | _ => none

/-- A PARAM record's address is one that R83 allows; `s` is the node as it would run the image. -/
def State.paramOk (s : State) (p : ParamRec) : Bool :=
  p.addr % 4 == 0 && p.addr / 0x10000 != 9 && p.addr / 0x10000 != 1 &&
  (match regRow p.addr with
   | none => false
   | some r => r.fields.any (fun f => f.acc != .ro) && s.present p.addr r &&
      (p.region == 255 || s.ownerRegion r.owner == some p.region))

/-- Key slot `k` of the security partition holds an image-verification key; the slots are 0 to 3 (R85, R86). -/
def State.imageKey (s : State) (k : Nat) : Bool := decide (k < 4) && s.isle.imageKeys.any (fun q => q.1 = k)

/-- Steps 1 to 7 of R88 on tack candidate `t`: the code of R89, and the image where it is 0. -/
def State.fullCheck (s : State) (t : Nat) (ev : ImgEv) : Nat × Option Image :=
  let m := s.tackBytes t
  let strap := s.get F.SYS_PERSONA_STRAP
  if (if s.get F.BOOT_STATUS_SRC = 1 then 1048576 else 524288) < imgLength m ∨ !formatOk m ∨ imgPartial m then (1, none)
  else if !s.imageKey (imgKeyId m) ∨ imgAlgorithm m ≠ 1 then (2, none)
  else if !ev.sigOk then (3, none)
  else if !compatible s.running (imgVec m) then (4, none)
  else if imgEncrypted m && (!s.isle.tackKey || !ev.tagOk) then (5, none)
  else
    let p := plainBytes m ev
    if !innerOk p then (1, none)
    else if !sectionCountsOk p then (6, none)
    else match parseImage p with
      | none => (6, none)
      | some im =>
        let ring := (resolvePorts im ((effectivePersona strap im.ports.personality).getD strap)).ring
        if !sectionsOk im im ring || !im.params.all (s.asImage im).paramOk then (6, none)
        else if !claimsOk im im then (7, none)
        else if !personaOk im strap then (8, none)
        else (0, some im)

/-! ### A refused load (R31, R89, R698) -/

/-- The record of a refused image (R31, R89). -/
def State.logImageRefused (s : State) (code iid sink : Nat) : State :=
  (if code = 8 then s.ev .personaRefused 255 0xFFFFFFFF 0 0 else s).ev .imageRefused 255 code iid sink

/-- The full load of candidate `t` is refused with `code`: what was written is cleared, the slot is INVALID, and the procedure
of R697 resumes, the load's registers still hidden until a load ends (R93); with BOOT_SRC host the node waits for the host
again (R699). -/
def State.loadRefused (s : State) (t code : Nat) : State :=
  let s := s.logImageRefused code (u32 (s.tackBytes t) 0x10) s.boot.wantSink
  let waits := s.get F.BOOT_STATUS_SRC = 2
  let s := { s with
    fab := { FabState.reset with hidden := s.fab.hidden || !waits }, boot := { s.boot with want := none } }
  let s := s.powerGroups 0
  let s := if s.get F.BOOT_STATUS_SRC ≠ 1 ∧ s.tackState t = 3 then s.trialFailed (2 + t) 2 else s.badTack t
  if s.get F.BOOT_STATUS_SRC = 2 then (s.set F.BOOT_STATUS_PHASE 6).showBoot
  else
    let r := s.nextPair s.boot.rest
    match r.2 with
    | [] => ((r.1.enterHalter 1).setB F.BOOT_STATUS_FALLBACK true).setB F.BOOT_IRQ_FALLBACK true
    | (f, u) :: rest => if f = s.get F.BOOT_STATUS_FW_SLOT then r.1.startPair f u rest false else r.1.wdtReset

/-! ### Building what the image says -/

/-- A MAC port's domain powers down: its queues are empty and its counters 0 (R474). -/
def State.macOff (s : State) (p : Nat) : State :=
  let s := (s.updMac p (fun q => { q with rxq := [], txq := [] })).showQueues p
  (List.range 52).foldl (fun s n => s.set (F.STAT_CNT_COUNT p n) 0) s

/-- The power domains and stall groups of the running image (R153, R474, R745). -/
def State.loadDomains (s : State) (im : Image) (r : PortsRec) : State :=
  let want := fun (d : Nat) =>
    if d = 5 then r.ring.testBit 0
    else if d = 6 then r.ring.testBit 1
    else if d = 7 then r.maccIop == 1
    else if d = 8 then r.maccIop == 1 || r.ring != 0
    else im.stalls.any (fun t => t.template == 8)
  let s := [5, 6, 7, 8, 9].foldl (fun s d =>
    if want d then s.setBit F.PWR_DOM_ON_ON d true
    else (if d < 8 ∧ s.domOn d then s.macOff (d - 5) else s).dropDomain d) s
  let s := { s with power := { s.power with upQueue := s.power.upQueue.filter (fun d => !(decide (d < 10) && want d)) } }
  s.powerGroups s.claimedGroups

/-- The TG block, keys and crosspoints of the image (R302, R303, R326). A wake talk request stays raised: only its hang time ends
it (R194). -/
def State.loadTg (s : State) (im : Image) : State :=
  let s := { s with
    regs := s.regs.filter (fun e => e.1 / 32 / 0x10000 != 0x11)
    tg := { TgState.reset with wakeReq := s.tg.wakeReq, xps := im.xps.map (fun (x : XpRec) => { emptyXp x.input x.output with stored := x.gain }) } }
  let s := (s.dimReset (some im)).set F.TG_SIDETONE_IN ((mixInputsFrom im.stalls im.links 0x80 8).headD 0)
  let s := (List.range 64).foldl (fun s g =>
    if !im.groupMask.testBit g then s
    else
      let s := match mixOutputsTo im.stalls im.links 0x86 g with
        | [o] => (s.set (F.TG_GROUP_TALK_OUT g) o).setB (F.TG_GROUP_TALK_VALID g) true
        | _ => s
      match mixInputsFrom im.stalls im.links 0x86 g with
      | [i] => (s.set (F.TG_GROUP_LISTEN_IN g) i).setB (F.TG_GROUP_LISTEN_VALID g) true
      | _ => s) s
  im.keys.foldl (fun s (k : KeyRec) =>
    let s := (s.setB (F.TG_KEY_SLOT_PRESENT k.slot) true).set (F.TG_KEY_SLOT_GROUP k.slot) k.group
    let s := (s.setB (F.TG_KEY_SLOT_TALK k.slot) k.talk).setB (F.TG_KEY_SLOT_LISTEN k.slot) k.listen
    let s := (s.set (F.TG_KEY_SLOT_SOURCE k.slot) k.source).set (F.TG_KEY_SLOT_SOURCE_INDEX k.slot) k.sourceIndex
    (s.set (F.TG_KEY_SLOT_MODE k.slot) k.mode).set (F.TG_KEY_SLOT_PRIORITY k.slot) k.priority) s

/-- The TDM slots that the image links (R263). -/
def State.loadTdm (s : State) (im : Image) : State :=
  let s := { s with line := { s.line with tdm := LineState.reset.tdm } }
  (List.range 64).foldl (fun s k =>
    (s.setB (F.TDM_SLOT_RX_EN (k / 16) (k % 16)) (im.links.any (fun l => coversSrc l 0x83 k))).setB
      (F.TDM_SLOT_TX_EN (k / 16) (k % 16)) (im.links.any (fun l => coversDst l 0x83 k))) s

/-- The MAC queues of the image start empty, each transmit threshold at its START_THRESHOLD (R503, R519). -/
def State.loadQueues (s : State) : State :=
  (List.range 3).foldl (fun s p =>
    let s := (s.updMac p (fun q => { q with rxq := [], txq := [] })).showQueues p
    (List.range 8).foldl (fun s q =>
      let n := ((s.queueRec p q true).map (fun r => r.thresh)).getD 0
      (s.set (F.MAC_TXQ_THRESH_START p q) n).set (F.MAC_TXQ_THRESH_CURRENT p q) n) s) s

/-- The ring as PORTS sets it (RING_CTRL, RING_ID). -/
def State.loadRing (s : State) (r : PortsRec) : State :=
  let was := s.getB F.RING_CTRL_ENABLE
  let id := s.get F.RING_ID_NODE_ID
  let s := (s.setB F.RING_CTRL_ENABLE (r.ring != 0)).setB F.RING_CTRL_CANDIDATE (r.candidate == 1)
  let s := (s.set F.RING_CTRL_PRECEDENCE r.precedence).set F.RING_ID_RING_NUMBER r.ringNumber
  let s := s.set F.RING_ID_NODE_ID r.nodeId
  (if id = r.nodeId then s else s.ringIdWritten).ringCtrlWritten was

/-- Step 8 of R91: the line die configured over the tether link (R34–R37, R41, R235, R761). -/
def State.loadLine (s : State) (r : PortsRec) : State :=
  let first := !s.line.configured
  let s := { s with
    line := { s.line with headset := r.headset == 1, configured := true }
    power := { s.power with psePorts := r.pse, lineReset := s.power.lineReset && s.lineHeld } }
  let s := (s.setB F.CONV_SPK_EN (r.speaker == 1)).spkWritten
  let s := s.set F.CONV_FW_CFG_EN r.fourwire
  let s := (List.range 2).foldl (fun s n => (s.setB (F.PSE_CFG_EN n) (r.pse.testBit n)).pseEnWritten n) s
  let s := (s.set (F.LINE_SRC_CFG_VOLTS 0) r.voltsA).set (F.LINE_SRC_CFG_VOLTS 1) r.voltsB
  let s := (List.range 4).foldl (fun s c =>
    let v := if c < 2 then r.termA else r.termB
    if s.get (F.HYB_CH_CFG_TERM c) = v then s else (s.set (F.HYB_CH_CFG_TERM c) v).termChanged c) s
  let s := (s.setRoleCode 0 r.roleA first).setRoleCode 1 r.roleB first
  let s := (List.range 4).foldl (fun s b =>
    s.setBit F.PWR_LINE_ON_ON b (if b < 2 then s.roleCode b != 0 else r.pse.testBit (b - 2))) s
  (s.syncPower).stepLamps

/-- Everything that steps 6 to 8 of R91 build of an accepted image. -/
def State.buildImage (s : State) (im : Image) (digest : List Byte) : State :=
  let strap := s.get F.SYS_PERSONA_STRAP
  let p := (effectivePersona strap im.ports.personality).getD strap
  let r := resolvePorts im p
  let s := ((s.set F.SYS_PERSONA_EFFECTIVE p).setCaps (capsOf p)).setB F.SYS_PERSONA_OVERRIDDEN (p != strap)
  let s := s.set F.SYS_PERSONA_HOST_MODE r.hostMode
  let s := { s with host := { s.host with wdogRunning := r.hostMode == 1 && !s.getB F.SYS_PERSONA_HOST_LOST } }
  let s := (s.set F.FAB_SWAP_STATUS_STATE 0).set F.FAB_SWAP_STATUS_SWAPPED_MASK 0
  let s := { s with
    swap := SwapState.reset
    fab := { FabState.reset with image := some im, baseDigest := digest, loaded := true } }
  let s := ((s.installFabric im).showFabric im).fillSram im.stalls
  let s := (s.loadDomains im r).clearHistory
  let s := s.startAllEchoes
  let s := { s with call := { s.call with dets := s.call.dets.filter (fun d => decide (d.input < 4)) } }
  let s := (((((s.loadTg im).loadPanel im).syncKeys).loadTdm im).loadQueues).loadRing r
  let s := s.setB F.WAKE_CTRL_ENABLE (r.wake == 1 && s.hcodecStall.isSome)
  s.loadLine r

/-! ### PARAM records and the journal (R82, R135, R210, R211, R685) -/

/-- A steward write of the bits of `mask` of `value` to `addr`, decided at once. -/
def State.stewardWrite (s : State) (addr value mask : Nat) : State :=
  (s.decideWrites [⟨.steward, addr, value, mask, .direct⟩]).1

/-- One PARAM record applied (R82); one of MIC_PRIV after LOCKED is skipped and recorded (R211). -/
def State.applyParam (s : State) (p : ParamRec) : State :=
  if p.addr = F.MIC_PRIV_MUTE.addr ∧ s.getB F.MIC_PRIV_LOCKED then s.addLog Ev.writeRefused.type 0 0 p.addr p.value 0
  else match regRow p.addr with
    | none => s
    | some r =>
      let cur := s.readReg .steward p.addr r
      s.stewardWrite p.addr (cur - Nat.land cur p.mask + Nat.land p.value p.mask) (2 ^ 32 - 1)

/-- The layer ends that the PARAM records left are restored to those of R134 unless they are legal (R135). -/
def State.checkLayers (s : State) (im : Image) : State :=
  let l := layerCount im
  let ends := (List.range l).map (fun k => s.get (F.FAB_LAYER_END_END k))
  if ends.all (fun e => decide (16 ≤ e ∧ e ≤ 984)) && (ends.zip (ends.drop 1)).all (fun x => decide (x.1 < x.2)) then s
  else
    ((List.range l).foldl (fun s k => s.set (F.FAB_LAYER_END_END k) (defaultLayerEnd l k)) s).ev .layerDefaulted 255 0 0 0

/-- One SETTING record replayed; a value that its register refuses is skipped and recorded (R685). -/
def State.replayOne (s : State) (j : JRec) : State :=
  let refused := s.addLog Ev.writeRefused.type 0 (match regRow j.addr with
    | some r => s.powerDomain r.dom
    | none => 255) j.addr j.value 0
  if j.addr = F.TG_XP_WRITE_GAIN.addr then
    let i := bitsOf j.value 16 8
    let o := bitsOf j.value 8 8
    if s.pairInMix i o && decide (bitsOf j.value 0 8 ≤ 216) && !s.isSidetone i o then s.xpWrite i o (bitsOf j.value 0 8)
    else refused
  else match regRow j.addr with
    | none => refused
    | some r =>
      let t := s.stewardWrite j.addr j.value j.mask
      if Nat.land (t.readReg .steward j.addr r) j.mask = Nat.land j.value j.mask then t else refused

/-- The settings journal replayed in standalone mode (R45, R46, R685). -/
def State.replay (s : State) : State :=
  if s.getB F.SYS_PERSONA_HOST_MODE then s
  else
    let l := (s.journal.slots.map (fun p => p.2)).filter (fun j => j.setting && j.image == s.fab.baseDigest)
    (sortBy (fun a b => decide (a.seq ≤ b.seq)) l).foldl State.replayOne s

/-- Execute FULL_LOAD: the wanted image is checked and built, its PARAM records and the journal are applied, and the FAB, TG,
ECHO, CALL and IOP registers stay hidden until the stalls start (R88–R93). -/
def execFullLoad (ev : ImgEv) (s : State) : Host.Outcome State Fault Refusal :=
  s.done (match s.boot.want with
    | none => s
    | some t =>
      if s.fab.running ∨ s.fab.rampDown.isSome ∨ s.fab.loaded then s
      else match s.fullCheck t ev with
        | (_, some im) =>
          let s := s.buildImage im (digest8 ev)
          let s := im.params.foldl State.applyParam s
          let s := s.setB F.MIC_PRIV_LOCKED true
          let s := (s.checkLayers im).replay
          { s with fab := { s.fab with hidden := true }, boot := { s.boot with want := none } }
        | (code, none) => s.loadRefused t code)

/-! ### Starting the stalls -/

/-- The format of a wake-model image for slot `k` (R680). -/
def modelFormatOk (m : List Host.Cell) (k : Nat) : Bool :=
  let n := u32 m 8
  Memory.readAll m 0 4 == [0x56, 0x58, 0x57, 0x4D] && u16 m 4 == 1 && u16 m 6 == 32 && u8 m 12 == k && zeros m 13 3 &&
  zeros m 18 2 && zeros m 30 2 &&
  decide (144 ≤ n ∧ n ≤ 114688 ∧ n % 16 = 0) && zeros m (n - 110) 2 && zeros m (n - 12) 12

/-- The running application part and step suit a wake model (R691). -/
def State.modelVecOk (s : State) (m : List Host.Cell) : Bool :=
  let v := vecAt m 16
  vecStepOk v && charterMet v.appMajor v.appMinor s.running.app.appMajor s.running.app.appMinor

/-- The key that signed a wake model is enrolled, and its algorithm the one of R86. -/
def State.modelKeyOk (s : State) (m : List Host.Cell) : Bool :=
  let n := u32 m 8
  s.imageKey (u8 m (n - 112)) && u8 m (n - 111) == 1

/-- The wake-model slots verified: one that fails is absent, marked INVALID and recorded (R704). -/
def State.verifyModels (s : State) (verdicts : List Bool) : State :=
  (List.range 4).foldl (fun s k =>
    if s.boot.models.getD k 0 = 0 then { s with mic := { s.mic with models := putBit s.mic.models k false } }
    else
      let m := s.boot.wake.getD k []
      let ok := modelFormatOk m k && s.modelVecOk m && s.modelKeyOk m && verdicts.getD k false
      let s := { s with
        mic := { s.mic with models := putBit s.mic.models k ok }
        boot := { s.boot with models := s.boot.models.set k (if ok then 1 else 2) } }
      if ok then s else s.ev .modelRefused 255 k 0 0) s

/-- The registers that name the image which now runs (R110). -/
def State.showImage (s : State) (im : Image) : State :=
  let q := s.get F.BOOT_STATUS_SRC = 1
  let s := (s.set F.FAB_IMAGE_ID_IMAGE_ID im.imageId).set F.FAB_IMAGE_VER_IMAGE_VERSION im.version
  let s := s.set F.FAB_IMAGE_DIGEST_HI_DIGEST_0_3 (beNat (s.fab.baseDigest.take 4))
  let s := s.set F.FAB_IMAGE_DIGEST_LO_DIGEST_4_7 (beNat ((s.fab.baseDigest.drop 4).take 4))
  let s := (s.set F.FAB_IMAGE_INFO_REGIONS im.regions.length).setB F.FAB_IMAGE_INFO_ENCRYPTED im.encrypted
  (s.set F.FAB_IMAGE_INFO_SOURCE (if q then 1 else 0)).set F.FAB_IMAGE_INFO_SLOT
    (if q then 0 else s.get F.BOOT_STATUS_TACK_SLOT)

/-- Execute STALLS_START: at a boundary after the load the stalls start and the outputs ramp in, boot lock is set, the host's
level and the wake models are checked (R91 step 10, R144, R690, R694, R703, R704, R706, R717). -/
def execStallsStart (ms : Nat) (models : List Bool) (s : State) : Host.Outcome State Fault Refusal :=
  s.done (match s.fab.image with
    | none => s
    | some im =>
      if !s.fab.loaded ∨ !s.strideOn ∨ s.fab.rampDown.isSome then s
      else
        let r := resolvePorts im (s.get F.SYS_PERSONA_EFFECTIVE)
        let cap := s.activeCap
        let vin := if s.getB F.SYS_PERSONA_CAP_PL_SINK then r.vinMask else r.vinMask - Nat.land r.vinMask 6
        let s := s.fab.stalls.foldl (fun s t => s.set (F.FAB_STALL_CLK_SETPOINT t.n) cap) s
        let s : State := { s with
          fab := { s.fab with
            running := true, loaded := false, hidden := false, outRamp := Ramp.silent.aim true 240
            stalls := s.fab.stalls.map (fun (t : Stall) => { t with since := s.stride }) }
          echo := { s.echo with insts := s.echo.insts.map (fun (e : EchoInst) => { e with dueAt := s.stride + 2000, lastResult := s.stride }) }
          boot := { s.boot with audioAt := some s.stride }
          power := { s.power with vinMask := vin } }
        let s := (s.showImage im).setB F.BOOT_STATUS_LOCKED true
        let s := s.set F.BOOT_STATUS_PHASE 3
        let s := if s.get F.BOOT_TIME_AUDIO_MS = 0 then s.set F.BOOT_TIME_AUDIO_MS (Nat.min 65535 ms) else s
        let s := ((s.showApi (some im.vec)).markVetted im.vec.schema).showBoot
        let s := if s.getB F.SYS_HOST_API_DECLARED then
            (if s.apiBad then (s.setB F.SYS_HOST_API_MISMATCH true).setB F.BOOT_IRQ_API_MISMATCH true
             else s.setB F.SYS_HOST_API_MISMATCH false)
          else s
        let s := (s.setB F.PWR_IN_STATUS_COLD_START false).syncPower
        ((s.startMix s.remoteClass).verifyModels models).showBoot.wakeSync)

/-- The stalls stop at the end of a ramp to silence (R92 step 2). -/
def State.stopStalls (s : State) : State :=
  let s := (s.stagesOff).clearHistory
  ({ s with
    fab := { s.fab with stalls := [], links := [], sinks := [], running := false, rampDown := none, outRamp := Ramp.full }
    echo := EchoState.reset
    call := { s.call with dets := s.call.dets.filter (fun d => decide (d.input < 4)) }
    boot := { s.boot with audioAt := none } } : State).powerGroups 0

end Sys2Proof.Machine
end

