-- ==== Sys2Proof/Machine/Swap.lean ====
section
/-! DEFINITION. Swapping a region live (R94–R114, R160, R221, R297, R340). -/

namespace Sys2Proof.Machine

/-! ### The checks -/

/-- The running image with the regions of `im` in the place of its own. A stall that `im` masks and that another region of the
running image claims counts as `im`'s, so that the section checks judge `im` alone and R97's check meets the overlap.
DESIGN CHOICE (log entry 25): the interop streams present stay those of the running image's claims; a partial image's stream
claims, which describe only its regions (R66), add and remove none. -/
def replaceRegions (run im : Image) : Image :=
  let ids := im.regions.map (·.id)
  let taken := (im.regions.map (·.stalls)).foldl Nat.lor 0
  { run with
    regions := (run.regions.filter (fun r => !ids.contains r.id)).map (fun r =>
      { r with stalls := r.stalls - Nat.land r.stalls taken }) ++ im.regions
    stalls := run.stalls.filter (fun t => !ids.contains t.region && !taken.testBit t.stall) ++ im.stalls
    links := run.links.filter (fun l => !ids.contains l.region && !(decide (l.src < 128) && taken.testBit l.src) &&
      !(decide (l.dst < 128) && taken.testBit l.dst)) ++ im.links
    names := run.names ++ im.names }

/-- One round of the layer rule with the layers of `fixed` held. -/
def pinnedRound (whole : Image) (fixed lay : List (Nat × Nat)) : List (Nat × Nat) :=
  (layerRound whole lay).map (fun p => (p.1, (fixed.lookup p.1).getD p.2))

/-- `k` rounds of it. -/
def pinnedRounds (whole : Image) (fixed : List (Nat × Nat)) : Nat → List (Nat × Nat) → List (Nat × Nat)
  | 0, l => l
  | k + 1, l => pinnedRounds whole fixed k (pinnedRound whole fixed l)

/-- The layers that a swap gives, each outside stall keeping its own (R160). -/
def State.swapLayers (s : State) (whole : Image) (ids : List Nat) : List (Nat × Nat) :=
  pinnedRounds whole ((s.fab.stalls.filter (fun (t : Stall) => !ids.contains t.cfg.region)).map (fun (t : Stall) => (t.n, t.layer))) 12 []

/-- What R98 compares of a region's EDGE links: EDGE_ID, the outside end, the direction, and the channel count. -/
def edgesOf (im : Image) (id : Nat) : List (Nat × Nat × Nat × Bool × Nat) :=
  (im.links.filter (fun l => l.region == id && l.edge)).map (fun l =>
    if l.dst < 128 then (l.edgeId, l.src, l.srcPort, true, l.channels) else (l.edgeId, l.dst, l.dstPort, false, l.channels))

/-- Two lists hold the same members. -/
def sameSet {α : Type} [BEq α] (a b : List α) : Bool := a.all (b.contains ·) && b.all (a.contains ·)

/-- The checks of R95 to R98: the code of the first that fails, 0 for none. -/
def State.swapCheck (s : State) (run im : Image) : Nat :=
  if im.baseDigest ≠ s.fab.baseDigest then 9
  else if !im.regions.all (fun r => run.regions.any (fun q => q.id == r.id && q.swappable)) then 10
  else if im.regions.any (fun r => run.regions.any (fun q => Nat.land q.stalls r.stalls != 0)) then 11
  else if !im.regions.all (fun r => sameSet (edgesOf im r.id) (edgesOf run r.id)) then 12
  else 0

/-- Steps 1 to 7 of R88 for the staged partial image, then the swap checks: the code of R89, and the image where it is 0. A
link of another region that reads a stall which goes leaves a harness that R73 refuses. -/
def State.partialCheck (s : State) (ev : ImgEv) : Nat × Option Image :=
  let m := s.swap.cur
  if 131072 < imgLength m ∨ !formatOk m ∨ !imgPartial m then (1, none)
  else if !s.imageKey (imgKeyId m) ∨ imgAlgorithm m ≠ 1 then (2, none)
  else if !ev.sigOk then (3, none)
  else if !compatible s.running (imgVec m) then (4, none)
  else if imgEncrypted m && (!s.isle.tackKey || !ev.tagOk) then (5, none)
  else
    let p := plainBytes m ev
    if !innerOk p then (1, none)
    else if !sectionCountsOk p then (6, none)
    else match parseImage p, s.fab.image with
      | some im, some run =>
        let ids := im.regions.map (·.id)
        let whole := replaceRegions run im
        let t := s.asImage { whole with stalls := im.stalls }
        if !sectionsOk im whole 0 || !whole.links.all (linkRecOk whole) || !im.params.all t.paramOk ||
            !(s.swapLayers whole ids).all (fun q => decide (q.2 < s.get F.FAB_LAYERS_COUNT)) then (6, none)
        else if !claimsOk im whole then (7, none)
        else if !(secs p 4).isEmpty || !im.links.all (fun l => (List.range l.channels).all (fun k =>
            endpointNeedsOk (capsOf (s.get F.SYS_PERSONA_EFFECTIVE)) l.src (l.srcPort + k) &&
            endpointNeedsOk (capsOf (s.get F.SYS_PERSONA_EFFECTIVE)) l.dst (l.dstPort + k))) then (8, none)
        else
          let c := s.swapCheck run im
          if c = 0 then (0, some im) else (c, none)
      | _, _ => (6, none)

/-- The swap in progress is over: what the swap buffer holds stays there. -/
def SwapState.ended (w : SwapState) : SwapState :=
  { w with cur := [], img := none, at_ := none, k := 0, atStride := none, passed := false }

/-- The swap is refused with `code`: its result, its record, and the landing stalls released (R89, R114). -/
def State.swapRefused (s : State) (code : Nat) : State :=
  let s := s.logImageRefused code (u32 s.swap.cur 0x10) 2
  let s := (s.set F.FAB_SWAP_STATUS_STATE (bit1 s.swap.fresh)).set F.FAB_SWAP_STATUS_RESULT code
  ({ s with swap := s.swap.ended } : State).powerGroups s.claimedGroups

/-- Boundary S of R100 on the stride counter, for a swap that lands in this stride with no matching boundary behind it. -/
def State.swapStride (s : State) : Nat :=
  match s.swap.atStride with
  | some a => s.count + (a + 65535 - s.count % 65536) % 65536 + 1
  | none => s.count + 1

/-- Stall groups of a list of stall records. -/
def groupsOf (l : List StallRec) : Nat := bitsWhere 16 (fun g => l.any (fun t => t.stall / 8 == g))

/-- Execute SWAP_LANDED: the image is refused, or its stalls are loaded and wait for boundary S; one that lands less than two
strides before a boundary S of AT_STRIDE has missed it (R94–R100, R114, R160). -/
def execSwapLanded (ev : ImgEv) (s : State) : Host.Outcome State Fault Refusal :=
  s.done (if s.get F.FAB_SWAP_STATUS_STATE ≠ 2 then s
  else match s.partialCheck ev with
    | (_, some im) =>
      let b := s.swapStride
      if s.swap.passed || (s.swap.atStride.isSome && decide (b ≤ s.count + 2)) then s.swapRefused 14
      else
        let s := { s with swap := { s.swap with img := some im, at_ := some (s.stride + (b - s.count)), k := 0 } }
        ((s.fillSram im.stalls).powerGroups (Nat.lor s.claimedGroups (groupsOf im.stalls))).set F.FAB_SWAP_STATUS_STATE 3
    | (code, none) => s.swapRefused code)

/-! ### Boundary S -/

/-- A stall of a replaced region retires; a MIX keeps crosspoints of its own. -/
def State.retire (s : State) (t : Stall) : Stall :=
  { t with retiring := true, mem := if t.cfg.template = 0 then .mix s.tg.xps else t.mem }

/-- A new link: silent, but an inward EDGE link carries what the old region's link of its EDGE_ID carries (R101). -/
def State.enterLink (s : State) (l : LinkRec) : Link :=
  match s.fab.links.find? (fun (o : Link) => o.cfg.region = l.region ∧ l.edge ∧ o.cfg.edge ∧ o.cfg.edgeId = l.edgeId ∧
      l.dst < 128) with
  | some o => { freshLink l with slots := o.slots, committed := o.committed, entering := true }
  | none => { freshLink l with entering := true }

/-- The crosspoints of the node mix as boundary S leaves them: stored gains stay for the pairs that the mix still serves, and
the ramps of a new MIX stall start from silence (R340). -/
def State.swapXps (s : State) (im : Image) : State :=
  let fresh := fun (x : Xp) => im.stalls.any (fun t => t.template = 0 ∧ t.w 3 ≤ x.output ∧ x.output < t.w 3 + t.w 1)
  ({ s with tg := { s.tg with xps := (s.tg.xps.filter (fun (x : Xp) => s.pairInMix x.input x.output)).map (fun (x : Xp) =>
      if fresh x then { x with target := 0, rampFrom := 0, rampTo := 0, rampLen := 0, rampPos := 0 } else x) } } : State).stepTargets

/-- The instances of the new regions start: echo cancellers idle with clear taps, detectors anew, and no result of theirs is
ready (R106, R107, R297). -/
def State.enterInstances (s : State) (im : Image) : State :=
  let s := im.stalls.foldl (fun s t =>
    if (t.template = 3 ∨ t.template = 4) ∧ t.slice = 0 then
      match s.stallAt t.stall with
      | some u => (s.startEcho u).cellBusy (0xD0020 + 0x100 * echoIndex t)
      | none => s
    else if t.template = 9 then s.cellBusy (0xE0300 + 0x40 * t.w 0)
    else s) s
  let gone := fun (d : Det) => decide (4 ≤ d.input) && (im.stalls.any (fun t => t.template = 9 ∧ t.w 0 = (d.input - 4) / 4) ||
    (s.calldetStall ((d.input - 4) / 4)).isNone)
  { s with
    echo := { s.echo with insts := s.echo.insts.filter (fun e => (s.echoStall e.i).isSome) }
    call := { s.call with dets := s.call.dets.filter (fun d => !gone d) } }

/-- Execute SWAP_BOUNDARY: at boundary S the new region runs beside the old one, whose stalls retire (R101–R107, R144, R179,
R221, R297, R340). -/
def execSwapBoundary (s : State) : Host.Outcome State Fault Refusal :=
  s.done (match s.swap.img, s.fab.image with
    | some im, some run =>
      if s.get F.FAB_SWAP_STATUS_STATE ≠ 3 ∨ s.swap.at_ ≠ some s.stride then s
      else
        let ids := im.regions.map (·.id)
        let whole := replaceRegions run im
        let lay := s.swapLayers whole ids
        let hist := s.fab.stalls.any (fun t => t.cfg.template = 8 ∧ ids.contains t.cfg.region) ||
          im.stalls.any (fun t => t.template = 8)
        let new := im.stalls.map (fun r => { freshStall s.stride ((lay.lookup r.stall).getD 0) r with entering := true })
        let links := im.links.map s.enterLink
        let s : State := { s with
          swap := { s.swap with k := 0 }
          fab := { s.fab with
            image := some whole
            stalls := s.fab.stalls.map (fun (t : Stall) => if ids.contains t.cfg.region then s.retire t else t) ++ new
            links := s.fab.links.map (fun (l : Link) => if ids.contains l.cfg.region then { l with retiring := true } else l) ++ links } }
        let s := s.fab.stalls.foldl (fun s t =>
          if t.retiring then s.set (F.FAB_STALL_STATUS_STATE t.n) 2 else if t.entering then s.showStall t 1 else s) s
        let s := (s.swapXps im).enterInstances im
        let s := if hist then s.clearHistory else s
        let s := im.params.foldl State.applyParam s
        (s.set F.FAB_SWAP_STATUS_STATE 4).wakeSync
    | _, _ => s)

/-- An entering link as boundary S + 40 leaves it: the blocks written before it keep the crossfade that they carry (R101). -/
def State.settleLink (s : State) (l : Link) : Link :=
  match s.fab.links.find? (fun (o : Link) => o.retiring ∧ o.cfg.dst = l.cfg.dst ∧ o.cfg.dstPort = l.cfg.dstPort) with
  | none => { l with entering := false }
  | some o => { l with
      entering := false
      slots := (l.slots.zip o.slots).zipIdx.map (fun x =>
        faded s.swap.k (if l.committed then x.2 else x.2 + 1) x.1.1 x.1.2) }

/-- Execute SWAP_CROSSFADE_END: at boundary S + 40 the old region's stalls are released, and their groups powered down where
nothing else claims them (R102, R103, R108, R110). DEDUCED (log entry 25): a partial image that was staged while the swap ran
stays staged. -/
def execSwapCrossfadeEnd (s : State) : Host.Outcome State Fault Refusal :=
  s.done (match s.swap.img with
    | none => s
    | some im =>
      if s.get F.FAB_SWAP_STATUS_STATE ≠ 4 ∨ s.swap.k < 40 then s
      else
        let s := s.fab.stalls.foldl (fun s t =>
          if t.retiring then s.setBit (F.FAB_LAME_MASK_LAME (t.n / 32)) (t.n % 32) false
          else if t.entering then s.set (F.FAB_STALL_STATUS_STATE t.n) (if s.lame t.n then 3 else 0) else s) s
        let s : State := { s with
          swap := if s.swap.fresh then s.swap.ended else SwapState.reset
          fab := { s.fab with
            stalls := (s.fab.stalls.filter (fun (t : Stall) => !t.retiring)).map (fun (t : Stall) => { t with entering := false })
            links := (s.fab.links.filter (fun (l : Link) => !l.retiring)).map (fun (l : Link) => if l.entering then s.settleLink l else l) } }
        let s := im.regions.foldl (fun s r => s.setBit F.FAB_SWAP_STATUS_SWAPPED_MASK r.id true) s
        ((s.set F.FAB_SWAP_STATUS_RESULT 0).set F.FAB_SWAP_STATUS_STATE (bit1 s.swap.fresh)).powerGroups s.claimedGroups)

end Sys2Proof.Machine
end

