-- ==== Sys2Proof/Machine/Commit.lean ====
section
/-! DEFINITION. Committing what a load brought (R710) and the end of a trial by time (R711). -/

namespace Sys2Proof.Machine

/-- The record, state and interrupt of a refused commit of a slot numbered as the boot record numbers it, or of wake-model slot
`n - 4` (R710). -/
def State.commitRefused (s : State) (m n code iid sink : Nat) : State :=
  let s := if n < 4 then s.setSlot n 2
    else ({ s with
      boot := { s.boot with models := s.boot.models.set (n - 4) 2 }
      mic := { s.mic with models := putBit s.mic.models (n - 4) false } } : State).showBoot
  (s.setB F.BOOT_IRQ_COMMIT_REFUSED true).addLog Ev.imageRefused.type m 255 code iid sink

/-- Slot `n` of the boot record passes its commit: a serial above every other, TRIAL, active, and not yet at a first boot
(R710). -/
def State.commitSlot (s : State) (n : Nat) : State :=
  let b := s.boot
  let s := { s with boot := { b with
    serials := b.serials.set n (b.serials.foldl Nat.max 0 + 1)
    states := b.states.set n 3
    active := if n < 2 then (n, b.active.2) else (b.active.1, n - 2)
    trialResets := if n < 2 then 0 else b.trialResets
    fresh := n :: b.fresh.filter (· ≠ n) } }
  (s.setB F.BOOT_IRQ_COMMIT_DONE true).showBoot

/-- The code of R89 for the tack image in MRAM slot `slot` that firmware `fw` is to run; none for no firmware (R86, R689,
R693). -/
def State.tackCommitCode (s : State) (slot : Nat) (fw : Option FwImage) (sigOk : Bool) : Nat :=
  let m := s.boot.tack.getD slot []
  if 524288 < imgLength m ∨ !formatOk m ∨ imgPartial m then 1
  else if !s.isle.imageKeys.any (fun k => k.1 = imgKeyId m) ∨ imgAlgorithm m ≠ 1 then 2
  else if !sigOk then 3
  else match fw with
    | none => 4
    | some f => if !compatible f (imgVec m) || (s.approved && !vettedPair f (imgVec m).schema) then 4 else 0

/-- The full load that a commit NOW of slot `slot` starts (R92, R710). -/
def State.startCommitLoad (s : State) (slot : Nat) : State :=
  let s := if s.get F.BOOT_STATUS_SRC = 1 then s.set F.BOOT_STATUS_SRC 0 else s
  let s := (s.set F.BOOT_STATUS_TACK_SLOT slot).set F.BOOT_STATUS_PHASE 2
  let s := { s with boot := { s.boot with want := some slot, wantSink := 1, rest := s.bootPairs.drop 1 } }
  if s.fab.running then s.startRamp else s

/-- A tack commit of slot `slot` by master code `m`. In recovery boot NOW acts as NEXT_BOOT, for no tack image is loaded for
running there (R713). -/
def State.commitTack (s : State) (m slot : Nat) (now sigOk : Bool) : State :=
  let now := now && s.boot.fwImg.isSome
  let f := s.boot.active.1
  let fw := if now then some s.running
    else if s.boot.states.getD f 0 ≠ 0 ∧ fwFormatOk (s.boot.fw.getD f []) then some (fwImage (s.boot.fw.getD f [])) else none
  let code := s.tackCommitCode slot fw sigOk
  if code ≠ 0 then s.commitRefused m (2 + slot) code (u32 (s.boot.tack.getD slot []) 0x10) 1
  else
    let s := s.commitSlot (2 + slot)
    if now then s.startCommitLoad slot else s

/-- A firmware commit of slot `slot` (R697, R710). -/
def State.commitFw (s : State) (m slot : Nat) (restart sigOk : Bool) : State :=
  let b := s.boot.fw.getD slot []
  let code := if !fwFormatOk b then 1 else if !partsAgree (fwImage b) then 4 else if !sigOk then 3 else 0
  let s := { s with boot := { s.boot with fwSig := s.boot.fwSig.set slot sigOk } }
  if code ≠ 0 then s.commitRefused m slot code 0 3
  else
    let s := s.commitSlot slot
    if restart then s.wdtReset else s

/-- A wake-model commit of slot `slot` (R704, R710). -/
def State.commitModel (s : State) (m slot : Nat) (sigOk : Bool) : State :=
  let b := s.boot.wake.getD slot []
  let code := if !modelFormatOk b slot then 1 else if !s.modelKeyOk b then 2 else if !sigOk then 3
    else if !s.modelVecOk b then 4 else 0
  if code ≠ 0 then s.commitRefused m (4 + slot) code 0 4
  else
    let s := { s with boot := { s.boot with models := s.boot.models.set slot 1, modelDue := some slot } }
    (s.setB F.BOOT_IRQ_COMMIT_DONE true).showBoot

/-- The steward acts on a commit that waits; `sigOk` is the verdict on the image's signature. -/
def State.commit (s : State) (sigOk : Bool) : State :=
  match s.boot.commitDue with
  | none => s
  | some (m, w) =>
    let sink := commitSink w
    let d := s.boot.done.find? (fun d => d.1 = sink)
    let s := { s with boot := { s.boot with commitDue := none, done := s.boot.done.filter (fun d => d.1 ≠ sink) } }
    match d with
    | none => s
    | some (_, slot) =>
      if sink = 1 then s.commitTack m slot (!bitOf w 6) sigOk
      else if sink = 3 then s.commitFw m slot (bitOf w 1) sigOk
      else s.commitModel m slot sigOk

/-- A commit that a plain write of BOOT_COMMIT started is acted on at the next boundary; its verdict is a free value, which a
COMMIT command brings itself (log entry 5). -/
def State.commitFree (s : State) : State :=
  if s.boot.commitDue.isSome then let b := s.freeBool; b.2.commit b.1 else s

/-- A commit row: the write of BOOT_COMMIT, and the steward's action on it where the word is of the row's kind. -/
def State.commitRow (s : State) (m : Master) (w : Word) (kind : Nat → Bool) (sigOk : Bool) : State :=
  let s := s.commitFree
  let s := s.rowWrite m 0x10020 w
  if kind w.toNat then s.commit sigOk else s

/-- Execute COMMIT_TACK_NOW. -/
def execCommitTackNow (m : Master) (w : Word) (ev : ImgEv) (s : State) : Host.Outcome State Fault Refusal :=
  s.done (s.commitRow m w (fun n => bitsOf n 4 2 == 1 && !bitOf n 6) ev.sigOk)

/-- Execute COMMIT_TACK_NEXT_BOOT. -/
def execCommitTackNextBoot (m : Master) (w : Word) (ev : ImgEv) (s : State) : Host.Outcome State Fault Refusal :=
  s.done (s.commitRow m w (fun n => bitsOf n 4 2 == 1 && bitOf n 6) ev.sigOk)

/-- Execute COMMIT_FIRMWARE. -/
def execCommitFirmware (m : Master) (w : Word) (sigOk : Bool) (s : State) : Host.Outcome State Fault Refusal :=
  s.done (s.commitRow m w (fun n => bitsOf n 4 2 == 2) sigOk)

/-- Execute COMMIT_WAKE_MODEL. -/
def execCommitWakeModel (m : Master) (w : Word) (sigOk : Bool) (s : State) : Host.Outcome State Fault Refusal :=
  s.done (s.commitRow m w (fun n => bitsOf n 4 2 == 3) sigOk)

/-- Execute TRIAL_AUTO_CONFIRM: after 30 s of audio every running TRIAL slot is VALID (R711). -/
def execTrialAutoConfirm (s : State) : Host.Outcome State Fault Refusal :=
  s.done (match s.boot.audioAt with
    | none => s
    | some a => if s.fab.running && !s.halter && decide (a + 240000 ≤ s.stride) then s.confirmTrials else s)

end Sys2Proof.Machine
end

