-- ==== Sys2Proof/Machine/Stride.lean ====
section
/-! DEFINITION. STRIDE_BOUNDARY (R137): what the node does at every stride boundary, in one order. The order of the parts
follows R137 and R336; where no rule orders two parts, neither sees the other (log entry 8). -/

namespace Sys2Proof.Machine

/-! ### The counter and the ramps to and from silence -/

/-- The counter at a boundary: the first after the media PLL locks starts it at 0, each later one steps it (R796, R800). -/
def State.stepStride (s : State) : State :=
  if s.strideOn then { s with stride := s.stride + 1 } else { s with strideOn := true }

/-- The ramp to silence has ended: the stalls stop, and a SOFT reset that waited for it takes place (R92, R670). -/
def State.rampEnded (s : State) : State :=
  if s.fab.rampDown = some 0 then
    let t := s.stopStalls
    if s.boot.softDue then t.softReset else t
  else s

/-- What every sink endpoint latches under the ramps of a load: to silence before it, and from silence after it, over 40
strides each (R91, R92, R878). -/
def State.rampSinks (s : State) : State :=
  { s with fab := { s.fab with
      sinks := s.fab.sinks.map (fun q => (q.1, q.2.1, s.fab.outRamp.block q.2.2))
      rampDown := s.fab.rampDown.map (· - 1)
      outRamp := s.fab.outRamp.step } }

/-! ### Writes that waited for the boundary (R336 step 1, R559, R591) -/

/-- A queued write as the boundary decides it: the fields of its register that wait for a boundary. -/
def queuedWrite (q : QWrite) : PWrite :=
  { master := q.master, addr := q.addr, val := q.val.toNat
    mask := match regRow q.addr with
      | some r => strideMask r
      | none => 0
    src := q.src }

/-- The decision of a write goes to the transaction, datagram or copy channel that made it (R559, R599, R609). -/
def State.settle (s : State) (src : WSrc) (c : Code) : State :=
  match src with
  | .direct => s
  | .host id word => s.settleHost id word c
  | .net id op word => s.settleNet id op word c
  | .copy n => s.settleCopy n c

/-- The arbitration of the stride that ends: the writes that waited, and those of the encoders' detents (R591–R594, R617). -/
def State.decideStride (s : State) : State :=
  let d := s.takeDetents
  let ps := s.queued.map queuedWrite ++ d.1
  let r := ({ d.2 with queued := [] } : State).decideWrites ps
  (ps.zip r.2).foldl (fun s x => s.settle x.1.src x.2) r.1

/-! ### The application core and the MAC queues -/

/-- The first `n` frames of queue `q` dropped. -/
def dropFrames (q : Nat) : Nat → List (Nat × List Byte) → List (Nat × List Byte)
  | 0, l => l
  | n + 1, l => dropFrames q n (dropFirst q l)

/-- The application core reads `n` frames from receive queue `q` of port `p`. -/
def State.readFrames (s : State) (p q n : Nat) : State :=
  (s.updMac p (fun m => { m with rxq := dropFrames q n m.rxq })).showQueues p

/-- The application core queues a frame in transmit queue `q` of port `p`, where the image declares that queue and the frame
fits in it. -/
def State.sendFrom (s : State) (p q : Nat) (bytes : List Byte) : State :=
  match s.queueRec p q true with
  | none => s
  | some r =>
    let used := ((s.mac p).txq.filter (fun x => x.1 = q)).foldl (fun n x => n + x.2.length) 0
    if (p < 2 ∧ q = 0) ∨ r.sizeKb * 1024 < used + bytes.length then s else s.enqueue p q bytes

/-- The application core stages a full tack image into the standby MRAM slot, which is EMPTY until a commit names it; no other
load of the slot may be running (R90, R710). -/
def State.stageTack (s : State) (b : List Byte) : State :=
  let st := s.get F.HOST_LOAD_STATUS_STATE
  if 524288 < b.length ∨ ((st = 1 ∨ st = 2) ∧ s.host.loadSink = 1) ∨ s.domOn 3 = false then s
  else
    let slot := 1 - s.boot.active.2
    let s := s.setSlot (2 + slot) 0
    { s with boot := { s.boot with
        tack := s.boot.tack.set slot (Memory.writeAll [] 0 b)
        done := s.boot.done.filter (fun d => d.1 ≠ 1) ++ [(1, slot)] } }

/-- What the application core did in the stride that ends: an image it staged, and the MAC queues. -/
def State.appFrames (s : State) (x : StrideIn) : State :=
  let s := match x.staged with
    | none => s
    | some b => s.stageTack b
  let s := x.reads.foldl (fun s r => s.readFrames r.1 r.2.1 r.2.2) s
  x.sends.foldl (fun s r => s.sendFrom r.1 r.2.1 r.2.2) s

/-! ### Source endpoints -/

/-- The six samples of channel `n` of what the outside delivers, each an audio word. -/
def sixOf (l : List (List Sample)) (n : Nat) : List Sample :=
  (List.range 6).map (fun j => (sat24 ((l.getD n []).getD j 0)).1)

/-- The samples of TDM source port `16 t + k` in the frames that the fabric took from port `t` (R264). -/
def tdmSource (frames : List (List (List Sample))) (p : Nat) : List Sample :=
  (List.range 6).map (fun j => ((frames.getD (p / 16) []).getD j []).getD (p % 16) 0)

/-- What the ADC channels deliver for the stride that ends: of the line channels, the hybrid outputs (R266). -/
def State.adcOutputs (s : State) (x : StrideIn) : List (List Sample) :=
  (List.range 10).map (s.adcDelayed (sixOf x.adc))

/-- What the ADC channels captured in the stride that ends, under the mutes that stood in it (R137, R224). -/
def State.adcCaptured (s : State) (raw : List (List Sample)) : List (List Sample) :=
  (List.range 10).map (fun n => s.adcSource (raw.getD n []) n)

/-- What source endpoint `code` port `p` commits; `adc` and `frames` are what the ADC channels and TDM ports give. Endpoint 0x84 carries no samples of its own: the ASRC stall that it is
linked to reads the receive ring (R521, R527). -/
def State.sourceSamples (s : State) (adc : List (List Sample)) (frames : List (List (List Sample)))
    (code p : Nat) : List Sample :=
  if code = 0x80 then adc.getD p (List.replicate 6 0)
  else if code = 0x82 then s.micSource p
  else if code = 0x83 then tdmSource frames p
  else if code = 0x86 then s.ringSource p
  else List.replicate 6 0

/-- The TDM ports exchange frames with the fabric (R264): the state, and each port's six frames. -/
def State.tdmStride (s : State) : State × List (List (List Sample)) :=
  (List.range 4).foldl (fun (a : State × List (List (List Sample))) t =>
    let r := a.1.tdmBoundary t
    (r.1, a.2 ++ [r.2])) (s, [])

/-! ### Parts that other chapters give the boundary -/

/-- The ring's count is adopted at this boundary where an adoption waits; a swap that waits for AT_STRIDE is then refused with
SWAP_MISSED (R801, R802). -/
def State.adoptStride (s : State) : State :=
  let t := s.adoptBoundary
  if s.ring.adoptAt.isSome && s.get F.FAB_SWAP_STATUS_STATE == 3 && s.swap.atStride.isSome then
    t.swapRefused 14
  else t

/-- PHY_BYPASS_N opens at the first boundary with the ring enabled, outside halter mode (R847). -/
def State.openBypass (s : State) : State :=
  if s.getB F.RING_CTRL_ENABLE && !s.halter then s.updRing (fun r => { r with bypassOpen := true }) else s

/-- A wake model whose commit passed is loaded (R704, R710). -/
def State.loadModel (s : State) : State :=
  match s.boot.modelDue with
  | none => s
  | some m => { s with
      boot := { s.boot with modelDue := none }, mic := { s.mic with models := putBit s.mic.models m true } }

/-- The media PLL tracks its target (R798). -/
def State.trackMedia (s : State) (x : StrideIn) : State :=
  let m := s.get F.CLK_STATUS_MODE
  if m = 1 ∨ m = 2 then s.steer m x.phaseNs x.pull else s

/-- The count since boundary S of a swap under way (R101), and whether the boundary that AT_STRIDE names has come while the
image is still verified (R100, R114). -/
def State.stepSwap (s : State) : State :=
  if s.get F.FAB_SWAP_STATUS_STATE = 4 then { s with swap := { s.swap with k := s.swap.k + 1 } }
  else if s.get F.FAB_SWAP_STATUS_STATE = 2 && s.swap.atStride == some (s.count % 65536) then
    { s with swap := { s.swap with passed := true } }
  else s

/-- A call input that measured nothing: 120 dB below nominal. -/
def noCall : CallMeas := ⟨1200, 1200, 0⟩

/-! ### The boundary -/

/-- The network side of a boundary: the application core's frames, the ring, and the group talk it carries. -/
def State.netStride (s : State) (x : StrideIn) : State :=
  let s := s.updNet (fun q => { q with sent := [] })
  let s := ((s.appFrames x).ringBoundary.adoptStride).openBypass
  s.latchTalk

/-- The mix at a boundary: steps 2 to 8 of R336, then what follows from talk that opened or closed. -/
def State.mixStride (s : State) (x : StrideIn) : State :=
  let was := s.tg.xps
  let s := ((s.mixEvaluate s.remoteClass).markTalks was).fogBoundary
  (s.callBoundary (fun n => x.calls.getD n noCall)).iopBoundary x.ptp x.advance

/-- The line die, converters and power at a boundary. -/
def State.lineStride (s : State) (x : StrideIn) (hyb : List (List Sample)) : State :=
  let s := (s.applyMeas x.power).avsStride
  let s := (((s.releaseShorts).closeSwitches.restoreBalances).endTalkBalances).echoBoundary
  s.converterStride (fun n => hyb.getD n [])

/-- The fabric begins its next stride: clocks, catch-up and swap step, stalls begin, and source endpoints commit (R137). -/
def State.fabStride (s : State) (adc : List (List Sample)) (frames : List (List (List Sample))) : State :=
  let s := (s.stepCapture.applyClocks.stepCatchup).stepSwap
  s.beginStride.commitSources (s.sourceSamples adc frames)

/-- Execute STRIDE_BOUNDARY (R137 and the rules of `spec/95_what_each_step_holds.md` under it): without a locked media PLL
there is no boundary. -/
def execStrideBoundary (x : StrideIn) (s : State) : Host.Outcome State Fault Refusal :=
  s.done (if !s.strideOn && !s.getB F.CLK_STATUS_MEDIA_LOCK then s
  else
    let s := s.finishWork.stepStride.rampEnded
    let raw := s.adcOutputs x
    let adc := s.adcCaptured raw
    let s := (((s.stepAdc (sixOf x.adc)).micStride x.mic).rtcTicks x.ticks).decideStride
    let s := s.latchSinks.rampSinks
    let s := (s.netStride x).mixStride x
    let s := s.lineStride x raw
    let t := s.tdmStride
    let s := (t.1.stepPause.ringLpi).trackMedia x
    let s := (s.fabStride adc t.2).stepPwm
    s.loadModel.commitFree)

end Sys2Proof.Machine
end

