-- ==== Sys2Proof/Machine/Dispatch.lean ====
section
/-! DEFINITION. One arm for each command: its meaning, called by its full name. -/

namespace Sys2Proof.Machine

def exec (i : Instr) (s : State) : Host.Outcome State Fault Refusal :=
  match i with
  | .powerOnReset straps flash serial mac self => Sys2Proof.Machine.execPowerOnReset straps flash serial mac self s
  | .pinReset us straps flash => Sys2Proof.Machine.execPinReset us straps flash s
  | .watchdogExpiry => Sys2Proof.Machine.execWatchdogExpiry s
  | .softReset m w => Sys2Proof.Machine.execSoftReset m w s
  | .selfTestsComplete failed osc ident pairOk => Sys2Proof.Machine.execSelfTestsComplete failed osc ident pairOk s
  | .fullLoad ev => Sys2Proof.Machine.execFullLoad ev s
  | .stallsStart ms models => Sys2Proof.Machine.execStallsStart ms models s
  | .swapGo m w => Sys2Proof.Machine.execSwapGo m w s
  | .swapLanded ev => Sys2Proof.Machine.execSwapLanded ev s
  | .swapBoundary => Sys2Proof.Machine.execSwapBoundary s
  | .swapCrossfadeEnd => Sys2Proof.Machine.execSwapCrossfadeEnd s
  | .strideBoundary x => Sys2Proof.Machine.execStrideBoundary x s
  | .stallStart n => Sys2Proof.Machine.execStallStart n s
  | .blockCommit n commitAt mhz2 => Sys2Proof.Machine.execBlockCommit n commitAt mhz2 s
  | .layerEnd k => Sys2Proof.Machine.execLayerEnd k s
  | .clockSlackCheck1S n => Sys2Proof.Machine.execClockSlackCheck1S n s
  | .clockSlackCheck64 n => Sys2Proof.Machine.execClockSlackCheck64 n s
  | .micStuck pair us => Sys2Proof.Machine.execMicStuck pair us s
  | .micUnstuck pair us => Sys2Proof.Machine.execMicUnstuck pair us s
  | .wakeFrameEnd f => Sys2Proof.Machine.execWakeFrameEnd f s
  | .stageReady stage => Sys2Proof.Machine.execStageReady stage s
  | .stageTimeout stage => Sys2Proof.Machine.execStageTimeout stage s
  | .wakeHangExpiry => Sys2Proof.Machine.execWakeHangExpiry s
  | .wakeForce m w => Sys2Proof.Machine.execWakeForce m w s
  | .catchupStart => Sys2Proof.Machine.execCatchupStart s
  | .catchupRingSwitch => Sys2Proof.Machine.execCatchupRingSwitch s
  | .catchupLive => Sys2Proof.Machine.execCatchupLive s
  | .catchupTalkClosed => Sys2Proof.Machine.execCatchupTalkClosed s
  | .micMuteAssert => Sys2Proof.Machine.execMicMuteAssert s
  | .micMuteRelease us => Sys2Proof.Machine.execMicMuteRelease us s
  | .muteSilenceEnd us => Sys2Proof.Machine.execMuteSilenceEnd us s
  | .termWrite m c w => Sys2Proof.Machine.execTermWrite m c w s
  | .trimWrite m c w => Sys2Proof.Machine.execTrimWrite m c w s
  | .levelWrite m c w => Sys2Proof.Machine.execLevelWrite m c w s
  | .balanceStart m c w => Sys2Proof.Machine.execBalanceStart m c w s
  | .balanceSilence c => Sys2Proof.Machine.execBalanceSilence c s
  | .balanceNoiseCheck c level => Sys2Proof.Machine.execBalanceNoiseCheck c level s
  | .balanceFit c lineR lineC => Sys2Proof.Machine.execBalanceFit c lineR lineC s
  | .balanceMeasure c => Sys2Proof.Machine.execBalanceMeasure c s
  | .balanceResult c thl => Sys2Proof.Machine.execBalanceResult c thl s
  | .autoBalance c => Sys2Proof.Machine.execAutoBalance c s
  | .hsmicGainStep zeroCross ms => Sys2Proof.Machine.execHsmicGainStep zeroCross ms s
  | .hpLoadSense left right => Sys2Proof.Machine.execHpLoadSense left right s
  | .hpShort right => Sys2Proof.Machine.execHpShort right s
  | .spkOvercurrent ma => Sys2Proof.Machine.execSpkOvercurrent ma s
  | .spkRestart ms => Sys2Proof.Machine.execSpkRestart ms s
  | .tdmFrame t bclks slots => Sys2Proof.Machine.execTdmFrame t bclks slots s
  | .dtdHangExpiry inst => Sys2Proof.Machine.execDtdHangExpiry inst s
  | .echoDiverge inst => Sys2Proof.Machine.execEchoDiverge inst s
  | .echoConverged inst => Sys2Proof.Machine.execEchoConverged inst s
  | .echoResult inst => Sys2Proof.Machine.execEchoResult inst s
  | .echoReset m inst w => Sys2Proof.Machine.execEchoReset m inst w s
  | .keyDebounce gpio level stableUs => Sys2Proof.Machine.execKeyDebounce gpio level stableUs s
  | .keyToggle m w => Sys2Proof.Machine.execKeyToggle m w s
  | .talkClose m w => Sys2Proof.Machine.execTalkClose m w s
  | .xpWrite m w => Sys2Proof.Machine.execXpWrite m w s
  | .sidetoneWrite m w => Sys2Proof.Machine.execSidetoneWrite m w s
  | .foghornAck m w => Sys2Proof.Machine.execFoghornAck m w s
  | .duckHangExpiry kind output => Sys2Proof.Machine.execDuckHangExpiry kind output s
  | .beamLaunch => Sys2Proof.Machine.execBeamLaunch s
  | .outReceived p f at_ => Sys2Proof.Machine.execOutReceived p f at_ s
  | .icvVerdict p ok => Sys2Proof.Machine.execIcvVerdict p ok s
  | .retReceived p f at_ => Sys2Proof.Machine.execRetReceived p f at_ s
  | .turnReceived p f at_ => Sys2Proof.Machine.execTurnReceived p f at_ s
  | .gateReceived p f => Sys2Proof.Machine.execGateReceived p f s
  | .musterReceived p f => Sys2Proof.Machine.execMusterReceived p f s
  | .musterSend => Sys2Proof.Machine.execMusterSend s
  | .musterPhaseCheck => Sys2Proof.Machine.execMusterPhaseCheck s
  | .admissionEffect => Sys2Proof.Machine.execAdmissionEffect s
  | .nodeIdRelease id => Sys2Proof.Machine.execNodeIdRelease id s
  | .peerDelay p ns => Sys2Proof.Machine.execPeerDelay p ns s
  | .ringLocked maxNs nowNs ms => Sys2Proof.Machine.execRingLocked maxNs nowNs ms s
  | .lighthouseClaim => Sys2Proof.Machine.execLighthouseClaim s
  | .claimSend => Sys2Proof.Machine.execClaimSend s
  | .ringDisable m w => Sys2Proof.Machine.execRingDisable m w s
  | .slackEnter => Sys2Proof.Machine.execSlackEnter s
  | .slackLeave => Sys2Proof.Machine.execSlackLeave s
  | .linkDown p receiving => Sys2Proof.Machine.execLinkDown p receiving s
  | .silentPort p => Sys2Proof.Machine.execSilentPort p s
  | .wrapEntry => Sys2Proof.Machine.execWrapEntry s
  | .retMissing k => Sys2Proof.Machine.execRetMissing k s
  | .ringHealClose => Sys2Proof.Machine.execRingHealClose s
  | .lighthouseLoss => Sys2Proof.Machine.execLighthouseLoss s
  | .foghornRepeat => Sys2Proof.Machine.execFoghornRepeat s
  | .foghornRelease => Sys2Proof.Machine.execFoghornRelease s
  | .foghornReceived p f => Sys2Proof.Machine.execFoghornReceived p f s
  | .foghornExpiry origin => Sys2Proof.Machine.execFoghornExpiry origin s
  | .callStart input dc => Sys2Proof.Machine.execCallStart input dc s
  | .callEnd input dc => Sys2Proof.Machine.execCallEnd input dc s
  | .callStuck c => Sys2Proof.Machine.execCallStuck c s
  | .callGenMinEnd c => Sys2Proof.Machine.execCallGenMinEnd c s
  | .blankEnd c => Sys2Proof.Machine.execBlankEnd c s
  | .callSendTimeout g => Sys2Proof.Machine.execCallSendTimeout g s
  | .lampFoldback n mv us => Sys2Proof.Machine.execLampFoldback n mv us s
  | .lampFoldbackEnd n mv => Sys2Proof.Machine.execLampFoldbackEnd n mv s
  | .frameReceived p f at_ mka => Sys2Proof.Machine.execFrameReceived p f at_ mka s
  | .pauseExpiry bitTimes => Sys2Proof.Machine.execPauseExpiry bitTimes s
  | .pauseWatchdog ms => Sys2Proof.Machine.execPauseWatchdog ms s
  | .txFrameStart p queued dry beamNs at_ => Sys2Proof.Machine.execTxFrameStart p queued dry beamNs at_ s
  | .saSwitch p => Sys2Proof.Machine.execSaSwitch p s
  | .lpiEnter us => Sys2Proof.Machine.execLpiEnter us s
  | .lpiLeave p cause at_ us => Sys2Proof.Machine.execLpiLeave p cause at_ us s
  | .statSnapshot m w => Sys2Proof.Machine.execStatSnapshot m w s
  | .snapshotDone => Sys2Proof.Machine.execSnapshotDone s
  | .iopStreamEnable m tx k w => Sys2Proof.Machine.execIopStreamEnable m tx k w s
  | .ssrcTimeout k => Sys2Proof.Machine.execSsrcTimeout k s
  | .ptpLock nowNs maxNs ms path state => Sys2Proof.Machine.execPtpLock nowNs maxNs ms path state s
  | .mediaAlign d => Sys2Proof.Machine.execMediaAlign d s
  | .ptpClockStep sec ns => Sys2Proof.Machine.execPtpClockStep sec ns s
  | .ptpCapture m w sec ns => Sys2Proof.Machine.execPtpCapture m w sec ns s
  | .hostWrite fr addr words => Sys2Proof.Machine.execHostWrite fr addr words s
  | .hostRead fr addr count => Sys2Proof.Machine.execHostRead fr addr count s
  | .pageRead fr count => Sys2Proof.Machine.execPageRead fr count s
  | .readContinue fr count => Sys2Proof.Machine.execReadContinue fr count s
  | .pageWrite fr bytes => Sys2Proof.Machine.execPageWrite fr bytes s
  | .writeContinue fr bytes => Sys2Proof.Machine.execWriteContinue fr bytes s
  | .enterQuad => Sys2Proof.Machine.execEnterQuad s
  | .exitQuad => Sys2Proof.Machine.execExitQuad s
  | .pageHoldExpiry ms => Sys2Proof.Machine.execPageHoldExpiry ms s
  | .loadStart m w => Sys2Proof.Machine.execLoadStart m w s
  | .loadHoldExpiry ms => Sys2Proof.Machine.execLoadHoldExpiry ms s
  | .resultAck m cell w => Sys2Proof.Machine.execResultAck m cell w s
  | .reinsTake m w => Sys2Proof.Machine.execReinsTake m w s
  | .reinsGive m w => Sys2Proof.Machine.execReinsGive m w s
  | .netRead h addr count => Sys2Proof.Machine.execNetRead h addr count s
  | .netWrite h addr words => Sys2Proof.Machine.execNetWrite h addr words s
  | .netKey h addr => Sys2Proof.Machine.execNetKey h addr s
  | .netReinsTake h addr => Sys2Proof.Machine.execNetReinsTake h addr s
  | .netReinsGive h addr => Sys2Proof.Machine.execNetReinsGive h addr s
  | .netGetChallenge h out => Sys2Proof.Machine.execNetGetChallenge h out s
  | .netAuthenticate h body sigOk session => Sys2Proof.Machine.execNetAuthenticate h body sigOk session s
  | .netSessionExpiry session secs => Sys2Proof.Machine.execNetSessionExpiry session secs s
  | .copyGo m ch w => Sys2Proof.Machine.execCopyGo m ch w s
  | .copyAbort m ch w => Sys2Proof.Machine.execCopyAbort m ch w s
  | .copyRow => Sys2Proof.Machine.execCopyRow s
  | .gpioEdge gpio level us => Sys2Proof.Machine.execGpioEdge gpio level us s
  | .gpioOutSet m w => Sys2Proof.Machine.execGpioOutSet m w s
  | .gpioOutClr m w => Sys2Proof.Machine.execGpioOutClr m w s
  | .encoderDetent k clockwise => Sys2Proof.Machine.execEncoderDetent k clockwise s
  | .getChallenge out => Sys2Proof.Machine.execGetChallenge out s
  | .authenticate sigOk session => Sys2Proof.Machine.execAuthenticate sigOk session s
  | .closeSession => Sys2Proof.Machine.execCloseSession s
  | .getIdentity => Sys2Proof.Machine.execGetIdentity s
  | .enrolOperator => Sys2Proof.Machine.execEnrolOperator s
  | .removeOperator => Sys2Proof.Machine.execRemoveOperator s
  | .enrolImageKey => Sys2Proof.Machine.execEnrolImageKey s
  | .loadKey unwrapOk => Sys2Proof.Machine.execLoadKey unwrapOk s
  | .deleteKey => Sys2Proof.Machine.execDeleteKey s
  | .genIdentity pub pairOk => Sys2Proof.Machine.execGenIdentity pub pairOk s
  | .setMacsec => Sys2Proof.Machine.execSetMacsec s
  | .commitApproved => Sys2Proof.Machine.execCommitApproved s
  | .zeroise => Sys2Proof.Machine.execZeroise s
  | .challengeExpiry m ms => Sys2Proof.Machine.execChallengeExpiry m ms s
  | .lockoutEnd m ms => Sys2Proof.Machine.execLockoutEnd m ms s
  | .entropyHealthFail osc run count => Sys2Proof.Machine.execEntropyHealthFail osc run count s
  | .mkaLifeExpiry p ms => Sys2Proof.Machine.execMkaLifeExpiry p ms s
  | .zeroPin cycles => Sys2Proof.Machine.execZeroPin cycles s
  | .shieldBreach => Sys2Proof.Machine.execShieldBreach s
  | .envFailure kind value us => Sys2Proof.Machine.execEnvFailure kind value us s
  | .zeroisationComplete => Sys2Proof.Machine.execZeroisationComplete s
  | .commitTackNow m w ev => Sys2Proof.Machine.execCommitTackNow m w ev s
  | .commitTackNextBoot m w ev => Sys2Proof.Machine.execCommitTackNextBoot m w ev s
  | .commitFirmware m w sigOk => Sys2Proof.Machine.execCommitFirmware m w sigOk s
  | .commitWakeModel m w sigOk => Sys2Proof.Machine.execCommitWakeModel m w sigOk s
  | .bootConfirm m w => Sys2Proof.Machine.execBootConfirm m w s
  | .trialAutoConfirm => Sys2Proof.Machine.execTrialAutoConfirm s
  | .recover m w => Sys2Proof.Machine.execRecover m w s
  | .hostApiDeclare m w => Sys2Proof.Machine.execHostApiDeclare m w s
  | .journalSettingWrite addr mask value => Sys2Proof.Machine.execJournalSettingWrite addr mask value s
  | .autoListenEnd p maxMv => Sys2Proof.Machine.execAutoListenEnd p maxMv s
  | .autoRelisten p mv ms => Sys2Proof.Machine.execAutoRelisten p mv ms s
  | .hostWdogExpiry ms => Sys2Proof.Machine.execHostWdogExpiry ms s
  | .hostAlive m w => Sys2Proof.Machine.execHostAlive m w s
  | .inputQualify n mv ms => Sys2Proof.Machine.execInputQualify n mv ms s
  | .inputDisqualify n mv => Sys2Proof.Machine.execInputDisqualify n mv s
  | .pdClassify req grant => Sys2Proof.Machine.execPdClassify req grant s
  | .pdInrushEnd ms => Sys2Proof.Machine.execPdInrushEnd ms s
  | .outputRequest outs => Sys2Proof.Machine.execOutputRequest outs s
  | .budgetShed => Sys2Proof.Machine.execBudgetShed s
  | .budgetRecheck steadyMs => Sys2Proof.Machine.execBudgetRecheck steadyMs s
  | .inputOverload watts ms => Sys2Proof.Machine.execInputOverload watts ms s
  | .vinValid mv self => Sys2Proof.Machine.execVinValid mv self s
  | .railTimeout r ms => Sys2Proof.Machine.execRailTimeout r ms s
  | .railRetry ms => Sys2Proof.Machine.execRailRetry ms s
  | .seqViolation r => Sys2Proof.Machine.execSeqViolation r s
  | .seqLegal => Sys2Proof.Machine.execSeqLegal s
  | .avsAdjust ms => Sys2Proof.Machine.execAvsAdjust ms s
  | .appSleep => Sys2Proof.Machine.execAppSleep s
  | .appWake => Sys2Proof.Machine.execAppWake s
  | .brownoutWarning mv us => Sys2Proof.Machine.execBrownoutWarning mv us s
  | .brownoutEnd mv ms => Sys2Proof.Machine.execBrownoutEnd mv ms s
  | .vinLoss mv us => Sys2Proof.Machine.execVinLoss mv us s
  | .tetherLoss us crc => Sys2Proof.Machine.execTetherLoss us crc s
  | .tetherRetrain => Sys2Proof.Machine.execTetherRetrain s
  | .sourceStart p => Sys2Proof.Machine.execSourceStart p s
  | .sourceListenEnd p maxMv => Sys2Proof.Machine.execSourceListenEnd p maxMv s
  | .alreadyPoweredRelisten p maxMv => Sys2Proof.Machine.execAlreadyPoweredRelisten p maxMv s
  | .softStartDone p mv vin ms => Sys2Proof.Machine.execSoftStartDone p mv vin ms s
  | .softStartTimeout p mv ms => Sys2Proof.Machine.execSoftStartTimeout p mv ms s
  | .lineOverload p limitMs lowMs => Sys2Proof.Machine.execLineOverload p limitMs lowMs s
  | .lineContention p ma ms => Sys2Proof.Machine.execLineContention p ma ms s
  | .retryWaitEnd p ms maxMv => Sys2Proof.Machine.execRetryWaitEnd p ms maxMv s
  | .retryReset p => Sys2Proof.Machine.execRetryReset p s
  | .lineLatchClear m p w => Sys2Proof.Machine.execLineLatchClear m p w s
  | .shortToSupplyBegin pin mv ms => Sys2Proof.Machine.execShortToSupplyBegin pin mv ms s
  | .shortToSupplyEnd pin mv ms => Sys2Proof.Machine.execShortToSupplyEnd pin mv ms s
  | .shortRecover pin ms => Sys2Proof.Machine.execShortRecover pin ms s
  | .pseDetection n maxMv sig => Sys2Proof.Machine.execPseDetection n maxMv sig s
  | .pseClassification n cls => Sys2Proof.Machine.execPseClassification n cls s
  | .psePowerUp n mv vin ms => Sys2Proof.Machine.execPsePowerUp n mv vin ms s
  | .pseFault n kind value ms => Sys2Proof.Machine.execPseFault n kind value ms s
  | .pseDisconnect n ma ms => Sys2Proof.Machine.execPseDisconnect n ma ms s
  | .pseRetryWaitEnd n ms => Sys2Proof.Machine.execPseRetryWaitEnd n ms s
  | .pseLatchClear m n w => Sys2Proof.Machine.execPseLatchClear m n w s
  | .thermSample logic line => Sys2Proof.Machine.execThermSample logic line s
  | .thermLevelChange die => Sys2Proof.Machine.execThermLevelChange die s
  | .thermShutdown hottest => Sys2Proof.Machine.execThermShutdown hottest s
  | .thermShutdownEnd hottest => Sys2Proof.Machine.execThermShutdownEnd hottest s
  | .mediaPllLock => Sys2Proof.Machine.execMediaPllLock s
  | .mediaModeChange phaseNs ppm => Sys2Proof.Machine.execMediaModeChange phaseNs ppm s
  | .refLost us ppm => Sys2Proof.Machine.execRefLost us ppm s
  | .refRestored ms => Sys2Proof.Machine.execRefRestored ms s
  | .accessTimeout m addr => Sys2Proof.Machine.execAccessTimeout m addr s
  | .rtcSet m w => Sys2Proof.Machine.execRtcSet m w s
  | .rtcXtalSwitch ms => Sys2Proof.Machine.execRtcXtalSwitch ms s
  | .strideCapture m w => Sys2Proof.Machine.execStrideCapture m w s
  | .registerWrite m addr w rivals => Sys2Proof.Machine.execRegisterWrite m addr w rivals s
  | .linkUp p speed full => Sys2Proof.Machine.execLinkUp p speed full s
  | .hpShortEnd right => Sys2Proof.Machine.execHpShortEnd right s
  | .phyRxLpiEntry p => Sys2Proof.Machine.execPhyRxLpiEntry p s
  | .mkaHello => Sys2Proof.Machine.execMkaHello s
  | .mboxServiceDone => Sys2Proof.Machine.execMboxServiceDone s
  | .domainPowerUpDone us => Sys2Proof.Machine.execDomainPowerUpDone us s

end Sys2Proof.Machine
end

