-- ==== Sys2Proof/Safety.lean ====
section
/-! DEFINITION. The terms that statements about the node use: stores in canonical form, what a command leaves as it was,
and when a write of a register takes its effect. -/

namespace Sys2Proof.Machine

/-- Keys strictly rising. -/
def Sparse.rising {α : Type} : List (Nat × α) → Bool
  | [] => true
  | (_, _) :: [] => true
  | (j, _) :: (k, w) :: t => decide (j < k) && Sparse.rising ((k, w) :: t)

/-- `t` is `s` but for the register fields of `fs`: every other field reads the same, and everything beside the register
file is equal. -/
def Only (fs : List Fld) (s t : State) : Prop :=
  { t with regs := s.regs } = s ∧ ∀ f : Fld, f.key ∉ fs.map Fld.key → t.get f = s.get f

/-- The fields that a record of the event log writes beside the log itself (R834, R578). -/
def logFields : List Fld :=
  [F.HOST_EVT_COUNT_COUNT, F.HOST_IRQ_EVENT, F.HOST_OVERRUN_CNT_SRC_3, F.HOST_IRQ_OVERRUN]

/-- The fields of the first address of each port's filter, which a POR and a PIN reset load with the port's own (R477). -/
def ownAddressFields : List Fld :=
  (List.range 3).flatMap (fun p => [F.MAC_UCAST_ADDR_2_5 p 0, F.MAC_UCAST_ADDR_0_1 p 0, F.MAC_UCAST_EN p 0])

/-- The status fields of the result cell at `a`. -/
def cellFields (a : Nat) : List Fld := [cellSeq a, cellReady a, cellFresh a, cellErr a, cellLost a]

/-- The fields of line channel `c` that an opened switch, an aborted balance or an ended call writes beside its result
cells. -/
def channelFields (c : Nat) : List Fld :=
  [F.HYB_CH_STATUS_SWITCH_CLOSED c, F.HYB_CH_STATUS_TERM_ON c, F.HYB_CH_TRIM_R_TRIM c, F.HYB_CH_TRIM_C_TRIM c,
   F.HYB_BAL_STATUS_STEP c, F.HYB_BAL_STATUS_BUSY c, F.CALL_CH_STATUS_STUCK c, F.CALL_CH_STATUS_TONE_CALL c,
   F.CALL_CH_STATUS_DC_CALL c, F.CALL_CH_STATUS_SUSPENDED c]

/-- The fields of the balance result of channel `c`. -/
def balanceFields (c : Nat) : List Fld :=
  cellFields (0xC0020 + 0x100 * c) ++
  [F.HYB_BAL_RESULT_ERR_CODE c, F.HYB_BAL_RESULT_THL c, F.HYB_BAL_RESULT_LINE_C c, F.HYB_BAL_RESULT_LINE_R c,
   F.HYB_BAL_RESULT_DRIVE_PK c, F.HYB_BAL_RESULT_C_TRIM c, F.HYB_BAL_RESULT_R_TRIM c]

/-- The fields of the call result of input `n`. -/
def callFields (n : Nat) : List Fld :=
  cellFields (callCell n) ++
  [⟨callCell n, 18, 2, 0⟩, ⟨callCell n, 16, 2, 0⟩, ⟨callCell n + 4, 0, 32, 0⟩, ⟨callCell n + 8, 16, 16, 0⟩,
   ⟨callCell n + 8, 0, 16, 0⟩, ⟨callCell n + 12, 8, 8, 0⟩, ⟨callCell n + 12, 0, 8, 0⟩]

/-- The fields that `State.syncPower` may write. -/
def followFields : List Fld :=
  [F.PWR_IN_STATUS_ENABLED, F.PWR_IN_STATUS_ACTIVE, F.PWR_IRQ_INPUT, F.PWR_PD_MPS, F.PWR_PD_SIG_INVALID,
   F.PWR_DOM_ON_ON, F.PWR_LINE_ON_ON, F.PWR_CNT_SHEDS, F.PWR_IRQ_SHED, F.PWR_BUDGET_AVAIL, F.PWR_RESERVED_RESERVED,
   F.PSE_BUDGET_EFFECTIVE, F.CONV_SPK_RUNNING, F.CALL_IRQ_END] ++ logFields ++
  (List.range 4).map F.PWR_OUT_STATE ++ (List.range 4).map F.PWR_OUT_REQ ++
  (List.range 2).map F.LINE_STATUS_STATE ++ (List.range 2).map F.LINE_STATUS_HOT_LIMIT ++
  (List.range 2).map F.LINE_STATUS_HEADROOM ++ (List.range 2).map F.LINE_STATUS_IN_LIMIT ++
  (List.range 2).map F.PSE_STATUS_STATE ++
  (List.range 4).flatMap (fun c => channelFields c ++ balanceFields c ++ callFields c)

/-- `t` is `s` but for the register fields of `fs` and for what line power, balances, calls and the event log keep beside
them: what follows a change of inputs, roles, requests, levels or grants leaves everything else as it was. -/
def Settles (fs : List Fld) (s t : State) : Prop :=
  { t with
    regs := s.regs, freeCtr := s.freeCtr, log := s.log, logOverrun := s.logOverrun
    line := { t.line with
      bal := s.line.bal, tapsClear := s.line.tapsClear, fwSwitch := s.line.fwSwitch, dacRamp := s.line.dacRamp
      toneRamp := s.line.toneRamp, dacLine := s.line.dacLine, pins := s.line.pins }
    call := { t.call with dets := s.call.dets }
    power := { t.power with
      upQueue := s.power.upQueue, refusedAt := s.power.refusedAt, sourcingAt := s.power.sourcingAt, pse := s.power.pse } } = s ∧
  ∀ f : Fld, f.key ∉ fs.map Fld.key → t.get f = s.get f

/-- A sole write by `m` to the register at `a` meets nothing that keeps it out: the master exists, the access reaches the
register `r`, no bar stands in its way, and no other master holds the reins of its group (R590, R828). -/
def Writable (s : State) (m : Master) (a : Nat) (r : RegRow) : Prop :=
  s.exists_ m = true ∧ s.reach m a false = .reg r ∧
  s.bar ⟨m, a, 0, 0, .direct⟩ r = none ∧
  (match r.rein with
   | none => True
   | some g => s.get (F.REINS_HOLDER_HOLDER g) = 15 ∨ s.get (F.REINS_HOLDER_HOLDER g) = m.code)

/-- Master `m` is no host, and nothing keeps its sole write to the register at `a` out: what it writes is decided by that
register's own rules. -/
def Alone (s : State) (m : Master) (a : Nat) : Prop := isHost m = false ∧ ∃ r, Writable s m a r

/-- The write that a row of the table with one register and one word is. -/
def rowOf : Instr → Option (Master × Nat × Word)
  | .softReset m w | .recover m w => some (m, 0x10, w)
  | .hostApiDeclare m w => some (m, 0x1C, w)
  | .hostAlive m w => some (m, 0x28, w)
  | .bootConfirm m w => some (m, 0x10024, w)
  | .strideCapture m w => some (m, 0x40014, w)
  | .rtcSet m w => some (m, 0x40100, w)
  | .reinsTake m w => some (m, 0x50000, w)
  | .reinsGive m w => some (m, 0x50004, w)
  | .loadStart m w => some (m, 0x60040, w)
  | .resultAck m c w => some (m, cellAddr c + 0x10, w)
  | .copyGo m n w | .copyAbort m n w => some (m, 0x70010 + 0x40 * n, w)
  | .gpioOutSet m w => some (m, 0x80108, w)
  | .gpioOutClr m w => some (m, 0x8010C, w)
  | .lineLatchClear m p w => some (m, 0xA000C + 0x100 * p, w)
  | .pseLatchClear m n w => some (m, 0xA0410 + 0x100 * n, w)
  | .termWrite m c w | .levelWrite m c w => some (m, 0xC0000 + 0x100 * c, w)
  | .trimWrite m c w => some (m, 0xC0004 + 0x100 * c, w)
  | .balanceStart m c w => some (m, 0xC0010 + 0x100 * c, w)
  | .echoReset m i w => some (m, 0xD0000 + 0x100 * i, w)
  | .wakeForce m w => some (m, 0xF0100, w)
  | .swapGo m w => some (m, 0x108020, w)
  | .keyToggle m w => some (m, 0x110184, w)
  | .talkClose m w => some (m, 0x110188, w)
  | .xpWrite m w => some (m, 0x1101A0, w)
  | .sidetoneWrite m w => some (m, 0x1101E8, w)
  | .foghornAck m w => some (m, 0x1101E4, w)
  | .ringDisable m w => some (m, 0x120000, w)
  | .statSnapshot m w => some (m, 0x140800, w)
  | .iopStreamEnable m tx k w => some (m, (if tx then 0x150800 else 0x150000) + 0x40 * k, w)
  | _ => none

/-- The island's mailbox service `sv` is under way and has not answered yet, the self-tests being done (R623, R638). -/
def Serving (s : State) (sv : Nat) : Prop := s.isle.mbox = some ⟨sv, none⟩ ∧ s.isle.tested = true

/-- The mailbox service `sv` has answered with a code and output (R638). -/
def State.reply (s : State) (sv code : Nat) (out : List Byte) : State :=
  { s with isle := { s.isle with mbox := some ⟨sv, some (code, out)⟩ } }

/-- The memories of the node are in canonical form: addresses strictly rising, no listed byte that an unlisted one reads as
(log entry 3). -/
def State.memoriesKept (s : State) : Prop :=
  (∀ m ∈ s.boot.fw ++ s.boot.tack ++ s.boot.wake ++ [s.boot.flash, s.copy.buf, s.copy.sram, s.swap.buf, s.host.loadBuf],
    Memory.wf m = true)

end Sys2Proof.Machine
end

