-- ==== Sys2Proof/Certificates/Slice0/Obligations.lean ====
section
/-! DEFINITION. The statements about the node for the provers, one definition each; OBLIGATIONS.json lists them. Chapters are
those of spec/. -/

open Sys2Proof Sys2Proof.Machine

/-- A step takes the command at the front of the queue and is that command's effect on the state with the queue's rest; with no
command waiting the block idles (the model's choice, log entry 7). -/
def Obligations.StepRunsTheFrontCommand : Prop :=
  (∀ (c : Instr) (s : State), step { s with pending := c :: s.pending } = exec c s) ∧
  (∀ s : State, s.pending = [] → step s = .next s)

/-- Every command completes, in every state and with every operand, and leaves the queue to the step: none ends in a fault or a
refusal. -/
def Obligations.EveryCommandCompletes : Prop :=
  ∀ (c : Instr) (s : State), ∃ t, exec c s = .next t ∧ t.pending = s.pending

/-- What reset leaves (R17, R800, R831): every register field reads its reset value, no command or write waits, the stride
counter stands at 0 and does not count, the event log is empty, the fabric does not run, no image is loaded, and the
memories are in canonical form. Reset values that the spec does not state are the model's (log entries 1 to 4). -/
def Obligations.ResetLeavesTheBlockIdle : Prop :=
  (∀ f : Fld, State.reset.get f = f.rst % 2 ^ f.width) ∧ State.reset.pending = [] ∧ State.reset.queued = [] ∧
  State.reset.stride = 0 ∧ State.reset.strideOn = false ∧ State.reset.log = [] ∧ State.reset.fab.running = false ∧
  State.reset.fab.image = none ∧ State.reset.memoriesKept

/-- Every step keeps the node's memories in canonical form (log entry 3): addresses strictly rising, and no listed byte that an
unlisted address reads as. -/
def Obligations.StepKeepsMemories : Prop :=
  ∀ s t : State, s.memoriesKept → step s = .next t → t.memoriesKept

/-- A record joins the event log last (R831, R834): its SERIAL is one more than the records counted before, modulo 2^32 as the
register shows it; it holds its type, master, domain and arguments, the stride and the time; HOST_IRQ.EVENT is set; and
beside the log's own fields nothing changes. -/
def Obligations.RecordsJoinTheLog : Prop :=
  ∀ (s : State) (type master domain a0 a1 a2 : Nat),
    (s.addLog type master domain a0 a1 a2).get F.HOST_EVT_COUNT_COUNT =
      (s.get F.HOST_EVT_COUNT_COUNT + 1) % 2 ^ F.HOST_EVT_COUNT_COUNT.width ∧
    (s.addLog type master domain a0 a1 a2).getB F.HOST_IRQ_EVENT = true ∧
    (s.addLog type master domain a0 a1 a2).log.getLast? = some ⟨type, master, domain, s.get F.HOST_EVT_COUNT_COUNT + 1,
      s.get F.CLK_RTC_SEC_SEC, s.get F.CLK_RTC_SUB_TICKS, s.count % 2 ^ 32, a0, a1, a2⟩ ∧
    (∀ q ∈ s.log, s.get F.HOST_EVT_COUNT_COUNT / 15 < (q.serial - 1) / 15 + 64 →
      q ∈ (s.addLog type master domain a0 a1 a2).log) ∧
    Settles logFields s (s.addLog type master domain a0 a1 a2)

/-- A completed result (R564): SEQ becomes the previous SEQ + 1, with 255 followed by 1; READY and FRESH become 1; ERR is set as
the producer binds; LOST_PREV takes the value that FRESH held just before; each data word is written, and no field beside
them changes. -/
def Obligations.ResultsCompleteInTheirCell : Prop :=
  ∀ (s : State) (a : Nat) (err : Bool) (data : List (Fld × Nat)),
    (∀ f ∈ cellFields a, f.key ∉ data.map (fun d => d.1.key)) → (data.map (fun d => d.1.key)).Nodup →
    (s.writeCell a err data).get (cellSeq a) = (if s.get (cellSeq a) = 255 then 1 else s.get (cellSeq a) + 1) ∧
    (s.writeCell a err data).getB (cellReady a) = true ∧ (s.writeCell a err data).getB (cellFresh a) = true ∧
    (s.writeCell a err data).getB (cellErr a) = err ∧ (s.writeCell a err data).getB (cellLost a) = s.getB (cellFresh a) ∧
    (∀ d ∈ data, (s.writeCell a err data).get d.1 = d.2 % 2 ^ d.1.width) ∧
    Only (cellFields a ++ data.map (·.1)) s (s.writeCell a err data)

/-- A write to a cell's ACK register, alone in its register cycle (R566). A SEQ equal to the cell's SEQ while FRESH is 1 clears
FRESH; any other ACK write has no effect; an ACK changes no other field. -/
def Obligations.AcknowledgeClearsFresh : Prop :=
  ∀ (s : State) (m : Master) (cell : Fin 33) (w : Word), Alone s m (cellAddr cell + 0x10) →
    (w.toNat % 256 = s.get (cellSeq (cellAddr cell)) → s.getB (cellFresh (cellAddr cell)) = true →
      ∃ t, exec (.resultAck m cell w) s = .next t ∧ t.getB (cellFresh (cellAddr cell)) = false ∧
        Only [cellFresh (cellAddr cell)] s t) ∧
    (w.toNat % 256 ≠ s.get (cellSeq (cellAddr cell)) ∨ s.getB (cellFresh (cellAddr cell)) = false →
      exec (.resultAck m cell w) s = .next s)

/-- Arbitration of one period (R590, R592, R593). A quiet value is applied whoever holds the reins; without one the holder's
write stands; where nobody holds the group the first in the fixed order stands. Of two contradictory writes to one group
that are not both quiet at most one stands. The order is steward, application, host SPI, host I²C, network and the debug
unit last. -/
def Obligations.ArbitrationHasOneWinner : Prop :=
  (∀ (s : State) (us : List UWrite) (u : UWrite), u.quiet = true → s.verdict us u = .stands) ∧
  (∀ (s : State) (us : List UWrite) (u : UWrite), u.quiet = false → u.master < 15 → s.holderOf u = u.master →
    (∀ v ∈ us, u.contra v = true → v.quiet = false ∧ v.rein = u.rein) → s.verdict us u = .stands) ∧
  (∀ (s : State) (us : List UWrite) (u : UWrite), u.quiet = false → s.holderOf u = 15 → u.master < 15 →
    (∀ v ∈ us, u.contra v = true → v.quiet = false ∧ v.rein = u.rein ∧ v.master < 15) →
    (s.verdict us u = .stands ↔ ∀ v ∈ us, u.contra v = true → u.master < v.master)) ∧
  (∀ (s : State) (us : List UWrite) (u v : UWrite), u ∈ us → v ∈ us → u.contra v = true → u.rein = v.rein →
    u.master < 15 → v.master < 15 → u.quiet = false ∨ v.quiet = false →
    ¬ (s.verdict us u = .stands ∧ s.verdict us v = .stands)) ∧
  Master.steward.code < Master.app.code ∧ Master.app.code < Master.hostSpi.code ∧ Master.hostSpi.code < Master.hostI2c.code ∧
  Master.hostI2c.code < Master.network.code ∧ Master.network.code < (Master.debug).code

/-- Writes that wait for the stride boundary (R591): TG's keys, crosspoints, sidetone and FOGHORN_ACK, line trims, terminations
and levels, a balance, and the reset of an echo canceller. Alone in its cycle such a write, whose other fields are as they
are, changes nothing but the queue of the boundary, which it joins last. What the boundary does with a lone waiting write
that nothing keeps out (R313, R314, R321, R591): the toggles and closes of a key word join those of the stride, and a
crosspoint write by the steward is the crosspoint's; nothing waits any more. -/
def Obligations.WaitingWritesAreDecidedAtTheBoundary : Prop :=
  (∀ (s : State) (c : Instr) (m : Master) (a : Nat) (w : Word), rowOf c = some (m, a, w) → Alone s m a →
     (match c with
      | .keyToggle .. | .talkClose .. | .xpWrite .. | .sidetoneWrite .. | .foghornAck .. | .trimWrite .. => True
      | .termWrite _ n _ | .levelWrite _ n _ =>
        bit1 (w.getLsbD 16) = s.get (F.HYB_CH_CFG_ADAPT n) ∧ bit1 (w.getLsbD 17) = s.get (F.HYB_CH_CFG_AUTO_BAL n)
      | .balanceStart _ n _ => bitsOf w.toNat 4 3 = s.get (F.HYB_BAL_CTRL_PROBE n)
      | .echoReset _ i _ => bitsOf w.toNat 8 9 = s.get (F.ECHO_CTRL_STEP i) ∧ bit1 (w.getLsbD 0) = s.get (F.ECHO_CTRL_FREEZE i)
      | _ => False) →
     exec c s = .next { s with queued := s.queued ++ [⟨m, a, w, .direct⟩] }) ∧
  (∀ (s : State) (m : Master) (a : Nat) (w : Word), Alone s m a → s.queued = [⟨m, a, w, .direct⟩] → s.takeDetents.1 = [] →
     s.decideStride.queued = [] ∧
     (a = 0x110184 → s.decideStride.tg = { s.tg with toggles := Nat.lor s.tg.toggles w.toNat }) ∧
     (a = 0x110188 → s.decideStride.tg = { s.tg with closes := Nat.lor s.tg.closes w.toNat }) ∧
     (a = 0x1101A0 → m = .steward →
       s.decideStride.tg = (s.xpWrite (bitsOf w.toNat 16 8) (bitsOf w.toNat 8 8) (bitsOf w.toNat 0 8)).tg))

/-- Each of these commands is a write of one word to its register (R551, R826). By a master that is no host it is that write; by
the host master that the strap selects it is a HOST_WRITE transaction of one word (R551); the other host master does not
exist, and nothing changes (R547). -/
def Obligations.RowCommandsAreRegisterWrites : Prop :=
  ∀ (s : State) (c : Instr) (m : Master) (a : Nat) (w : Word), rowOf c = some (m, a, w) →
    (isHost m = false → exec c s = .next { s.write m a w with pending := s.pending }) ∧
    (m = s.hostMaster → exec c s = exec (.hostWrite .whole a [w]) s) ∧
    (isHost m = true → m ≠ s.hostMaster → exec c s = .next s)

/-- HOST_ALIVE, STRIDE_CAPTURE, RTC_SET and BOOT_CONFIRM (R49, R51, R711, R800, R813), alone in their register cycle. Any word
written to SYS_HOST_ALIVE starts the watchdog's count anew and clears HOST_LOST; a capture latches the 48-bit stride count
and counts itself; another second than the present one is set at the next tick; CONFIRM makes the running trials valid.
HOST_API_DECLARE (R705). The host's declared level is kept, DECLARED is set, and API_MISMATCH shows whether the level lies
outside the running range. -/
def Obligations.SystemRowsTakeEffect : Prop :=
  ((∀ (s : State) (m : Master) (w : Word), Alone s m 0x28 →
     exec (.hostAlive m w) s = .next (({ s with host := { s.host with wdogRunning := true } } : State).setB
       F.SYS_PERSONA_HOST_LOST false)) ∧
   (∀ (s : State) (m : Master) (w : Word), Alone s m 0x40014 → w.getLsbD 0 = true →
     ∃ t, exec (.strideCapture m w) s = .next t ∧ t.get F.CLK_CAP_LO_COUNT = s.count % 2 ^ 32 ∧
       t.get F.CLK_CAP_HI_COUNT_HI = s.count / 2 ^ 32 % 2 ^ F.CLK_CAP_HI_COUNT_HI.width ∧
       t.get F.CLK_CAP_HI_SEQ = (s.get F.CLK_CAP_HI_SEQ + 1) % 2 ^ F.CLK_CAP_HI_SEQ.width ∧
       Only [F.CLK_CAP_LO_COUNT, F.CLK_CAP_HI_COUNT_HI, F.CLK_CAP_HI_SEQ] s t) ∧
   (∀ (s : State) (m : Master) (w : Word), Alone s m 0x40100 → w.toNat ≠ s.get F.CLK_RTC_SEC_SEC →
     ∃ t, exec (.rtcSet m w) s = .next t ∧ t.clk.rtcSet = some w.toNat ∧
       t.get F.CLK_RTC_SEC_SEC = s.get F.CLK_RTC_SEC_SEC ∧
       Only [F.CLK_RTC_SEC_SEC] { s with clk := { s.clk with rtcSet := some w.toNat } } t) ∧
   (∀ (s : State) (m : Master) (w : Word), Alone s m 0x10024 → w.getLsbD 0 = true →
     exec (.bootConfirm m w) s = .next { s.confirmTrials with pending := s.pending })) ∧
  (∀ (s : State) (m : Master) (w : Word) (r : RegRow), m = s.hostMaster → s.power.resetHeld = false →
     s.reach m 0x1C false = .reg r →
     ∃ t, exec (.hostApiDeclare m w) s = .next t ∧ t.getB F.SYS_HOST_API_DECLARED = true ∧
       t.get F.SYS_HOST_API_LEVEL = w.toNat % 2 ^ 16 ∧
       t.getB F.SYS_HOST_API_MISMATCH =
         (decide (w.toNat % 2 ^ 16 < s.get F.BOOT_API_MIN) || decide (s.get F.BOOT_API_MAX < w.toNat % 2 ^ 16)) ∧
       t.answer.code = .ok)

/-- SOFT_RESET and RECOVER by the steward (R670, R713). With the key 0x5253 in bits 31:16, bit 0 begins a SOFT reset and bit 1 a
recovery boot; recovery is for the host cause of halter, and in approved mode for a crypto officer. A write of SYS_RESET
without the key does nothing (R670). -/
def Obligations.ResetNeedsItsKey : Prop :=
  ((∀ (s : State) (w : Word), Alone s .steward 0x10 → w.toNat / 2 ^ 16 = 0x5253 → w.getLsbD 1 = false → w.getLsbD 0 = true →
     exec (.softReset .steward w) s = .next { s.startSoft with pending := s.pending }) ∧
   (∀ (s : State) (w : Word), Alone s .steward 0x10 → w.toNat / 2 ^ 16 = 0x5253 → w.getLsbD 1 = true →
     (s.halter = true → s.get F.BOOT_STATUS_HALTER_CAUSE = 1) → (s.approved = true → s.co = true) →
     exec (.recover .steward w) s = .next { s.recoveryBoot with pending := s.pending })) ∧
  (∀ (s : State) (m : Master) (w : Word), Alone s m 0x10 → w.toNat / 2 ^ 16 ≠ 0x5253 →
     exec (.softReset m w) s = .next s ∧ exec (.recover m w) s = .next s)

/-- REINS_TAKE and REINS_GIVE by a master other than the steward (R586, R588). Each group named that nobody or the master itself
holds is then the master's; a group given back is nobody's. Other groups' holders and everything else stay. The steward
takes reins from any holder (R587), which a record and HOST_IRQ.REINS_TAKEN tell the host if it was another master. -/
def Obligations.ReinsAreTakenAndReleased : Prop :=
  ((∀ (s : State) (m : Master) (w : Word), Alone s m 0x50000 → m ≠ .steward →
     ∃ t, exec (.reinsTake m w) s = .next t ∧
       (∀ g < 16, t.get (F.REINS_HOLDER_HOLDER g) =
         if w.getLsbD g = true ∧ s.get (F.REINS_HOLDER_HOLDER g) = 15 then m.code else s.get (F.REINS_HOLDER_HOLDER g)) ∧
       Only ((List.range 16).map F.REINS_HOLDER_HOLDER) s t) ∧
   (∀ (s : State) (m : Master) (w : Word), Alone s m 0x50004 →
     ∃ t, exec (.reinsGive m w) s = .next t ∧
       (∀ g < 16, t.get (F.REINS_HOLDER_HOLDER g) =
         if w.getLsbD g = true ∧ s.get (F.REINS_HOLDER_HOLDER g) = m.code then 15 else s.get (F.REINS_HOLDER_HOLDER g)) ∧
       Only ((List.range 16).map F.REINS_HOLDER_HOLDER) s t)) ∧
  (∀ (s : State) (mask g : Nat), g < 16 → mask.testBit g = true →
     (s.takeReins .steward mask).1.get (F.REINS_HOLDER_HOLDER g) = 0 ∧ (s.takeReins .steward mask).2 = .ok ∧
     (s.get (F.REINS_HOLDER_HOLDER g) ≠ 15 → s.get (F.REINS_HOLDER_HOLDER g) ≠ 0 →
       (s.takeReins .steward mask).1.getB F.HOST_IRQ_REINS_TAKEN = true))

/-- LOAD_START, RESULT_ACK, COPY_GO and COPY_ABORT (R566, R582, R602–R608), alone in their register cycle. A load of a known
sink that fits starts empty, LOADING; the acknowledged result of that sequence number is no longer fresh; an idle channel
starts or ends by its descriptor's checks; an abort marks the running rectangle. GPIO_OUT_SET and GPIO_OUT_CLR (R613), alone
in their register cycle: each outputs' bit that the word names is set, or cleared, and no other. -/
def Obligations.LoadCopyAndGpioRows : Prop :=
  ((∀ (s : State) (m : Master) (w : Word), Alone s m 0x60040 → w.getLsbD 4 = true → 1 ≤ w.toNat % 16 → w.toNat % 16 ≤ 4 →
     w.toNat / 256 ≤ sinkLimit (w.toNat % 16) → s.get F.HOST_LOAD_STATUS_STATE ≠ 1 → s.get F.HOST_LOAD_STATUS_STATE ≠ 2 →
     ∃ t, exec (.loadStart m w) s = .next t ∧ t.get F.HOST_LOAD_STATUS_STATE = 1 ∧ t.get F.HOST_LOAD_STATUS_CODE = 0 ∧
       t.get F.HOST_LOAD_STATUS_PAGES = 0 ∧ t.host.loadLen = w.toNat / 256 ∧ t.host.loadSink = w.toNat % 16 ∧
       t.host.loadPos = 0 ∧ t.host.loadBuf = []) ∧
   (∀ (s : State) (m : Master) (cell : Fin 33) (w : Word), Alone s m (cellAddr cell + 0x10) →
     exec (.resultAck m cell w) s = .next (s.ackCell (cellAddr cell) (w.toNat % 256))) ∧
   (∀ (s : State) (m : Master) (ch : Fin 4) (w : Word), Alone s m (0x70010 + 0x40 * ch.val) → w.getLsbD 0 = true →
     w.getLsbD 1 = false → s.copy.run.getD ch none = none →
     exec (.copyGo m ch w) s = .next { (s.copyGo ch m).1 with pending := s.pending }) ∧
   (∀ (s : State) (m : Master) (ch : Fin 4) (w : Word), Alone s m (0x70010 + 0x40 * ch.val) → w.getLsbD 0 = false →
     w.getLsbD 1 = true → exec (.copyAbort m ch w) s = .next (s.copyAbort ch))) ∧
  ((∀ (s : State) (m : Master) (w : Word), Alone s m 0x80108 →
     ∃ t, exec (.gpioOutSet m w) s = .next t ∧
       (∀ k < 32, t.bit F.GPIO_OUT_OUT k = (s.bit F.GPIO_OUT_OUT k || w.getLsbD k)) ∧ Only [F.GPIO_OUT_OUT] s t) ∧
   (∀ (s : State) (m : Master) (w : Word), Alone s m 0x8010C →
     ∃ t, exec (.gpioOutClr m w) s = .next t ∧
       (∀ k < 32, t.bit F.GPIO_OUT_OUT k = (s.bit F.GPIO_OUT_OUT k && !w.getLsbD k)) ∧ Only [F.GPIO_OUT_OUT] s t))

/-- LINE_LATCH_CLEAR, PSE_LATCH_CLEAR, WAKE_FORCE and SWAP_GO (R100, R111, R209, R776, R785), alone in their register cycle.
CLEAR clears the port's latch, and power follows; FORCE forces a wake as it would be with EN as written; GO of an idle swap
keeps the staged image and AT_STRIDE as it finds them, asks for the groups that the image claims, and lets it land. RING_DISABLE, STAT_SNAPSHOT, IOP_STREAM_ENABLE and PTP_CAPTURE (R390,
R515, R522, R537), alone in their register cycle, the register's other fields as they are. ENABLE 0 makes an enabled node
leave the ring; a snapshot of the named ports is taken unless one is; EN 1 of a disabled stream enables it unless it
conflicts; GO latches the local PTP time. -/
def Obligations.LatchSwapAndNetworkRows : Prop :=
  ((∀ (s : State) (m : Master) (p : Fin 2) (w : Word), Alone s m (0xA000C + 0x100 * p.val) → w.getLsbD 31 = true →
     exec (.lineLatchClear m p w) s = .next { (s.lineLatchCleared p).syncPower with pending := s.pending }) ∧
   (∀ (s : State) (m : Master) (n : Fin 2) (w : Word), Alone s m (0xA0410 + 0x100 * n.val) → w.getLsbD 31 = true →
     exec (.pseLatchClear m n w) s = .next { (s.pseLatchCleared n).syncPower with pending := s.pending }) ∧
   (∀ (s : State) (m : Master) (w : Word), Alone s m 0xF0100 → w.getLsbD 1 = true →
     bit1 (w.getLsbD 0) = s.get F.WAKE_CTRL_ENABLE →
     exec (.wakeForce m w) s = .next { (s.wakeSync).forceWake with pending := s.pending }) ∧
   (∀ (s : State) (m : Master) (w : Word), Alone s m 0x108020 → w.getLsbD 0 = true → s.get F.FAB_SWAP_STATUS_STATE < 2 →
     ∃ t, exec (.swapGo m w) s = .next t ∧ t.get F.FAB_SWAP_STATUS_STATE = 2 ∧ t.get F.FAB_SWAP_STATUS_RESULT = 0 ∧
       t.swap = { s.swap with cur := s.swap.buf, fresh := false, img := none, at_ := none, k := 0, passed := false
                              atStride := if w.getLsbD 1 then some (w.toNat / 2 ^ 16) else none } ∧
       t.power = (if formatOk s.swap.buf then s.requestGroups (imgClaims s.swap.buf).stalls else s).power ∧
       t.get F.FAB_SWAP_CTRL_AT_STRIDE = w.toNat / 2 ^ 16 ∧ t.getB F.FAB_SWAP_CTRL_AT_STRIDE_EN = w.getLsbD 1)) ∧
  ((∀ (s : State) (m : Master) (w : Word), Alone s m 0x120000 → s.getB F.RING_CTRL_ENABLE = true → w.getLsbD 0 = false →
     bit1 (w.getLsbD 2) = s.get F.RING_CTRL_CANDIDATE → bit1 (w.getLsbD 1) = s.get F.RING_CTRL_SLACK_EN →
     bitsOf w.toNat 8 8 = s.get F.RING_CTRL_PRECEDENCE →
     exec (.ringDisable m w) s =
       .next { (s.set F.RING_CTRL_ENABLE 0).ringCtrlWritten true with pending := s.pending }) ∧
   (∀ (s : State) (m : Master) (w : Word), Alone s m 0x140800 → w.toNat % 8 ≠ 0 →
     exec (.statSnapshot m w) s = .next (s.takeSnapshot (w.toNat % 8))) ∧
   (∀ (s : State) (m : Master) (k : Fin 32) (w : Word), Alone s m (0x150000 + 0x40 * k.val) → w.getLsbD 31 = true →
     s.getB (F.IOP_RX_CFG_EN k) = false → s.streamConflict false k = false →
     (∀ r, regRow (0x150000 + 0x40 * k.val) = some r → ∀ f ∈ r.fields, f.fld.lo ≠ 31 →
       bitsOf w.toNat f.fld.lo f.fld.width = s.get f.fld) →
     ∃ t u, exec (.iopStreamEnable m false k w) s = .next t ∧ t = { (u : State).streamEnabled false k with pending := s.pending } ∧
       u.getB (F.IOP_RX_CFG_EN k) = true ∧ Only [F.IOP_RX_CFG_EN k] s u) ∧
   (∀ (s : State) (m : Master) (w : Word) (sec ns : Nat), Alone s m 0x160020 → w.getLsbD 0 = true →
     ∃ t, exec (.ptpCapture m w sec ns) s = .next t ∧ t.get F.PTP_TIME_SEC_LO_SEC = sec % 2 ^ 32 ∧
       t.get F.PTP_TIME_SEC_HI_SEC_HI = sec / 2 ^ 32 % 2 ^ F.PTP_TIME_SEC_HI_SEC_HI.width ∧
       t.get F.PTP_TIME_NS_NS = ns % 2 ^ F.PTP_TIME_NS_NS.width ∧
       t.get F.PTP_TIME_SEC_HI_SEQ = (s.get F.PTP_TIME_SEC_HI_SEQ + 1) % 2 ^ F.PTP_TIME_SEC_HI_SEQ.width))

/-- INPUT_QUALIFY and INPUT_DISQUALIFY (R715, R724). An unqualified input that has stood in its range for its time becomes
qualified, a qualified one outside its range ceases to be; the PD input's inrush limit begins with its qualification.
Everything else is what follows a change of inputs, and no other input's QUAL changes. PD_CLASSIFY and PD_INRUSH_END (R723,
R724). The requested and granted classes show in PWR_PD; a grant of less power than requested sets DEMOTED and
PWR_IRQ.PD_CLASS, any other clears DEMOTED and leaves the interrupt bit. 80 ms after the hot-swap switch is fully on the
inrush limit ends. The budget follows in both. -/
def Obligations.InputsQualifyAndPdClasses : Prop :=
  ((∀ (s : State) (n : Fin 4) (mv ms : Nat), s.inputQual n = false →
     (match n.val with
      | 0 => 31000 ≤ mv ∧ mv ≤ 57500
      | 3 => 9500 < mv ∧ mv ≤ 61000 ∧ 10 ≤ ms
      | _ => 17000 < mv ∧ mv ≤ 35000 ∧ 10 ≤ ms) →
     ∃ t, exec (.inputQualify n mv ms) s = .next t ∧ (∀ k < 4, t.inputQual k = (s.inputQual k || decide (k = n.val))) ∧
       t = { (if n.val = 0 then
               { s.setBit F.PWR_IN_STATUS_QUAL n true with power := { s.power with inrush := true } }
             else s.setBit F.PWR_IN_STATUS_QUAL n true).syncPower with pending := s.pending }) ∧
   (∀ (s : State) (n : Fin 4) (mv : Nat), s.inputQual n = true →
     (match n.val with
      | 0 => mv < 31000 ∨ 57500 < mv
      | 3 => mv < 8000 ∨ 61000 < mv
      | _ => mv < 16000 ∨ 35000 < mv) →
     ∃ t, exec (.inputDisqualify n mv) s = .next t ∧ (∀ k < 4, t.inputQual k = (s.inputQual k && decide (k ≠ n.val))) ∧
       t = { (s.setBit F.PWR_IN_STATUS_QUAL n false).syncPower with pending := s.pending })) ∧
  ((∀ (s : State) (req grant : Fin 9),
     ∃ u t, exec (.pdClassify req grant) s = .next t ∧ t = { u.syncPower with pending := s.pending } ∧
       u.get F.PWR_PD_REQ_CLASS = req.val ∧ u.get F.PWR_PD_GRANT_CLASS = grant.val ∧
       u.getB F.PWR_PD_DEMOTED = decide (pdPower.getD grant 0 < pdPower.getD req 0) ∧
       u.getB F.PWR_IRQ_PD_CLASS = (s.getB F.PWR_IRQ_PD_CLASS || decide (pdPower.getD grant 0 < pdPower.getD req 0)) ∧
       Only [F.PWR_PD_REQ_CLASS, F.PWR_PD_GRANT_CLASS, F.PWR_PD_DEMOTED, F.PWR_IRQ_PD_CLASS]
         { s with power := { s.power with pdReq := req } } u) ∧
   (∀ (s : State) (ms : Nat), s.power.inrush = true → 80 ≤ ms →
     exec (.pdInrushEnd ms) s = .next { ({ s with power := { s.power with inrush := false } } : State).syncPower with
       pending := s.pending }))

/-- OUTPUT_REQUEST, BUDGET_SHED and BUDGET_RECHECK (R730–R732). Each is the shared consideration of its outputs, in the order of
R730, and then what follows from the budget as it stands; a shed alone is what follows. How one output is considered (R730):
it is granted if the own reservation, the requests already granted and its request sum to at most P_AVAIL; if not, its STATE
reads DENIED (2) and PWR_IRQ.DENIED is set. No other field changes. INPUT_OVERLOAD (R733). Above P_AVAIL for 100 ms the
granted output that R731 would shed first is shed, PWR_CNT.OVERLOADS counting it, and the budget follows. With no granted
output left PWR_IRQ.OVERLOAD is set and nothing else changes. A shed output (R731, R733): its STATE reads SHED (3), the
named counter rises by 1 and PWR_IRQ.SHED is set; beside the event log's own fields no other field changes. -/
def Obligations.BudgetGrantsAndSheds : Prop :=
  ((∀ (s : State) (outs : List (Fin 4)),
     exec (.outputRequest outs) s = .next { (s.grantOutputs ((List.range 4).filter (fun o =>
         outs.any (fun q => q.val = o) && s.inService o && s.get (F.PWR_OUT_STATE o) == 0))).syncPower with
       pending := s.pending }) ∧
   (∀ s : State, exec .budgetShed s = .next { s.syncPower with pending := s.pending }) ∧
   (∀ (s : State) (ms : Nat),
     exec (.budgetRecheck ms) s = .next { (s.grantOutputs ((List.range 4).filter (s.reconsider ms))).syncPower with
       pending := s.pending })) ∧
  (∀ (s : State) (o : Nat), o < 4 →
     (s.reservedSum + s.outRequest o ≤ s.pAvail →
       (s.grantOutputs [o]).granted o = true ∧ Only [F.PWR_OUT_STATE o] s (s.grantOutputs [o])) ∧
     (s.pAvail < s.reservedSum + s.outRequest o →
       (s.grantOutputs [o]).get (F.PWR_OUT_STATE o) = 2 ∧ (s.grantOutputs [o]).getB F.PWR_IRQ_DENIED = true ∧
       Settles [F.PWR_OUT_STATE o, F.PWR_IRQ_DENIED] s (s.grantOutputs [o]))) ∧
  (∀ (s : State) (watts ms : Nat), s.pAvail < watts → 100 ≤ ms →
     (∀ o, s.firstShed = some o →
       exec (.inputOverload watts ms) s =
         .next { (s.shedOutput o F.PWR_CNT_OVERLOADS).syncPower with pending := s.pending }) ∧
     (s.firstShed = none → exec (.inputOverload watts ms) s = .next (s.setB F.PWR_IRQ_OVERLOAD true))) ∧
  (∀ (s : State) (o : Nat) (c : Fld), o < 4 → c = F.PWR_CNT_SHEDS ∨ c = F.PWR_CNT_OVERLOADS →
     (s.shedOutput o c).get (F.PWR_OUT_STATE o) = 3 ∧
     (s.shedOutput o c).get c = (s.get c + 1) % 2 ^ c.width ∧
     (s.shedOutput o c).getB F.PWR_IRQ_SHED = true ∧
     Settles (F.PWR_OUT_STATE o :: c :: F.PWR_IRQ_SHED :: logFields) s (s.shedOutput o c))

/-- VIN_VALID, RAIL_TIMEOUT and RAIL_RETRY (R737, R738). In self-supplied mode a valid VIN raises every rail and the supply
monitor releases reset; a rail that has not risen 10 ms after its start turns every rail but VDD_AON off and holds reset,
the third failed try recording the rail; 100 ms later the sequence starts again unless three tries have failed.
SEQ_VIOLATION, SEQ_LEGAL and AVS_ADJUST (R740, R743). With external rails the first broken rule of R742 holds reset; once
the rails are legal the rule is recorded in SEQ_FAULT and SEQ_RULE and reset is released. With AVS_EN in self-supplied mode
the core setpoint rises by 10 mV, at most to 850, while a stall has been slow for 8 strides, and falls by 10 mV, at least to
650, after 8,000 good strides. -/
def Obligations.RailsAndCoreVoltage : Prop :=
  ((∀ (s : State) (mv : Nat), 9500 ≤ mv → s.get F.PWR_IN_STATUS_ACTIVE ≠ 7 → s.power.railTries < 3 →
     exec (.vinValid mv true) s = .next { (s.setB F.PWR_RAILS_SELF true).set F.PWR_RAILS_GOOD 0x3F with
       power := { s.power with vinLost := false, railsStopped := false, resetHeld := false } } ∧
     exec (.vinValid mv false) s = .next { s.setB F.PWR_RAILS_SELF false with power := { s.power with vinLost := false } }) ∧
   (∀ (s : State) (r : Fin 6) (ms : Nat), s.getB F.PWR_RAILS_SELF = true → 10 ≤ ms →
     (s.power.railTries < 2 →
       exec (.railTimeout r ms) s = .next { s.set F.PWR_RAILS_GOOD (s.get F.PWR_RAILS_GOOD % 2) with
         power := { s.power with railTries := s.power.railTries + 1, railsStopped := true, resetHeld := true } }) ∧
     (s.power.railTries = 2 →
       exec (.railTimeout r ms) s =
         .next (({ s.set F.PWR_RAILS_GOOD (s.get F.PWR_RAILS_GOOD % 2) with
           power := { s.power with railTries := 3, railsStopped := true, resetHeld := true } } : State).set
             F.PWR_AON_STATUS_RAIL_FAULT (1 + r.val)))) ∧
   (∀ (s : State) (ms : Nat), s.power.railsStopped = true → 100 ≤ ms → s.power.railTries < 3 →
     exec (.railRetry ms) s = .next { s with power := { s.power with railsStopped := false } })) ∧
  ((∀ (s : State) (r : Fin 5), s.getB F.PWR_RAILS_SELF = false → s.power.resetHeld = false →
     exec (.seqViolation r) s = .next { s with power := { s.power with resetHeld := true, seqBroken := r + 1 } }) ∧
   (∀ s : State, s.getB F.PWR_RAILS_SELF = false → s.power.resetHeld = true → s.power.seqBroken ≠ 0 →
     exec .seqLegal s = .next { (s.setB F.PWR_AON_STATUS_SEQ_FAULT true).set F.PWR_AON_STATUS_SEQ_RULE s.power.seqBroken with
       power := { s.power with resetHeld := false } }) ∧
   (∀ (s : State) (ms : Nat), s.getB F.PWR_RAILS_SELF = true → s.getB F.PWR_CORE_AVS_EN = true → 0 < ms →
     650 ≤ s.get F.PWR_CORE_SETPOINT → s.get F.PWR_CORE_SETPOINT ≤ 850 →
     (s.power.avsLow.any (fun q => decide (8 ≤ q.2)) = true →
       ∃ t, exec (.avsAdjust ms) s = .next t ∧ t.get F.PWR_CORE_SETPOINT = min 850 (s.get F.PWR_CORE_SETPOINT + 10) ∧
         Only [F.PWR_CORE_SETPOINT] s t) ∧
     (s.power.avsLow.any (fun q => decide (8 ≤ q.2)) = false → 8000 ≤ s.power.avsGood →
       ∃ t, exec (.avsAdjust ms) s = .next t ∧ t.get F.PWR_CORE_SETPOINT = max 650 (s.get F.PWR_CORE_SETPOINT - 10) ∧
         Only [F.PWR_CORE_SETPOINT] { s with power := { s.power with avsGood := 0 } } t)))

/-- APP_SLEEP, APP_WAKE and DOMAIN_POWER_UP_DONE (R745–R748). The application core's domain turns off when it may sleep; a wake
event asks for it, and asks wait in ascending number; once its own latency has passed the first domain asked for is on, a
stall group showing in FAB_GROUP_PWR too, no other domain changes by that, Walk's domain brings its stage up, and what follows
from power follows. BROWNOUT_WARNING and BROWNOUT_END (R749, R751). Below 9.0
V for 10 µs BROWNOUT, PWR_IRQ.BROWNOUT, the count and the lowest VIN are recorded, a POWER_FAIL record goes to the journal
and the warning stands; above 9.5 V for 20 ms it ends. -/
def Obligations.DomainsAndBrownout : Prop :=
  ((∀ s : State, s.getB F.PWR_CFG_APP_SLEEP = true → s.domOn 5 = false → s.domOn 6 = false → s.domOn 7 = false →
     s.power.panelAt + 80000 ≤ s.stride →
     ∃ t, exec .appSleep s = .next t ∧ (∀ d < 30, t.bit F.PWR_DOM_ON_ON d = (s.bit F.PWR_DOM_ON_ON d && decide (d ≠ 3))) ∧
       Only [F.PWR_DOM_ON_ON] { s with power := { s.power with upQueue := s.power.upQueue.filter (fun x => x ≠ 3) } } t) ∧
   (∀ s : State, s.domOn 3 = false → 3 ∉ s.power.upQueue →
     exec .appWake s = .next { s with power := { s.power with
       upQueue := insertBy (fun a b => decide (a ≤ b)) 3 s.power.upQueue } }) ∧
   (∀ (s : State) (d us : Nat) (rest : List Nat), s.power.upQueue = d :: rest → powerUpUs d ≤ us →
     ∃ u, exec (.domainPowerUpDone us) s =
         .next { (if d = 9 then (u : State).wakeSync else u).syncPower with pending := s.pending } ∧
       (∀ k < 30, u.bit F.PWR_DOM_ON_ON k = (s.bit F.PWR_DOM_ON_ON k || decide (k = d))) ∧
       (∀ k < 6, u.bit F.PWR_LINE_ON_ON k = (s.bit F.PWR_LINE_ON_ON k || decide (k + 32 = d))) ∧
       (∀ k < 16, u.bit F.FAB_GROUP_PWR_ON k = (s.bit F.FAB_GROUP_PWR_ON k || decide (k + 14 = d))) ∧
       Only [F.PWR_DOM_ON_ON, F.PWR_LINE_ON_ON, F.FAB_GROUP_PWR_ON] { s with power := { s.power with upQueue := rest } } u)) ∧
  ((∀ (s : State) (mv us : Nat), mv < 9000 → 10 ≤ us → s.power.brownout = false → s.power.resetHeld = false →
     ∃ u t, exec (.brownoutWarning mv us) s = .next t ∧
       t = { ({ u.journalPowerFail mv with power := { (u.journalPowerFail mv).power with brownout := true } } : State).syncPower with
         pending := s.pending } ∧
       u.getB F.PWR_AON_STATUS_BROWNOUT = true ∧ u.getB F.PWR_IRQ_BROWNOUT = true ∧
       u.get F.PWR_BROWNOUT_VIN_MIN = mv / 10 % 2 ^ F.PWR_BROWNOUT_VIN_MIN.width ∧
       u.get F.PWR_BROWNOUT_COUNT = (s.get F.PWR_BROWNOUT_COUNT + 1) % 2 ^ F.PWR_BROWNOUT_COUNT.width ∧
       u.get F.PWR_VIN_MV = mv ∧
       Only [F.PWR_AON_STATUS_BROWNOUT, F.PWR_IRQ_BROWNOUT, F.PWR_BROWNOUT_VIN_MIN, F.PWR_BROWNOUT_COUNT, F.PWR_VIN_MV] s u) ∧
   (∀ (s : State) (mv ms : Nat), s.power.brownout = true → 9500 < mv → 20 ≤ ms →
     exec (.brownoutEnd mv ms) s =
       .next { ({ s.set F.PWR_VIN_MV mv with power := { s.power with brownout := false } } : State).syncPower with
         pending := s.pending }))

/-- VIN_LOSS, TETHER_LOSS, TETHER_RETRAIN, THERM_SHUTDOWN and THERM_SHUTDOWN_END (R739, R752, R754–R758, R792). Each loss puts
the line die into its reset state and shows its cause; retraining clears LOST, counts the loss and configures the line die
again; at 120 °C the shutdown ends, and unless the tether is lost the line die is configured again. -/
def Obligations.LineDieLossAndReturn : Prop :=
  (∀ (s : State) (mv us : Nat), mv < 7500 → 5 ≤ us → s.getB F.PWR_RAILS_SELF = true →
    exec (.vinLoss mv us) s = .next { ({ (s.set F.PWR_RAILS_GOOD 0).set F.PWR_VIN_MV mv with
      power := { s.power with vinLost := true, railTries := 0, railsStopped := false, resetHeld := true } } : State).lineDieReset with
        pending := s.pending }) ∧
  (∀ (s : State) (us crc : Nat), 16 ≤ us ∨ 8 ≤ crc → s.getB F.PWR_TETHER_LOST = false →
    ∃ u, exec (.tetherLoss us crc) s =
        .next { (u.ev .tetherLost 1 (s.get F.PWR_TETHER_LOSSES) 0 0).lineDieReset with pending := s.pending } ∧
      u.getB F.PWR_TETHER_LOST = true ∧ u.getB F.PWR_IRQ_TETHER = true ∧
      u.power.tetherAt = s.stride :: s.power.tetherAt.filter (fun k => decide (s.stride < k + 480000)) ∧
      u.getB F.PWR_TETHER_FAILED = (s.getB F.PWR_TETHER_FAILED || decide (8 ≤ u.power.tetherAt.length)) ∧
      Only [F.PWR_TETHER_LOST, F.PWR_IRQ_TETHER, F.PWR_TETHER_FAILED]
        { s with power := { s.power with tetherAt := u.power.tetherAt } } u) ∧
  (∀ s : State, s.getB F.PWR_TETHER_LOST = true → s.getB F.PWR_TETHER_FAILED = false →
    exec .tetherRetrain s = .next { ((s.setB F.PWR_TETHER_LOST false).inc F.PWR_TETHER_LOSSES).reconfigure with
      pending := s.pending }) ∧
  (∀ (s : State) (h : Int), 540 < h → s.getB F.THERM_STATUS_SHUTDOWN = false →
    exec (.thermShutdown h) s =
      .next { ((s.setB F.THERM_STATUS_SHUTDOWN true).setB F.THERM_IRQ_SHUTDOWN true).lineDieReset with pending := s.pending }) ∧
  (∀ (s : State) (h : Int), h < 480 → s.getB F.THERM_STATUS_SHUTDOWN = true →
    (s.getB F.PWR_TETHER_LOST = true → exec (.thermShutdownEnd h) s = .next (s.setB F.THERM_STATUS_SHUTDOWN false)) ∧
    (s.getB F.PWR_TETHER_LOST = false →
      exec (.thermShutdownEnd h) s = .next { (s.setB F.THERM_STATUS_SHUTDOWN false).reconfigure with pending := s.pending }))

/-- AUTO_LISTEN_END and AUTO_RELISTEN (R36–R40). At the end of its listen an AUTO port that saw more than 8.0 V, or is the only
input, becomes a sink (1), any other a source (2), which starts softly if it may and is granted; a sink whose voltage stays
below 8.0 V for 1 s listens again. SOURCE_START, SOURCE_LISTEN_END and ALREADY_POWERED_RELISTEN (R765, R766). A source that
may and is granted listens (STATE 2), its port's calls ended; at or below 8.0 V the listen ends in a soft start; above it
the line is already powered: an AUTO port becomes a sink, another waits in STATE 3. -/
def Obligations.PortsListenBeforePower : Prop :=
  ((∀ (s : State) (p : Fin 2) (mv : Nat), s.role p = 3 → s.roleCode p = 3 → s.lineUp = true →
     (8000 < mv ∨ s.onlyInput p = true →
       exec (.autoListenEnd p mv) s = .next { s.setRole p 1 with pending := s.pending }) ∧
     (mv ≤ 8000 → s.onlyInput p = false →
       ((s.setRole p 2).mayLine p && (s.setRole p 2).granted p) = false →
       exec (.autoListenEnd p mv) s = .next { s.setRole p 2 with pending := s.pending }) ∧
     (mv ≤ 8000 → s.onlyInput p = false →
       ((s.setRole p 2).mayLine p && (s.setRole p 2).granted p) = true →
       exec (.autoListenEnd p mv) s = .next { (s.setRole p 2).softStart p with pending := s.pending })) ∧
   (∀ (s : State) (p : Fin 2) (mv ms : Nat), s.role p = 1 → s.roleCode p = 3 → mv < 8000 → 1000 ≤ ms → s.lineUp = true →
     exec (.autoRelisten p mv ms) s = .next { s.listen p with pending := s.pending })) ∧
  ((∀ (s : State) (p : Fin 2), s.role p = 2 → s.get (F.LINE_STATUS_STATE p) = 1 → s.mayLine p = true → s.granted p = true →
     ∃ t, exec (.sourceStart p) s = .next t ∧ t.get (F.LINE_STATUS_STATE p) = 2 ∧
       t = { (s.portCallsEnd p).setLine p 2 with pending := s.pending }) ∧
   (∀ (s : State) (p : Fin 2) (mv : Nat), s.get (F.LINE_STATUS_STATE p) = 2 → mv ≤ 8000 →
     exec (.sourceListenEnd p mv) s = .next { s.softStart p with pending := s.pending }) ∧
   (∀ (s : State) (p : Fin 2) (mv : Nat), s.get (F.LINE_STATUS_STATE p) = 2 → 8000 < mv →
     (s.alreadyPowered p mv).roleCode p ≠ 3 →
     exec (.sourceListenEnd p mv) s = .next { ((s.alreadyPowered p mv).setLine p 3).syncPower with pending := s.pending }) ∧
   (∀ (s : State) (p : Fin 2) (mv : Nat), s.get (F.LINE_STATUS_STATE p) = 3 → mv ≤ 8000 →
     exec (.alreadyPoweredRelisten p mv) s = .next { s.softStart p with pending := s.pending }))

/-- SOFT_START_DONE, SOFT_START_TIMEOUT, LINE_OVERLOAD and LINE_CONTENTION (R765, R768, R769). Within 5 % of V_SET in 60 ms the
port is SOURCING (5); short of 95 % after 60 ms, at the limit for 10 ms, below 12.0 V for 1 ms, or with more than 50 mA
flowing in for 2 ms, the port takes its fault. RETRY_WAIT_END and RETRY_RESET (R773–R775). A port whose drawn wait is over
and that is not taken over by another's power starts again, counting the retry up to 8, if it is granted, and else returns
to STATE 1; 600 s of unbroken sourcing clear the count. The wait that a fault draws lies within 5,000–15,000 ms.
SHORT_TO_SUPPLY_BEGIN, SHORT_TO_SUPPLY_END and SHORT_RECOVER (R777–R779). Above 15.0 V for 10 ms a monitored pin reads
shorted in NOW and SEEN, raises LINE_IRQ.SHORT, is held and recorded; at or below 12.0 V for 10 ms NOW clears, the hold goes
on, and 1 s later it may end at the next boundary. -/
def Obligations.LineFaultsRetriesAndShorts : Prop :=
  ((∀ (s : State) (p : Fin 2) (mv vin ms : Nat), s.get (F.LINE_STATUS_STATE p) = 4 → 95 * s.lineVset p ≤ 100 * mv →
     100 * mv ≤ 105 * s.lineVset p → ms ≤ 60 →
     exec (.softStartDone p mv vin ms) s =
       .next { ((s.set F.PWR_VIN_MV vin).setLine p 5).syncPower with pending := s.pending }) ∧
   (∀ (s : State) (p : Fin 2) (mv ms : Nat), s.get (F.LINE_STATUS_STATE p) = 4 → 100 * mv < 95 * s.lineVset p → 60 ≤ ms →
     exec (.softStartTimeout p mv ms) s = .next { s.lineFault p false with pending := s.pending }) ∧
   (∀ (s : State) (p : Fin 2) (limitMs lowMs : Nat), s.sourcing p = true → 10 ≤ limitMs ∨ 1 ≤ lowMs →
     exec (.lineOverload p limitMs lowMs) s = .next { s.lineFault p false with pending := s.pending }) ∧
   (∀ (s : State) (p : Fin 2) (ma ms : Nat), s.feeding p = true → 50 < ma → 2 ≤ ms →
     exec (.lineContention p ma ms) s = .next { s.lineFault p true with pending := s.pending })) ∧
  ((∀ (s : State) (p : Fin 2) (ms mv : Nat), s.get (F.LINE_STATUS_STATE p) = 6 → s.mayLine p = true →
     (if p.val = 0 then s.power.waitMs.1 else s.power.waitMs.2) ≤ ms → s.roleCode p ≠ 3 → mv ≤ 8000 →
     (s.granted p = true →
       exec (.retryWaitEnd p ms mv) s = .next { (s.incSat (F.LINE_RETRY_RETRIES p)).softStart p with pending := s.pending }) ∧
     (s.granted p = false →
       exec (.retryWaitEnd p ms mv) s = .next { (s.setLine p 1).syncPower with pending := s.pending })) ∧
   (∀ (s : State) (p : Fin 2) (k : Nat), s.power.sourcingAt.getD p none = some k → s.sourcing p = true →
     k + 4800000 ≤ s.stride → exec (.retryReset p) s = .next (s.set (F.LINE_RETRY_RETRIES p) 0)) ∧
   (∀ (s : State) (p : Nat), 5000 ≤ (if p = 0 then (s.drawWait p).power.waitMs.1 else (s.drawWait p).power.waitMs.2) ∧
     (if p = 0 then (s.drawWait p).power.waitMs.1 else (s.drawWait p).power.waitMs.2) ≤ 15000)) ∧
  ((∀ (s : State) (pin : Fin 10) (mv ms : Nat), s.pinOn pin = true → 15000 < mv → 10 ≤ ms →
     s.bit F.LINE_SHORT_NOW pin = false → (pin.val < 2 && s.generating (2 * pin.val + 1)) = false →
     exec (.shortToSupplyBegin pin mv ms) s =
       .next { (({ ((s.setBit F.LINE_SHORT_NOW pin true).setBit F.LINE_SHORT_SEEN pin true).setB F.LINE_IRQ_SHORT true with
         line := { s.line with
           shortHold := putBit s.line.shortHold pin true, shortDone := putBit s.line.shortDone pin false } } : State).ev
             .shortToSupply (if pin.val < 2 then 32 + pin.val else 13) pin 0 0).syncPower with pending := s.pending }) ∧
   (∀ (s : State) (pin : Fin 10) (mv ms : Nat), s.bit F.LINE_SHORT_NOW pin = true → mv ≤ 12000 → 10 ≤ ms →
     ∃ t, exec (.shortToSupplyEnd pin mv ms) s = .next t ∧
       (∀ k < 10, t.bit F.LINE_SHORT_NOW k = (s.bit F.LINE_SHORT_NOW k && decide (k ≠ pin.val))) ∧
       Only [F.LINE_SHORT_NOW] s t) ∧
   (∀ (s : State) (pin : Fin 10) (ms : Nat), s.line.shortHold.testBit pin = true → s.bit F.LINE_SHORT_NOW pin = false →
     1000 ≤ ms →
     exec (.shortRecover pin ms) s =
       .next { s with line := { s.line with shortDone := putBit s.line.shortDone pin true } }))

/-- PSE_DETECTION, PSE_CLASSIFICATION and PSE_POWER_UP (R781, R782, R786). A signature of 19.0–26.5 kΩ goes on to
classification, any other waits 500 ms, and a voltage above 10.0 V applies no power and waits 2 s. The lower of the measured
and the allowed class is allocated, and power-up begins where the budget covers it. At VIN − 1.0 V within 75 ms the port is
POWERED (5), else it takes a START fault. PSE_FAULT, PSE_DISCONNECT and PSE_RETRY_WAIT_END (R784, R785). Each fault of a
powered port has its own limit and time; VIN_RANGE waits 1 s and counts nothing; below 10 mA for 350 ms the port returns to
detection after 2 s; a wait that is over ends, and from STATE 6 or 8 detection begins again. -/
def Obligations.PsePortsPowerAndFault : Prop :=
  ((∀ (s : State) (n : Fin 2) (mv sig : Nat), s.pseState n = 2 → (s.psePort n).wait = 0 →
     (10000 < mv → exec (.pseDetection n mv sig) s =
       .next { (((s.setB (F.PSE_FAULT_EXT_POWERED n) true).setB F.LINE_IRQ_PSE_FAULT true).pseWait n 8 2000).syncPower with
         pending := s.pending }) ∧
     (mv ≤ 10000 → 190 ≤ sig → sig ≤ 265 →
       exec (.pseDetection n mv sig) s = .next { (s.set (F.PSE_STATUS_SIGNATURE n) sig).setPse n 3 with pending := s.pending }) ∧
     (mv ≤ 10000 → sig < 190 ∨ 265 < sig →
       exec (.pseDetection n mv sig) s =
         .next { (s.set (F.PSE_STATUS_SIGNATURE n) (min 65535 sig)).pseWait n 2 500 with pending := s.pending })) ∧
   (∀ (s : State) (n : Fin 2) (cls : Fin 5), s.pseState n = 3 →
     ∃ (c : Nat) (u : State), exec (.pseClassification n cls) s =
         .next { (u.setPse n (if u.pseSum + u.pseWant n ≤ u.pseBudget then 4 else 1)).syncPower with pending := s.pending } ∧
       pseAlloc.getD c 0 = min (pseAlloc.getD cls 0) (pseAlloc.getD (s.get (F.PSE_CFG_MAX_CLASS n)) 0) ∧
       u = (s.set (F.PSE_STATUS_CLASS n) c).updPse n (fun q => { q with alloc := pseAlloc.getD c 0 })) ∧
   (∀ (s : State) (n : Fin 2) (mv vin ms : Nat), s.pseState n = 4 →
     (vin ≤ mv + 1000 → ms ≤ 75 →
       exec (.psePowerUp n mv vin ms) s = .next { (s.setPse n 5).syncPower with pending := s.pending }) ∧
     (mv + 1000 < vin → 75 ≤ ms →
       exec (.psePowerUp n mv vin ms) s = .next { s.pseFaulted n (F.PSE_FAULT_START n) with pending := s.pending }))) ∧
  ((∀ (s : State) (n : Fin 2) (value ms : Nat), s.pseState n = 5 →
     (s.pseWant n * 105 < value * 100 → 60 ≤ ms →
       exec (.pseFault n 0 value ms) s = .next { s.pseFaulted n (F.PSE_FAULT_OVERLOAD n) with pending := s.pending }) ∧
     (850 ≤ value → 60 ≤ ms →
       exec (.pseFault n 1 value ms) s = .next { s.pseFaulted n (F.PSE_FAULT_ILIM n) with pending := s.pending }) ∧
     (2000 < value →
       exec (.pseFault n 2 value ms) s = .next { s.pseFaulted n (F.PSE_FAULT_SHORT n) with pending := s.pending }) ∧
     (value < 43000 ∨ 57500 < value → 1 ≤ ms →
       exec (.pseFault n 3 value ms) s =
         .next { (((s.setB (F.PSE_FAULT_VIN_RANGE n) true).setB F.LINE_IRQ_PSE_FAULT true).pseWait n 0 1000).syncPower with
           pending := s.pending })) ∧
   (∀ (s : State) (n : Fin 2) (ma ms : Nat), s.pseState n = 5 → ma < 10 → 350 ≤ ms →
     exec (.pseDisconnect n ma ms) s = .next { (s.pseWait n 2 2000).syncPower with pending := s.pending }) ∧
   (∀ (s : State) (n : Fin 2) (ms : Nat), (s.psePort n).wait ≠ 0 → (s.psePort n).wait ≤ ms →
     s.pseState n = 6 ∨ s.pseState n = 8 →
     exec (.pseRetryWaitEnd n ms) s =
       .next { ((s.updPse n (fun q => { q with wait := 0 })).setPse n 2).syncPower with pending := s.pending }))

/-- THERM_SAMPLE and THERM_LEVEL_CHANGE (R787–R791). A sample is taken for both dies, the logic die first. A die whose next
level is due takes it at once, starts its dwell anew, counts the change and raises THERM_IRQ.LEVEL; no level is due before
its dwell but CRITICAL, which a die may enter at any time. -/
def Obligations.ThermalLevels : Prop :=
  (∀ (s : State) (logic line : List Int),
    exec (.thermSample logic line) s = .next { (s.thermDie 0 logic).thermDie 1 line with pending := s.pending }) ∧
  (∀ (s : State) (d : Fin 2) (v : Nat), s.nextLevel d = some v → d.val < s.power.die.length →
    ∃ u t : State, exec (.thermLevelChange d) s = .next t ∧ t = { u.syncPower with pending := s.pending } ∧
      u.get (dieLevel d) = v ∧ u.getB F.THERM_IRQ_LEVEL = true ∧ (u.die d).sinceChange = 0 ∧
      u.get F.THERM_CNT_CHANGES = (s.get F.THERM_CNT_CHANGES + 1) % 2 ^ F.THERM_CNT_CHANGES.width ∧
      u.get F.THERM_STATUS_NODE = max (u.get F.THERM_STATUS_LOGIC) (u.get F.THERM_STATUS_LINE)) ∧
  (∀ (s : State) (d v : Nat), s.nextLevel d = some v → v ≤ 3 ∧ (v = 3 ∨ 2000 ≤ (s.die d).sinceChange) ∧
    (v = s.get (dieLevel d) + 1 ∨ v + 1 = s.get (dieLevel d) ∨ (v = 3 ∧ s.get (dieLevel d) < 3)))

/-- POWER_ON_RESET, PIN_RESET, WATCHDOG_EXPIRY and ZEROISATION_COMPLETE (R21–R23, R661, R668, R669, R671, R707). Restoring the
reset codes of a reset gives each field of those codes its reset value and leaves every other field, but for the three fields
that `State.restore` names. A power-on reset gives every field its reset value but those that power entry and the die supply,
empties the fabric and the power state, and starts cold with cause POR; RST_N low for 10 µs restores the fields of PIN, WDT,
ZERO and SOFT and starts cold with cause PIN, below 1 µs it is ignored, and between the two the model leaves open which (log
entry 4). A reset requested with one that restores more codes, the next
command that waits (log entry 28), is dropped. A zeroisation in progress is never dropped: it
completes first, and a watchdog expiry during it only marks the reset that follows it. A watchdog expiry in halter mode for a
hard error or a zeroisation keeps that mode and its cause; any other reruns the choice of images. The end of a zeroisation
leaves the island without its keys, in HALTER, with the causes recorded. -/
def Obligations.ResetsAndWatchdog : Prop :=
  ((∀ (s : State) (rs : List Rst) (f : Fld) (r : Rst), rstOfKey f.key = some r →
     f.key ∉ [F.MIC_PRIV_STATUS_PIN, F.PWR_TETHER_LOST, F.TG_PRIO_INTERRUPT_DIM].map Fld.key →
     (s.restore rs).get f = if rs.contains r then f.rst % 2 ^ f.width else s.get f) ∧
   (∀ (s : State) (straps : Straps) (flash : List (Nat × Byte)) (serial mac : Nat) (self : Bool),
     ∃ u : State,
       (s.isle.zeroing = none → exec (.powerOnReset straps flash serial mac self) s =
         .next { (u.coldBase straps flash 0).chooseImages with pending := s.pending }) ∧
       (∀ c, s.isle.zeroing = some c → exec (.powerOnReset straps flash serial mac self) s =
         .next { (u.coldBase straps flash 0).zeroReset c with pending := s.pending }) ∧
       (∀ f : Fld, f.key ∉ ([F.SYS_SERIAL_SERIAL, F.SYS_MAC_HI_BASE_0_1, F.SYS_MAC_LO_BASE_2_5, F.SYS_STRAPS_SUPPLY_MODE,
           F.PWR_RAILS_SELF, F.PWR_AON_STATUS_SEQ_FAULT, F.PWR_AON_STATUS_SEQ_RULE, F.MIC_PRIV_STATUS_PIN] ++
           ownAddressFields).map Fld.key → u.get f = f.rst % 2 ^ f.width) ∧
       u.get F.SYS_SERIAL_SERIAL = serial % 2 ^ 32 ∧ u.getB F.SYS_STRAPS_SUPPLY_MODE = self ∧
       u.getB F.PWR_RAILS_SELF = self ∧ u.net.macs = [mac, mac + 1, mac + 2] ∧ u.fab = FabState.reset ∧
       u.clk = ClkState.reset ∧ u.power = { PowerState.reset with vinLost := s.power.vinLost && !self, seqBroken := 0 })) ∧
  ((∀ (s z : State) (us : Nat) (straps : Straps) (flash : List (Nat × Byte)),
     z = (match s.isle.zeroing with
       | none => s
       | some c => s.zeroReset c) →
     (s.porWaits = true ∨ us < 1 → exec (.pinReset us straps flash) s = .next s) ∧
     (s.porWaits = false → 10 ≤ us → ∃ v : State, exec (.pinReset us straps flash) s =
       .next { (v.coldBase straps flash 1).chooseImages with pending := s.pending } ∧
       Only ownAddressFields (z.restore [.pin, .wdt, .zero, .soft]) v) ∧
     (s.porWaits = false → 1 ≤ us → us < 10 → exec (.pinReset us straps flash) s =
       (if s.freeBool.1 then exec (.pinReset 10 straps flash) s.freeBool.2 else .next s.freeBool.2))) ∧
   (∀ s : State,
     (s.hardResetWaits = true → exec .watchdogExpiry s = .next s) ∧
     (∀ c, s.hardResetWaits = false → s.isle.zeroing = some c →
       exec .watchdogExpiry s = .next { s with isle := { s.isle with wdtDue := true } }) ∧
     (s.hardResetWaits = false → s.isle.zeroing = none →
       (s.getB F.SYS_PERSONA_HALTER = false ∨ (s.get F.BOOT_STATUS_HALTER_CAUSE ≠ 2 ∧ s.get F.BOOT_STATUS_HALTER_CAUSE ≠ 3) →
         exec .watchdogExpiry s = .next { s.wdtReset with pending := s.pending }) ∧
       (s.getB F.SYS_PERSONA_HALTER = true → s.get F.BOOT_STATUS_HALTER_CAUSE = 3 →
         exec .watchdogExpiry s = .next { (s.wdtBase.enterHalter 3).showFw with pending := s.pending }) ∧
       (s.getB F.SYS_PERSONA_HALTER = true → s.get F.BOOT_STATUS_HALTER_CAUSE = 2 →
         exec .watchdogExpiry s =
           .next { ((s.wdtBase.enterHalter 2).showFw.set F.SEC_STATUS_STATE 2).showSec with pending := s.pending })))) ∧
  (∀ (s : State) (c : Nat), s.isle.zeroing = some c →
     exec .zeroisationComplete s = .next { s.zeroReset c with pending := s.pending } ∧
     ∃ u : State, s.zeroReset c = (u.enterHalter 3).showFw ∧ u.isle.zeroing = none ∧ u.isle.wdtDue = false ∧
       u.isle.tackKey = false ∧ u.isle.caks = [] ∧ u.isle.identity = [] ∧ u.isle.pwk = false ∧ u.isle.drbg = none ∧
       u.isle.nets = [] ∧ u.isle.mbox = none ∧ u.get F.SYS_RESET_CAUSE_LAST = 3 ∧
       u.get F.SEC_ZERO_CAUSE_CAUSE = c % 2 ^ F.SEC_ZERO_CAUSE_CAUSE.width)

/-- MEDIA_PLL_LOCK, MEDIA_MODE_CHANGE, REF_LOST and REF_RESTORED (chapter 18). The lock shows in MEDIA_LOCK and changes nothing
else; a mode change steers the media clock, holding the last correction on entering HOLDOVER; 10 µs without the reference
sets REF_LOST, records it, holds over and drops every link; 10 ms with it again clears REF_LOST and steers. RTC_XTAL_SWITCH
and ACCESS_TIMEOUT (chapters 18, 19). A crystal that starts within 1 s shows in XTAL_OK and becomes the source. An access
whose domain does not answer sets TIMEOUT in the master's error bank with its domain and address, counts the error, names
the domain in CLK_TIMEOUT and is recorded. -/
def Obligations.ClocksFollowTheirReferences : Prop :=
  ((∀ s : State, exec .mediaPllLock s = .next (s.setB F.CLK_STATUS_MEDIA_LOCK true)) ∧
   (∀ (s : State) (phase ppm : Int),
     exec (.mediaModeChange phase ppm) s = .next { (({ s with clk := { s.clk with
       held := if s.mediaMode = 3 ∧ s.get F.CLK_STATUS_MODE ≠ 3 then clampTo 20000 ppm else s.clk.held } } : State).steer
         s.mediaMode phase ppm) with pending := s.pending }) ∧
   (∀ (s : State) (us : Nat) (loss : RefLoss), 10 ≤ us → s.getB F.CLK_STATUS_REF_LOST = false →
     ∃ u : State, u = { s with clk := { s.clk with held :=
         (if s.get F.CLK_STATUS_MODE = 1 ∨ s.get F.CLK_STATUS_MODE = 2 then clampTo 20000 loss.ppm else s.clk.held) } } ∧
       exec (.refLost us loss) s = .next { (List.range 3).foldl (fun s p => s.linkDrop p (loss.cuts.getD p ⟨false, false⟩))
         (((u.setB F.CLK_STATUS_REF_LOST true).ev .refLost 1 0 0 0).steer 3 0 0) with pending := s.pending }) ∧
   (∀ (s : State) (ms : Nat), 10 ≤ ms → s.getB F.CLK_STATUS_REF_LOST = true →
     ∃ u : State, exec (.refRestored ms) s = .next { u.steer u.mediaMode (u.getI F.CLK_MEDIA_FREQ_PHASE_NS)
         (u.getI F.CLK_MEDIA_FREQ_PPM) with pending := s.pending } ∧
       u.getB F.CLK_STATUS_REF_LOST = false ∧ Only [F.CLK_STATUS_REF_LOST] s u)) ∧
  ((∀ (s : State) (ms : Nat), ms ≤ 1000 →
     ∃ t, exec (.rtcXtalSwitch ms) s = .next t ∧ t.getB F.CLK_RTC_CFG_XTAL_OK = true ∧ t.getB F.CLK_RTC_CFG_SRC = false ∧
       Only [F.CLK_RTC_CFG_XTAL_OK, F.CLK_RTC_CFG_SRC] s t) ∧
   (∀ (s : State) (m : Master) (a : Nat) (r : RegRow), s.exists_ m = true → s.reach m a false = .reg r →
     m.code < s.banks.length →
     ∃ t : State, exec (.accessTimeout m a) s = .next { (t.addLog Ev.accessTimeout.type m.code (s.powerDomain r.dom) a
         (s.clockDomain r.dom) 0) with pending := s.pending } ∧
       (∃ b, t.banks = s.banks.set m.code b ∧ b.timeout = true ∧ b.addr = a ∧ b.domain = s.powerDomain r.dom ∧
         b.count = ((s.banks.getD m.code ⟨0, false, false, false, false, 0, 0⟩).count + 1) % 256) ∧
       t.get F.CLK_TIMEOUT_DOMAIN = s.clockDomain r.dom % 2 ^ F.CLK_TIMEOUT_DOMAIN.width ∧
       t.get F.CLK_TIMEOUT_COUNT = min (2 ^ F.CLK_TIMEOUT_COUNT.width - 1) (s.get F.CLK_TIMEOUT_COUNT + 1)))

/-- GET_CHALLENGE, AUTHENTICATE, CLOSE_SESSION and GET_IDENTITY (R632–R635, R638, R645). A challenge is given to a host that is
not locked out, the DRBG generating three times for it (log entry 60); a locked host gets LOCKED (8), and a key pair that fails
its test is the hard error 11. A good signature over the challenge opens the operator's session, reseeds the DRBG and uses the
challenge up; a bad one uses it up too, locks the host out and opens nothing; a body of another length and a host without a
challenge are refused; closing ends the session; the identity is given to anyone. Without a crypto-officer session
(R638, R639) every service that needs one answers NO_ROLE (1) and changes nothing but the mailbox. -/
def Obligations.IslandSessionsAndRoles : Prop :=
  ((∀ (s : State) (out : List Byte), Serving s 0x10 →
     (s.hostCode ∈ s.isle.locked → ∀ ok, exec (.getChallenge ⟨out, ok⟩) s = .next (s.reply 0x10 8 [])) ∧
     (s.hostCode ∉ s.isle.locked → ∃ d : State, d = s.drbgDraw.drbgDraw.drbgDraw ∧
       exec (.getChallenge ⟨out, true⟩) s = .next (({ d with isle := { d.isle with
         challenges := s.hostCode :: s.isle.challenges.filter (· ≠ s.hostCode) } } : State).reply 0x10 0 out) ∧
       exec (.getChallenge ⟨out, false⟩) s = .next { d.hardError 11 with pending := s.pending })) ∧
   (∀ (s : State) (ok : Bool) (session : Nat), Serving s 0x11 →
     (s.mboxIn.length ≠ 195 → exec (.authenticate ok session) s = .next ((s.set F.SEC_SESSIONS_HOST 0).reply 0x11 6 [])) ∧
     (s.mboxIn.length = 195 → s.hostCode ∉ s.isle.challenges →
       exec (.authenticate ok session) s = .next ((s.set F.SEC_SESSIONS_HOST 0).reply 0x11 3 []))) ∧
   (∀ (s : State) (session : Nat) (o : Operator), Serving s 0x11 → s.mboxIn.length = 195 →
     s.hostCode ∈ s.isle.challenges → s.isle.operators.find? (fun o => o.slot = beAt s.mboxIn 0 1) = some o →
     beAt s.mboxIn 98 1 = s.hostCode →
     exec (.authenticate true session) s = .next ((({ (s.set F.SEC_SESSIONS_HOST 0) with isle := { s.isle with
       challenges := s.isle.challenges.filter (· ≠ s.hostCode) } } : State).drbgReseed.set F.SEC_SESSIONS_HOST o.role).reply 0x11 0
         (beBytes (65536 * (session % 65536) + o.role) 4)) ∧
     exec (.authenticate false session) s = .next (({ (s.set F.SEC_SESSIONS_HOST 0) with isle := { s.isle with
       challenges := s.isle.challenges.filter (· ≠ s.hostCode)
       locked := s.hostCode :: s.isle.locked.filter (· ≠ s.hostCode) } } : State).reply 0x11 2 [])) ∧
   (∀ s : State, Serving s 0x12 → s.get F.SEC_SESSIONS_HOST ≠ 0 →
     exec .closeSession s = .next ((s.set F.SEC_SESSIONS_HOST 0).reply 0x12 0 [])) ∧
   (∀ s : State, Serving s 0x13 → exec .getIdentity s = .next (s.reply 0x13 0 s.isle.identity))) ∧
  (∀ (s : State) (c : Instr) (sv : Nat) (ok : Bool) (pub : List Byte),
     (c, sv) ∈ [(Instr.removeOperator, 0x21), (.enrolImageKey, 0x22), (.loadKey ok, 0x23), (.deleteKey, 0x24),
       (.genIdentity pub ok, 0x25), (.setMacsec, 0x26), (.commitApproved, 0x27), (.zeroise, 0x28)] →
     Serving s sv → s.co = false → exec c s = .next (s.reply sv 1 []))

/-- ENROL_OPERATOR, REMOVE_OPERATOR and ENROL_IMAGE_KEY (R638–R640). In a crypto-officer session, or as the first crypto officer, a
new operator takes its slot in place of the one before; in a crypto-officer session an operator leaves as long as a crypto officer remains, and an image key is enrolled or, with a
body of one byte, removed. SEC_KEYS shows what the partition then holds. LOAD_KEY, DELETE_KEY and GEN_IDENTITY (R638,
R641–R643). A tack key or a CAK whose unwrap succeeds is loaded, a CAK into one of four slots; a failed unwrap loads
nothing; deletion removes the key; the DRBG generates for a new pair: one whose consistency test holds becomes the identity and
its public key is the answer, one that fails it is the hard error 11. SET_MACSEC, COMMIT_APPROVED and ZEROISE (R629, R638, R646, R658). A port takes its suite, CAK and priority, its
channel starting anew; the right four bytes burn the approved fuse; ZEROISE starts zeroisation with its own cause. -/
def Obligations.IslandKeysAndServices : Prop :=
  ((∀ s : State, Serving s 0x20 →
     (s.co = true ∨ (beAt s.mboxIn 1 1 = 2 ∧ ∀ o ∈ s.isle.operators, o.role ≠ 2)) → s.mboxIn.length = 99 → beAt s.mboxIn 1 1 = 1 ∨ beAt s.mboxIn 1 1 = 2 →
     beAt s.mboxIn 0 1 < 12 →
     exec .enrolOperator s = .next ((({ s with isle := { s.isle with
       operators := s.isle.operators.filter (fun (o : Operator) => o.slot ≠ beAt s.mboxIn 0 1) ++
         [(⟨beAt s.mboxIn 0 1, beAt s.mboxIn 1 1, s.mboxIn.drop 2⟩ : Operator)] } } : State).showKeys).reply 0x20 0 [])) ∧
   (∀ s : State, Serving s 0x21 → s.co = true → s.mboxIn.length = 1 → beAt s.mboxIn 0 1 < 12 →
     (s.isle.operators.filter (fun o => o.slot ≠ beAt s.mboxIn 0 1)).any (fun o => o.role = 2) = true →
     exec .removeOperator s = .next ((({ s with isle := { s.isle with
       operators := s.isle.operators.filter (fun o => o.slot ≠ beAt s.mboxIn 0 1) } } : State).showKeys).reply 0x21 0 [])) ∧
   (∀ s : State, Serving s 0x22 → s.co = true → beAt s.mboxIn 0 1 < 4 →
     (s.mboxIn.length = 98 →
       exec .enrolImageKey s = .next ((({ s with isle := { s.isle with
         imageKeys := s.isle.imageKeys.filter (fun k => k.1 ≠ beAt s.mboxIn 0 1) ++
           [(beAt s.mboxIn 0 1, s.mboxIn.drop 1)] } } : State).showKeys).reply 0x22 0 [])) ∧
     (s.mboxIn.length = 1 →
       exec .enrolImageKey s = .next ((({ s with isle := { s.isle with
         imageKeys := s.isle.imageKeys.filter (fun k => k.1 ≠ beAt s.mboxIn 0 1) } } : State).showKeys).reply 0x22 0 [])))) ∧
  ((∀ s : State, Serving s 0x23 → s.co = true → beAt s.mboxIn 0 1 = 1 → s.mboxIn.length = 42 → beAt s.mboxIn 1 1 = 0 →
     exec (.loadKey true) s =
       .next ((({ s with isle := { s.isle with tackKey := true } } : State).showKeys).reply 0x23 0 []) ∧
     exec (.loadKey false) s = .next (s.reply 0x23 4 [])) ∧
   (∀ s : State, Serving s 0x23 → s.co = true → beAt s.mboxIn 0 1 = 2 → 43 ≤ s.mboxIn.length → s.mboxIn.length ≤ 74 →
     beAt s.mboxIn 1 1 < 4 →
     exec (.loadKey true) s = .next (((({ s with isle := { s.isle with
       caks := s.isle.caks.filter (fun k => k.1 ≠ beAt s.mboxIn 1 1) ++
         [(beAt s.mboxIn 1 1, (s.mboxIn.drop 2).take (s.mboxIn.length - 42))] } } : State).showKeys).syncCaks).reply 0x23 0 []) ∧
     exec (.loadKey false) s = .next (s.reply 0x23 4 [])) ∧
   (∀ s : State, Serving s 0x24 → s.co = true → s.mboxIn.length = 2 →
     (beAt s.mboxIn 0 1 = 1 → beAt s.mboxIn 1 1 = 0 →
       exec .deleteKey s = .next ((({ s with isle := { s.isle with tackKey := false } } : State).showKeys).reply 0x24 0 [])) ∧
     (beAt s.mboxIn 0 1 = 2 → beAt s.mboxIn 1 1 < 4 →
       exec .deleteKey s = .next (((({ s with isle := { s.isle with
         caks := s.isle.caks.filter (fun k => k.1 ≠ beAt s.mboxIn 1 1) } } : State).showKeys).syncCaks).reply 0x24 0 []))) ∧
   (∀ (s : State) (pub : List Byte), Serving s 0x25 → s.co = true →
     ∃ d : State, d = s.drbgDraw ∧
       exec (.genIdentity pub true) s =
         .next ((({ d with isle := { d.isle with identity := pub } } : State).showKeys).reply 0x25 0 pub) ∧
       exec (.genIdentity pub false) s = .next { d.hardError 11 with pending := s.pending })) ∧
  ((∀ s : State, Serving s 0x26 → s.co = true → s.mboxIn.length = 4 → beAt s.mboxIn 0 1 < 3 → beAt s.mboxIn 1 1 < 3 →
     beAt s.mboxIn 2 1 < 4 → (beAt s.mboxIn 1 1 ≠ 0 ∨ beAt s.mboxIn 0 1 = 2 ∨ s.approved = false) →
     exec .setMacsec s = .next { (((({ (s.endSecure (beAt s.mboxIn 0 1)).set (F.SEC_MACSEC_SUITE (beAt s.mboxIn 0 1)) (beAt s.mboxIn 1 1) with
       isle := { s.isle with cakOf := s.isle.cakOf.set (beAt s.mboxIn 0 1) (some (beAt s.mboxIn 2 1)) } } : State).updSec
         (beAt s.mboxIn 0 1) (fun q => { q with prio := beAt s.mboxIn 3 1 })).syncCaks).afterSec (beAt s.mboxIn 0 1)).reply 0x26 0 []
       with pending := s.pending }) ∧
   (∀ s : State, Serving s 0x27 → s.co = true → s.mboxIn = [0x41, 0x50, 0x52, 0x56] →
     exec .commitApproved s =
       .next ((({ s with isle := { s.isle with fuse := true } } : State).showSec).reply 0x27 0 [])) ∧
   (∀ s : State, Serving s 0x28 → s.co = true → s.isle.zeroing = none →
     exec .zeroise s = .next { s.startZero 2 with pending := s.pending } ∧
     (s.startZero 2).isle.zeroing = some 2))

/-- MBOX_SERVICE_DONE (R638). The service's code and the length of its output appear, BUSY ends, SEC_IRQ.MBOX_DONE is set, every
input word reads 0, and every output word holds its four bytes of the output, most significant first. SELF_TESTS_COMPLETE
and ENTROPY_HEALTH_FAIL (R622–R626, R645, R661, R883). Tests that pass with at least 12 oscillators instantiate the DRBG, leave
the island with a partition wrapping key and an identity (a new one where it held none) and make it ready, in HALTER in its
halter state; a failed test, fewer than 12 oscillators, and a new identity that fails its pairwise test are hard errors. A
failed oscillator is disabled, and once the self-tests are over the source has failed when fewer than 12 are left. -/
def Obligations.MailboxTestsAndEntropy : Prop :=
  (∀ (s : State) (sv code : Nat) (out : List Byte), s.isle.mbox = some ⟨sv, some (code, out)⟩ →
     ∃ t, exec .mboxServiceDone s = .next t ∧ t.isle = { s.isle with mbox := none } ∧
       t.getB F.SEC_MBOX_STATUS_BUSY = false ∧ t.getB F.SEC_IRQ_MBOX_DONE = true ∧
       t.get F.SEC_MBOX_STATUS_CODE = code % 2 ^ F.SEC_MBOX_STATUS_CODE.width ∧
       t.get F.SEC_MBOX_STATUS_OUT_LENGTH = out.length % 2 ^ F.SEC_MBOX_STATUS_OUT_LENGTH.width ∧
       (∀ w < 64, t.get (F.SEC_MBOX_IN_DATA w) = 0 ∧
         t.get (F.SEC_MBOX_OUT_DATA w) = beNat (padBytes 4 ((out.drop (4 * w)).take 4)) % 2 ^ 32)) ∧
  ((∀ (s v : State) (osc : Nat) (ident : List Byte) (ok : Bool), s.get F.SEC_STATUS_STATE = 0 → s.isle.zeroing = none →
     v = ({ s with isle := { s.isle with osc := Nat.land s.isle.osc (osc % 65536), tested := true } } : State).showOsc →
     (v.oscCount < 12 →
       exec (.selfTestsComplete 0 osc ident ok) s = .next { v.hardError 12 with pending := s.pending }) ∧
     (12 ≤ v.oscCount → s.isle.identity = [] → ok = false →
       exec (.selfTestsComplete 0 osc ident ok) s = .next { v.hardError 11 with pending := s.pending }) ∧
     (12 ≤ v.oscCount → s.isle.identity ≠ [] ∨ ok = true →
       ∃ u : State, exec (.selfTestsComplete 0 osc ident ok) s = .next
           { (u.set F.SEC_STATUS_STATE (if s.getB F.SYS_PERSONA_HALTER then 4 else 1)).showSec with pending := s.pending } ∧
         u.isle.tested = true ∧ u.isle.osc = Nat.land s.isle.osc (osc % 65536) ∧ u.isle.pwk = true ∧ u.isle.drbg ≠ none ∧
         u.isle.identity = (if s.isle.identity = [] then ident else s.isle.identity) ∧ u.isle.caks = s.isle.caks ∧
         u.get F.SEC_ERROR_OSC_ON = v.get F.SEC_ERROR_OSC_ON)) ∧
   (∀ (s : State) (f : Fin 11) (osc : Nat) (ident : List Byte) (ok : Bool), s.get F.SEC_STATUS_STATE = 0 →
     s.isle.zeroing = none → f.val ≠ 0 →
     exec (.selfTestsComplete f osc ident ok) s = .next { s.hardError f with pending := s.pending }) ∧
   (∀ (s v : State) (o : Fin 16) (run count : Nat), 41 ≤ run ∨ 800 ≤ count → s.isle.osc.testBit o = true →
     v = { s with isle := { s.isle with osc := putBit s.isle.osc o false } } →
     (s.isle.tested = false → exec (.entropyHealthFail o run count) s = .next v) ∧
     (s.isle.tested = true → 12 ≤ v.oscCount ∨ s.get F.SEC_STATUS_STATE = 2 →
       exec (.entropyHealthFail o run count) s = .next v.showOsc) ∧
     (s.isle.tested = true → v.oscCount < 12 → s.get F.SEC_STATUS_STATE ≠ 2 →
       exec (.entropyHealthFail o run count) s = .next { v.showOsc.hardError 12 with pending := s.pending })))

/-- CHALLENGE_EXPIRY, LOCKOUT_END, ZERO_PIN, SHIELD_BREACH and ENV_FAILURE (R632, R634, R658, R663–R667). A challenge lapses
after 10 s and a lockout after 1 s, for that master alone; the pin, a breach of the shield, and a supply, temperature or
clock outside its limits start zeroisation, each with its own cause, and a supply below 0.60 V restarts the island. A
zeroisation that starts (R658, R659) is marked with its cause, shows STATE 3, closes every session and challenge, loses an
unfinished load and swap, and ends a service under way at once with ZEROISED (11). -/
def Obligations.ExpiriesTampersAndZeroisation : Prop :=
  ((∀ (s : State) (m : Master) (ms : Nat), 10000 ≤ ms →
     exec (.challengeExpiry m ms) s =
       .next { s with isle := { s.isle with challenges := s.isle.challenges.filter (· ≠ m.code) } }) ∧
   (∀ (s : State) (m : Master) (ms : Nat), 1000 ≤ ms →
     exec (.lockoutEnd m ms) s = .next { s with isle := { s.isle with locked := s.isle.locked.filter (· ≠ m.code) } }) ∧
   (∀ (s : State) (cycles : Nat), s.isle.zeroing = none → 450000 ≤ cycles →
     exec (.zeroPin cycles) s = .next { s.startZero 1 with pending := s.pending }) ∧
   (∀ s : State, s.isle.zeroing = none →
     exec .shieldBreach s = .next { s.startZero 3 with pending := s.pending }) ∧
   (∀ (s : State) (v : Int) (us : Nat), s.isle.zeroing = none →
     (v < 600 → exec (.envFailure 0 v us) s = .next { ((s.closeSessions).endChannels).islandStart with pending := s.pending }) ∧
     (950 < v → 10 ≤ us → exec (.envFailure 1 v us) s = .next { s.startZero 4 with pending := s.pending }) ∧
     (140 < v ∨ v < -50 → exec (.envFailure 2 v us) s = .next { s.startZero 5 with pending := s.pending }) ∧
     (v < 40000 ∨ 60000 < v → 1 ≤ us → exec (.envFailure 3 v us) s = .next { s.startZero 6 with pending := s.pending }))) ∧
  (∀ (s t : State) (c : Nat), s.isle.zeroing = none → t = s.startZero c →
     t.isle.zeroing = some c ∧ t.get F.SEC_STATUS_STATE = 3 ∧ t.get F.SEC_SESSIONS_HOST = 0 ∧ t.isle.challenges = [] ∧
     t.isle.nets = [] ∧ t.boot.want = none ∧ t.get F.HOST_LOAD_STATUS_STATE = 0 ∧ t.get F.FAB_SWAP_STATUS_STATE = 0 ∧
     (s.isle.mbox ≠ none → t.isle.mbox = none ∧ t.getB F.SEC_MBOX_STATUS_BUSY = false ∧ t.get F.SEC_MBOX_STATUS_CODE = 11))

/-- REGISTER_WRITE (R547, R592, R826). Of a master that is no host, alone in the register cycle, it is the direct write; of the
host master without rivals it is a HOST_WRITE of one word. -/
def Obligations.RegisterWriteIsTheDirectWrite : Prop :=
  (∀ (s : State) (m : Master) (a : Nat) (w : Word), isHost m = false →
    exec (.registerWrite m a w []) s = .next { s.write m a w with pending := s.pending }) ∧
  (∀ (s : State) (a : Nat) (w : Word), s.power.resetHeld = false → a % 4 = 0 →
    exec (.registerWrite s.hostMaster a w []) s = exec (.hostWrite .whole a [w]) s)

/-- A decided write gives every plain read/write field of its register the bits of the word (R17): written with all bits
standing, each RW field reads back what the word has at its place, and no field outside the register changes. -/
def Obligations.WrittenFieldsReadBack : Prop :=
  ∀ (s : State) (r : RegRow) (w : Nat), (r.fields.map (fun f => f.fld.key)).Nodup →
    (∀ f ∈ r.fields, f.acc = .rw → f.fld.lo + f.fld.width ≤ 32 →
      (s.setFields r w (2 ^ 32 - 1)).get f.fld = bitsOf w f.fld.lo f.fld.width) ∧
    Only (r.fields.map (·.fld)) s (s.setFields r w (2 ^ 32 - 1)) ∧
    (∀ f ∈ r.fields, f.acc = .ro ∨ f.acc = .wo → (s.setFields r w (2 ^ 32 - 1)).get f.fld = s.get f.fld)

/-- HOST_WRITE and HOST_READ of the copy buffer (R552, R555, R601). The words of a write stand in the buffer in order, most
significant byte first, no other byte of it changes and no register field does; a read answers the buffer's words and
changes neither. -/
def Obligations.CopyBufferReadsBack : Prop :=
  (∀ (s : State) (a : Nat) (ws : List Word), s.power.resetHeld = false → a % 4 = 0 → 0x2000000 ≤ a →
    a + 4 * ws.length ≤ 0x2010000 →
    ∃ t, exec (.hostWrite .whole a ws) s = .next t ∧ t.answer.code = .ok ∧ t.regs = s.regs ∧
      (∀ i, i < ws.length → beNat (Memory.readAll t.copy.buf (a - 0x2000000 + 4 * i) 4) = (ws.getD i 0).toNat) ∧
      (∀ b, (b < a - 0x2000000 ∨ a - 0x2000000 + 4 * ws.length ≤ b) →
        Memory.read t.copy.buf b = Memory.read s.copy.buf b)) ∧
  (∀ (s : State) (a k : Nat), s.power.resetHeld = false → a % 4 = 0 → 0x2000000 ≤ a → a + 4 * k ≤ 0x2010000 →
    ∃ t, exec (.hostRead .whole a k) s = .next t ∧ t.answer.code = .ok ∧ t.regs = s.regs ∧ t.copy = s.copy ∧
      t.answer.words = (List.range k).map (fun i =>
        BitVec.ofNat 32 (beNat (Memory.readAll s.copy.buf (a - 0x2000000 + 4 * i) 4))))

/-- PAGE_READ and READ_CONTINUE (R571–R574). With no page held, PAGE_READ of k words copies the page that SOURCE, MODE and SEQ
choose and sends its first k words; at 128 words the page is consumed, in mode 0 the read pointer moving past it, below it
is held; READ_CONTINUE goes on where the held page stands. PAGE_HOLD_EXPIRY and LOAD_HOLD_EXPIRY (R573, R576, R583). HOLD_MS
after its transaction a held page is released: TORN is counted and raised, and the window is empty. A load that waits as
long is aborted: STATE 0, the code ABORTED, its interrupt bit, and nothing of what had arrived stays. PAGE_WRITE and
WRITE_CONTINUE (R583, R584), and what arriving bytes do. With a load under way, a PAGE_WRITE at a page's start and a
WRITE_CONTINUE anywhere take their bytes; bytes that neither end their page nor the load are kept at its position, which
moves past them, and the load is HELD (2). -/
def Obligations.PagesAndLoadsPass : Prop :=
  ((∀ (s : State) (k q : Nat), s.power.resetHeld = false → s.host.page = none →
     s.choosePage (s.get F.HOST_PAGE_SEL_SOURCE) (s.get F.HOST_PAGE_SEL_MODE) (s.get F.HOST_PAGE_SEL_SEQ) = some q →
     ∃ t, exec (.pageRead .whole k) s = .next t ∧ t.answer.code = .ok ∧
       t.answer.bytes = (s.pageBytes (s.get F.HOST_PAGE_SEL_SOURCE) q).take (4 * k) ∧
       (k < 128 → t.host.page = some ⟨s.get F.HOST_PAGE_SEL_SOURCE, s.get F.HOST_PAGE_SEL_MODE, q,
         s.pageBytes (s.get F.HOST_PAGE_SEL_SOURCE) q, k, true⟩ ∧ t.host.ptr = s.host.ptr) ∧
       (128 ≤ k → t.host.page = none ∧ t.host.ptr =
         (if s.get F.HOST_PAGE_SEL_MODE = 0 then s.host.ptr.set (s.get F.HOST_PAGE_SEL_SOURCE - 1) (q + 1) else s.host.ptr))) ∧
   (∀ (s : State) (k : Nat) (p : OpenPage), s.power.resetHeld = false → s.host.page = some p →
     ∃ t, exec (.readContinue .whole k) s = .next t ∧ t.answer.code = .ok ∧
       t.answer.bytes = (p.bytes.drop (4 * p.pos)).take (4 * k) ∧
       (p.pos + k < 128 → t.host.page = some { p with pos := p.pos + k, held := true }) ∧
       (128 ≤ p.pos + k → t.host.page = none))) ∧
  ((∀ (s : State) (ms : Nat) (p : OpenPage), s.getB F.HOST_PAGE_STATUS_HELD = true → s.get F.HOST_PAGE_SEL_HOLD_MS ≤ ms →
     s.host.page = some p →
     ∃ t, exec (.pageHoldExpiry ms) s = .next t ∧ t.host.page = none ∧ t.getB F.HOST_PAGE_STATUS_HELD = false ∧
       t.getB F.HOST_IRQ_TORN = true ∧
       t.get F.HOST_PAGE_STATUS_TORN_CNT = (s.get F.HOST_PAGE_STATUS_TORN_CNT + 1) % 2 ^ F.HOST_PAGE_STATUS_TORN_CNT.width) ∧
   (∀ (s : State) (ms : Nat), s.get F.HOST_LOAD_STATUS_STATE = 2 → s.get F.HOST_PAGE_SEL_HOLD_MS ≤ ms →
     ∃ t, exec (.loadHoldExpiry ms) s = .next t ∧ t.get F.HOST_LOAD_STATUS_STATE = 0 ∧
       t.get F.HOST_LOAD_STATUS_CODE = Code.aborted.num ∧ t.getB F.HOST_IRQ_LOAD_ABORT = true ∧
       t.host.loadBuf = [] ∧ t.host.loadPos = 0)) ∧
  ((∀ (s : State) (bytes : List Byte), s.power.resetHeld = false → s.loadRuns = true → bytes.length % 4 = 0 →
     (s.host.loadPos % 512 = 0 →
       exec (.pageWrite .whole bytes) s = .next { ((s.newTxn.2.loadBytes bytes).answerHost (s.statusSent false)
         ⟨s.host.nextTxn, [], 0⟩ [] []) with pending := s.pending }) ∧
     exec (.writeContinue .whole bytes) s = .next { ((s.newTxn.2.loadBytes bytes).answerHost (s.statusSent false)
         ⟨s.host.nextTxn, [], 0⟩ [] []) with pending := s.pending }) ∧
   (∀ (s : State) (data : List Byte), data.length ≤ 512 - s.host.loadPos % 512 →
     s.host.loadPos + data.length < s.host.loadLen →
     (s.loadBytes data).host.loadPos = s.host.loadPos + data.length ∧ (s.loadBytes data).get F.HOST_LOAD_STATUS_STATE = 2 ∧
     (∀ i, i < data.length → Memory.read (s.loadBytes data).host.loadBuf (s.host.loadPos + i) = data.getD i 0) ∧
     (∀ b, b < s.host.loadPos ∨ s.host.loadPos + data.length ≤ b →
       Memory.read (s.loadBytes data).host.loadBuf b = Memory.read s.host.loadBuf b)))

/-- ENTER_QUAD, EXIT_QUAD and HOST_WDOG_EXPIRY (R48–R51, R552, R556). The quad commands switch QUAD; an expired watchdog in host
mode sets HOST_LOST, gives the host's reins back, ends its session, challenge and key requests, and stops. -/
def Obligations.QuadModeAndHostWatchdog : Prop :=
  (∀ s : State, s.power.resetHeld = false → s.getB F.HOST_STATUS_I2C = false → s.getB F.HOST_STATUS_QUAD = false →
    ∃ t, exec .enterQuad s = .next t ∧ t.getB F.HOST_STATUS_QUAD = true ∧ t.answer.code = .ok ∧
      Only [F.HOST_STATUS_QUAD] { s with answer := t.answer, host := t.host } t) ∧
  (∀ s : State, s.power.resetHeld = false → s.getB F.HOST_STATUS_I2C = false → s.getB F.HOST_STATUS_QUAD = true →
    ∃ t, exec .exitQuad s = .next t ∧ t.getB F.HOST_STATUS_QUAD = false ∧ t.answer.code = .ok ∧
      Only [F.HOST_STATUS_QUAD] { s with answer := t.answer, host := t.host } t) ∧
  (∀ (s : State) (ms : Nat), s.getB F.SYS_PERSONA_HOST_MODE = true → s.get F.SYS_HOST_WDOG_TIMEOUT ≠ 0 →
    s.get F.SYS_HOST_WDOG_TIMEOUT ≤ ms → s.host.wdogRunning = true →
    ∃ t, exec (.hostWdogExpiry ms) s = .next t ∧ t.getB F.SYS_PERSONA_HOST_LOST = true ∧ t.get F.SEC_SESSIONS_HOST = 0 ∧
      t.get F.TG_KEY_HOST_REQ = 0 ∧ t.host.wdogRunning = false ∧ s.hostMaster.code ∉ t.isle.challenges ∧
      (∀ g < 16, t.get (F.REINS_HOLDER_HOLDER g) =
        if s.get (F.REINS_HOLDER_HOLDER g) = s.hostMaster.code then 15 else s.get (F.REINS_HOLDER_HOLDER g)))

/-- The next write to SYS_HOST_ALIVE clears SYS_PERSONA.HOST_LOST and gives no reins back to the host (R51), by any master alone
in its register cycle. -/
def Obligations.AliveClearsHostLost : Prop :=
  ∀ (s : State) (m : Master) (w : Word), Alone s m 0x28 →
    ∃ t, exec (.hostAlive m w) s = .next t ∧ t.getB F.SYS_PERSONA_HOST_LOST = false ∧
      ∀ g < 16, t.get (F.REINS_HOLDER_HOLDER g) = s.get (F.REINS_HOLDER_HOLDER g)

/-- What a datagram of one operation needs to be taken (R597, R598). A datagram that R597 or R598 turns away is counted in
DISCARDED and changes nothing else. NET_GET_CHALLENGE, NET_AUTHENTICATE and NET_SESSION_EXPIRY (R600, R633–R636). A
session-0 datagram brings a challenge for the network, the DRBG generating three times for it, or with a good signature over it
opens a session in the operator's role and reseeds the DRBG; one that the island refuses is answered with REFUSED; HOLD_S of silence closes a session, gives the network's reins and key requests back and raises NET_EXPIRED. -/
def Obligations.NetControlIsTaken : Prop :=
  (∀ (s : State) (h : NetHdr) (n : NetSession), s.netListens = true → h.index = 0 → h.opCount = 1 → netHdrOk h = true →
     h.tagOk = true → h.session ≠ 0 → s.netSession h.session = some n → n.lastSeq < h.seq →
     (∀ a : Word, ∃ t, exec (.netKey h a) s = .next t ∧ t.tg = { s.tg with netReq := a.toNat } ∧ t.answer.code = .ok ∧
       t.get F.HOST_NET_CNT_ACCEPTED = (s.get F.HOST_NET_CNT_ACCEPTED + 1) % 2 ^ F.HOST_NET_CNT_ACCEPTED.width ∧
       Only [F.HOST_NET_CNT_ACCEPTED]
         { s with tg := { s.tg with netReq := a.toNat }, answer := t.answer, host := t.host, isle := t.isle } t) ∧
     (∀ a : Word, ∃ t, exec (.netReinsTake h a) s = .next t ∧ ∀ g < 16, t.get (F.REINS_HOLDER_HOLDER g) =
       if a.getLsbD g = true ∧ s.get (F.REINS_HOLDER_HOLDER g) = 15 then Master.network.code
       else s.get (F.REINS_HOLDER_HOLDER g)) ∧
     (∀ a : Word, ∃ t, exec (.netReinsGive h a) s = .next t ∧ t.answer.code = .ok ∧
       ∀ g < 16, t.get (F.REINS_HOLDER_HOLDER g) =
         if a.getLsbD g = true ∧ s.get (F.REINS_HOLDER_HOLDER g) = Master.network.code then 15
         else s.get (F.REINS_HOLDER_HOLDER g)) ∧
     (∀ a : Nat, a % 4 = 0 → 0x2000000 ≤ a → a < 0x2010000 →
       (∃ t, exec (.netRead h a 1) s = .next t ∧ t.answer.code = .ok ∧ t.copy = s.copy ∧
         t.answer.words = [BitVec.ofNat 32 (beNat (Memory.readAll s.copy.buf (a - 0x2000000) 4))]) ∧
       (∀ w : Word, ∃ t, exec (.netWrite h a [w]) s = .next t ∧ t.answer.code = .ok ∧
         t.copy = { s.copy with buf := Memory.writeAll s.copy.buf (a - 0x2000000) (beBytes w.toNat 4) }))) ∧
  (∀ (s : State) (h : NetHdr) (a : Word), s.netListens = true → h.index = 0 →
     (netHdrOk h = false ∨ h.tagOk = false ∨ h.session = 0 ∨ s.netSession h.session = none ∨
       (∃ n, s.netSession h.session = some n ∧ h.seq ≤ n.lastSeq)) →
     exec (.netKey h a) s = .next (s.inc F.HOST_NET_CNT_DISCARDED) ∧
     exec (.netReinsTake h a) s = .next (s.inc F.HOST_NET_CNT_DISCARDED) ∧
     exec (.netReinsGive h a) s = .next (s.inc F.HOST_NET_CNT_DISCARDED) ∧
     exec (.netRead h a.toNat 1) s = .next (s.inc F.HOST_NET_CNT_DISCARDED) ∧
     exec (.netWrite h a.toNat [a]) s = .next (s.inc F.HOST_NET_CNT_DISCARDED)) ∧
  ((∀ (s : State) (h : NetHdr) (out : List Byte), s.takeOpening h = true → s.islandServes = true → 4 ∉ s.isle.locked →
     ∃ d : State, d = s.drbgDraw.drbgDraw.drbgDraw ∧
       exec (.netGetChallenge h ⟨out, true⟩) s = .next (({ d with isle := { d.isle with
         challenges := 4 :: s.isle.challenges.filter (· ≠ 4) } } : State).answerOpening h ⟨16, 61, 0, [], packWords 61 out⟩) ∧
       exec (.netGetChallenge h ⟨out, false⟩) s =
         .next { (d.hardError 11).answerOpening h ⟨16, 61, 0, [(0, .refused)], []⟩ with pending := s.pending }) ∧
   (∀ (s : State) (h : NetHdr) (out : List Byte) (ok : Bool), s.takeOpening h = true →
     s.islandServes = false ∨ 4 ∈ s.isle.locked →
     exec (.netGetChallenge h ⟨out, ok⟩) s = .next (s.answerOpening h ⟨16, 61, 0, [(0, .refused)], []⟩)) ∧
   (∀ (s : State) (h : NetHdr) (body : List Byte) (session : Nat) (o : Operator), s.takeOpening h = true →
     s.islandServes = true → body.length = 195 → 4 ∈ s.isle.challenges →
     s.isle.operators.find? (fun o => o.slot = beAt body 0 1) = some o → beAt body 98 1 = 4 →
     ∃ t, exec (.netAuthenticate h body true session) s = .next t ∧
       t.isle.nets.getLast? = some ⟨session % 2 ^ 16, o.role, 0, s.stride⟩ ∧ t.isle.nets.length ≤ 4 ∧
       t.isle.drbg = s.drbgReseed.isle.drbg ∧ 4 ∉ t.isle.challenges ∧ t.answer.words = [BitVec.ofNat 32 (session % 2 ^ 16 * 2 ^ 16 + o.role)]) ∧
   (∀ (s : State) (session secs : Nat) (n : NetSession), s.netSession session = some n →
     s.get F.HOST_NET_CFG_HOLD_S ≤ secs →
     ∃ t, exec (.netSessionExpiry session secs) s = .next t ∧ t.netSession session = none ∧ t.tg.netReq = 0 ∧
       t.getB F.HOST_IRQ_NET_EXPIRED = true ∧
       (∀ g < 16, t.get (F.REINS_HOLDER_HOLDER g) ≠ Master.network.code)))

/-- MIC_STUCK, MIC_UNSTUCK, STAGE_READY and STAGE_TIMEOUT (R171, R186, R189). A data wire without a transition for 1 ms under a
running clock shows both microphones of its pair stuck, 10 ms of transitions show them free; a stage that has powered up
evaluates from then on; a stage above Walk whose TIMEOUT has passed, and which for Gallop has latched no wake, powers down. WAKE_FRAME_END while Walk alone runs
(R183–R186). The frame is taken once: Walk's confidence is the energy above the floor as it has moved, a frame at or above
THRESH lengthens its run and any other ends it, and with FRAMES of them Trot powers up. The floor of Walk (R185): it falls
at once to a lower energy and rises by at most one step of a frame. -/
def Obligations.MicrophonesAndStages : Prop :=
  ((∀ (s : State) (p : Fin 4) (us : Nat), s.micClock p = true → 1000 ≤ us →
     ∃ t, exec (.micStuck p us) s = .next t ∧
       (∀ k < 8, t.bit F.MIC_STATUS_STUCK k = (s.bit F.MIC_STATUS_STUCK k || decide (k / 2 = p.val))) ∧
       Only [F.MIC_STATUS_STUCK] s t) ∧
   (∀ (s : State) (p : Fin 4) (us : Nat), 10000 ≤ us →
     ∃ t, exec (.micUnstuck p us) s = .next t ∧
       (∀ k < 8, t.bit F.MIC_STATUS_STUCK k = (s.bit F.MIC_STATUS_STUCK k && decide (k / 2 ≠ p.val))) ∧
       Only [F.MIC_STATUS_STUCK] s t) ∧
   (∀ (s : State) (k : Fin 5), 2 ≤ k.val → s.stage = k.val → s.mic.ready.testBit (k.val - 1) = false →
     ∃ t, exec (.stageReady k) s = .next t ∧ t.mic.ready.testBit (k.val - 1) = true ∧ t.domOn (8 + k.val) = true ∧
       Only [F.PWR_DOM_ON_ON] { s with mic := { s.mic with ready := t.mic.ready } } t) ∧
   (∀ (s : State) (k : Fin 5), 2 ≤ k.val → s.stage = k.val → (k.val = 4 → s.mic.latched = false) →
     s.mic.upAt.getD (k.val - 1) 0 + 64 * s.stageTimeout k.val ≤ s.stride →
     ∃ t, exec (.stageTimeout k) s = .next t ∧ t.stage = k.val - 1 ∧ t.mic.ready.testBit (k.val - 1) = false ∧
       t.domOn (8 + k.val) = false)) ∧
  (∀ (s : State) (f : WakeFrame), s.stage = 1 → s.count % 64 = 63 → s.mic.frameAt ≠ some s.stride →
     s.mic.ready.testBit 0 = true → s.mic.runs.length = 4 →
     ∃ t, exec (.wakeFrameEnd f) s = .next t ∧ t.mic.frameAt = some s.stride ∧ t.mic.mutedInFrame = false ∧
       t.get F.WAKE_CONF_WALK = (s.moveFloor f.energy).confidence f 1 % 2 ^ F.WAKE_CONF_WALK.width ∧
       t.stage = (if s.stageFrames 1 ≤
         (if s.stageThresh 1 ≤ (s.moveFloor f.energy).confidence f 1 then s.mic.runs.getD 0 0 + 1 else 0) then 2 else 1)) ∧
  (∀ (s : State) (e : Nat), (e ≤ s.mic.floor → (s.moveFloor e).mic.floor = e) ∧
     (s.mic.floor < e → (s.moveFloor e).mic.floor = s.mic.floor ∨ (s.moveFloor e).mic.floor = s.mic.floor + 1))

/-- WAKE_HANG_EXPIRY, CATCHUP_START, CATCHUP_RING_SWITCH, CATCHUP_LIVE and CATCHUP_TALK_CLOSED (R193–R201). HANG_MS after the
last voiced frame the wake's talk ends and Gallop powers down; at its boundary the catch-up starts at its lag, in the
compressed ring above 12,000 samples; it changes rings, and goes live, at group boundaries; a closed talk path sends it
live. MIC_MUTE_ASSERT, MIC_MUTE_RELEASE and MUTE_SILENCE_END (R211–R216). The pin low shows in PIN and mutes at once,
MIC_STATUS following; where the mute so begins and mutes a microphone of the catch-up, the catch-up ends and the wake's talk is
released; after 20 ms high it shows released, the muted pairs staying silent; 50 ms later the silence ends. -/
def Obligations.WakeTalkAndMute : Prop :=
  ((∀ s : State, s.getB F.WAKE_STATUS_TALK = true → s.mic.voiceAt + 8 * s.get F.WAKE_HANG_HANG_MS ≤ s.stride →
     (s.stage = 4 → exec .wakeHangExpiry s = .next { (s.releaseWake).stageDown with pending := s.pending }) ∧
     (s.stage ≠ 4 → exec .wakeHangExpiry s = .next { s.releaseWake with pending := s.pending })) ∧
   (∀ (s : State) (lag : Nat), s.mic.start = some (s.stride, lag) →
     ∃ t, exec .catchupStart s = .next t ∧ t.get F.HIST_STATUS_LAG = lag % 2 ^ F.HIST_STATUS_LAG.width ∧
       t.get F.HIST_STATUS_MODE = (if lag = 0 then 0 else if lag ≤ 12000 then 2 else 1) ∧
       Only [F.HIST_STATUS_LAG, F.HIST_STATUS_MODE] { s with mic := { s.mic with start := none, since := s.stride } } t) ∧
   (∀ s : State, s.groupBoundary = true → s.get F.HIST_STATUS_MODE = 1 → s.get F.HIST_STATUS_LAG ≤ 12000 →
     exec .catchupRingSwitch s = .next (s.set F.HIST_STATUS_MODE 2)) ∧
   (∀ s : State, s.groupBoundary = true → s.get F.HIST_STATUS_LAG = 0 →
     exec .catchupLive s = .next { s.goLive with pending := s.pending }) ∧
   (∀ s : State, s.catching = true → s.hcodecTalk = false →
     exec .catchupTalkClosed s = .next { s with mic := { s.mic with liveNext := true } })) ∧
  ((∀ s : State,
     ∃ t, exec .micMuteAssert s = .next t ∧ t.muteOn = true ∧ t.mic.muteLow = true ∧
       (s.muteOn = false → s.catching = true → t.beamMuted = true →
         t.mic.liveNext = true ∧ t.getB F.WAKE_STATUS_TALK = false ∧ t.tg.wakeReq = 0) ∧
       (∀ n < 8, t.bit F.MIC_STATUS_MUTED n = t.micMuted n) ∧
       (∀ n < 8, s.bit F.MIC_PRIV_MUTE (n / 2) = true → t.micMuted n = true)) ∧
   (∀ (s : State) (us : Nat), s.muteOn = true → 20000 ≤ us →
     ∃ t, exec (.micMuteRelease us) s = .next t ∧ t.muteOn = false ∧ t.mic.muteLow = false ∧
       t.mic.silent = s.get F.MIC_PRIV_MUTE ∧ (∀ n < 8, t.bit F.MIC_STATUS_MUTED n = t.micMuted n)) ∧
   (∀ (s : State) (us : Nat), s.muteOn = false → 50000 ≤ us →
     ∃ t, exec (.muteSilenceEnd us) s = .next t ∧ t.mic.silent = 0 ∧ t.get F.MIC_STATUS_MUTED = 0 ∧
       Only [F.MIC_STATUS_MUTED] { s with mic := { s.mic with silent := 0 } } t))

/-- KEY_DEBOUNCE, GPIO_EDGE and ENCODER_DETENT (R308, R610–R615). A key input that has been stable for 10 ms shows its level and
gives its requests; an edge that EDGE selects, on a plain input after DEBOUNCE_MS, sets its interrupt bit; a detent of an
enabled encoder counts up or down, wakes the application core, and waits for its control. COPY_ROW (R604, R608, R609). The
next running channel in turn moves one row; a channel told to abort ends with ABORTED and its error interrupt, one with no
row left ends OK and done; with none to serve nothing changes. -/
def Obligations.PanelInputsAndCopyRows : Prop :=
  ((∀ (s : State) (g : Fin 32) (level : Bool) (us : Nat), 10000 ≤ us →
     exec (.keyDebounce g level us) s =
       .next { ((s.panelChange g).setBit F.GPIO_IN_LEVEL g level).keyInput g level with pending := s.pending }) ∧
   (∀ (s : State) (g : Fin 32) (level : Bool) (us : Nat),
     (s.get (F.GPIO_PIN_FUNC g) = 0 → s.get (F.GPIO_PIN_EDGE g) = (if level then 1 else 2) ∨ s.get (F.GPIO_PIN_EDGE g) = 3 →
       s.get F.GPIO_DEBOUNCE_MS * 1000 ≤ us →
       exec (.gpioEdge g level us) s = .next ((s.setBit F.GPIO_IN_LEVEL g level).setBit F.GPIO_IRQ_EDGE g true)) ∧
     (s.get (F.GPIO_PIN_FUNC g) ≠ 0 ∨ s.get (F.GPIO_PIN_EDGE g) = 0 ∨ s.get (F.GPIO_PIN_EDGE g) = (if level then 2 else 1) ∨
       us < s.get F.GPIO_DEBOUNCE_MS * 1000 →
       exec (.gpioEdge g level us) s = .next (s.setBit F.GPIO_IN_LEVEL g level))) ∧
   (∀ (s : State) (k : Fin 4) (cw : Bool), s.getB (F.GPIO_ENC_CFG_EN k) = true →
     ∃ t, exec (.encoderDetent k cw) s = .next t ∧ t.gpio.detents = s.gpio.detents ++ [(k.val, cw)] ∧
       t.get (F.GPIO_ENC_COUNT_COUNT k) = unsignedOf (s.getI (F.GPIO_ENC_COUNT_COUNT k) + (if cw then 1 else -1))
         (F.GPIO_ENC_COUNT_COUNT k).width ∧ t.power.panelAt = s.stride)) ∧
  ((∀ (s : State) (n : Nat), s.nextChannel = some n → exec .copyRow s = .next { s.serveRow n with pending := s.pending }) ∧
   (∀ s : State, s.nextChannel = none → exec .copyRow s = .next s) ∧
   (∀ (s : State) (n : Nat) (c : CopyRun), n < 4 → s.copy.run.getD n none = some c →
     (c.abort = true → (s.serveRow n).get (F.COPY_CH_STATUS_CODE n) = Code.aborted.num ∧
       (s.serveRow n).get (F.COPY_CH_STATUS_STATE n) = 3 ∧ (s.serveRow n).bit F.COPY_IRQ_ERR n = true ∧
       (s.serveRow n).copy.run.getD n none = none) ∧
     (c.abort = false → c.rows = [] → (s.serveRow n).get (F.COPY_CH_STATUS_CODE n) = 0 ∧
       (s.serveRow n).get (F.COPY_CH_STATUS_STATE n) = 2 ∧ (s.serveRow n).bit F.COPY_IRQ_DONE n = true ∧
       (s.serveRow n).copy.run.getD n none = none)))

/-- FULL_LOAD (R88–R93, R698), with an image wanted, nothing loaded and the stalls stopped. An image that passes its checks is
built, its PARAM records and then the journal are applied, MIC_PRIV is locked and the registers of the fabric stay hidden;
one that fails is refused with its code. STALLS_START (R91 step 10, R92, R694, R703). At a boundary after the load the
stalls run, the registers of the fabric show, the outputs ramp in over 40 strides, the boot phase reads 3 with the boot
locked, and power, the mix, the wake models and the wake path follow in this order. -/
def Obligations.LoadsBuildAndStallsStart : Prop :=
  (∀ (s : State) (ev : ImgEv) (w : Nat), s.boot.want = some w → s.fab.running = false → s.fab.rampDown = none →
     s.fab.loaded = false →
     (∀ im, s.fullCheck w ev = (0, some im) →
       ∃ u t, u = ((((im.params.foldl State.applyParam (s.buildImage im (digest8 ev))).setB F.MIC_PRIV_LOCKED
           true).checkLayers im).replay : State) ∧
         exec (.fullLoad ev) s = .next t ∧ t.fab = { u.fab with hidden := true } ∧ t.boot = { u.boot with want := none } ∧
         t.regs = u.regs ∧ t.pending = s.pending) ∧
     (∀ code, s.fullCheck w ev = (code, none) →
       exec (.fullLoad ev) s = .next { s.loadRefused w code with pending := s.pending })) ∧
  (∀ (s : State) (ms : Nat) (models : List Bool) (im : Image), s.fab.image = some im → s.fab.loaded = true →
     s.strideOn = true → s.fab.rampDown = none →
     ∃ u v : State, v = (u.setB F.PWR_IN_STATUS_COLD_START false).syncPower ∧
       exec (.stallsStart ms models) s =
         .next { ((v.startMix v.remoteClass).verifyModels models).showBoot.wakeSync with pending := s.pending } ∧
       u.fab = { s.fab with
         running := true, loaded := false, hidden := false, outRamp := Ramp.silent.aim true 240
         stalls := s.fab.stalls.map (fun (t : Stall) => { t with since := s.stride }) } ∧
       u.boot.audioAt = some s.stride ∧ u.getB F.BOOT_STATUS_LOCKED = true ∧ u.get F.BOOT_STATUS_PHASE = 3)

/-- SWAP_LANDED (R94–R100, R114). A staged image that fails a check is refused with its code. One that passes has its stalls'
groups powered and waits, STATE 3, for its boundary S: the next one, or the one that AT_STRIDE named at GO, for which a landing
less than two strides before it, or after it, is refused with SWAP_MISSED. A refused swap (R89, R114): STATE reads 0, or 1 where
another image was staged meanwhile (log entry 25), and RESULT its code; the landing image is gone, and only the groups that hold
a claimed stall stay powered. SWAP_BOUNDARY and
SWAP_CROSSFADE_END (R101–R103, R108). At boundary S the swap runs, STATE 4, with the new regions in the image; the stalls
and links of the replaced regions retire and the new ones enter. 40 strides later nothing retires or enters any more, STATE
reads 0 (or 1, as above), RESULT 0, and the regions count as swapped. -/
def Obligations.SwapsLandRunAndEnd : Prop :=
  (∀ (s : State) (ev : ImgEv), s.get F.FAB_SWAP_STATUS_STATE = 2 →
     (∀ code, s.partialCheck ev = (code, none) →
       exec (.swapLanded ev) s = .next { s.swapRefused code with pending := s.pending }) ∧
     (s.swap.atStride = none → s.swapStride = s.count + 1) ∧
     (∀ im, s.partialCheck ev = (0, some im) → s.swap.passed = false →
       s.swap.atStride = none ∨ s.count + 2 < s.swapStride →
       ∃ t, exec (.swapLanded ev) s = .next t ∧ t.get F.FAB_SWAP_STATUS_STATE = 3 ∧
         t.swap = { s.swap with img := some im, at_ := some (s.stride + (s.swapStride - s.count)), k := 0 } ∧
         t.get F.FAB_GROUP_PWR_ON = Nat.lor s.claimedGroups (groupsOf im.stalls) % 2 ^ 16 ∧ t.fab = s.fab) ∧
     (∀ im, s.partialCheck ev = (0, some im) →
       s.swap.passed = true ∨ (s.swap.atStride ≠ none ∧ s.swapStride ≤ s.count + 2) →
       exec (.swapLanded ev) s = .next { s.swapRefused 14 with pending := s.pending })) ∧
  (∀ (s : State) (code : Nat), code < 16 →
     (s.swapRefused code).get F.FAB_SWAP_STATUS_STATE = bit1 s.swap.fresh ∧ (s.swapRefused code).get F.FAB_SWAP_STATUS_RESULT = code ∧
     (s.swapRefused code).swap.img = none ∧ (s.swapRefused code).swap.at_ = none ∧
     (s.swapRefused code).get F.FAB_GROUP_PWR_ON = s.claimedGroups % 2 ^ 16 ∧ (s.swapRefused code).fab = s.fab) ∧
  ((∀ (s : State) (im run : Image), s.swap.img = some im → s.fab.image = some run → s.get F.FAB_SWAP_STATUS_STATE = 3 →
     s.swap.at_ = some s.stride → im.params = [] →
     ∃ t, exec .swapBoundary s = .next t ∧ t.fab.image = some (replaceRegions run im) ∧ t.swap.k = 0 ∧
       t.fab.stalls.map (fun u => (u.n, u.retiring, u.entering)) =
         s.fab.stalls.map (fun u => (u.n, u.retiring || (im.regions.map (·.id)).contains u.cfg.region, u.entering)) ++
         im.stalls.map (fun r => (r.stall, false, true))) ∧
   (∀ (s : State) (im : Image), s.swap.img = some im → s.get F.FAB_SWAP_STATUS_STATE = 4 → 40 ≤ s.swap.k →
     ∃ t, exec .swapCrossfadeEnd s = .next t ∧ t.swap = (if s.swap.fresh then s.swap.ended else SwapState.reset) ∧
       t.get F.FAB_SWAP_STATUS_STATE = bit1 s.swap.fresh ∧
       t.get F.FAB_SWAP_STATUS_RESULT = 0 ∧
       t.fab.stalls = (s.fab.stalls.filter (fun u => !u.retiring)).map (fun u => { u with entering := false }) ∧
       t.fab.links.map (fun l => (l.cfg, l.entering)) =
         (s.fab.links.filter (fun l => !l.retiring)).map (fun l => (l.cfg, false))))

/-- STRIDE_BOUNDARY (R137, R336, R800). Without a locked media PLL there is no first boundary. Else the boundary steps the
counter once the work of the stride that ends is done, decides the writes that waited, latches the sinks, and lets the network, the mix, the line die, the TDM ports and
the media PLL take their part before the fabric begins its next stride. -/
def Obligations.StrideBoundaryTakesItsParts : Prop :=
  (∀ (s : State) (x : StrideIn), s.strideOn = false → s.getB F.CLK_STATUS_MEDIA_LOCK = false →
    exec (.strideBoundary x) s = .next s) ∧
  (∀ (s : State) (x : StrideIn), s.strideOn = true ∨ s.getB F.CLK_STATUS_MEDIA_LOCK = true →
    ∃ r a b c : State,
      r = s.finishWork.stepStride.rampEnded ∧
      a = ((((r.stepAdc (sixOf x.adc)).micStride x.mic).rtcTicks x.ticks).decideStride).latchSinks.rampSinks ∧
      b = ((a.netStride x).mixStride x).lineStride x (r.adcOutputs x) ∧
      c = (b.tdmStride.1.stepPause.ringLpi).trackMedia x ∧
      exec (.strideBoundary x) s = .next { (c.fabStride (r.adcCaptured (r.adcOutputs x)) b.tdmStride.2).stepPwm.loadModel.commitFree with
        pending := s.pending }) ∧
  (∀ s : State, s.strideOn = true → s.stepStride = { s with stride := s.stride + 1 }) ∧
  (∀ s : State, s.strideOn = false → s.stepStride = { s with strideOn := true })

/-- STALL_START (R137 step 3, R140, R275) of a stall that runs, has not started, owes no earlier stride's work and has what it
waits for: it does its stride's work. Of every template but LEC, AEC and HCODEC, whose work reaches beyond the stall: its
outputs are what its template computes, brought into the audio word's range, and FAB_STALL_STATUS.SAT is set where a sample was
brought in. BLOCK_COMMIT (R130, R139, R140, R143, R146) of a started stall of one slice without a forced fallback. At or before
its layer's end it is committed, its outward links carry its blocks and its slack is noted; after the end its work is done and
no link changes. Its measured clock shows in both. A stall that owes earlier work ends one stride of that instead. -/
def Obligations.StallsComputeAndCommit : Prop :=
  (∀ (s : State) (n : Fin 128) (u : Stall), s.stallAt n = some u → s.stallRuns n = true → u.started = false → u.owes = 0 →
     s.stallReady u = true → exec (.stallStart n) s = .next { s.runStall n with pending := s.pending }) ∧
  (∀ (s : State) (n : Fin 128) (u : Stall), s.stallAt n = some u → s.stallRuns n = true → u.started = false → u.owes = 0 →
     s.inputsReady n = true → u.cfg.slice = 0 → u.cfg.template ∉ [3, 4, 8] →
     ∃ t, exec (.stallStart n) s = .next t ∧
       t.stallAt n = some { u with
         started := true, outs := (s.compute u).1.map (fun b => (satBlock b).1), mem := (s.compute u).2.2.1 } ∧
       t.getB (F.FAB_STALL_STATUS_SAT n) =
         (s.getB (F.FAB_STALL_STATUS_SAT n) || ((s.compute u).1.any (fun b => (satBlock b).2) || (s.compute u).2.1)) ∧
       t.fab.links = s.fab.links) ∧
  (∀ (s : State) (n : Fin 128) (u : Stall) (c mhz2 : Nat), s.stallAt n = some u → s.stallRuns n = true → u.owes ≠ 0 →
     exec (.blockCommit n c mhz2) s =
       .next ((s.set (F.FAB_STALL_CLK_MEASURED n) mhz2).updStall n (fun v => { v with owes := v.owes - 1 }))) ∧
  (∀ (s : State) (n : Fin 128) (u : Stall) (c mhz2 : Nat), s.stallAt n = some u → s.stallRuns n = true → u.started = true →
     u.worked = false → u.owes = 0 → u.committed = false → u.lateNow = false → u.fellBack = false → u.cfg.template ≠ 3 →
     u.cfg.template ≠ 4 → u.cfg.slice = 0 → u.force = false →
     ∃ t, exec (.blockCommit n c mhz2) s = .next t ∧
       t.get (F.FAB_STALL_CLK_MEASURED n) = mhz2 % 2 ^ (F.FAB_STALL_CLK_MEASURED n).width ∧
       (∀ f : Fld, f.key ∉ [F.FAB_STALL_CLK_MEASURED n, F.FAB_STALL_WINDOW_LATE_1S n,
         F.FAB_STALL_WINDOW_MIN_SLACK n].map Fld.key → t.get f = s.get f) ∧
       (c ≤ s.get (F.FAB_LAYER_END_END u.layer) →
         t.stallAt n = some { u with
           worked := true, committed := true, slackNow := some (s.get (F.FAB_LAYER_END_END u.layer) - c) } ∧
         t.fab.links = s.fab.links.map (fun l => if l.cfg.src = n.val ∧ l.committed = false then
           l.push (u.outs.getD l.cfg.srcPort (silence l.cfg.channels)) else l)) ∧
       (s.get (F.FAB_LAYER_END_END u.layer) < c → t.stallAt n = some { u with worked := true } ∧ t.fab.links = s.fab.links))

/-- LAYER_END (R137 step 4, R139–R141, R150, R157). Nothing ends while the fabric does not run. A lone stall that has not
committed by its layer's end is late; for one that is lame or forced the fallback is written; the fallback that its links carry is the last block halved (0), its input (1) or silence (2).
CLOCK_SLACK_CHECK_1S and CLOCK_SLACK_CHECK_64 (R146). A running stall whose smallest slack of 8,000 strides was at least a
fifth of its layer, without a late stride, is to run 10 MHz slower above CLOCK_MIN; one whose smallest slack of 64 strides
was below a twentieth is to run 10 MHz faster below the active cap. -/
def Obligations.LateStallsAndTheirClocks : Prop :=
  ((∀ (s : State) (k : Fin 8), s.fab.running = false → exec (.layerEnd k) s = .next s) ∧
   (∀ (s : State) (k : Fin 8) (u : Stall), s.fab.running = true → s.fab.stalls = [u] → u.layer = k.val → u.fellBack = false →
     u.cfg.template ≠ 3 → u.cfg.template ≠ 4 → u.cfg.slice = 0 →
     (s.lame u.n = true ∨ u.force = true → exec (.layerEnd k) s = .next { s.writeFallback u with pending := s.pending }) ∧
     (s.lame u.n = false → u.force = false →
       (u.committed = true → u.lateNow = false → exec (.layerEnd k) s = .next s) ∧
       (u.committed = false → exec (.layerEnd k) s = .next { s.lateInstance u with pending := s.pending }))) ∧
   (∀ (s : State) (u : Stall) (l : Link), u.cfg.template ≠ 3 → u.cfg.template ≠ 4 →
     (u.cfg.fallback = 0 →
       s.fallbackBlock u l = (l.slots.headD (silence l.cfg.channels)).map (fun c => c.map (fun x => truncDiv x 2))) ∧
     (u.cfg.fallback = 1 → s.fallbackBlock u l =
       (List.range l.cfg.channels).map (fun c => channel ((s.inBlock u.n l.cfg.srcPort).getD []) c)) ∧
     (u.cfg.fallback = 2 → s.fallbackBlock u l = silence l.cfg.channels))) ∧
  (∀ (s : State) (n : Fin 128) (u : Stall) (m cur : Nat), s.stallAt n = some u → s.stallRuns n = true → u.since < s.stride →
     cur = u.nextSet.getD (s.get (F.FAB_STALL_CLK_SETPOINT n)) →
     ((s.stride - u.since) % 8000 = 0 → minSlack s.stride 8000 u.slacks = some m → s.layerLength u.layer ≤ 5 * m →
       lateBefore s.stride u.lateAt = [] → u.cfg.clockMin < cur →
       exec (.clockSlackCheck1S n) s = .next (s.updStall n (fun v => { v with nextSet := some (cur - 1) }))) ∧
     ((s.stride - u.since) % 64 = 0 → minSlack s.stride 64 u.slacks = some m → 20 * m < s.layerLength u.layer →
       cur < s.get F.FAB_CLK_CAP_ACTIVE_CAP →
       exec (.clockSlackCheck64 n) s = .next (s.updStall n (fun v => { v with nextSet := some (cur + 1) }))))

/-- A line balance runs through its steps (R240, R241). BALANCE_SILENCE notes boundary B and the trims that stood, STEP 2; 20 ms
later a noise of more than −30 dBm0 ends it with NOISE and any other starts the probe, STEP 4; 220 ms after B a line outside
the range ends it with RANGE, any other goes on with STEP 6, its resistance and capacitance held for the result and the filter
cleared; 520 ms after B STEP is 7. The trims of a balance that fits (R237): where no code lies exactly between two, R_TRIM is the nearest code of 20 Ω steps
from 200 Ω and C_TRIM the nearest of 10 nF steps, both at most 31. BALANCE_RESULT and AUTO_BALANCE (R233, R240, R243, R565).
The result cell shows ERR_CODE 0, the measured THL, the held resistance and capacitance and the trims, STALE clears and the channel is free; the drive impedance
takes the line's resistance. With AUTO_BAL a balance is requested 1 s after its port's resolution. -/
def Obligations.BalanceRunsAndEnds : Prop :=
  (∀ (s : State) (c : Fin 4), s.getB (F.HYB_BAL_STATUS_BUSY c) = true →
     (s.get (F.HYB_BAL_STATUS_STEP c) = 0 →
       exec (.balanceSilence c) s = .next (((s.set (F.HYB_BAL_STATUS_STEP c) 2).updBal c (fun b => { b with
         at_ := s.stride, savedR := s.get (F.HYB_CH_TRIM_R_TRIM c), savedC := s.get (F.HYB_CH_TRIM_C_TRIM c)
         savedClear := s.line.tapsClear.testBit c, silent := true, restore := false, fitR := 0, fitC := 0 })).muteDac c)) ∧
     (∀ level : Int, s.get (F.HYB_BAL_STATUS_STEP c) = 2 → (s.bal c).at_ + 160 ≤ s.stride →
       (-300 < level → exec (.balanceNoiseCheck c level) s = .next { s.balAbort c 1 with pending := s.pending }) ∧
       (level ≤ -300 → exec (.balanceNoiseCheck c level) s = .next (s.set (F.HYB_BAL_STATUS_STEP c) 4))) ∧
     (∀ lineR lineC : Nat, s.get (F.HYB_BAL_STATUS_STEP c) = 4 → (s.bal c).at_ + 1760 ≤ s.stride → s.line.bal.length = 4 →
       (lineR < 190 ∨ 830 < lineR ∨ 3150 < lineC →
         exec (.balanceFit c lineR lineC) s = .next { s.balAbort c 2 with pending := s.pending }) ∧
       (190 ≤ lineR → lineR ≤ 830 → lineC ≤ 3150 →
         ∃ t, exec (.balanceFit c lineR lineC) s = .next t ∧ t.get (F.HYB_BAL_STATUS_STEP c) = 6 ∧
           (t.bal c).fitR = lineR ∧ (t.bal c).fitC = lineC ∧ t.line.tapsClear.testBit c = true)) ∧
     (s.get (F.HYB_BAL_STATUS_STEP c) = 6 → (s.bal c).at_ + 4160 ≤ s.stride →
       exec (.balanceMeasure c) s = .next (s.set (F.HYB_BAL_STATUS_STEP c) 7))) ∧
  (∀ (s : State) (c : Fin 4) (lineR lineC : Nat), s.getB (F.HYB_BAL_STATUS_BUSY c) = true →
     s.get (F.HYB_BAL_STATUS_STEP c) = 4 → (s.bal c).at_ + 1760 ≤ s.stride → 200 ≤ lineR → lineR ≤ 830 → lineC ≤ 3150 →
     (lineR - 200) % 20 ≠ 10 → lineC % 100 ≠ 50 →
     ∃ t, exec (.balanceFit c lineR lineC) s = .next t ∧
       t.get (F.HYB_CH_TRIM_R_TRIM c) = min 31 ((lineR - 190) / 20) ∧
       t.get (F.HYB_CH_TRIM_C_TRIM c) = min 31 ((lineC + 50) / 100)) ∧
  ((∀ (s : State) (c : Fin 4) (thl : Nat), s.getB (F.HYB_BAL_STATUS_BUSY c) = true → s.get (F.HYB_BAL_STATUS_STEP c) = 7 →
     (s.bal c).at_ + 4960 ≤ s.stride → s.line.driveR.length = 4 →
     ∃ t, exec (.balanceResult c thl) s = .next t ∧ t.get (F.HYB_BAL_RESULT_ERR_CODE c) = 0 ∧
       t.get (F.HYB_BAL_RESULT_THL c) = thl % 2 ^ (F.HYB_BAL_RESULT_THL c).width ∧
       t.get (F.HYB_BAL_RESULT_LINE_R c) = (s.bal c).fitR % 2 ^ (F.HYB_BAL_RESULT_LINE_R c).width ∧
       t.get (F.HYB_BAL_RESULT_LINE_C c) = (s.bal c).fitC % 2 ^ (F.HYB_BAL_RESULT_LINE_C c).width ∧
       t.get (F.HYB_BAL_RESULT_R_TRIM c) = s.get (F.HYB_CH_TRIM_R_TRIM c) ∧
       t.get (F.HYB_BAL_RESULT_C_TRIM c) = s.get (F.HYB_CH_TRIM_C_TRIM c) ∧
       t.getB (cellReady (0xC0020 + 0x100 * c)) = true ∧ t.getB (cellFresh (0xC0020 + 0x100 * c)) = true ∧
       t.getB (cellErr (0xC0020 + 0x100 * c)) = false ∧ t.getB (F.HYB_CH_STATUS_STALE c) = false ∧
       t.get (F.HYB_BAL_STATUS_STEP c) = 0 ∧ t.getB (F.HYB_BAL_STATUS_BUSY c) = false ∧
       t.line.driveR.getD c 0 = (s.bal c).fitR) ∧
   (∀ (s : State) (c : Fin 4) (k : Nat), s.line.resolvedAt.getD c none = some k → s.getB (F.HYB_CH_CFG_AUTO_BAL c) = true →
     k + 8000 ≤ s.stride →
     exec (.autoBalance c) s = .next { ({ s with line := { s.line with
       resolvedAt := s.line.resolvedAt.set c none } } : State).balRequest c with pending := s.pending }))

/-- HSMIC_GAIN_STEP, HP_LOAD_SENSE, HP_SHORT and HP_SHORT_END (R249, R250, R253, R254). At a zero crossing or after 10 ms the
headset gain moves one step towards GAIN; a load above 2 kΩ shows as open; a short shows while it lasts. SPK_OVERCURRENT and
SPK_RESTART (R258). More than 5 A turns the running amplifier off; the third time within 1 s latches it; 100 ms after a trip
that did not latch the amplifier may run again. DUCK_HANG_EXPIRY of an interrupt (R325). PRIO_HANG ms after its last open
talk the duck of that output goes, no other, and the gains move towards their targets. -/
def Obligations.ConvertersAndDucks : Prop :=
  ((∀ (s : State) (zc : Bool) (ms : Nat), zc = true ∨ 10 ≤ ms →
     ∃ t, exec (.hsmicGainStep zc ms) s = .next t ∧ t = { s with line := { s.line with hsGain := t.line.hsGain } } ∧
       (s.line.hsGain < s.get F.CONV_HSMIC_GAIN → t.line.hsGain = s.line.hsGain + 1) ∧
       (s.get F.CONV_HSMIC_GAIN < s.line.hsGain → t.line.hsGain + 1 = s.line.hsGain) ∧
       (s.line.hsGain = s.get F.CONV_HSMIC_GAIN → t = s)) ∧
   (∀ (s : State) (l r : Nat),
     ∃ t, exec (.hpLoadSense l r) s = .next t ∧ t.getB F.CONV_HP_OPEN_L = decide (2000 < l) ∧
       t.getB F.CONV_HP_OPEN_R = decide (2000 < r) ∧ Only [F.CONV_HP_OPEN_L, F.CONV_HP_OPEN_R] s t) ∧
   (∀ (s : State) (right : Bool),
     exec (.hpShort right) s = .next (s.setB (if right then F.CONV_HP_SHORT_R else F.CONV_HP_SHORT_L) true) ∧
     exec (.hpShortEnd right) s = .next (s.setB (if right then F.CONV_HP_SHORT_R else F.CONV_HP_SHORT_L) false))) ∧
  ((∀ (s : State) (ma : Nat), s.getB F.CONV_SPK_RUNNING = true → 5000 < ma →
     ∃ t, exec (.spkOvercurrent ma) s = .next t ∧ t.getB F.CONV_SPK_RUNNING = false ∧
       t.line.spkTrips = s.stride :: s.line.spkTrips.filter (fun k => decide (s.stride < k + 8000)) ∧
       (t.line.spkTrips.length < 3 → t.line.spkTripped = true ∧ t.getB F.CONV_SPK_LATCHED = s.getB F.CONV_SPK_LATCHED) ∧
       (3 ≤ t.line.spkTrips.length → t.line.spkTripped = false ∧ t.getB F.CONV_SPK_LATCHED = true)) ∧
   (∀ (s : State) (ms : Nat), s.line.spkTripped = true → 100 ≤ ms →
     exec (.spkRestart ms) s = .next { ({ s with line := { s.line with spkTripped := false } } : State).syncSpeaker with
       pending := s.pending })) ∧
  (∀ (s : State) (o : Fin 256) (d : Duck) (a : Nat), d ∈ s.tg.ducks → d.kind = .interrupt → d.output = o.val →
     d.absent = some a → a + 8 * s.get F.TG_PRIO_HANG_MS < s.stride →
     ∃ l, exec (.duckHangExpiry 0 o) s =
         .next { ({ s with tg := { s.tg with ducks := l } } : State).stepTargets with pending := s.pending } ∧
       d ∉ l ∧ ∀ x ∈ s.tg.ducks, x.kind ≠ .interrupt ∨ x.output ≠ o.val → x ∈ l)

/-- TDM_FRAME (R260–R264). A port that no image claims, or that is not enabled, takes no frame. With room in its queue a master
port takes the words of its slots, and so does a slave port whose frame has the BCLK periods it needs, as many as the frame
before; the eighth good frame brings a slave into sync. A slave's frame with too few BCLK periods, or with another number of
them, is received as zeros, counted, and ends the sync. A good frame that meets a full queue of a slave is dropped as a slip. -/
def Obligations.TdmFramesAreTaken : Prop :=
  (∀ (s : State) (p : Fin 4) (bclks : Nat) (slots : List Nat), s.tdmClaimed p = false ∨ s.getB (F.TDM_CFG_EN p) = false →
    exec (.tdmFrame p bclks slots) s = .next s) ∧
  (∀ (s : State) (p : Fin 4) (bclks : Nat) (slots : List Nat) (q : TdmPort), s.tdmClaimed p = true →
    s.getB (F.TDM_CFG_EN p) = true → s.line.tdm[p.val]? = some q →
    (q.rx.length < 12 → s.getB (F.TDM_CFG_MASTER p) = true ∨
        (s.tdmNeeds p ≤ bclks ∧ (q.lastBclk = 0 ∨ q.lastBclk = bclks)) →
      ∃ t, exec (.tdmFrame p bclks slots) s = .next t ∧
        t.line.tdm[p.val]? = some { q with
          rx := q.rx ++ [(List.range 16).map (fun k => slots.getD k 0)], tx := q.tx.drop 1, sent := q.tx.headD []
          lastBclk := bclks, good := min 8 (q.good + 1) } ∧
        t.getB (F.TDM_STATUS_SYNC p) =
          (s.getB (F.TDM_STATUS_SYNC p) || (!s.getB (F.TDM_CFG_MASTER p) && decide (8 ≤ q.good + 1))) ∧
        Only [F.TDM_STATUS_SYNC p] { s with line := t.line } t) ∧
    (q.rx.length < 12 → s.getB (F.TDM_CFG_MASTER p) = false →
        bclks < s.tdmNeeds p ∨ (q.lastBclk ≠ 0 ∧ q.lastBclk ≠ bclks) →
      ∃ t, exec (.tdmFrame p bclks slots) s = .next t ∧ t.getB (F.TDM_STATUS_SYNC p) = false ∧
        t.getB (F.TDM_STATUS_FRAME_ERR p) = true ∧
        t.get (F.TDM_CNT_FRAME_ERRS p) = (s.get (F.TDM_CNT_FRAME_ERRS p) + 1) % 2 ^ (F.TDM_CNT_FRAME_ERRS p).width ∧
        (t.line.tdm.getD p q).rx = q.rx ++ [List.replicate 16 0] ∧ (t.line.tdm.getD p q).good = 0) ∧
    (12 ≤ q.rx.length → s.getB (F.TDM_CFG_MASTER p) = false → s.tdmNeeds p ≤ bclks → q.lastBclk = 0 ∨ q.lastBclk = bclks →
      ∃ t, exec (.tdmFrame p bclks slots) s = .next t ∧ t.getB (F.TDM_STATUS_SLIP p) = true ∧
        t.get (F.TDM_CNT_SLIPS p) = (s.get (F.TDM_CNT_SLIPS p) + 1) % 2 ^ (F.TDM_CNT_SLIPS p).width ∧
        (t.line.tdm.getD p q).rx = q.rx ∧ (t.line.tdm.getD p q).tx = q.tx))

/-- DTD_HANG_EXPIRY, ECHO_DIVERGE and ECHO_CONVERGED (R284, R285, R290). DTD_HANG ms after the last declaration double talk
ends; 100 ms of a residual above the input clear the taps at the next boundary, counted and recorded; 500 ms of an ERLE at
its threshold make an ADAPTING instance CONVERGED. ECHO_RESULT (R292, R563). An instance that is due and whose slices
committed in time writes its result: the cell is ready and fresh, ADAPT_PM and DTD_PM are its shares of the period where
they divide evenly, and it is due again within 2,000 strides. -/
def Obligations.EchoStatesAndResults : Prop :=
  ((∀ (s : State) (i : Fin 20) (e : EchoInst) (k : Nat), s.echoInst i = some e → e.dtdAt = some k →
     k + 8 * s.get (F.ECHO_DTD_HANG i) ≤ s.stride →
     ∃ t, exec (.dtdHangExpiry i) s = .next t ∧ t.getB (F.ECHO_STATUS_DTD i) = false ∧
       t.echoInst i = some { e with dtdAt := none } ∧ Only [F.ECHO_STATUS_DTD i] { s with echo := t.echo } t) ∧
   (∀ (s : State) (i : Fin 20) (e : EchoInst) (k : Nat), s.echoInst i = some e → e.divSince = some k → k + 800 ≤ s.stride + 1 →
     ∃ u, exec (.echoDiverge i) s =
         .next (u.ev .echoDiverged (s.powerDomain (.echo i)) (if i.val < 16 then 0 else 1) (i.val % 16) 0) ∧
       u.getB (F.ECHO_STATUS_DIVERGED i) = true ∧
       u.get (F.ECHO_DIVERGE_COUNT_COUNT i) =
         (s.get (F.ECHO_DIVERGE_COUNT_COUNT i) + 1) % 2 ^ (F.ECHO_DIVERGE_COUNT_COUNT i).width ∧
       u.echoInst i = some { e with clearNext := true, divSince := none } ∧
       Only [F.ECHO_STATUS_DIVERGED i, F.ECHO_DIVERGE_COUNT_COUNT i] { s with echo := u.echo } u) ∧
   (∀ (s : State) (i : Fin 20) (e : EchoInst) (k : Nat), s.echoInst i = some e → e.erleSince = some k →
     k + 4000 ≤ s.stride + 1 → s.get (F.ECHO_STATUS_STATE i) = 1 →
     exec (.echoConverged i) s = .next (s.set (F.ECHO_STATUS_STATE i) 2))) ∧
  (∀ (s : State) (i : Fin 20) (e : EchoInst) (u : Stall), s.echoInst i = some e → s.echoStall i = some u →
     e.dueAt ≤ s.stride → e.lastResult < s.stride → (s.slices u).any (fun v => v.lateNow || !v.committed) = false →
     ∃ t, exec (.echoResult i) s = .next t ∧ t.getB (cellReady (0xD0020 + 0x100 * i)) = true ∧
       t.getB (cellFresh (0xD0020 + 0x100 * i)) = true ∧ t.getB (cellErr (0xD0020 + 0x100 * i)) = false ∧
       t.get (cellSeq (0xD0020 + 0x100 * i)) = nextSeq (s.get (cellSeq (0xD0020 + 0x100 * i))) ∧
       t.getB (cellLost (0xD0020 + 0x100 * i)) = s.getB (cellFresh (0xD0020 + 0x100 * i)) ∧
       (e.adapted * 1000 % (s.stride - e.lastResult) = 0 → t.get (F.ECHO_RESULT_ADAPT_PM i) =
         e.adapted * 1000 / (s.stride - e.lastResult) % 2 ^ (F.ECHO_RESULT_ADAPT_PM i).width) ∧
       (e.talked * 1000 % (s.stride - e.lastResult) = 0 → t.get (F.ECHO_RESULT_DTD_PM i) =
         e.talked * 1000 / (s.stride - e.lastResult) % 2 ^ (F.ECHO_RESULT_DTD_PM i).width) ∧
       ∃ v, t.echoInst i = some v ∧ s.stride < v.dueAt ∧ v.dueAt ≤ s.stride + 2000 ∧ v.lastResult = s.stride ∧
         v.adapted = 0 ∧ v.talked = 0)

/-- Beams and control frames read back (R347–R352): what a node encodes, every field at every value that its width admits,
parses to the same beam and the same control frame, padding to the shortest frame included. -/
def Obligations.RingFramesReadBack : Prop :=
  (∀ b : Beam, 1 ≤ b.typ → b.typ ≤ 3 → b.ring < 2 ^ 8 → b.lighthouse < 2 ^ 8 → b.stride < 2 ^ 32 → b.offset < 2 ^ 24 →
    b.epoch < 2 ^ 8 → b.length = 4 * b.payload.length → b.length < 2 ^ 16 → b.adders < 2 ^ 16 → b.talk < 2 ^ 32 →
    b.int_ < 2 ^ 32 → b.all < 2 ^ 32 → b.call < 2 ^ 32 → b.bitmap < 2 ^ 32 → (∀ w ∈ b.payload, w < 2 ^ 32) →
    parseBeam (encodeBeam b) = some b) ∧
  (∀ c : Ctl, 4 ≤ c.typ → c.typ ≤ 6 → c.cls < 8 → c.ring < 2 ^ 8 → c.hops < 2 ^ 8 → c.sender < 2 ^ 16 → c.stride < 2 ^ 48 →
    c.seq < 2 ^ 16 → c.body.length < 2 ^ 16 → parseCtl (encodeCtl c) = some c)

/-- OUT_RECEIVED, RET_RECEIVED, TURN_RECEIVED, GATE_RECEIVED, MUSTER_RECEIVED and FOGHORN_RECEIVED (R346, R347): a Wilnan frame
of the command's type on a port that carries frames is received as such; any other frame changes nothing. What a control
frame that passed its checks does first (R346, R352, R353). After 255 hops it is dropped; the node's own frame goes no further;
one of another ring goes on by the other port as it came where that takes control frames, and RING_MISMATCH shows; any other
frame of type 4, 5 or 6 is a GATE, a claim or MUSTER, or a FOGHORN. -/
def Obligations.WilnanFramesAreDispatched : Prop :=
  (∀ (s : State) (p : Fin 2) (f : RxFrame) (at_ : Nat),
     exec (.outReceived p f at_) s =
       .next (if s.carries p && s.isWilnan f [1] then { s.receiveWilnan p f at_ with pending := s.pending } else s) ∧
     exec (.retReceived p f at_) s =
       .next (if s.carries p && s.isWilnan f [2] then { s.receiveWilnan p f at_ with pending := s.pending } else s) ∧
     exec (.turnReceived p f at_) s =
       .next (if s.carries p && s.isWilnan f [3] then { s.receiveWilnan p f at_ with pending := s.pending } else s) ∧
     exec (.gateReceived p f) s =
       .next (if s.carries p && s.isWilnan f [4] then { s.receiveWilnan p f 0 with pending := s.pending } else s) ∧
     exec (.musterReceived p f) s =
       .next (if s.carries p && s.isWilnan f [5] then { s.receiveWilnan p f 0 with pending := s.pending } else s) ∧
     exec (.foghornReceived p f) s =
       .next (if s.carries p && s.isWilnan f [6] then { s.receiveWilnan p f 0 with pending := s.pending } else s)) ∧
  (∀ (s : State) (p : Nat) (h : EthHdr) (raw : List Byte) (c : Ctl),
     (c.hops = 255 → s.useCtl p h raw c = s) ∧
     (c.hops ≠ 255 → h.sa = s.macAddr 0 ∨ h.sa = s.macAddr 1 →
       s.useCtl p h raw c = (if h.da % 256 = s.ring.number then s.ownCtlBack p h c else s) ∧
       (s.useCtl p h raw c).net = s.net) ∧
     (c.hops ≠ 255 → h.sa ≠ s.macAddr 0 → h.sa ≠ s.macAddr 1 →
       (h.da % 256 ≠ s.ring.number → (s.sawForeign).getB F.RING_STATE_RING_MISMATCH = true ∧
         (s.ctlOk (1 - p) = true →
           s.useCtl p h raw c = s.sawForeign.sendCtlBytes (1 - p) (s.ringFrame h.da h.sa raw)) ∧
         (s.ctlOk (1 - p) = false → c.typ ≠ 6 → s.useCtl p h raw c = s.sawForeign.forwardCtl p h c)) ∧
       (h.da % 256 = s.ring.number →
         (c.typ = 4 → s.useCtl p h raw c = s.gateIn p h c) ∧
         (c.typ = 5 → s.useCtl p h raw c = if bitOf (beAt c.body 3 1) 0 then s.claimIn p h c else s.musterIn p h c) ∧
         (c.typ = 6 → s.useCtl p h raw c = s.fogIn p h c))))

/-- A GATE at the lighthouse (R385, R389, R390, R393). A request of a MAC that does not wait joins the waiting requests last;
one of a MAC that waits joins none; a LEAVE ends its MAC's membership; any other GATE of a member counts for its presence. Each
wakes the ring from slack. BEAM_LAUNCH, MUSTER_SEND, NODE_ID_RELEASE and ICV_VERDICT (R362, R383, R389, R655). The lighthouse
launches once a stride, and in an unwrapped ring the beam awaits its return; it sends one MUSTER a muster stride, after the
beam; an ID without a GATE for 2,048 ms is
released; the verdict ends the oldest beam of the port that awaits one. -/
def Obligations.LighthouseLaunchesAndAnswers : Prop :=
  (∀ (s : State) (c : Ctl),
     (s.lighthouseGate c).ring.slackWake = some (s.ring.slackWake.getD s.stride) ∧
     (bitOf (beAt c.body 9 1) 6 = true →
       (s.lighthouseGate c).ring.gates = s.ring.gates ∧
       ∀ m ∈ (s.lighthouseGate c).ring.members, m.mac ≠ beAt c.body 0 6) ∧
     (bitOf (beAt c.body 9 1) 6 = false →
       ∀ m ∈ (s.lighthouseGate c).ring.members, m.mac = beAt c.body 0 6 → m.lastGate = s.stride) ∧
     (bitOf (beAt c.body 9 1) 6 = false → bitOf (beAt c.body 9 1) 5 = false →
       ((∃ g ∈ s.ring.gates, g.mac = beAt c.body 0 6) → (s.lighthouseGate c).ring.gates = s.ring.gates) ∧
       ((∀ g ∈ s.ring.gates, g.mac ≠ beAt c.body 0 6) → (s.lighthouseGate c).ring.gates = s.ring.gates ++
         [⟨beAt c.body 0 6, beAt c.body 6 2, beAt c.body 9 1, beAt c.body 10 1, beAt c.body 12 8, c.sender, s.stride⟩]))) ∧
  ((∀ s : State, s.ringOn = true → s.ringState = 2 → s.strideOn = true → s.ring.launchedAt ≠ some s.stride →
     s.getB F.RING_STATE_SLACK = false ∨ s.count % 80 = 0 →
     ∃ t, exec .beamLaunch s = .next t ∧ t = { s.launch with pending := s.pending } ∧ t.ring.launchedAt = some s.stride ∧
       (s.getB F.RING_WRAP_WRAPPED = false → s.portDead 0 = false → t.ring.unreturned = s.ring.unreturned ++ [s.stride])) ∧
   (∀ s : State, s.ringOn = true → s.ringState = 2 → s.strideOn = true → s.musterStride = true →
     s.ring.launchedAt = some s.stride → s.ring.musterAt ≠ some s.stride →
     ∃ t, exec .musterSend s = .next t ∧ t = { s.sendMuster with pending := s.pending } ∧ t.ring.musterAt = some s.stride) ∧
   (∀ (s : State) (id : Fin 256) (m : Member), s.ring.members.find? (fun x => x.id = id.val) = some m → s.ringState = 2 →
     m.lastGate + 16384 ≤ s.stride →
     exec (.nodeIdRelease id) s = .next (s.updRing (fun r => { r with
       members := r.members.filter (fun x => x ≠ m), released := r.released ++ [(m.mac, m.id)] }))) ∧
   (∀ (s : State) (p : Fin 2) (ok : Bool) (e : PendRx), s.ring.pend.find? (fun x => x.port = p.val) = some e → s.ringOn = true →
     exec (.icvVerdict p ok) s = .next { (s.updRing (fun r => { r with pend := r.pend.filter (fun x => x ≠ e) })).beamEnd e ok with
       pending := s.pending }))

/-- ADMISSION_EFFECT, PEER_DELAY and RING_LOCKED (R360, R373, R374, R376, R386). From the beam its answer names on an admitted node
takes its ID and the phases of R374 and is a member, or returns to gate with a Q above 16; the measured delay of a live port shows with its correction; LOCKED sets
after 2 s within 200 ns and clears beyond 1 µs. MUSTER_PHASE_CHECK (R375, R376). Of a member at a muster stride, once: P steps
down where beam A arrived too early for it and up where it arrived too late, Q likewise by the end of RET B; phases that
suit stay; a Q that would pass 16 sends the node to gate. -/
def Obligations.MembersAdmittedAndPhased : Prop :=
  ((∀ (s : State) (k id : Nat), s.ring.admission = some (k, id) → s.ringOn = true → s.ringState = 0 ∨ s.ringState = 3 →
     s.beamAt k ≤ s.stride → s.ring.foreign = false →
     (16 < phaseQ s.ring.lastE → ∃ t, exec .admissionEffect s = .next t ∧ t.ringState = 0 ∧ t.ring.admission = none) ∧
     (phaseQ s.ring.lastE ≤ 16 → ∃ t, exec .admissionEffect s = .next t ∧ t.get F.RING_NODE_NODE = id % 2 ^ F.RING_NODE_NODE.width ∧
       t.getB F.RING_NODE_ASSIGNED = true ∧
       t.get F.RING_PHASE_P = phaseP (s.get F.RING_ARRIVAL_A) % 2 ^ F.RING_PHASE_P.width ∧
       t.get F.RING_PHASE_Q = phaseQ s.ring.lastE ∧ t.ringState = 1 ∧ t.getB F.RING_IRQ_STATE = true ∧
       t.ring.admission = none ∧ t.ring.lastId = some id ∧ t.ring.firstBeam = s.beamAt k)) ∧
   (∀ (s : State) (p : Fin 2) (ns : Nat), s.ringOn = true → s.ringLink p = true → s.portDead p = false →
     exec (.peerDelay p ns) s =
       .next (s.set (F.RING_LINK_DELAY p) (min 0xFFFFFF ((ns : Int) + s.getI (F.RING_LINK_CORR p)).toNat))) ∧
   (∀ (s : State) (maxNs nowNs ms : Nat), s.ringOn = true → s.ringState ≠ 2 →
     (1000 < nowNs → exec (.ringLocked maxNs nowNs ms) s = .next (s.setB F.RING_STATE_LOCKED false)) ∧
     (nowNs ≤ 1000 → maxNs ≤ 200 → 2000 ≤ ms → exec (.ringLocked maxNs nowNs ms) s = .next (s.setB F.RING_STATE_LOCKED true)) ∧
     (nowNs ≤ 1000 → 200 < maxNs ∨ ms < 2000 → exec (.ringLocked maxNs nowNs ms) s = .next s))) ∧
  (∀ s : State, s.ringOn = true → s.ringState = 1 → s.musterStride = true → s.ring.checkedAt ≠ some s.stride →
     s.get F.RING_PHASE_Q ≤ 16 →
     ∃ t, exec .musterPhaseCheck s = .next t ∧ t.ring.checkedAt = some s.stride ∧
     (s.get F.RING_PHASE_Q = 16 → 125000 * 16 < s.ring.lastE + 1000 → t.ringState = 0) ∧
     (s.get F.RING_PHASE_Q < 16 ∨ s.ring.lastE + 1000 ≤ 125000 * 16 →
       t.ringState = 1 ∧
       (s.get F.RING_ARRIVAL_A < 125000 * s.get F.RING_PHASE_P + 1000 → 0 < s.get F.RING_PHASE_P →
         t.get F.RING_PHASE_P = s.get F.RING_PHASE_P - 1) ∧
       (125000 * s.get F.RING_PHASE_P + 126000 < s.get F.RING_ARRIVAL_A →
         t.get F.RING_PHASE_P = (s.get F.RING_PHASE_P + 1) % 2 ^ F.RING_PHASE_P.width) ∧
       (125000 * s.get F.RING_PHASE_P + 1000 ≤ s.get F.RING_ARRIVAL_A →
         s.get F.RING_ARRIVAL_A ≤ 125000 * s.get F.RING_PHASE_P + 126000 → t.get F.RING_PHASE_P = s.get F.RING_PHASE_P) ∧
       (125000 * s.get F.RING_PHASE_Q < s.ring.lastE + 1000 → t.get F.RING_PHASE_Q = s.get F.RING_PHASE_Q + 1) ∧
       (s.ring.lastE + 126000 < 125000 * s.get F.RING_PHASE_Q → t.get F.RING_PHASE_Q = s.get F.RING_PHASE_Q - 1) ∧
       (s.ring.lastE + 1000 ≤ 125000 * s.get F.RING_PHASE_Q → 125000 * s.get F.RING_PHASE_Q ≤ s.ring.lastE + 126000 →
         t.get F.RING_PHASE_Q = s.get F.RING_PHASE_Q)))

/-- LIGHTHOUSE_CLAIM, CLAIM_SEND, SLACK_ENTER and SLACK_LEAVE (R377, R378, R392, R393). A candidate in gate without a beam for
64 strides claims, its RING_ID taking effect (log entry 42), and a claimant every 8 strides again; the lighthouse enters slack
after 8,000 strides of silence without a waiting GATE, and leaves it at a boundary after something wakes it. FOGHORN_REPEAT, FOGHORN_RELEASE and
FOGHORN_EXPIRY (R434, R438). While the talk stays open the node announces every 64 strides, and after it closes it releases
twice more, 8 strides apart; an announcement not repeated for 192 strides ends, no other. -/
def Obligations.ClaimsSlackAndFoghorns : Prop :=
  ((∀ s : State, s.ringOn = true → s.ringHeld = false → s.ringState = 0 → s.getB F.RING_CTRL_CANDIDATE = true →
     s.ring.known = false → s.ring.claiming = false → s.ring.winning = false → s.ring.foreign = false →
     s.ring.enAt + 64 ≤ s.stride →
     exec .lighthouseClaim s =
       .next { (s.takeRingId.updRing (fun r => { r with claiming := true, claims := [] })).sendClaim with pending := s.pending }) ∧
   (∀ s : State, s.ringOn = true → s.ring.claiming = true → s.getB F.RING_CTRL_CANDIDATE = true → s.ring.lastClaim + 8 ≤ s.stride →
     exec .claimSend s = .next { s.sendClaim with pending := s.pending } ∧ s.sendClaim.ring.lastClaim = s.stride) ∧
   (∀ s : State, s.ringOn = true → s.ringState = 2 → s.getB F.RING_CTRL_SLACK_EN = true → s.getB F.RING_STATE_SLACK = false →
     s.ring.gates = [] → s.ring.zeroSince + 8000 ≤ s.stride →
     exec .slackEnter s =
       .next ((s.setB F.RING_STATE_SLACK true).updRing (fun r => { r with slackWake := none }))) ∧
   (∀ (s : State) (k : Nat), s.ringState = 2 → s.getB F.RING_STATE_SLACK = true → s.ring.slackWake = some k → k < s.stride →
     exec .slackLeave s = .next ((s.setB F.RING_STATE_SLACK false).updRing (fun r => { r with
       slackWake := none, zeroSince := s.stride })))) ∧
  ((∀ s : State, s.ring.fogOpen = true → s.ring.fogAt + 64 ≤ s.stride →
     exec .foghornRepeat s = .next { (s.updRing (fun r => { r with fogAt := s.stride })).sendFoghorn 1 s.ownId
       (s.get F.RING_FOGHORN_FSEQ) with pending := s.pending }) ∧
   (∀ s : State, 0 < s.ring.fogLeft → s.ring.fogAt + 8 ≤ s.stride →
     exec .foghornRelease s = .next { (s.updRing (fun r => { r with fogAt := s.stride, fogLeft := r.fogLeft - 1 })).sendFoghorn 2
       s.ownId (s.get F.RING_FOGHORN_FSEQ) with pending := s.pending }) ∧
   (∀ (s : State) (origin : Nat),
     ∃ t, exec (.foghornExpiry origin) s = .next t ∧
       (∀ a, a ∈ t.ring.live ↔ a ∈ s.ring.live ∧ ¬ (a.origin = origin ∧ a.at_ + 192 ≤ s.stride)) ∧
       t.getB F.RING_FOGHORN_LIVE = t.fogLive ∧ Only [F.RING_FOGHORN_LIVE] { s with ring := t.ring } t))

/-- LINK_UP and LINK_DOWN (R412, R470, R472, R517, R518). A link that comes up shows its speed and duplex; one that drops shows
no link and no low-power idle, and its queued frames, but those that wait for the ring, are dropped; of a ring port the ring
then judges the port's causes.
SILENT_PORT, WRAP_ENTRY, RET_MISSING, RING_HEAL_CLOSE and LIGHTHOUSE_LOSS (R412, R418, R422, R423, R428, R430). Two
consecutive wrapped beams without a TURN make a port silent; the lighthouse wraps for a dead port, an overdue beam or one found
missing, and a node that leaves; a pair whose TURN has not
ended is counted and forgotten; MUSTERs that crossed close the ring; a lighthouse unheard for 24 strides is lost. -/
def Obligations.LinksWrapsAndHeals : Prop :=
  ((∀ (s : State) (p speed : Fin 3) (full : Bool), s.domOn (5 + p) = true → s.getB F.CLK_STATUS_REF_LOST = false →
     ∃ t : State, exec (.linkUp p speed full) s =
         .next (if p.val < 2 ∧ s.ringOn = true then { t.evalPort p with pending := s.pending } else t) ∧
       t.getB (F.MAC_STATUS_LINK p) = true ∧
       t.get (F.MAC_STATUS_SPEED p) = speed.val ∧ t.getB (F.MAC_STATUS_HALF_DUPLEX p) = !full ∧ t.getB (F.MAC_IRQ_LINK p) = true ∧
       Only [F.MAC_STATUS_LINK p, F.MAC_STATUS_SPEED p, F.MAC_STATUS_HALF_DUPLEX p, F.MAC_IRQ_LINK p] s t) ∧
   (∀ (s : State) (p : Fin 3) (cut : Cut), s.domOn (5 + p) = true → s.getB (F.MAC_STATUS_LINK p) = true →
     s.net.ports.length = 3 →
     ∃ t : State, exec (.linkDown p cut) s =
         .next (if p.val < 2 ∧ s.ringOn = true then { t.evalPort p with pending := s.pending } else t) ∧
       t.pending = s.pending ∧ t.getB (F.MAC_STATUS_LINK p) = false ∧ t.getB (F.MAC_IRQ_LINK p) = true ∧
       t.getB (F.MAC_STATUS_LPI_TX p) = false ∧ t.getB (F.MAC_STATUS_LPI_RX p) = false ∧
       (t.mac p).txq = (s.mac p).txq.filter (fun x => decide (p.val < 2) && x.1 == 0))) ∧
  ((∀ (s : State) (p : Fin 2) (a b : OutSeen), s.ringOn = true → s.portDead p = false → a ∈ s.ring.outs → b ∈ s.ring.outs →
     s.unturned p a = true → s.unturned p b = true → b.stride = (a.stride + s.beamStep) % 2 ^ 32 → a.segB = b.segB →
     exec (.silentPort p) s = .next { s.addCause p 2 with pending := s.pending }) ∧
   (∀ s : State, s.ringOn = true → s.ringState = 2 → s.getB F.RING_WRAP_WRAPPED = false →
     s.portDead 0 = true ∨ s.portDead 1 = true ∨ s.ring.wrapDue = true ∨ s.overdue = true ∨
       (∃ m, s.ring.wrapAt = some m ∧ m ≤ s.stride) →
     ∃ t, exec .wrapEntry s = .next t ∧ t = { s.wrapRing with pending := s.pending } ∧ t.getB F.RING_WRAP_WRAPPED = true ∧
       t.getB F.RING_FAULT_IRQ_WRAP = true ∧
       t.get (F.RING_FAULT_CNT_COUNT 6) = (s.get (F.RING_FAULT_CNT_COUNT 6) + 1) % 2 ^ (F.RING_FAULT_CNT_COUNT 6).width) ∧
   (∀ (s : State) (k : Nat) (l : Launch), l ∈ s.ring.launches → l.stride = k → (l.doneA && l.doneB) = false →
     l.stride + 16 ≤ s.stride →
     ∃ t, exec (.retMissing k) s = .next t ∧ (∀ x ∈ t.ring.launches, x.stride ≠ k) ∧
       (l.counted = false →
         t.get (F.RING_FAULT_CNT_COUNT 5) = (s.get (F.RING_FAULT_CNT_COUNT 5) + 1) % 2 ^ (F.RING_FAULT_CNT_COUNT 5).width)) ∧
   (∀ (s : State) (a b c : Track) (rest : List Track), s.ringOn = true → s.ringState = 2 → s.getB F.RING_WRAP_WRAPPED = true →
     s.musterStride = true → s.ring.crossed = a :: b :: c :: rest → a.back ≠ [] → b.back ≠ [] → c.back ≠ [] →
     exec .ringHealClose s = .next { s.closeRing with pending := s.pending }) ∧
   (∀ s : State, s.ringOn = true → s.ringState ≠ 2 → s.ring.known = true →
     s.ring.lastValid + (if s.ring.slackSeen then 240 else 24) ≤ s.stride →
     exec .lighthouseLoss s = .next { s.loseLighthouse with pending := s.pending }))

/-- CALL_START (R444, R446, R467). A detector that runs and has seen 160 qualifying strides in a row without a call starts one:
it holds the present stride, CALL_IRQ.START is set, and the input's result is fresh and reads START (0) with its origin, the
present stride, the length 0 and the input's number. CALL_END (R444, R446, R467). 320 strides in a row that do not qualify
end a call in progress: the detector holds none, CALL_IRQ.END is set, and the input's result reads END (1) with the call's
length in milliseconds, at most 65,535. CALL_STUCK, CALL_GEN_MIN_END and BLANK_END (R447, R454, R458). A DC call of 10 s
shows STUCK with its result; a generated call no longer due stops 100 ms after its start, one still due only notes that; the
blanking ends 320 strides after the generation. -/
def Obligations.CallsStartAndEnd : Prop :=
  (∀ (s : State) (n : Fin 20) (dc : Bool), s.detOn n dc = true → (s.det n dc).startAt = none → 160 ≤ (s.det n dc).qual →
     ∃ t, exec (.callStart n dc) s = .next t ∧ (t.det n dc).startAt = some s.stride ∧ (t.det n dc).unqual = 0 ∧
       t.getB F.CALL_IRQ_START = true ∧ t.getB (cellFresh (callCell n)) = true ∧ t.getB (cellReady (callCell n)) = true ∧
       t.get ⟨callCell n, 16, 2, 0⟩ = 0 ∧ t.get ⟨callCell n, 18, 2, 0⟩ = bit1 dc ∧
       t.get ⟨callCell n + 4, 0, 32, 0⟩ = s.stride % 2 ^ 32 ∧ t.get ⟨callCell n + 8, 16, 16, 0⟩ = 0 ∧
       t.get ⟨callCell n + 12, 0, 8, 0⟩ = n.val ∧
       (n.val < 4 → dc = false → t.getB (F.CALL_CH_STATUS_TONE_CALL n) = true) ∧
       (n.val < 4 → dc = true → t.getB (F.CALL_CH_STATUS_DC_CALL n) = true)) ∧
  (∀ (s : State) (n : Fin 20) (dc : Bool) (k : Nat), (s.det n dc).startAt = some k → 320 ≤ (s.det n dc).unqual →
     (dc = true → n.val < 4) →
     ∃ t, exec (.callEnd n dc) s = .next t ∧ (t.det n dc).startAt = none ∧ t.getB F.CALL_IRQ_END = true ∧
       t.getB (cellFresh (callCell n)) = true ∧ t.get ⟨callCell n, 16, 2, 0⟩ = 1 ∧
       t.get ⟨callCell n + 8, 16, 16, 0⟩ = min 65535 ((s.stride - k) / 8) ∧
       (n.val < 4 → dc = false → t.getB (F.CALL_CH_STATUS_TONE_CALL n) = false) ∧
       (n.val < 4 → dc = true → t.getB (F.CALL_CH_STATUS_DC_CALL n) = false ∧ t.getB (F.CALL_CH_STATUS_STUCK n) = false)) ∧
  ((∀ (s : State) (c : Fin 4) (k : Nat), (s.det c true).startAt = some k → k + 80000 ≤ s.stride →
     s.getB (F.CALL_CH_STATUS_STUCK c) = false →
     ∃ t, exec (.callStuck c) s = .next t ∧ t.getB (F.CALL_CH_STATUS_STUCK c) = true ∧ t.getB F.CALL_IRQ_STUCK = true ∧
       t.get ⟨callCell c, 16, 2, 0⟩ = 2 ∧
       Only (callFields c ++ [F.CALL_CH_STATUS_STUCK c, F.CALL_IRQ_STUCK, F.CALL_RAISED_RAISED 0, F.CALL_RAISED_RAISED 1,
         F.LAMP_STATUS_ON, F.LAMP_STATUS_FOLDBACK]) { s with call := t.call } t) ∧
   (∀ (s : State) (c : Fin 4) (k : Nat) (m : Bool), s.call.gen.getD c none = some (k, m) → k + 800 ≤ s.stride →
     (s.callDue c = true → exec (.callGenMinEnd c) s =
       .next { s with call := { s.call with gen := s.call.gen.set c (some (k, true)) } }) ∧
     (s.callDue c = false → exec (.callGenMinEnd c) s = .next { s.stopGen c with pending := s.pending })) ∧
   (∀ (s : State) (c : Fin 4) (k : Nat), s.call.stopAt.getD c none = some k → k + 320 ≤ s.stride → s.generating c = false →
     ∃ t, exec (.blankEnd c) s = .next t ∧ t.getB (F.CALL_CH_STATUS_BLANKED c) = false ∧
       Only [F.CALL_CH_STATUS_BLANKED c] { s with call := { s.call with stopAt := s.call.stopAt.set c none } } t))

/-- CALL_SEND_TIMEOUT, LAMP_FOLDBACK and LAMP_FOLDBACK_END (R465, R469). A group's SEND bit that has stood for SEND_MAX_S
seconds clears with an interrupt and a record, no other; more than 6 V on a lit lamp's driver for 100 µs folds it back with
an interrupt, below 5 V that ends. -/
def Obligations.SendTimeoutAndLamps : Prop :=
  (∀ (s : State) (g : Fin 64) (k : Nat), s.call.sendAt.lookup g.val = some k →
    s.bit (F.CALL_SEND_SEND (g / 32)) (g % 32) = true → s.get F.CALL_TIMING_SEND_MAX_S ≠ 0 →
    k + 8000 * s.get F.CALL_TIMING_SEND_MAX_S ≤ s.stride →
    ∃ u, exec (.callSendTimeout g) s = .next (u.ev .callTimeout 1 g 0 0) ∧
      (∀ j < 64, u.bit (F.CALL_SEND_SEND (j / 32)) (j % 32) =
        (s.bit (F.CALL_SEND_SEND (j / 32)) (j % 32) && decide (j ≠ g.val))) ∧
      u.getB F.CALL_IRQ_TIMEOUT = true ∧ u.call.sendAt.lookup g.val = none ∧
      Only [F.CALL_SEND_SEND (g / 32), F.CALL_IRQ_TIMEOUT] { s with call := u.call } u) ∧
  (∀ (s : State) (n : Fin 4) (mv us : Nat), s.bit F.LAMP_STATUS_ON n = true → 6000 < mv → 100 ≤ us →
    ∃ t, exec (.lampFoldback n mv us) s = .next t ∧
      (∀ k < 4, t.bit F.LAMP_STATUS_FOLDBACK k = (s.bit F.LAMP_STATUS_FOLDBACK k || decide (k = n.val))) ∧
      t.getB F.CALL_IRQ_FOLDBACK = true ∧ Only [F.LAMP_STATUS_FOLDBACK, F.CALL_IRQ_FOLDBACK] s t) ∧
  (∀ (s : State) (n : Fin 4) (mv : Nat), mv < 5000 →
    ∃ t, exec (.lampFoldbackEnd n mv) s = .next t ∧
      (∀ k < 4, t.bit F.LAMP_STATUS_FOLDBACK k = (s.bit F.LAMP_STATUS_FOLDBACK k && decide (k ≠ n.val))) ∧
      Only [F.LAMP_STATUS_FOLDBACK] s t)

/-- FRAME_RECEIVED (R475). A port that carries no frames receives none; any other frame but a Wilnan frame of a ring port passes
the acceptance of steps 1 and 2, and goes on as a MAC control frame or, once MACsec lets it and the PTP unit has stamped it, to
the parser and its queue. PAUSE_EXPIRY and
PAUSE_WATCHDOG (R485, R486). A pause ends when its quanta have passed; one that has lasted for the watchdog's time is
broken: it ends at once, counted, with its interrupt, and the stride in which it broke is noted. TX_FRAME_START (R500–R503,
R537, R538). The next frame of a port that carries frames, is awake and not paused starts once all of it is queued, or its
threshold; on a ring port only if it ends 1 µs before the next beam. It leaves its queue, is stamped, and is sent; one that runs
dry ends poisoned, counted, with its interrupt. LPI_ENTER, LPI_LEAVE and PHY_RX_LPI_ENTRY (R507–R512). The app port without
frames to send enters low-power idle after IDLE_US; a port leaves it for a waiting frame, for the PHY, for the other ring port
or for the end of slack, counting its time and noting when; the PHY's idle shows and is counted. -/
def Obligations.FramesPassTheMac : Prop :=
  (∀ (s : State) (p : Fin 3) (f : RxFrame) (at_ : Nat) (mka : Option MkaSeen),
     (s.carries p = false → exec (.frameReceived p f at_ mka) s = .next s) ∧
     (s.carries p = true →
       (p.val < 2 → (ethHdr f.bytes).etype = s.get F.RING_ETYPE_ETYPE →
         exec (.frameReceived p f at_ mka) s = .next { s.receiveWilnan p f at_ with pending := s.pending }) ∧
       (p.val = 2 ∨ (ethHdr f.bytes).etype ≠ s.get F.RING_ETYPE_ETYPE →
         ((s.acceptFrame p f).2 = false →
           exec (.frameReceived p f at_ mka) s = .next { (s.acceptFrame p f).1 with pending := s.pending }) ∧
         ((s.acceptFrame p f).2 = true → (ethHdr f.bytes).etype = 0x8808 → (ethHdr f.bytes).secTag = false →
           exec (.frameReceived p f at_ mka) s =
             .next { (s.acceptFrame p f).1.controlFrame p f.bytes (ethHdr f.bytes) with pending := s.pending }) ∧
         (∀ u, (s.acceptFrame p f).2 = true → (ethHdr f.bytes).etype ≠ 0x8808 ∨ (ethHdr f.bytes).secTag = true →
           ((s.acceptFrame p f).1.macsecCheck p f = (u, false) →
             exec (.frameReceived p f at_ mka) s = .next { u with pending := s.pending }) ∧
           ((s.acceptFrame p f).1.macsecCheck p f = (u, true) →
             exec (.frameReceived p f at_ mka) s = .next
               { (u.stampPtp p false f.bytes (ethHdr f.bytes) at_).parseAndQueue p f.bytes (ethHdr f.bytes) mka with
                 pending := s.pending }))))) ∧
  ((∀ (s : State) (bits : Nat), s.getB (F.MAC_STATUS_PAUSED 2) = true → 512 * (s.mac 2).pauseQ ≤ bits →
     exec (.pauseExpiry bits) s = .next ((s.setB (F.MAC_STATUS_PAUSED 2) false).set (F.MAC_PAUSE_REMAIN 2) 0)) ∧
   (∀ (s : State) (ms : Nat), s.getB (F.MAC_STATUS_PAUSED 2) = true → s.get (F.MAC_PAUSE_WATCHDOG_MS 2) ≤ ms →
     s.net.ports.length = 3 →
     ∃ t, exec (.pauseWatchdog ms) s = .next t ∧ t.getB (F.MAC_STATUS_PAUSED 2) = false ∧ t.get (F.MAC_PAUSE_REMAIN 2) = 0 ∧
       t.getB (F.MAC_IRQ_PAUSE_BROKEN 2) = true ∧ (t.mac 2).brokenAt = some s.stride ∧
       t.get (F.STAT_CNT_COUNT 2 51) = (s.get (F.STAT_CNT_COUNT 2 51) + 1) % 2 ^ (F.STAT_CNT_COUNT 2 51).width)) ∧
  (∀ (s u : State) (p : Fin 3) (queued beamNs at_ q : Nat) (dry : Bool) (l x : List Byte), s.nextTx p = some (q, l) →
     s.carries p = true → s.awakeAt p at_ = true → (p.val = 2 → s.getB (F.MAC_STATUS_PAUSED 2) = false) →
     l.length ≤ queued ∨ (¬ (p.val < 2 ∧ q = 0) ∧ s.get (F.MAC_TXQ_THRESH_CURRENT p q) ≠ 0 ∧
       64 * s.get (F.MAC_TXQ_THRESH_CURRENT p q) ≤ queued) →
     (p.val < 2 → s.wireNs p (s.wireLength p l.length) + 1000 ≤ beamNs) →
     x = s.stampedFrame p l at_ →
     u = (s.updMac p (fun m => { m with txq := dropFirst q m.txq })).stampPtp p true x (ethHdr x) at_ →
     (dry = false ∨ x.length ≤ queued → exec (.txFrameStart p queued dry beamNs at_) s =
       .next { u.sendFrame p x false (decide (p.val < 2) && q == 0) with pending := s.pending }) ∧
     (dry = true → queued < x.length → ∃ v, v = (((u.sendFrame p (x.take queued) true false).stat p 46 1).setB
         (F.MAC_IRQ_UNDERRUN p) true) ∧
       exec (.txFrameStart p queued dry beamNs at_) s = .next { v.set (F.MAC_TXQ_THRESH_CURRENT p q)
         (if (s.get (F.MAC_TXQ_THRESH_CURRENT p q) + 4) * 64 < s.get (F.MAC_CFG_MAX_LEN p) then
           s.get (F.MAC_TXQ_THRESH_CURRENT p q) + 4 else 0) with pending := s.pending })) ∧
  ((∀ (s : State) (us : Nat), (s.mac 2).txq = [] → s.getB (F.MAC_STATUS_PAUSED 2) = false → s.get (F.MAC_EEE_IDLE_US 2) ≤ us →
     s.eeeOn 2 = true → s.getB (F.MAC_STATUS_LPI_TX 2) = false →
     ∃ t, exec (.lpiEnter us) s = .next t ∧ t.getB (F.MAC_STATUS_LPI_TX 2) = true ∧
       t.get (F.STAT_CNT_COUNT 2 48) = (s.get (F.STAT_CNT_COUNT 2 48) + 1) % 2 ^ (F.STAT_CNT_COUNT 2 48).width) ∧
   (∀ (s : State) (p : Fin 3) (cause : Fin 4) (at_ us : Nat),
     (cause = 0 → (s.mac p).txq ≠ [] ∧ (p.val = 2 → s.getB (F.MAC_STATUS_PAUSED 2) = false)) →
     (cause = 2 → p.val < 2 ∧ s.getB (F.MAC_STATUS_LPI_TX (1 - p)) = false) →
     (cause = 3 → p.val < 2 ∧ s.getB F.RING_STATE_SLACK = false) →
     s.getB (F.MAC_STATUS_LPI_TX p) = true → s.net.ports.length = 3 →
     ∃ t, exec (.lpiLeave p cause at_ us) s = .next t ∧ t.getB (F.MAC_STATUS_LPI_TX p) = false ∧
       (cause = 1 → t.getB (F.MAC_STATUS_LPI_RX p) = false) ∧
       t.get (F.STAT_CNT_COUNT p 49) = (s.get (F.STAT_CNT_COUNT p 49) + us) % 2 ^ (F.STAT_CNT_COUNT p 49).width ∧
       (t.mac p).lpiLeft = some (s.stride, at_)) ∧
   (∀ (s : State) (p : Fin 3), s.carries p = true → s.getB (F.MAC_STATUS_LPI_RX p) = false →
     ∃ t, exec (.phyRxLpiEntry p) s = .next t ∧ t.getB (F.MAC_STATUS_LPI_RX p) = true ∧
       t.get (F.STAT_CNT_COUNT p 36) = (s.get (F.STAT_CNT_COUNT p 36) + 1) % 2 ^ (F.STAT_CNT_COUNT p 36).width))

/-- SNAPSHOT_DONE (R515). A snapshot under way shows the counts of its ports as they were taken, VALID for each, and BUSY ends; SEQ
steps. SA_SWITCH, MKA_HELLO and MKA_LIFE_EXPIRY (R650, R651, R653). Transmit moves to the new association once the peer has it; a
hello joins the queue of its class on each port that carries frames and has a CAK; 6 s without the peer end the security.
SSRC_TIMEOUT and PTP_LOCK (R525, R539). A receive stream whose locked source has been silent for 1 s is free for
another; the servo's offset, path and state show, LOCKED ends beyond 10 µs and begins after 2 s within 1 µs. MEDIA_ALIGN and
PTP_CLOCK_STEP (R539–R541, R544). The media clock is aligned once it follows a locked PTP clock, not the ring, on a sample; a
step of the clock shows, sets the clock and the media time of the new reading, ends the alignment and hushes every receive
stream. -/
def Obligations.SnapshotsKeysAndMediaTime : Prop :=
  (∀ s : State, s.getB F.STAT_SNAP_STATUS_BUSY = true → (∀ x ∈ s.net.snap, x.1 < 3 ∧ x.2.length = 52) →
     (s.net.snap.map (·.1)).Nodup →
     ∃ t, exec .snapshotDone s = .next t ∧ t.getB F.STAT_SNAP_STATUS_BUSY = false ∧
       t.get F.STAT_SNAP_STATUS_SEQ = (s.get F.STAT_SNAP_STATUS_SEQ + 1) % 2 ^ F.STAT_SNAP_STATUS_SEQ.width ∧
       (∀ x ∈ s.net.snap, t.bit F.STAT_SNAP_STATUS_VALID x.1 = true ∧
         ∀ k < 52, t.get (F.STAT_SNAP_COUNT x.1 k) = x.2.getD k 0 % 2 ^ 32) ∧ t.net.snap = []) ∧
  ((∀ (s : State) (p : Fin 3) (an : Nat), (s.sec p).nextTx = some an → (s.sec p).peerHas = true → s.net.sec.length = 3 →
     ∃ t : State, exec (.saSwitch p) s = .next { t.afterSec p with pending := s.pending } ∧
       t.get (F.SEC_MACSEC_TX_AN p) = an % 2 ^ (F.SEC_MACSEC_TX_AN p).width ∧
       t.getB (F.SEC_MACSEC_TX_SECURED p) = true ∧
       t.sec p = { s.sec p with nextTx := none, peerHas := false, pn := 1 }) ∧
   (∀ s : State, s.net.ports.length = 3 →
     ∃ t, exec .mkaHello s = .next t ∧ t.regs = s.regs ∧
       ∀ p < 3, (t.mac p).txq = (s.mac p).txq ++
         (if s.carries p && (s.sec p).cak.isSome then
           (s.txQueueFor p 7).toList.map (fun q => (q, ethFrame 0x0180C2000003 (s.macAddr p) 0x888E [3, 5, 0, 0]))
         else [])) ∧
   (∀ (s : State) (p : Fin 3) (ms : Nat), s.getB (F.SEC_MACSEC_PEER_LIVE p) = true → 6000 ≤ ms →
     exec (.mkaLifeExpiry p ms) s = .next { (s.endSecure p).afterSec p with pending := s.pending })) ∧
  ((∀ (s : State) (k : Fin 32), s.rxOn k = true → s.getB (F.IOP_RX_STATUS_SSRC_LOCKED k) = true →
     (s.net.rx.getD k IopRx.idle).lockedAt + 8000 ≤ s.stride →
     exec (.ssrcTimeout k) s = .next (s.setB (F.IOP_RX_STATUS_SSRC_LOCKED k) false)) ∧
   (∀ (s : State) (now : Int) (maxNs ms path : Nat) (st : Fin 9), s.getB F.PTP_CFG_EN = true → s.domOn 8 = true →
     ∃ t, exec (.ptpLock now maxNs ms path st) s = .next t ∧ t.get F.PTP_STATUS_PORT_STATE = st.val ∧
       t.getB F.PTP_STATUS_GM_SELF = decide (st.val = 6) ∧
       (10000 < now.natAbs → t.getB F.PTP_STATUS_LOCKED = false ∧ t.getB F.PTP_MEDIA_ALIGNED = false) ∧
       (now.natAbs ≤ 10000 → maxNs ≤ 1000 → 2000 ≤ ms → t.getB F.PTP_STATUS_LOCKED = true) ∧
       (now.natAbs ≤ 10000 → 1000 < maxNs ∨ ms < 2000 → t.getB F.PTP_STATUS_LOCKED = s.getB F.PTP_STATUS_LOCKED) ∧
       Only [F.PTP_OFFSET_NS, F.PTP_PATH_NS, F.PTP_STATUS_PORT_STATE, F.PTP_STATUS_GM_SELF, F.PTP_STATUS_LOCKED,
         F.PTP_MEDIA_ALIGNED] s t)) ∧
  ((∀ (s : State) (d : Nat), s.getB F.PTP_MEDIA_SOURCE = true → s.getB F.PTP_STATUS_LOCKED = true →
     s.ringGoverns = false → d % 65536 = 0 →
     exec (.mediaAlign d) s = .next (s.setB F.PTP_MEDIA_ALIGNED true)) ∧
   (∀ (s : State) (sec ns : Nat), s.domOn 8 = true →
     ∃ t, exec (.ptpClockStep sec ns) s = .next t ∧ t.getB F.PTP_STATUS_STEPPED = true ∧
       t.getB F.PTP_MEDIA_ALIGNED = false ∧ t.net.clock = (sec, ns) ∧ t.net.media.1 = mediaTime sec ns ∧
       ∀ r ∈ t.net.rx, r.hush = 486))

/-- COMMIT_TACK_NOW, COMMIT_TACK_NEXT_BOOT, COMMIT_FIRMWARE and COMMIT_WAKE_MODEL (R710), alone in their register cycle, with
the key 0x434D, GO, and a load of the target that has reached DONE. Each acts on that load, which is then used up: a commit
of the slot it filled, now or at the next boot, of firmware, or of a wake model. A commit that passes and one that is
refused (R710). Of a firmware slot whose checks pass: a serial above every other, TRIAL, active, COMMIT_DONE; of one whose
check fails: INVALID, COMMIT_REFUSED, the active slots unchanged. TRIAL_AUTO_CONFIRM and JOURNAL_SETTING_WRITE (R46, R684,
R711). Audio that has run for 30 s makes the running trials valid; a journalled field unchanged for 2 s is written, once, in
standalone mode, and only forgotten in host mode. -/
def Obligations.CommitsAndTrials : Prop :=
  (∀ (s : State) (m : Master) (w : Word) (ev : ImgEv) (slot : Nat), Alone s m 0x10020 → s.boot.commitDue = none →
     bitsOf w.toNat 16 16 = 0x434D → bitOf w.toNat 0 = true →
     s.boot.done.find? (fun d => d.1 = commitSink w.toNat) = some (commitSink w.toNat, slot) →
     (bitsOf w.toNat 4 2 = 1 → s.boot.want = none → s.fab.loaded = false → s.fab.rampDown = none →
       (bitOf w.toNat 6 = false → exec (.commitTackNow m w ev) s = .next { ({ s with boot := { s.boot with
         done := s.boot.done.filter (fun d => d.1 ≠ 1) } } : State).commitTack m.code slot true ev.sigOk with
           pending := s.pending }) ∧
       (bitOf w.toNat 6 = true → exec (.commitTackNextBoot m w ev) s = .next { ({ s with boot := { s.boot with
         done := s.boot.done.filter (fun d => d.1 ≠ 1) } } : State).commitTack m.code slot false ev.sigOk with
           pending := s.pending })) ∧
     (bitsOf w.toNat 4 2 = 2 → exec (.commitFirmware m w ev.sigOk) s = .next { ({ s with boot := { s.boot with
       done := s.boot.done.filter (fun d => d.1 ≠ 3) } } : State).commitFw m.code slot (bitOf w.toNat 1) ev.sigOk with
         pending := s.pending }) ∧
     (bitsOf w.toNat 4 2 = 3 → exec (.commitWakeModel m w ev.sigOk) s = .next { ({ s with boot := { s.boot with
       done := s.boot.done.filter (fun d => d.1 ≠ 4) } } : State).commitModel m.code slot ev.sigOk with
         pending := s.pending })) ∧
  (∀ (s : State) (m slot : Nat) (sigOk : Bool), slot < 2 → s.boot.serials.length = 4 → s.boot.states.length = 4 →
     (fwFormatOk (s.boot.fw.getD slot []) = true → partsAgree (fwImage (s.boot.fw.getD slot [])) = true → sigOk = true →
       (∀ k < 4, k ≠ slot → (s.commitFw m slot false sigOk).boot.serials.getD k 0 <
         (s.commitFw m slot false sigOk).boot.serials.getD slot 0) ∧
       (s.commitFw m slot false sigOk).boot.states.getD slot 0 = 3 ∧
       (s.commitFw m slot false sigOk).boot.active = (slot, s.boot.active.2) ∧
       (s.commitFw m slot false sigOk).getB F.BOOT_IRQ_COMMIT_DONE = true) ∧
     (fwFormatOk (s.boot.fw.getD slot []) = false ∨ partsAgree (fwImage (s.boot.fw.getD slot [])) = false ∨ sigOk = false →
       (s.commitFw m slot false sigOk).boot.states.getD slot 0 = 2 ∧
       (s.commitFw m slot false sigOk).boot.active = s.boot.active ∧
       (s.commitFw m slot false sigOk).getB F.BOOT_IRQ_COMMIT_REFUSED = true)) ∧
  ((∀ (s : State) (a : Nat), s.boot.audioAt = some a → s.fab.running = true → s.halter = false → a + 240000 ≤ s.stride →
     exec .trialAutoConfirm s = .next { s.confirmTrials with pending := s.pending }) ∧
   (∀ (s : State) (w : JWait), w ∈ s.journal.waits → w.at_ + 16000 ≤ s.stride →
     (∀ x ∈ s.journal.waits, x.addr = w.addr → x.mask = w.mask →
       w.addr ≠ F.TG_XP_WRITE_INPUT.addr ∨ x.value / 2 ^ 8 = w.value / 2 ^ 8 → x = w) →
     (s.getB F.SYS_PERSONA_HOST_MODE = true →
       exec (.journalSettingWrite w.addr w.mask w.value) s =
         .next { s with journal := { s.journal with waits := s.journal.waits.filter (· ≠ w) } }) ∧
     (s.getB F.SYS_PERSONA_HOST_MODE = false →
       exec (.journalSettingWrite w.addr w.mask w.value) s =
         .next { ({ s with journal := { s.journal with waits := s.journal.waits.filter (· ≠ w) } } : State).journalWrite
           ⟨0, true, w.master, s.fab.baseDigest, w.addr, w.mask, w.value⟩ with pending := s.pending })))
end

