-- ==== Sys2Proof/Laws/Sparse.lean ====
section
/-! SUPPORT. The stores: a read after a write, other keys left alone, and the canonical form that every operation keeps; the
register file and the byte memories built on them. -/

namespace Sys2Proof.Machine

/-! ### Sparse lists -/

theorem Sparse.find_erase_self {α : Type} (k : Nat) (l : List (Nat × α)) : Sparse.find k (Sparse.erase k l) = none := by
  induction l with
  | nil => rfl
  | cons p t ih =>
    by_cases h : p.1 = k
    · simp [Sparse.erase, h, ih]
    · simp [Sparse.erase, Sparse.find, h, ih]

theorem Sparse.find_erase_other {α : Type} {j k : Nat} (h : j ≠ k) (l : List (Nat × α)) :
    Sparse.find j (Sparse.erase k l) = Sparse.find j l := by
  induction l with
  | nil => rfl
  | cons p t ih =>
    by_cases hk : p.1 = k
    · have : p.1 ≠ j := by omega
      simp [Sparse.erase, Sparse.find, hk, ih]; intro hj; omega
    · simp [Sparse.erase, Sparse.find, hk, ih]

theorem Sparse.find_insert_self {α : Type} (k : Nat) (v : α) (l : List (Nat × α)) :
    Sparse.find k (Sparse.insert k v l) = some v := by
  induction l with
  | nil => simp [Sparse.insert, Sparse.find]
  | cons p t ih =>
    by_cases h : p.1 < k
    · have : p.1 ≠ k := by omega
      simp [Sparse.insert, Sparse.find, h, this, ih]
    · simp [Sparse.insert, Sparse.find, h]

theorem Sparse.find_insert_other {α : Type} {j k : Nat} (hjk : j ≠ k) (v : α) (l : List (Nat × α)) :
    Sparse.find j (Sparse.insert k v l) = Sparse.find j l := by
  induction l with
  | nil => simp [Sparse.insert, Sparse.find]; omega
  | cons p t ih =>
    by_cases h : p.1 < k
    · simp [Sparse.insert, Sparse.find, h, ih]
    · have : k ≠ j := by omega
      simp [Sparse.insert, Sparse.find, h, this]

/-- A read of the key just written gives the value written. -/
theorem Sparse.get_set_self {α : Type} [DecidableEq α] (d v : α) (k : Nat) (l : List (Nat × α)) :
    Sparse.get d k (Sparse.set d k v l) = v := by
  unfold Sparse.get Sparse.set
  split
  · rename_i h; simp [Sparse.find_erase_self, h]
  · simp [Sparse.find_insert_self]

/-- A write leaves every other key alone, whatever the reader's own default is. -/
theorem Sparse.get_set_other {α : Type} [DecidableEq α] (d e v : α) {j k : Nat} (h : j ≠ k) (l : List (Nat × α)) :
    Sparse.get e j (Sparse.set d k v l) = Sparse.get e j l := by
  unfold Sparse.get Sparse.set
  split
  · rw [Sparse.find_erase_other h]
  · rw [Sparse.find_insert_other h, Sparse.find_erase_other h]

/-! ### Rising keys -/

/-- Every key of a list is at least `n`. -/
theorem Sparse.rising_tail {α : Type} {p : Nat × α} {t : List (Nat × α)} (h : Sparse.rising (p :: t) = true) :
    Sparse.rising t = true := by
  cases t with
  | nil => rfl
  | cons q t => simp [Sparse.rising] at h; exact h.2

/-- In a rising list every later key is above the first. -/
theorem Sparse.rising_all {α : Type} {p : Nat × α} {t : List (Nat × α)} (h : Sparse.rising (p :: t) = true) :
    ∀ q ∈ t, p.1 < q.1 := by
  induction t generalizing p with
  | nil => simp
  | cons q t ih =>
    simp [Sparse.rising] at h
    intro r hr
    rcases List.mem_cons.mp hr with rfl | hr
    · exact h.1
    · exact lt_trans h.1 (ih h.2 r hr)

/-- A list whose first key is below all others and whose rest rises, rises. -/
theorem Sparse.rising_cons {α : Type} {p : Nat × α} {t : List (Nat × α)} (h : ∀ q ∈ t, p.1 < q.1)
    (ht : Sparse.rising t = true) : Sparse.rising (p :: t) = true := by
  cases t with
  | nil => rfl
  | cons q t =>
    have := h q (by simp)
    simp [Sparse.rising, this, ht]

theorem Sparse.mem_erase {α : Type} {k : Nat} {l : List (Nat × α)} {q : Nat × α} (h : q ∈ Sparse.erase k l) :
    q ∈ l ∧ q.1 ≠ k := by
  induction l with
  | nil => simp [Sparse.erase] at h
  | cons p t ih =>
    by_cases hk : p.1 = k
    · simp [Sparse.erase, hk] at h
      exact ⟨List.mem_cons_of_mem _ (ih h).1, (ih h).2⟩
    · simp [Sparse.erase, hk] at h
      rcases h with rfl | h
      · exact ⟨by simp, hk⟩
      · exact ⟨List.mem_cons_of_mem _ (ih h).1, (ih h).2⟩

theorem Sparse.rising_erase {α : Type} (k : Nat) (l : List (Nat × α)) (h : Sparse.rising l = true) :
    Sparse.rising (Sparse.erase k l) = true := by
  induction l with
  | nil => rfl
  | cons p t ih =>
    have ht := ih (Sparse.rising_tail h)
    by_cases hk : p.1 = k
    · simpa [Sparse.erase, hk] using ht
    · simp only [Sparse.erase, hk, if_false]
      exact Sparse.rising_cons (fun q hq => Sparse.rising_all h q (Sparse.mem_erase hq).1) ht

theorem Sparse.mem_insert {α : Type} {k : Nat} {v : α} {l : List (Nat × α)} {q : Nat × α}
    (h : q ∈ Sparse.insert k v l) : q = (k, v) ∨ q ∈ l := by
  induction l with
  | nil => simpa [Sparse.insert] using h
  | cons p t ih =>
    by_cases hk : p.1 < k
    · simp [Sparse.insert, hk] at h
      rcases h with rfl | h
      · simp
      · rcases ih h with h | h
        · exact .inl h
        · exact .inr (List.mem_cons_of_mem _ h)
    · simp [Sparse.insert, hk] at h
      rcases h with h | h | h
      · exact .inl h
      · exact .inr (by simp [h])
      · exact .inr (List.mem_cons_of_mem _ h)

theorem Sparse.rising_insert {α : Type} (k : Nat) (v : α) (l : List (Nat × α)) (h : Sparse.rising l = true)
    (hk : ∀ q ∈ l, q.1 ≠ k) : Sparse.rising (Sparse.insert k v l) = true := by
  induction l with
  | nil => rfl
  | cons p t ih =>
    have ht := ih (Sparse.rising_tail h) (fun q hq => hk q (List.mem_cons_of_mem _ hq))
    by_cases hp : p.1 < k
    · simp only [Sparse.insert, hp, if_true]
      refine Sparse.rising_cons (fun q hq => ?_) ht
      rcases Sparse.mem_insert hq with rfl | hq
      · exact hp
      · exact Sparse.rising_all h q hq
    · have hne := hk p (by simp)
      simp only [Sparse.insert, hp, if_false]
      refine Sparse.rising_cons (fun q hq => ?_) h
      rcases List.mem_cons.mp hq with rfl | hq
      · simp; omega
      · have := Sparse.rising_all h q hq
        simp; omega

/-- A write keeps the keys rising. -/
theorem Sparse.rising_set {α : Type} [DecidableEq α] (d v : α) (k : Nat) (l : List (Nat × α))
    (h : Sparse.rising l = true) : Sparse.rising (Sparse.set d k v l) = true := by
  unfold Sparse.set
  split
  · exact Sparse.rising_erase k l h
  · exact Sparse.rising_insert k v _ (Sparse.rising_erase k l h) (fun q hq => (Sparse.mem_erase hq).2)

/-- What a write leaves listed: the value written, or an entry that was there. -/
theorem Sparse.mem_set {α : Type} [DecidableEq α] {d v : α} {k : Nat} {l : List (Nat × α)} {q : Nat × α}
    (h : q ∈ Sparse.set d k v l) : (q = (k, v) ∧ v ≠ d) ∨ q ∈ l := by
  unfold Sparse.set at h
  split at h
  · exact .inr (Sparse.mem_erase h).1
  · rename_i hv
    rcases Sparse.mem_insert h with h | h
    · exact .inl ⟨h, hv⟩
    · exact .inr (Sparse.mem_erase h).1

/-! ### The register file -/

/-- A field reads as the low bits of what was written to it. -/
@[simp] theorem State.get_set_self (s : State) (f : Fld) (v : Nat) : (s.set f v).get f = v % 2 ^ f.width := by
  simp [State.get, State.set, RegFile.get, RegFile.set, Sparse.get_set_self]

/-- A write to one field leaves every field with another key as it was. -/
theorem State.get_set_other (s : State) (f g : Fld) (v : Nat) (h : g.key ≠ f.key) : (s.set f v).get g = s.get g := by
  simp [State.get, State.set, RegFile.get, RegFile.set, Sparse.get_set_other _ _ _ h]

/-- A one-bit field reads as the truth value written to it. -/
@[simp] theorem State.getB_setB_self (s : State) (f : Fld) (b : Bool) (h : f.width = 1) : (s.setB f b).getB f = b := by
  cases b <;> simp [State.getB, State.setB, h]

theorem State.getB_setB_other (s : State) (f g : Fld) (b : Bool) (h : g.key ≠ f.key) : (s.setB f b).getB g = s.getB g := by
  simp [State.getB, State.setB, State.get_set_other _ _ _ _ h]

theorem State.get_setB_other (s : State) (f g : Fld) (b : Bool) (h : g.key ≠ f.key) : (s.setB f b).get g = s.get g := by
  simp [State.setB, State.get_set_other _ _ _ _ h]

/-- A field never reads more than its width holds. -/
theorem State.get_lt (s : State) (f : Fld) : s.get f < 2 ^ f.width := Nat.mod_lt _ (by positivity)

/-! ### Byte memories -/

/-- The canonical form is: keys rising, no listed zero. -/
theorem Memory.wf_iff (m : List Host.Cell) :
    Memory.wf m = true ↔ Sparse.rising m = true ∧ ∀ q ∈ m, q.2 ≠ 0 := by
  induction m with
  | nil => simp [Memory.wf, Sparse.rising]
  | cons p t ih =>
    cases t with
    | nil => simp [Memory.wf, Sparse.rising]
    | cons q t =>
      simp only [Memory.wf, Sparse.rising, Bool.and_eq_true, decide_eq_true_eq, bne_iff_ne, ne_eq, List.mem_cons,
        forall_eq_or_imp] at ih ⊢
      rw [ih]
      tauto

/-- A byte reads as it was written. -/
@[simp] theorem Memory.read_write_self (m : List Host.Cell) (a : Nat) (b : Byte) : Memory.read (Memory.write m a b) a = b :=
  Sparse.get_set_self _ _ _ _

/-- A write leaves every other byte alone. -/
theorem Memory.read_write_other (m : List Host.Cell) {a c : Nat} (b : Byte) (h : c ≠ a) :
    Memory.read (Memory.write m a b) c = Memory.read m c := Sparse.get_set_other _ _ _ h _

/-- A write keeps the canonical form. -/
theorem Memory.wf_write (m : List Host.Cell) (a : Nat) (b : Byte) (h : Memory.wf m = true) :
    Memory.wf (Memory.write m a b) = true := by
  rw [Memory.wf_iff] at h ⊢
  refine ⟨Sparse.rising_set _ _ _ _ h.1, fun q hq => ?_⟩
  rcases Sparse.mem_set hq with ⟨rfl, hv⟩ | hq
  · exact hv
  · exact h.2 q hq

/-- A run of writes keeps the canonical form. -/
theorem Memory.wf_writeAll (l : List Byte) : ∀ (m : List Host.Cell) (a : Nat), Memory.wf m = true →
    Memory.wf (Memory.writeAll m a l) = true := by
  induction l with
  | nil => intro m a h; exact h
  | cons b t ih => intro m a h; exact ih _ _ (Memory.wf_write m a b h)

/-- A run of writes leaves every byte outside it alone. -/
theorem Memory.read_writeAll_other (l : List Byte) : ∀ (m : List Host.Cell) (a c : Nat), (c < a ∨ a + l.length ≤ c) →
    Memory.read (Memory.writeAll m a l) c = Memory.read m c := by
  induction l with
  | nil => intro m a c _; rfl
  | cons b t ih =>
    intro m a c h
    simp only [List.length_cons] at h
    rw [Memory.writeAll, ih _ _ _ (by omega), Memory.read_write_other _ _ (by omega)]

/-- A byte inside a run of writes reads as the run has it. -/
theorem Memory.read_writeAll (l : List Byte) : ∀ (m : List Host.Cell) (a i : Nat) (h : i < l.length),
    Memory.read (Memory.writeAll m a l) (a + i) = l[i] := by
  induction l with
  | nil => intro m a i h; simp at h
  | cons b t ih =>
    intro m a i h
    cases i with
    | zero =>
      rw [Memory.writeAll, Memory.read_writeAll_other _ _ _ _ (by omega)]
      simp
    | succ i =>
      have := ih (Memory.write m a b) (a + 1) i (by simpa using h)
      rw [Memory.writeAll, show a + (i + 1) = a + 1 + i by omega, this]
      simp

end Sys2Proof.Machine
end

