-- ==== Sys2Proof/Laws/State.lean ====
section
/-! SUPPORT. One lemma for each field under each named update of the state: what the update leaves as it was. -/

namespace Sys2Proof.Machine

@[simp] theorem State.set_stride (s : State) (f : Fld) (v : Nat) : (s.set f v).stride = s.stride := rfl
@[simp] theorem State.set_countAdj (s : State) (f : Fld) (v : Nat) : (s.set f v).countAdj = s.countAdj := rfl
@[simp] theorem State.set_strideOn (s : State) (f : Fld) (v : Nat) : (s.set f v).strideOn = s.strideOn := rfl
@[simp] theorem State.set_freeCtr (s : State) (f : Fld) (v : Nat) : (s.set f v).freeCtr = s.freeCtr := rfl
@[simp] theorem State.set_pending (s : State) (f : Fld) (v : Nat) : (s.set f v).pending = s.pending := rfl
@[simp] theorem State.set_answer (s : State) (f : Fld) (v : Nat) : (s.set f v).answer = s.answer := rfl
@[simp] theorem State.set_queued (s : State) (f : Fld) (v : Nat) : (s.set f v).queued = s.queued := rfl
@[simp] theorem State.set_log (s : State) (f : Fld) (v : Nat) : (s.set f v).log = s.log := rfl
@[simp] theorem State.set_logTorn (s : State) (f : Fld) (v : Nat) : (s.set f v).logTorn = s.logTorn := rfl
@[simp] theorem State.set_logOverrun (s : State) (f : Fld) (v : Nat) : (s.set f v).logOverrun = s.logOverrun := rfl
@[simp] theorem State.set_banks (s : State) (f : Fld) (v : Nat) : (s.set f v).banks = s.banks := rfl
@[simp] theorem State.set_fab (s : State) (f : Fld) (v : Nat) : (s.set f v).fab = s.fab := rfl
@[simp] theorem State.set_swap (s : State) (f : Fld) (v : Nat) : (s.set f v).swap = s.swap := rfl
@[simp] theorem State.set_mic (s : State) (f : Fld) (v : Nat) : (s.set f v).mic = s.mic := rfl
@[simp] theorem State.set_line (s : State) (f : Fld) (v : Nat) : (s.set f v).line = s.line := rfl
@[simp] theorem State.set_echo (s : State) (f : Fld) (v : Nat) : (s.set f v).echo = s.echo := rfl
@[simp] theorem State.set_tg (s : State) (f : Fld) (v : Nat) : (s.set f v).tg = s.tg := rfl
@[simp] theorem State.set_call (s : State) (f : Fld) (v : Nat) : (s.set f v).call = s.call := rfl
@[simp] theorem State.set_host (s : State) (f : Fld) (v : Nat) : (s.set f v).host = s.host := rfl
@[simp] theorem State.set_ring (s : State) (f : Fld) (v : Nat) : (s.set f v).ring = s.ring := rfl
@[simp] theorem State.set_net (s : State) (f : Fld) (v : Nat) : (s.set f v).net = s.net := rfl
@[simp] theorem State.set_isle (s : State) (f : Fld) (v : Nat) : (s.set f v).isle = s.isle := rfl
@[simp] theorem State.set_boot (s : State) (f : Fld) (v : Nat) : (s.set f v).boot = s.boot := rfl
@[simp] theorem State.set_journal (s : State) (f : Fld) (v : Nat) : (s.set f v).journal = s.journal := rfl
@[simp] theorem State.set_power (s : State) (f : Fld) (v : Nat) : (s.set f v).power = s.power := rfl
@[simp] theorem State.set_copy (s : State) (f : Fld) (v : Nat) : (s.set f v).copy = s.copy := rfl
@[simp] theorem State.set_gpio (s : State) (f : Fld) (v : Nat) : (s.set f v).gpio = s.gpio := rfl
@[simp] theorem State.set_clk (s : State) (f : Fld) (v : Nat) : (s.set f v).clk = s.clk := rfl

@[simp] theorem State.setB_stride (s : State) (f : Fld) (b : Bool) : (s.setB f b).stride = s.stride := rfl
@[simp] theorem State.setB_countAdj (s : State) (f : Fld) (b : Bool) : (s.setB f b).countAdj = s.countAdj := rfl
@[simp] theorem State.setB_strideOn (s : State) (f : Fld) (b : Bool) : (s.setB f b).strideOn = s.strideOn := rfl
@[simp] theorem State.setB_freeCtr (s : State) (f : Fld) (b : Bool) : (s.setB f b).freeCtr = s.freeCtr := rfl
@[simp] theorem State.setB_pending (s : State) (f : Fld) (b : Bool) : (s.setB f b).pending = s.pending := rfl
@[simp] theorem State.setB_answer (s : State) (f : Fld) (b : Bool) : (s.setB f b).answer = s.answer := rfl
@[simp] theorem State.setB_queued (s : State) (f : Fld) (b : Bool) : (s.setB f b).queued = s.queued := rfl
@[simp] theorem State.setB_log (s : State) (f : Fld) (b : Bool) : (s.setB f b).log = s.log := rfl
@[simp] theorem State.setB_logTorn (s : State) (f : Fld) (b : Bool) : (s.setB f b).logTorn = s.logTorn := rfl
@[simp] theorem State.setB_logOverrun (s : State) (f : Fld) (b : Bool) : (s.setB f b).logOverrun = s.logOverrun := rfl
@[simp] theorem State.setB_banks (s : State) (f : Fld) (b : Bool) : (s.setB f b).banks = s.banks := rfl
@[simp] theorem State.setB_fab (s : State) (f : Fld) (b : Bool) : (s.setB f b).fab = s.fab := rfl
@[simp] theorem State.setB_swap (s : State) (f : Fld) (b : Bool) : (s.setB f b).swap = s.swap := rfl
@[simp] theorem State.setB_mic (s : State) (f : Fld) (b : Bool) : (s.setB f b).mic = s.mic := rfl
@[simp] theorem State.setB_line (s : State) (f : Fld) (b : Bool) : (s.setB f b).line = s.line := rfl
@[simp] theorem State.setB_echo (s : State) (f : Fld) (b : Bool) : (s.setB f b).echo = s.echo := rfl
@[simp] theorem State.setB_tg (s : State) (f : Fld) (b : Bool) : (s.setB f b).tg = s.tg := rfl
@[simp] theorem State.setB_call (s : State) (f : Fld) (b : Bool) : (s.setB f b).call = s.call := rfl
@[simp] theorem State.setB_host (s : State) (f : Fld) (b : Bool) : (s.setB f b).host = s.host := rfl
@[simp] theorem State.setB_ring (s : State) (f : Fld) (b : Bool) : (s.setB f b).ring = s.ring := rfl
@[simp] theorem State.setB_net (s : State) (f : Fld) (b : Bool) : (s.setB f b).net = s.net := rfl
@[simp] theorem State.setB_isle (s : State) (f : Fld) (b : Bool) : (s.setB f b).isle = s.isle := rfl
@[simp] theorem State.setB_boot (s : State) (f : Fld) (b : Bool) : (s.setB f b).boot = s.boot := rfl
@[simp] theorem State.setB_journal (s : State) (f : Fld) (b : Bool) : (s.setB f b).journal = s.journal := rfl
@[simp] theorem State.setB_power (s : State) (f : Fld) (b : Bool) : (s.setB f b).power = s.power := rfl
@[simp] theorem State.setB_copy (s : State) (f : Fld) (b : Bool) : (s.setB f b).copy = s.copy := rfl
@[simp] theorem State.setB_gpio (s : State) (f : Fld) (b : Bool) : (s.setB f b).gpio = s.gpio := rfl
@[simp] theorem State.setB_clk (s : State) (f : Fld) (b : Bool) : (s.setB f b).clk = s.clk := rfl

@[simp] theorem State.setBit_stride (s : State) (f : Fld) (n : Nat) (b : Bool) : (s.setBit f n b).stride = s.stride := rfl
@[simp] theorem State.setBit_countAdj (s : State) (f : Fld) (n : Nat) (b : Bool) : (s.setBit f n b).countAdj = s.countAdj := rfl
@[simp] theorem State.setBit_strideOn (s : State) (f : Fld) (n : Nat) (b : Bool) : (s.setBit f n b).strideOn = s.strideOn := rfl
@[simp] theorem State.setBit_freeCtr (s : State) (f : Fld) (n : Nat) (b : Bool) : (s.setBit f n b).freeCtr = s.freeCtr := rfl
@[simp] theorem State.setBit_pending (s : State) (f : Fld) (n : Nat) (b : Bool) : (s.setBit f n b).pending = s.pending := rfl
@[simp] theorem State.setBit_answer (s : State) (f : Fld) (n : Nat) (b : Bool) : (s.setBit f n b).answer = s.answer := rfl
@[simp] theorem State.setBit_queued (s : State) (f : Fld) (n : Nat) (b : Bool) : (s.setBit f n b).queued = s.queued := rfl
@[simp] theorem State.setBit_log (s : State) (f : Fld) (n : Nat) (b : Bool) : (s.setBit f n b).log = s.log := rfl
@[simp] theorem State.setBit_logTorn (s : State) (f : Fld) (n : Nat) (b : Bool) : (s.setBit f n b).logTorn = s.logTorn := rfl
@[simp] theorem State.setBit_logOverrun (s : State) (f : Fld) (n : Nat) (b : Bool) : (s.setBit f n b).logOverrun = s.logOverrun := rfl
@[simp] theorem State.setBit_banks (s : State) (f : Fld) (n : Nat) (b : Bool) : (s.setBit f n b).banks = s.banks := rfl
@[simp] theorem State.setBit_fab (s : State) (f : Fld) (n : Nat) (b : Bool) : (s.setBit f n b).fab = s.fab := rfl
@[simp] theorem State.setBit_swap (s : State) (f : Fld) (n : Nat) (b : Bool) : (s.setBit f n b).swap = s.swap := rfl
@[simp] theorem State.setBit_mic (s : State) (f : Fld) (n : Nat) (b : Bool) : (s.setBit f n b).mic = s.mic := rfl
@[simp] theorem State.setBit_line (s : State) (f : Fld) (n : Nat) (b : Bool) : (s.setBit f n b).line = s.line := rfl
@[simp] theorem State.setBit_echo (s : State) (f : Fld) (n : Nat) (b : Bool) : (s.setBit f n b).echo = s.echo := rfl
@[simp] theorem State.setBit_tg (s : State) (f : Fld) (n : Nat) (b : Bool) : (s.setBit f n b).tg = s.tg := rfl
@[simp] theorem State.setBit_call (s : State) (f : Fld) (n : Nat) (b : Bool) : (s.setBit f n b).call = s.call := rfl
@[simp] theorem State.setBit_host (s : State) (f : Fld) (n : Nat) (b : Bool) : (s.setBit f n b).host = s.host := rfl
@[simp] theorem State.setBit_ring (s : State) (f : Fld) (n : Nat) (b : Bool) : (s.setBit f n b).ring = s.ring := rfl
@[simp] theorem State.setBit_net (s : State) (f : Fld) (n : Nat) (b : Bool) : (s.setBit f n b).net = s.net := rfl
@[simp] theorem State.setBit_isle (s : State) (f : Fld) (n : Nat) (b : Bool) : (s.setBit f n b).isle = s.isle := rfl
@[simp] theorem State.setBit_boot (s : State) (f : Fld) (n : Nat) (b : Bool) : (s.setBit f n b).boot = s.boot := rfl
@[simp] theorem State.setBit_journal (s : State) (f : Fld) (n : Nat) (b : Bool) : (s.setBit f n b).journal = s.journal := rfl
@[simp] theorem State.setBit_power (s : State) (f : Fld) (n : Nat) (b : Bool) : (s.setBit f n b).power = s.power := rfl
@[simp] theorem State.setBit_copy (s : State) (f : Fld) (n : Nat) (b : Bool) : (s.setBit f n b).copy = s.copy := rfl
@[simp] theorem State.setBit_gpio (s : State) (f : Fld) (n : Nat) (b : Bool) : (s.setBit f n b).gpio = s.gpio := rfl
@[simp] theorem State.setBit_clk (s : State) (f : Fld) (n : Nat) (b : Bool) : (s.setBit f n b).clk = s.clk := rfl

@[simp] theorem State.setI_stride (s : State) (f : Fld) (i : Int) : (s.setI f i).stride = s.stride := rfl
@[simp] theorem State.setI_countAdj (s : State) (f : Fld) (i : Int) : (s.setI f i).countAdj = s.countAdj := rfl
@[simp] theorem State.setI_strideOn (s : State) (f : Fld) (i : Int) : (s.setI f i).strideOn = s.strideOn := rfl
@[simp] theorem State.setI_freeCtr (s : State) (f : Fld) (i : Int) : (s.setI f i).freeCtr = s.freeCtr := rfl
@[simp] theorem State.setI_pending (s : State) (f : Fld) (i : Int) : (s.setI f i).pending = s.pending := rfl
@[simp] theorem State.setI_answer (s : State) (f : Fld) (i : Int) : (s.setI f i).answer = s.answer := rfl
@[simp] theorem State.setI_queued (s : State) (f : Fld) (i : Int) : (s.setI f i).queued = s.queued := rfl
@[simp] theorem State.setI_log (s : State) (f : Fld) (i : Int) : (s.setI f i).log = s.log := rfl
@[simp] theorem State.setI_logTorn (s : State) (f : Fld) (i : Int) : (s.setI f i).logTorn = s.logTorn := rfl
@[simp] theorem State.setI_logOverrun (s : State) (f : Fld) (i : Int) : (s.setI f i).logOverrun = s.logOverrun := rfl
@[simp] theorem State.setI_banks (s : State) (f : Fld) (i : Int) : (s.setI f i).banks = s.banks := rfl
@[simp] theorem State.setI_fab (s : State) (f : Fld) (i : Int) : (s.setI f i).fab = s.fab := rfl
@[simp] theorem State.setI_swap (s : State) (f : Fld) (i : Int) : (s.setI f i).swap = s.swap := rfl
@[simp] theorem State.setI_mic (s : State) (f : Fld) (i : Int) : (s.setI f i).mic = s.mic := rfl
@[simp] theorem State.setI_line (s : State) (f : Fld) (i : Int) : (s.setI f i).line = s.line := rfl
@[simp] theorem State.setI_echo (s : State) (f : Fld) (i : Int) : (s.setI f i).echo = s.echo := rfl
@[simp] theorem State.setI_tg (s : State) (f : Fld) (i : Int) : (s.setI f i).tg = s.tg := rfl
@[simp] theorem State.setI_call (s : State) (f : Fld) (i : Int) : (s.setI f i).call = s.call := rfl
@[simp] theorem State.setI_host (s : State) (f : Fld) (i : Int) : (s.setI f i).host = s.host := rfl
@[simp] theorem State.setI_ring (s : State) (f : Fld) (i : Int) : (s.setI f i).ring = s.ring := rfl
@[simp] theorem State.setI_net (s : State) (f : Fld) (i : Int) : (s.setI f i).net = s.net := rfl
@[simp] theorem State.setI_isle (s : State) (f : Fld) (i : Int) : (s.setI f i).isle = s.isle := rfl
@[simp] theorem State.setI_boot (s : State) (f : Fld) (i : Int) : (s.setI f i).boot = s.boot := rfl
@[simp] theorem State.setI_journal (s : State) (f : Fld) (i : Int) : (s.setI f i).journal = s.journal := rfl
@[simp] theorem State.setI_power (s : State) (f : Fld) (i : Int) : (s.setI f i).power = s.power := rfl
@[simp] theorem State.setI_copy (s : State) (f : Fld) (i : Int) : (s.setI f i).copy = s.copy := rfl
@[simp] theorem State.setI_gpio (s : State) (f : Fld) (i : Int) : (s.setI f i).gpio = s.gpio := rfl
@[simp] theorem State.setI_clk (s : State) (f : Fld) (i : Int) : (s.setI f i).clk = s.clk := rfl

@[simp] theorem State.inc_stride (s : State) (f : Fld) : (s.inc f).stride = s.stride := rfl
@[simp] theorem State.inc_countAdj (s : State) (f : Fld) : (s.inc f).countAdj = s.countAdj := rfl
@[simp] theorem State.inc_strideOn (s : State) (f : Fld) : (s.inc f).strideOn = s.strideOn := rfl
@[simp] theorem State.inc_freeCtr (s : State) (f : Fld) : (s.inc f).freeCtr = s.freeCtr := rfl
@[simp] theorem State.inc_pending (s : State) (f : Fld) : (s.inc f).pending = s.pending := rfl
@[simp] theorem State.inc_answer (s : State) (f : Fld) : (s.inc f).answer = s.answer := rfl
@[simp] theorem State.inc_queued (s : State) (f : Fld) : (s.inc f).queued = s.queued := rfl
@[simp] theorem State.inc_log (s : State) (f : Fld) : (s.inc f).log = s.log := rfl
@[simp] theorem State.inc_logTorn (s : State) (f : Fld) : (s.inc f).logTorn = s.logTorn := rfl
@[simp] theorem State.inc_logOverrun (s : State) (f : Fld) : (s.inc f).logOverrun = s.logOverrun := rfl
@[simp] theorem State.inc_banks (s : State) (f : Fld) : (s.inc f).banks = s.banks := rfl
@[simp] theorem State.inc_fab (s : State) (f : Fld) : (s.inc f).fab = s.fab := rfl
@[simp] theorem State.inc_swap (s : State) (f : Fld) : (s.inc f).swap = s.swap := rfl
@[simp] theorem State.inc_mic (s : State) (f : Fld) : (s.inc f).mic = s.mic := rfl
@[simp] theorem State.inc_line (s : State) (f : Fld) : (s.inc f).line = s.line := rfl
@[simp] theorem State.inc_echo (s : State) (f : Fld) : (s.inc f).echo = s.echo := rfl
@[simp] theorem State.inc_tg (s : State) (f : Fld) : (s.inc f).tg = s.tg := rfl
@[simp] theorem State.inc_call (s : State) (f : Fld) : (s.inc f).call = s.call := rfl
@[simp] theorem State.inc_host (s : State) (f : Fld) : (s.inc f).host = s.host := rfl
@[simp] theorem State.inc_ring (s : State) (f : Fld) : (s.inc f).ring = s.ring := rfl
@[simp] theorem State.inc_net (s : State) (f : Fld) : (s.inc f).net = s.net := rfl
@[simp] theorem State.inc_isle (s : State) (f : Fld) : (s.inc f).isle = s.isle := rfl
@[simp] theorem State.inc_boot (s : State) (f : Fld) : (s.inc f).boot = s.boot := rfl
@[simp] theorem State.inc_journal (s : State) (f : Fld) : (s.inc f).journal = s.journal := rfl
@[simp] theorem State.inc_power (s : State) (f : Fld) : (s.inc f).power = s.power := rfl
@[simp] theorem State.inc_copy (s : State) (f : Fld) : (s.inc f).copy = s.copy := rfl
@[simp] theorem State.inc_gpio (s : State) (f : Fld) : (s.inc f).gpio = s.gpio := rfl
@[simp] theorem State.inc_clk (s : State) (f : Fld) : (s.inc f).clk = s.clk := rfl

@[simp] theorem State.updStall_regs (s : State) (n : Nat) (g : Stall → Stall) : (s.updStall n g).regs = s.regs := rfl
@[simp] theorem State.updStall_stride (s : State) (n : Nat) (g : Stall → Stall) : (s.updStall n g).stride = s.stride := rfl
@[simp] theorem State.updStall_countAdj (s : State) (n : Nat) (g : Stall → Stall) : (s.updStall n g).countAdj = s.countAdj := rfl
@[simp] theorem State.updStall_strideOn (s : State) (n : Nat) (g : Stall → Stall) : (s.updStall n g).strideOn = s.strideOn := rfl
@[simp] theorem State.updStall_freeCtr (s : State) (n : Nat) (g : Stall → Stall) : (s.updStall n g).freeCtr = s.freeCtr := rfl
@[simp] theorem State.updStall_pending (s : State) (n : Nat) (g : Stall → Stall) : (s.updStall n g).pending = s.pending := rfl
@[simp] theorem State.updStall_answer (s : State) (n : Nat) (g : Stall → Stall) : (s.updStall n g).answer = s.answer := rfl
@[simp] theorem State.updStall_queued (s : State) (n : Nat) (g : Stall → Stall) : (s.updStall n g).queued = s.queued := rfl
@[simp] theorem State.updStall_log (s : State) (n : Nat) (g : Stall → Stall) : (s.updStall n g).log = s.log := rfl
@[simp] theorem State.updStall_logTorn (s : State) (n : Nat) (g : Stall → Stall) : (s.updStall n g).logTorn = s.logTorn := rfl
@[simp] theorem State.updStall_logOverrun (s : State) (n : Nat) (g : Stall → Stall) : (s.updStall n g).logOverrun = s.logOverrun := rfl
@[simp] theorem State.updStall_banks (s : State) (n : Nat) (g : Stall → Stall) : (s.updStall n g).banks = s.banks := rfl
@[simp] theorem State.updStall_swap (s : State) (n : Nat) (g : Stall → Stall) : (s.updStall n g).swap = s.swap := rfl
@[simp] theorem State.updStall_mic (s : State) (n : Nat) (g : Stall → Stall) : (s.updStall n g).mic = s.mic := rfl
@[simp] theorem State.updStall_line (s : State) (n : Nat) (g : Stall → Stall) : (s.updStall n g).line = s.line := rfl
@[simp] theorem State.updStall_echo (s : State) (n : Nat) (g : Stall → Stall) : (s.updStall n g).echo = s.echo := rfl
@[simp] theorem State.updStall_tg (s : State) (n : Nat) (g : Stall → Stall) : (s.updStall n g).tg = s.tg := rfl
@[simp] theorem State.updStall_call (s : State) (n : Nat) (g : Stall → Stall) : (s.updStall n g).call = s.call := rfl
@[simp] theorem State.updStall_host (s : State) (n : Nat) (g : Stall → Stall) : (s.updStall n g).host = s.host := rfl
@[simp] theorem State.updStall_ring (s : State) (n : Nat) (g : Stall → Stall) : (s.updStall n g).ring = s.ring := rfl
@[simp] theorem State.updStall_net (s : State) (n : Nat) (g : Stall → Stall) : (s.updStall n g).net = s.net := rfl
@[simp] theorem State.updStall_isle (s : State) (n : Nat) (g : Stall → Stall) : (s.updStall n g).isle = s.isle := rfl
@[simp] theorem State.updStall_boot (s : State) (n : Nat) (g : Stall → Stall) : (s.updStall n g).boot = s.boot := rfl
@[simp] theorem State.updStall_journal (s : State) (n : Nat) (g : Stall → Stall) : (s.updStall n g).journal = s.journal := rfl
@[simp] theorem State.updStall_power (s : State) (n : Nat) (g : Stall → Stall) : (s.updStall n g).power = s.power := rfl
@[simp] theorem State.updStall_copy (s : State) (n : Nat) (g : Stall → Stall) : (s.updStall n g).copy = s.copy := rfl
@[simp] theorem State.updStall_gpio (s : State) (n : Nat) (g : Stall → Stall) : (s.updStall n g).gpio = s.gpio := rfl
@[simp] theorem State.updStall_clk (s : State) (n : Nat) (g : Stall → Stall) : (s.updStall n g).clk = s.clk := rfl

@[simp] theorem State.updHost_regs (s : State) (g : HostState → HostState) : (s.updHost g).regs = s.regs := rfl
@[simp] theorem State.updHost_stride (s : State) (g : HostState → HostState) : (s.updHost g).stride = s.stride := rfl
@[simp] theorem State.updHost_countAdj (s : State) (g : HostState → HostState) : (s.updHost g).countAdj = s.countAdj := rfl
@[simp] theorem State.updHost_strideOn (s : State) (g : HostState → HostState) : (s.updHost g).strideOn = s.strideOn := rfl
@[simp] theorem State.updHost_freeCtr (s : State) (g : HostState → HostState) : (s.updHost g).freeCtr = s.freeCtr := rfl
@[simp] theorem State.updHost_pending (s : State) (g : HostState → HostState) : (s.updHost g).pending = s.pending := rfl
@[simp] theorem State.updHost_answer (s : State) (g : HostState → HostState) : (s.updHost g).answer = s.answer := rfl
@[simp] theorem State.updHost_queued (s : State) (g : HostState → HostState) : (s.updHost g).queued = s.queued := rfl
@[simp] theorem State.updHost_log (s : State) (g : HostState → HostState) : (s.updHost g).log = s.log := rfl
@[simp] theorem State.updHost_logTorn (s : State) (g : HostState → HostState) : (s.updHost g).logTorn = s.logTorn := rfl
@[simp] theorem State.updHost_logOverrun (s : State) (g : HostState → HostState) : (s.updHost g).logOverrun = s.logOverrun := rfl
@[simp] theorem State.updHost_banks (s : State) (g : HostState → HostState) : (s.updHost g).banks = s.banks := rfl
@[simp] theorem State.updHost_fab (s : State) (g : HostState → HostState) : (s.updHost g).fab = s.fab := rfl
@[simp] theorem State.updHost_swap (s : State) (g : HostState → HostState) : (s.updHost g).swap = s.swap := rfl
@[simp] theorem State.updHost_mic (s : State) (g : HostState → HostState) : (s.updHost g).mic = s.mic := rfl
@[simp] theorem State.updHost_line (s : State) (g : HostState → HostState) : (s.updHost g).line = s.line := rfl
@[simp] theorem State.updHost_echo (s : State) (g : HostState → HostState) : (s.updHost g).echo = s.echo := rfl
@[simp] theorem State.updHost_tg (s : State) (g : HostState → HostState) : (s.updHost g).tg = s.tg := rfl
@[simp] theorem State.updHost_call (s : State) (g : HostState → HostState) : (s.updHost g).call = s.call := rfl
@[simp] theorem State.updHost_ring (s : State) (g : HostState → HostState) : (s.updHost g).ring = s.ring := rfl
@[simp] theorem State.updHost_net (s : State) (g : HostState → HostState) : (s.updHost g).net = s.net := rfl
@[simp] theorem State.updHost_isle (s : State) (g : HostState → HostState) : (s.updHost g).isle = s.isle := rfl
@[simp] theorem State.updHost_boot (s : State) (g : HostState → HostState) : (s.updHost g).boot = s.boot := rfl
@[simp] theorem State.updHost_journal (s : State) (g : HostState → HostState) : (s.updHost g).journal = s.journal := rfl
@[simp] theorem State.updHost_power (s : State) (g : HostState → HostState) : (s.updHost g).power = s.power := rfl
@[simp] theorem State.updHost_copy (s : State) (g : HostState → HostState) : (s.updHost g).copy = s.copy := rfl
@[simp] theorem State.updHost_gpio (s : State) (g : HostState → HostState) : (s.updHost g).gpio = s.gpio := rfl
@[simp] theorem State.updHost_clk (s : State) (g : HostState → HostState) : (s.updHost g).clk = s.clk := rfl

@[simp] theorem State.updNet_regs (s : State) (g : NetNode → NetNode) : (s.updNet g).regs = s.regs := rfl
@[simp] theorem State.updNet_stride (s : State) (g : NetNode → NetNode) : (s.updNet g).stride = s.stride := rfl
@[simp] theorem State.updNet_countAdj (s : State) (g : NetNode → NetNode) : (s.updNet g).countAdj = s.countAdj := rfl
@[simp] theorem State.updNet_strideOn (s : State) (g : NetNode → NetNode) : (s.updNet g).strideOn = s.strideOn := rfl
@[simp] theorem State.updNet_freeCtr (s : State) (g : NetNode → NetNode) : (s.updNet g).freeCtr = s.freeCtr := rfl
@[simp] theorem State.updNet_pending (s : State) (g : NetNode → NetNode) : (s.updNet g).pending = s.pending := rfl
@[simp] theorem State.updNet_answer (s : State) (g : NetNode → NetNode) : (s.updNet g).answer = s.answer := rfl
@[simp] theorem State.updNet_queued (s : State) (g : NetNode → NetNode) : (s.updNet g).queued = s.queued := rfl
@[simp] theorem State.updNet_log (s : State) (g : NetNode → NetNode) : (s.updNet g).log = s.log := rfl
@[simp] theorem State.updNet_logTorn (s : State) (g : NetNode → NetNode) : (s.updNet g).logTorn = s.logTorn := rfl
@[simp] theorem State.updNet_logOverrun (s : State) (g : NetNode → NetNode) : (s.updNet g).logOverrun = s.logOverrun := rfl
@[simp] theorem State.updNet_banks (s : State) (g : NetNode → NetNode) : (s.updNet g).banks = s.banks := rfl
@[simp] theorem State.updNet_fab (s : State) (g : NetNode → NetNode) : (s.updNet g).fab = s.fab := rfl
@[simp] theorem State.updNet_swap (s : State) (g : NetNode → NetNode) : (s.updNet g).swap = s.swap := rfl
@[simp] theorem State.updNet_mic (s : State) (g : NetNode → NetNode) : (s.updNet g).mic = s.mic := rfl
@[simp] theorem State.updNet_line (s : State) (g : NetNode → NetNode) : (s.updNet g).line = s.line := rfl
@[simp] theorem State.updNet_echo (s : State) (g : NetNode → NetNode) : (s.updNet g).echo = s.echo := rfl
@[simp] theorem State.updNet_tg (s : State) (g : NetNode → NetNode) : (s.updNet g).tg = s.tg := rfl
@[simp] theorem State.updNet_call (s : State) (g : NetNode → NetNode) : (s.updNet g).call = s.call := rfl
@[simp] theorem State.updNet_host (s : State) (g : NetNode → NetNode) : (s.updNet g).host = s.host := rfl
@[simp] theorem State.updNet_ring (s : State) (g : NetNode → NetNode) : (s.updNet g).ring = s.ring := rfl
@[simp] theorem State.updNet_isle (s : State) (g : NetNode → NetNode) : (s.updNet g).isle = s.isle := rfl
@[simp] theorem State.updNet_boot (s : State) (g : NetNode → NetNode) : (s.updNet g).boot = s.boot := rfl
@[simp] theorem State.updNet_journal (s : State) (g : NetNode → NetNode) : (s.updNet g).journal = s.journal := rfl
@[simp] theorem State.updNet_power (s : State) (g : NetNode → NetNode) : (s.updNet g).power = s.power := rfl
@[simp] theorem State.updNet_copy (s : State) (g : NetNode → NetNode) : (s.updNet g).copy = s.copy := rfl
@[simp] theorem State.updNet_gpio (s : State) (g : NetNode → NetNode) : (s.updNet g).gpio = s.gpio := rfl
@[simp] theorem State.updNet_clk (s : State) (g : NetNode → NetNode) : (s.updNet g).clk = s.clk := rfl

@[simp] theorem State.updMac_regs (s : State) (p : Nat) (g : MacPort → MacPort) : (s.updMac p g).regs = s.regs := rfl
@[simp] theorem State.updMac_stride (s : State) (p : Nat) (g : MacPort → MacPort) : (s.updMac p g).stride = s.stride := rfl
@[simp] theorem State.updMac_countAdj (s : State) (p : Nat) (g : MacPort → MacPort) : (s.updMac p g).countAdj = s.countAdj := rfl
@[simp] theorem State.updMac_strideOn (s : State) (p : Nat) (g : MacPort → MacPort) : (s.updMac p g).strideOn = s.strideOn := rfl
@[simp] theorem State.updMac_freeCtr (s : State) (p : Nat) (g : MacPort → MacPort) : (s.updMac p g).freeCtr = s.freeCtr := rfl
@[simp] theorem State.updMac_pending (s : State) (p : Nat) (g : MacPort → MacPort) : (s.updMac p g).pending = s.pending := rfl
@[simp] theorem State.updMac_answer (s : State) (p : Nat) (g : MacPort → MacPort) : (s.updMac p g).answer = s.answer := rfl
@[simp] theorem State.updMac_queued (s : State) (p : Nat) (g : MacPort → MacPort) : (s.updMac p g).queued = s.queued := rfl
@[simp] theorem State.updMac_log (s : State) (p : Nat) (g : MacPort → MacPort) : (s.updMac p g).log = s.log := rfl
@[simp] theorem State.updMac_logTorn (s : State) (p : Nat) (g : MacPort → MacPort) : (s.updMac p g).logTorn = s.logTorn := rfl
@[simp] theorem State.updMac_logOverrun (s : State) (p : Nat) (g : MacPort → MacPort) : (s.updMac p g).logOverrun = s.logOverrun := rfl
@[simp] theorem State.updMac_banks (s : State) (p : Nat) (g : MacPort → MacPort) : (s.updMac p g).banks = s.banks := rfl
@[simp] theorem State.updMac_fab (s : State) (p : Nat) (g : MacPort → MacPort) : (s.updMac p g).fab = s.fab := rfl
@[simp] theorem State.updMac_swap (s : State) (p : Nat) (g : MacPort → MacPort) : (s.updMac p g).swap = s.swap := rfl
@[simp] theorem State.updMac_mic (s : State) (p : Nat) (g : MacPort → MacPort) : (s.updMac p g).mic = s.mic := rfl
@[simp] theorem State.updMac_line (s : State) (p : Nat) (g : MacPort → MacPort) : (s.updMac p g).line = s.line := rfl
@[simp] theorem State.updMac_echo (s : State) (p : Nat) (g : MacPort → MacPort) : (s.updMac p g).echo = s.echo := rfl
@[simp] theorem State.updMac_tg (s : State) (p : Nat) (g : MacPort → MacPort) : (s.updMac p g).tg = s.tg := rfl
@[simp] theorem State.updMac_call (s : State) (p : Nat) (g : MacPort → MacPort) : (s.updMac p g).call = s.call := rfl
@[simp] theorem State.updMac_host (s : State) (p : Nat) (g : MacPort → MacPort) : (s.updMac p g).host = s.host := rfl
@[simp] theorem State.updMac_ring (s : State) (p : Nat) (g : MacPort → MacPort) : (s.updMac p g).ring = s.ring := rfl
@[simp] theorem State.updMac_isle (s : State) (p : Nat) (g : MacPort → MacPort) : (s.updMac p g).isle = s.isle := rfl
@[simp] theorem State.updMac_boot (s : State) (p : Nat) (g : MacPort → MacPort) : (s.updMac p g).boot = s.boot := rfl
@[simp] theorem State.updMac_journal (s : State) (p : Nat) (g : MacPort → MacPort) : (s.updMac p g).journal = s.journal := rfl
@[simp] theorem State.updMac_power (s : State) (p : Nat) (g : MacPort → MacPort) : (s.updMac p g).power = s.power := rfl
@[simp] theorem State.updMac_copy (s : State) (p : Nat) (g : MacPort → MacPort) : (s.updMac p g).copy = s.copy := rfl
@[simp] theorem State.updMac_gpio (s : State) (p : Nat) (g : MacPort → MacPort) : (s.updMac p g).gpio = s.gpio := rfl
@[simp] theorem State.updMac_clk (s : State) (p : Nat) (g : MacPort → MacPort) : (s.updMac p g).clk = s.clk := rfl

@[simp] theorem State.updSec_regs (s : State) (p : Nat) (g : SecPort → SecPort) : (s.updSec p g).regs = s.regs := rfl
@[simp] theorem State.updSec_stride (s : State) (p : Nat) (g : SecPort → SecPort) : (s.updSec p g).stride = s.stride := rfl
@[simp] theorem State.updSec_countAdj (s : State) (p : Nat) (g : SecPort → SecPort) : (s.updSec p g).countAdj = s.countAdj := rfl
@[simp] theorem State.updSec_strideOn (s : State) (p : Nat) (g : SecPort → SecPort) : (s.updSec p g).strideOn = s.strideOn := rfl
@[simp] theorem State.updSec_freeCtr (s : State) (p : Nat) (g : SecPort → SecPort) : (s.updSec p g).freeCtr = s.freeCtr := rfl
@[simp] theorem State.updSec_pending (s : State) (p : Nat) (g : SecPort → SecPort) : (s.updSec p g).pending = s.pending := rfl
@[simp] theorem State.updSec_answer (s : State) (p : Nat) (g : SecPort → SecPort) : (s.updSec p g).answer = s.answer := rfl
@[simp] theorem State.updSec_queued (s : State) (p : Nat) (g : SecPort → SecPort) : (s.updSec p g).queued = s.queued := rfl
@[simp] theorem State.updSec_log (s : State) (p : Nat) (g : SecPort → SecPort) : (s.updSec p g).log = s.log := rfl
@[simp] theorem State.updSec_logTorn (s : State) (p : Nat) (g : SecPort → SecPort) : (s.updSec p g).logTorn = s.logTorn := rfl
@[simp] theorem State.updSec_logOverrun (s : State) (p : Nat) (g : SecPort → SecPort) : (s.updSec p g).logOverrun = s.logOverrun := rfl
@[simp] theorem State.updSec_banks (s : State) (p : Nat) (g : SecPort → SecPort) : (s.updSec p g).banks = s.banks := rfl
@[simp] theorem State.updSec_fab (s : State) (p : Nat) (g : SecPort → SecPort) : (s.updSec p g).fab = s.fab := rfl
@[simp] theorem State.updSec_swap (s : State) (p : Nat) (g : SecPort → SecPort) : (s.updSec p g).swap = s.swap := rfl
@[simp] theorem State.updSec_mic (s : State) (p : Nat) (g : SecPort → SecPort) : (s.updSec p g).mic = s.mic := rfl
@[simp] theorem State.updSec_line (s : State) (p : Nat) (g : SecPort → SecPort) : (s.updSec p g).line = s.line := rfl
@[simp] theorem State.updSec_echo (s : State) (p : Nat) (g : SecPort → SecPort) : (s.updSec p g).echo = s.echo := rfl
@[simp] theorem State.updSec_tg (s : State) (p : Nat) (g : SecPort → SecPort) : (s.updSec p g).tg = s.tg := rfl
@[simp] theorem State.updSec_call (s : State) (p : Nat) (g : SecPort → SecPort) : (s.updSec p g).call = s.call := rfl
@[simp] theorem State.updSec_host (s : State) (p : Nat) (g : SecPort → SecPort) : (s.updSec p g).host = s.host := rfl
@[simp] theorem State.updSec_ring (s : State) (p : Nat) (g : SecPort → SecPort) : (s.updSec p g).ring = s.ring := rfl
@[simp] theorem State.updSec_isle (s : State) (p : Nat) (g : SecPort → SecPort) : (s.updSec p g).isle = s.isle := rfl
@[simp] theorem State.updSec_boot (s : State) (p : Nat) (g : SecPort → SecPort) : (s.updSec p g).boot = s.boot := rfl
@[simp] theorem State.updSec_journal (s : State) (p : Nat) (g : SecPort → SecPort) : (s.updSec p g).journal = s.journal := rfl
@[simp] theorem State.updSec_power (s : State) (p : Nat) (g : SecPort → SecPort) : (s.updSec p g).power = s.power := rfl
@[simp] theorem State.updSec_copy (s : State) (p : Nat) (g : SecPort → SecPort) : (s.updSec p g).copy = s.copy := rfl
@[simp] theorem State.updSec_gpio (s : State) (p : Nat) (g : SecPort → SecPort) : (s.updSec p g).gpio = s.gpio := rfl
@[simp] theorem State.updSec_clk (s : State) (p : Nat) (g : SecPort → SecPort) : (s.updSec p g).clk = s.clk := rfl

@[simp] theorem State.updRing_regs (s : State) (g : RingNode → RingNode) : (s.updRing g).regs = s.regs := rfl
@[simp] theorem State.updRing_stride (s : State) (g : RingNode → RingNode) : (s.updRing g).stride = s.stride := rfl
@[simp] theorem State.updRing_countAdj (s : State) (g : RingNode → RingNode) : (s.updRing g).countAdj = s.countAdj := rfl
@[simp] theorem State.updRing_strideOn (s : State) (g : RingNode → RingNode) : (s.updRing g).strideOn = s.strideOn := rfl
@[simp] theorem State.updRing_freeCtr (s : State) (g : RingNode → RingNode) : (s.updRing g).freeCtr = s.freeCtr := rfl
@[simp] theorem State.updRing_pending (s : State) (g : RingNode → RingNode) : (s.updRing g).pending = s.pending := rfl
@[simp] theorem State.updRing_answer (s : State) (g : RingNode → RingNode) : (s.updRing g).answer = s.answer := rfl
@[simp] theorem State.updRing_queued (s : State) (g : RingNode → RingNode) : (s.updRing g).queued = s.queued := rfl
@[simp] theorem State.updRing_log (s : State) (g : RingNode → RingNode) : (s.updRing g).log = s.log := rfl
@[simp] theorem State.updRing_logTorn (s : State) (g : RingNode → RingNode) : (s.updRing g).logTorn = s.logTorn := rfl
@[simp] theorem State.updRing_logOverrun (s : State) (g : RingNode → RingNode) : (s.updRing g).logOverrun = s.logOverrun := rfl
@[simp] theorem State.updRing_banks (s : State) (g : RingNode → RingNode) : (s.updRing g).banks = s.banks := rfl
@[simp] theorem State.updRing_fab (s : State) (g : RingNode → RingNode) : (s.updRing g).fab = s.fab := rfl
@[simp] theorem State.updRing_swap (s : State) (g : RingNode → RingNode) : (s.updRing g).swap = s.swap := rfl
@[simp] theorem State.updRing_mic (s : State) (g : RingNode → RingNode) : (s.updRing g).mic = s.mic := rfl
@[simp] theorem State.updRing_line (s : State) (g : RingNode → RingNode) : (s.updRing g).line = s.line := rfl
@[simp] theorem State.updRing_echo (s : State) (g : RingNode → RingNode) : (s.updRing g).echo = s.echo := rfl
@[simp] theorem State.updRing_tg (s : State) (g : RingNode → RingNode) : (s.updRing g).tg = s.tg := rfl
@[simp] theorem State.updRing_call (s : State) (g : RingNode → RingNode) : (s.updRing g).call = s.call := rfl
@[simp] theorem State.updRing_host (s : State) (g : RingNode → RingNode) : (s.updRing g).host = s.host := rfl
@[simp] theorem State.updRing_net (s : State) (g : RingNode → RingNode) : (s.updRing g).net = s.net := rfl
@[simp] theorem State.updRing_isle (s : State) (g : RingNode → RingNode) : (s.updRing g).isle = s.isle := rfl
@[simp] theorem State.updRing_boot (s : State) (g : RingNode → RingNode) : (s.updRing g).boot = s.boot := rfl
@[simp] theorem State.updRing_journal (s : State) (g : RingNode → RingNode) : (s.updRing g).journal = s.journal := rfl
@[simp] theorem State.updRing_power (s : State) (g : RingNode → RingNode) : (s.updRing g).power = s.power := rfl
@[simp] theorem State.updRing_copy (s : State) (g : RingNode → RingNode) : (s.updRing g).copy = s.copy := rfl
@[simp] theorem State.updRing_gpio (s : State) (g : RingNode → RingNode) : (s.updRing g).gpio = s.gpio := rfl
@[simp] theorem State.updRing_clk (s : State) (g : RingNode → RingNode) : (s.updRing g).clk = s.clk := rfl

@[simp] theorem State.updLaunch_regs (s : State) (k : Nat) (g : Launch → Launch) : (s.updLaunch k g).regs = s.regs := rfl
@[simp] theorem State.updLaunch_stride (s : State) (k : Nat) (g : Launch → Launch) : (s.updLaunch k g).stride = s.stride := rfl
@[simp] theorem State.updLaunch_countAdj (s : State) (k : Nat) (g : Launch → Launch) : (s.updLaunch k g).countAdj = s.countAdj := rfl
@[simp] theorem State.updLaunch_strideOn (s : State) (k : Nat) (g : Launch → Launch) : (s.updLaunch k g).strideOn = s.strideOn := rfl
@[simp] theorem State.updLaunch_freeCtr (s : State) (k : Nat) (g : Launch → Launch) : (s.updLaunch k g).freeCtr = s.freeCtr := rfl
@[simp] theorem State.updLaunch_pending (s : State) (k : Nat) (g : Launch → Launch) : (s.updLaunch k g).pending = s.pending := rfl
@[simp] theorem State.updLaunch_answer (s : State) (k : Nat) (g : Launch → Launch) : (s.updLaunch k g).answer = s.answer := rfl
@[simp] theorem State.updLaunch_queued (s : State) (k : Nat) (g : Launch → Launch) : (s.updLaunch k g).queued = s.queued := rfl
@[simp] theorem State.updLaunch_log (s : State) (k : Nat) (g : Launch → Launch) : (s.updLaunch k g).log = s.log := rfl
@[simp] theorem State.updLaunch_logTorn (s : State) (k : Nat) (g : Launch → Launch) : (s.updLaunch k g).logTorn = s.logTorn := rfl
@[simp] theorem State.updLaunch_logOverrun (s : State) (k : Nat) (g : Launch → Launch) : (s.updLaunch k g).logOverrun = s.logOverrun := rfl
@[simp] theorem State.updLaunch_banks (s : State) (k : Nat) (g : Launch → Launch) : (s.updLaunch k g).banks = s.banks := rfl
@[simp] theorem State.updLaunch_fab (s : State) (k : Nat) (g : Launch → Launch) : (s.updLaunch k g).fab = s.fab := rfl
@[simp] theorem State.updLaunch_swap (s : State) (k : Nat) (g : Launch → Launch) : (s.updLaunch k g).swap = s.swap := rfl
@[simp] theorem State.updLaunch_mic (s : State) (k : Nat) (g : Launch → Launch) : (s.updLaunch k g).mic = s.mic := rfl
@[simp] theorem State.updLaunch_line (s : State) (k : Nat) (g : Launch → Launch) : (s.updLaunch k g).line = s.line := rfl
@[simp] theorem State.updLaunch_echo (s : State) (k : Nat) (g : Launch → Launch) : (s.updLaunch k g).echo = s.echo := rfl
@[simp] theorem State.updLaunch_tg (s : State) (k : Nat) (g : Launch → Launch) : (s.updLaunch k g).tg = s.tg := rfl
@[simp] theorem State.updLaunch_call (s : State) (k : Nat) (g : Launch → Launch) : (s.updLaunch k g).call = s.call := rfl
@[simp] theorem State.updLaunch_host (s : State) (k : Nat) (g : Launch → Launch) : (s.updLaunch k g).host = s.host := rfl
@[simp] theorem State.updLaunch_net (s : State) (k : Nat) (g : Launch → Launch) : (s.updLaunch k g).net = s.net := rfl
@[simp] theorem State.updLaunch_isle (s : State) (k : Nat) (g : Launch → Launch) : (s.updLaunch k g).isle = s.isle := rfl
@[simp] theorem State.updLaunch_boot (s : State) (k : Nat) (g : Launch → Launch) : (s.updLaunch k g).boot = s.boot := rfl
@[simp] theorem State.updLaunch_journal (s : State) (k : Nat) (g : Launch → Launch) : (s.updLaunch k g).journal = s.journal := rfl
@[simp] theorem State.updLaunch_power (s : State) (k : Nat) (g : Launch → Launch) : (s.updLaunch k g).power = s.power := rfl
@[simp] theorem State.updLaunch_copy (s : State) (k : Nat) (g : Launch → Launch) : (s.updLaunch k g).copy = s.copy := rfl
@[simp] theorem State.updLaunch_gpio (s : State) (k : Nat) (g : Launch → Launch) : (s.updLaunch k g).gpio = s.gpio := rfl
@[simp] theorem State.updLaunch_clk (s : State) (k : Nat) (g : Launch → Launch) : (s.updLaunch k g).clk = s.clk := rfl

@[simp] theorem State.updBal_regs (s : State) (c : Nat) (g : Bal → Bal) : (s.updBal c g).regs = s.regs := rfl
@[simp] theorem State.updBal_stride (s : State) (c : Nat) (g : Bal → Bal) : (s.updBal c g).stride = s.stride := rfl
@[simp] theorem State.updBal_countAdj (s : State) (c : Nat) (g : Bal → Bal) : (s.updBal c g).countAdj = s.countAdj := rfl
@[simp] theorem State.updBal_strideOn (s : State) (c : Nat) (g : Bal → Bal) : (s.updBal c g).strideOn = s.strideOn := rfl
@[simp] theorem State.updBal_freeCtr (s : State) (c : Nat) (g : Bal → Bal) : (s.updBal c g).freeCtr = s.freeCtr := rfl
@[simp] theorem State.updBal_pending (s : State) (c : Nat) (g : Bal → Bal) : (s.updBal c g).pending = s.pending := rfl
@[simp] theorem State.updBal_answer (s : State) (c : Nat) (g : Bal → Bal) : (s.updBal c g).answer = s.answer := rfl
@[simp] theorem State.updBal_queued (s : State) (c : Nat) (g : Bal → Bal) : (s.updBal c g).queued = s.queued := rfl
@[simp] theorem State.updBal_log (s : State) (c : Nat) (g : Bal → Bal) : (s.updBal c g).log = s.log := rfl
@[simp] theorem State.updBal_logTorn (s : State) (c : Nat) (g : Bal → Bal) : (s.updBal c g).logTorn = s.logTorn := rfl
@[simp] theorem State.updBal_logOverrun (s : State) (c : Nat) (g : Bal → Bal) : (s.updBal c g).logOverrun = s.logOverrun := rfl
@[simp] theorem State.updBal_banks (s : State) (c : Nat) (g : Bal → Bal) : (s.updBal c g).banks = s.banks := rfl
@[simp] theorem State.updBal_fab (s : State) (c : Nat) (g : Bal → Bal) : (s.updBal c g).fab = s.fab := rfl
@[simp] theorem State.updBal_swap (s : State) (c : Nat) (g : Bal → Bal) : (s.updBal c g).swap = s.swap := rfl
@[simp] theorem State.updBal_mic (s : State) (c : Nat) (g : Bal → Bal) : (s.updBal c g).mic = s.mic := rfl
@[simp] theorem State.updBal_echo (s : State) (c : Nat) (g : Bal → Bal) : (s.updBal c g).echo = s.echo := rfl
@[simp] theorem State.updBal_tg (s : State) (c : Nat) (g : Bal → Bal) : (s.updBal c g).tg = s.tg := rfl
@[simp] theorem State.updBal_call (s : State) (c : Nat) (g : Bal → Bal) : (s.updBal c g).call = s.call := rfl
@[simp] theorem State.updBal_host (s : State) (c : Nat) (g : Bal → Bal) : (s.updBal c g).host = s.host := rfl
@[simp] theorem State.updBal_ring (s : State) (c : Nat) (g : Bal → Bal) : (s.updBal c g).ring = s.ring := rfl
@[simp] theorem State.updBal_net (s : State) (c : Nat) (g : Bal → Bal) : (s.updBal c g).net = s.net := rfl
@[simp] theorem State.updBal_isle (s : State) (c : Nat) (g : Bal → Bal) : (s.updBal c g).isle = s.isle := rfl
@[simp] theorem State.updBal_boot (s : State) (c : Nat) (g : Bal → Bal) : (s.updBal c g).boot = s.boot := rfl
@[simp] theorem State.updBal_journal (s : State) (c : Nat) (g : Bal → Bal) : (s.updBal c g).journal = s.journal := rfl
@[simp] theorem State.updBal_power (s : State) (c : Nat) (g : Bal → Bal) : (s.updBal c g).power = s.power := rfl
@[simp] theorem State.updBal_copy (s : State) (c : Nat) (g : Bal → Bal) : (s.updBal c g).copy = s.copy := rfl
@[simp] theorem State.updBal_gpio (s : State) (c : Nat) (g : Bal → Bal) : (s.updBal c g).gpio = s.gpio := rfl
@[simp] theorem State.updBal_clk (s : State) (c : Nat) (g : Bal → Bal) : (s.updBal c g).clk = s.clk := rfl

@[simp] theorem State.updTdm_regs (s : State) (t : Nat) (g : TdmPort → TdmPort) : (s.updTdm t g).regs = s.regs := rfl
@[simp] theorem State.updTdm_stride (s : State) (t : Nat) (g : TdmPort → TdmPort) : (s.updTdm t g).stride = s.stride := rfl
@[simp] theorem State.updTdm_countAdj (s : State) (t : Nat) (g : TdmPort → TdmPort) : (s.updTdm t g).countAdj = s.countAdj := rfl
@[simp] theorem State.updTdm_strideOn (s : State) (t : Nat) (g : TdmPort → TdmPort) : (s.updTdm t g).strideOn = s.strideOn := rfl
@[simp] theorem State.updTdm_freeCtr (s : State) (t : Nat) (g : TdmPort → TdmPort) : (s.updTdm t g).freeCtr = s.freeCtr := rfl
@[simp] theorem State.updTdm_pending (s : State) (t : Nat) (g : TdmPort → TdmPort) : (s.updTdm t g).pending = s.pending := rfl
@[simp] theorem State.updTdm_answer (s : State) (t : Nat) (g : TdmPort → TdmPort) : (s.updTdm t g).answer = s.answer := rfl
@[simp] theorem State.updTdm_queued (s : State) (t : Nat) (g : TdmPort → TdmPort) : (s.updTdm t g).queued = s.queued := rfl
@[simp] theorem State.updTdm_log (s : State) (t : Nat) (g : TdmPort → TdmPort) : (s.updTdm t g).log = s.log := rfl
@[simp] theorem State.updTdm_logTorn (s : State) (t : Nat) (g : TdmPort → TdmPort) : (s.updTdm t g).logTorn = s.logTorn := rfl
@[simp] theorem State.updTdm_logOverrun (s : State) (t : Nat) (g : TdmPort → TdmPort) : (s.updTdm t g).logOverrun = s.logOverrun := rfl
@[simp] theorem State.updTdm_banks (s : State) (t : Nat) (g : TdmPort → TdmPort) : (s.updTdm t g).banks = s.banks := rfl
@[simp] theorem State.updTdm_fab (s : State) (t : Nat) (g : TdmPort → TdmPort) : (s.updTdm t g).fab = s.fab := rfl
@[simp] theorem State.updTdm_swap (s : State) (t : Nat) (g : TdmPort → TdmPort) : (s.updTdm t g).swap = s.swap := rfl
@[simp] theorem State.updTdm_mic (s : State) (t : Nat) (g : TdmPort → TdmPort) : (s.updTdm t g).mic = s.mic := rfl
@[simp] theorem State.updTdm_echo (s : State) (t : Nat) (g : TdmPort → TdmPort) : (s.updTdm t g).echo = s.echo := rfl
@[simp] theorem State.updTdm_tg (s : State) (t : Nat) (g : TdmPort → TdmPort) : (s.updTdm t g).tg = s.tg := rfl
@[simp] theorem State.updTdm_call (s : State) (t : Nat) (g : TdmPort → TdmPort) : (s.updTdm t g).call = s.call := rfl
@[simp] theorem State.updTdm_host (s : State) (t : Nat) (g : TdmPort → TdmPort) : (s.updTdm t g).host = s.host := rfl
@[simp] theorem State.updTdm_ring (s : State) (t : Nat) (g : TdmPort → TdmPort) : (s.updTdm t g).ring = s.ring := rfl
@[simp] theorem State.updTdm_net (s : State) (t : Nat) (g : TdmPort → TdmPort) : (s.updTdm t g).net = s.net := rfl
@[simp] theorem State.updTdm_isle (s : State) (t : Nat) (g : TdmPort → TdmPort) : (s.updTdm t g).isle = s.isle := rfl
@[simp] theorem State.updTdm_boot (s : State) (t : Nat) (g : TdmPort → TdmPort) : (s.updTdm t g).boot = s.boot := rfl
@[simp] theorem State.updTdm_journal (s : State) (t : Nat) (g : TdmPort → TdmPort) : (s.updTdm t g).journal = s.journal := rfl
@[simp] theorem State.updTdm_power (s : State) (t : Nat) (g : TdmPort → TdmPort) : (s.updTdm t g).power = s.power := rfl
@[simp] theorem State.updTdm_copy (s : State) (t : Nat) (g : TdmPort → TdmPort) : (s.updTdm t g).copy = s.copy := rfl
@[simp] theorem State.updTdm_gpio (s : State) (t : Nat) (g : TdmPort → TdmPort) : (s.updTdm t g).gpio = s.gpio := rfl
@[simp] theorem State.updTdm_clk (s : State) (t : Nat) (g : TdmPort → TdmPort) : (s.updTdm t g).clk = s.clk := rfl

@[simp] theorem State.updEcho_regs (s : State) (i : Nat) (g : EchoInst → EchoInst) : (s.updEcho i g).regs = s.regs := rfl
@[simp] theorem State.updEcho_stride (s : State) (i : Nat) (g : EchoInst → EchoInst) : (s.updEcho i g).stride = s.stride := rfl
@[simp] theorem State.updEcho_countAdj (s : State) (i : Nat) (g : EchoInst → EchoInst) : (s.updEcho i g).countAdj = s.countAdj := rfl
@[simp] theorem State.updEcho_strideOn (s : State) (i : Nat) (g : EchoInst → EchoInst) : (s.updEcho i g).strideOn = s.strideOn := rfl
@[simp] theorem State.updEcho_freeCtr (s : State) (i : Nat) (g : EchoInst → EchoInst) : (s.updEcho i g).freeCtr = s.freeCtr := rfl
@[simp] theorem State.updEcho_pending (s : State) (i : Nat) (g : EchoInst → EchoInst) : (s.updEcho i g).pending = s.pending := rfl
@[simp] theorem State.updEcho_answer (s : State) (i : Nat) (g : EchoInst → EchoInst) : (s.updEcho i g).answer = s.answer := rfl
@[simp] theorem State.updEcho_queued (s : State) (i : Nat) (g : EchoInst → EchoInst) : (s.updEcho i g).queued = s.queued := rfl
@[simp] theorem State.updEcho_log (s : State) (i : Nat) (g : EchoInst → EchoInst) : (s.updEcho i g).log = s.log := rfl
@[simp] theorem State.updEcho_logTorn (s : State) (i : Nat) (g : EchoInst → EchoInst) : (s.updEcho i g).logTorn = s.logTorn := rfl
@[simp] theorem State.updEcho_logOverrun (s : State) (i : Nat) (g : EchoInst → EchoInst) : (s.updEcho i g).logOverrun = s.logOverrun := rfl
@[simp] theorem State.updEcho_banks (s : State) (i : Nat) (g : EchoInst → EchoInst) : (s.updEcho i g).banks = s.banks := rfl
@[simp] theorem State.updEcho_fab (s : State) (i : Nat) (g : EchoInst → EchoInst) : (s.updEcho i g).fab = s.fab := rfl
@[simp] theorem State.updEcho_swap (s : State) (i : Nat) (g : EchoInst → EchoInst) : (s.updEcho i g).swap = s.swap := rfl
@[simp] theorem State.updEcho_mic (s : State) (i : Nat) (g : EchoInst → EchoInst) : (s.updEcho i g).mic = s.mic := rfl
@[simp] theorem State.updEcho_line (s : State) (i : Nat) (g : EchoInst → EchoInst) : (s.updEcho i g).line = s.line := rfl
@[simp] theorem State.updEcho_tg (s : State) (i : Nat) (g : EchoInst → EchoInst) : (s.updEcho i g).tg = s.tg := rfl
@[simp] theorem State.updEcho_call (s : State) (i : Nat) (g : EchoInst → EchoInst) : (s.updEcho i g).call = s.call := rfl
@[simp] theorem State.updEcho_host (s : State) (i : Nat) (g : EchoInst → EchoInst) : (s.updEcho i g).host = s.host := rfl
@[simp] theorem State.updEcho_ring (s : State) (i : Nat) (g : EchoInst → EchoInst) : (s.updEcho i g).ring = s.ring := rfl
@[simp] theorem State.updEcho_net (s : State) (i : Nat) (g : EchoInst → EchoInst) : (s.updEcho i g).net = s.net := rfl
@[simp] theorem State.updEcho_isle (s : State) (i : Nat) (g : EchoInst → EchoInst) : (s.updEcho i g).isle = s.isle := rfl
@[simp] theorem State.updEcho_boot (s : State) (i : Nat) (g : EchoInst → EchoInst) : (s.updEcho i g).boot = s.boot := rfl
@[simp] theorem State.updEcho_journal (s : State) (i : Nat) (g : EchoInst → EchoInst) : (s.updEcho i g).journal = s.journal := rfl
@[simp] theorem State.updEcho_power (s : State) (i : Nat) (g : EchoInst → EchoInst) : (s.updEcho i g).power = s.power := rfl
@[simp] theorem State.updEcho_copy (s : State) (i : Nat) (g : EchoInst → EchoInst) : (s.updEcho i g).copy = s.copy := rfl
@[simp] theorem State.updEcho_gpio (s : State) (i : Nat) (g : EchoInst → EchoInst) : (s.updEcho i g).gpio = s.gpio := rfl
@[simp] theorem State.updEcho_clk (s : State) (i : Nat) (g : EchoInst → EchoInst) : (s.updEcho i g).clk = s.clk := rfl

@[simp] theorem State.updPse_regs (s : State) (n : Nat) (g : PsePort → PsePort) : (s.updPse n g).regs = s.regs := rfl
@[simp] theorem State.updPse_stride (s : State) (n : Nat) (g : PsePort → PsePort) : (s.updPse n g).stride = s.stride := rfl
@[simp] theorem State.updPse_countAdj (s : State) (n : Nat) (g : PsePort → PsePort) : (s.updPse n g).countAdj = s.countAdj := rfl
@[simp] theorem State.updPse_strideOn (s : State) (n : Nat) (g : PsePort → PsePort) : (s.updPse n g).strideOn = s.strideOn := rfl
@[simp] theorem State.updPse_freeCtr (s : State) (n : Nat) (g : PsePort → PsePort) : (s.updPse n g).freeCtr = s.freeCtr := rfl
@[simp] theorem State.updPse_pending (s : State) (n : Nat) (g : PsePort → PsePort) : (s.updPse n g).pending = s.pending := rfl
@[simp] theorem State.updPse_answer (s : State) (n : Nat) (g : PsePort → PsePort) : (s.updPse n g).answer = s.answer := rfl
@[simp] theorem State.updPse_queued (s : State) (n : Nat) (g : PsePort → PsePort) : (s.updPse n g).queued = s.queued := rfl
@[simp] theorem State.updPse_log (s : State) (n : Nat) (g : PsePort → PsePort) : (s.updPse n g).log = s.log := rfl
@[simp] theorem State.updPse_logTorn (s : State) (n : Nat) (g : PsePort → PsePort) : (s.updPse n g).logTorn = s.logTorn := rfl
@[simp] theorem State.updPse_logOverrun (s : State) (n : Nat) (g : PsePort → PsePort) : (s.updPse n g).logOverrun = s.logOverrun := rfl
@[simp] theorem State.updPse_banks (s : State) (n : Nat) (g : PsePort → PsePort) : (s.updPse n g).banks = s.banks := rfl
@[simp] theorem State.updPse_fab (s : State) (n : Nat) (g : PsePort → PsePort) : (s.updPse n g).fab = s.fab := rfl
@[simp] theorem State.updPse_swap (s : State) (n : Nat) (g : PsePort → PsePort) : (s.updPse n g).swap = s.swap := rfl
@[simp] theorem State.updPse_mic (s : State) (n : Nat) (g : PsePort → PsePort) : (s.updPse n g).mic = s.mic := rfl
@[simp] theorem State.updPse_line (s : State) (n : Nat) (g : PsePort → PsePort) : (s.updPse n g).line = s.line := rfl
@[simp] theorem State.updPse_echo (s : State) (n : Nat) (g : PsePort → PsePort) : (s.updPse n g).echo = s.echo := rfl
@[simp] theorem State.updPse_tg (s : State) (n : Nat) (g : PsePort → PsePort) : (s.updPse n g).tg = s.tg := rfl
@[simp] theorem State.updPse_call (s : State) (n : Nat) (g : PsePort → PsePort) : (s.updPse n g).call = s.call := rfl
@[simp] theorem State.updPse_host (s : State) (n : Nat) (g : PsePort → PsePort) : (s.updPse n g).host = s.host := rfl
@[simp] theorem State.updPse_ring (s : State) (n : Nat) (g : PsePort → PsePort) : (s.updPse n g).ring = s.ring := rfl
@[simp] theorem State.updPse_net (s : State) (n : Nat) (g : PsePort → PsePort) : (s.updPse n g).net = s.net := rfl
@[simp] theorem State.updPse_isle (s : State) (n : Nat) (g : PsePort → PsePort) : (s.updPse n g).isle = s.isle := rfl
@[simp] theorem State.updPse_boot (s : State) (n : Nat) (g : PsePort → PsePort) : (s.updPse n g).boot = s.boot := rfl
@[simp] theorem State.updPse_journal (s : State) (n : Nat) (g : PsePort → PsePort) : (s.updPse n g).journal = s.journal := rfl
@[simp] theorem State.updPse_copy (s : State) (n : Nat) (g : PsePort → PsePort) : (s.updPse n g).copy = s.copy := rfl
@[simp] theorem State.updPse_gpio (s : State) (n : Nat) (g : PsePort → PsePort) : (s.updPse n g).gpio = s.gpio := rfl
@[simp] theorem State.updPse_clk (s : State) (n : Nat) (g : PsePort → PsePort) : (s.updPse n g).clk = s.clk := rfl

@[simp] theorem State.setDie_regs (s : State) (d : Nat) (t : DieTherm) : (s.setDie d t).regs = s.regs := rfl
@[simp] theorem State.setDie_stride (s : State) (d : Nat) (t : DieTherm) : (s.setDie d t).stride = s.stride := rfl
@[simp] theorem State.setDie_countAdj (s : State) (d : Nat) (t : DieTherm) : (s.setDie d t).countAdj = s.countAdj := rfl
@[simp] theorem State.setDie_strideOn (s : State) (d : Nat) (t : DieTherm) : (s.setDie d t).strideOn = s.strideOn := rfl
@[simp] theorem State.setDie_freeCtr (s : State) (d : Nat) (t : DieTherm) : (s.setDie d t).freeCtr = s.freeCtr := rfl
@[simp] theorem State.setDie_pending (s : State) (d : Nat) (t : DieTherm) : (s.setDie d t).pending = s.pending := rfl
@[simp] theorem State.setDie_answer (s : State) (d : Nat) (t : DieTherm) : (s.setDie d t).answer = s.answer := rfl
@[simp] theorem State.setDie_queued (s : State) (d : Nat) (t : DieTherm) : (s.setDie d t).queued = s.queued := rfl
@[simp] theorem State.setDie_log (s : State) (d : Nat) (t : DieTherm) : (s.setDie d t).log = s.log := rfl
@[simp] theorem State.setDie_logTorn (s : State) (d : Nat) (t : DieTherm) : (s.setDie d t).logTorn = s.logTorn := rfl
@[simp] theorem State.setDie_logOverrun (s : State) (d : Nat) (t : DieTherm) : (s.setDie d t).logOverrun = s.logOverrun := rfl
@[simp] theorem State.setDie_banks (s : State) (d : Nat) (t : DieTherm) : (s.setDie d t).banks = s.banks := rfl
@[simp] theorem State.setDie_fab (s : State) (d : Nat) (t : DieTherm) : (s.setDie d t).fab = s.fab := rfl
@[simp] theorem State.setDie_swap (s : State) (d : Nat) (t : DieTherm) : (s.setDie d t).swap = s.swap := rfl
@[simp] theorem State.setDie_mic (s : State) (d : Nat) (t : DieTherm) : (s.setDie d t).mic = s.mic := rfl
@[simp] theorem State.setDie_line (s : State) (d : Nat) (t : DieTherm) : (s.setDie d t).line = s.line := rfl
@[simp] theorem State.setDie_echo (s : State) (d : Nat) (t : DieTherm) : (s.setDie d t).echo = s.echo := rfl
@[simp] theorem State.setDie_tg (s : State) (d : Nat) (t : DieTherm) : (s.setDie d t).tg = s.tg := rfl
@[simp] theorem State.setDie_call (s : State) (d : Nat) (t : DieTherm) : (s.setDie d t).call = s.call := rfl
@[simp] theorem State.setDie_host (s : State) (d : Nat) (t : DieTherm) : (s.setDie d t).host = s.host := rfl
@[simp] theorem State.setDie_ring (s : State) (d : Nat) (t : DieTherm) : (s.setDie d t).ring = s.ring := rfl
@[simp] theorem State.setDie_net (s : State) (d : Nat) (t : DieTherm) : (s.setDie d t).net = s.net := rfl
@[simp] theorem State.setDie_isle (s : State) (d : Nat) (t : DieTherm) : (s.setDie d t).isle = s.isle := rfl
@[simp] theorem State.setDie_boot (s : State) (d : Nat) (t : DieTherm) : (s.setDie d t).boot = s.boot := rfl
@[simp] theorem State.setDie_journal (s : State) (d : Nat) (t : DieTherm) : (s.setDie d t).journal = s.journal := rfl
@[simp] theorem State.setDie_copy (s : State) (d : Nat) (t : DieTherm) : (s.setDie d t).copy = s.copy := rfl
@[simp] theorem State.setDie_gpio (s : State) (d : Nat) (t : DieTherm) : (s.setDie d t).gpio = s.gpio := rfl
@[simp] theorem State.setDie_clk (s : State) (d : Nat) (t : DieTherm) : (s.setDie d t).clk = s.clk := rfl

@[simp] theorem State.updRun_regs (s : State) (n : Nat) (g : CopyRun → CopyRun) : (s.updRun n g).regs = s.regs := rfl
@[simp] theorem State.updRun_stride (s : State) (n : Nat) (g : CopyRun → CopyRun) : (s.updRun n g).stride = s.stride := rfl
@[simp] theorem State.updRun_countAdj (s : State) (n : Nat) (g : CopyRun → CopyRun) : (s.updRun n g).countAdj = s.countAdj := rfl
@[simp] theorem State.updRun_strideOn (s : State) (n : Nat) (g : CopyRun → CopyRun) : (s.updRun n g).strideOn = s.strideOn := rfl
@[simp] theorem State.updRun_freeCtr (s : State) (n : Nat) (g : CopyRun → CopyRun) : (s.updRun n g).freeCtr = s.freeCtr := rfl
@[simp] theorem State.updRun_pending (s : State) (n : Nat) (g : CopyRun → CopyRun) : (s.updRun n g).pending = s.pending := rfl
@[simp] theorem State.updRun_answer (s : State) (n : Nat) (g : CopyRun → CopyRun) : (s.updRun n g).answer = s.answer := rfl
@[simp] theorem State.updRun_queued (s : State) (n : Nat) (g : CopyRun → CopyRun) : (s.updRun n g).queued = s.queued := rfl
@[simp] theorem State.updRun_log (s : State) (n : Nat) (g : CopyRun → CopyRun) : (s.updRun n g).log = s.log := rfl
@[simp] theorem State.updRun_logTorn (s : State) (n : Nat) (g : CopyRun → CopyRun) : (s.updRun n g).logTorn = s.logTorn := rfl
@[simp] theorem State.updRun_logOverrun (s : State) (n : Nat) (g : CopyRun → CopyRun) : (s.updRun n g).logOverrun = s.logOverrun := rfl
@[simp] theorem State.updRun_banks (s : State) (n : Nat) (g : CopyRun → CopyRun) : (s.updRun n g).banks = s.banks := rfl
@[simp] theorem State.updRun_fab (s : State) (n : Nat) (g : CopyRun → CopyRun) : (s.updRun n g).fab = s.fab := rfl
@[simp] theorem State.updRun_swap (s : State) (n : Nat) (g : CopyRun → CopyRun) : (s.updRun n g).swap = s.swap := rfl
@[simp] theorem State.updRun_mic (s : State) (n : Nat) (g : CopyRun → CopyRun) : (s.updRun n g).mic = s.mic := rfl
@[simp] theorem State.updRun_line (s : State) (n : Nat) (g : CopyRun → CopyRun) : (s.updRun n g).line = s.line := rfl
@[simp] theorem State.updRun_echo (s : State) (n : Nat) (g : CopyRun → CopyRun) : (s.updRun n g).echo = s.echo := rfl
@[simp] theorem State.updRun_tg (s : State) (n : Nat) (g : CopyRun → CopyRun) : (s.updRun n g).tg = s.tg := rfl
@[simp] theorem State.updRun_call (s : State) (n : Nat) (g : CopyRun → CopyRun) : (s.updRun n g).call = s.call := rfl
@[simp] theorem State.updRun_host (s : State) (n : Nat) (g : CopyRun → CopyRun) : (s.updRun n g).host = s.host := rfl
@[simp] theorem State.updRun_ring (s : State) (n : Nat) (g : CopyRun → CopyRun) : (s.updRun n g).ring = s.ring := rfl
@[simp] theorem State.updRun_net (s : State) (n : Nat) (g : CopyRun → CopyRun) : (s.updRun n g).net = s.net := rfl
@[simp] theorem State.updRun_isle (s : State) (n : Nat) (g : CopyRun → CopyRun) : (s.updRun n g).isle = s.isle := rfl
@[simp] theorem State.updRun_boot (s : State) (n : Nat) (g : CopyRun → CopyRun) : (s.updRun n g).boot = s.boot := rfl
@[simp] theorem State.updRun_journal (s : State) (n : Nat) (g : CopyRun → CopyRun) : (s.updRun n g).journal = s.journal := rfl
@[simp] theorem State.updRun_power (s : State) (n : Nat) (g : CopyRun → CopyRun) : (s.updRun n g).power = s.power := rfl
@[simp] theorem State.updRun_gpio (s : State) (n : Nat) (g : CopyRun → CopyRun) : (s.updRun n g).gpio = s.gpio := rfl
@[simp] theorem State.updRun_clk (s : State) (n : Nat) (g : CopyRun → CopyRun) : (s.updRun n g).clk = s.clk := rfl

@[simp] theorem State.putDet_regs (s : State) (d : Det) : (s.putDet d).regs = s.regs := rfl
@[simp] theorem State.putDet_stride (s : State) (d : Det) : (s.putDet d).stride = s.stride := rfl
@[simp] theorem State.putDet_countAdj (s : State) (d : Det) : (s.putDet d).countAdj = s.countAdj := rfl
@[simp] theorem State.putDet_strideOn (s : State) (d : Det) : (s.putDet d).strideOn = s.strideOn := rfl
@[simp] theorem State.putDet_freeCtr (s : State) (d : Det) : (s.putDet d).freeCtr = s.freeCtr := rfl
@[simp] theorem State.putDet_pending (s : State) (d : Det) : (s.putDet d).pending = s.pending := rfl
@[simp] theorem State.putDet_answer (s : State) (d : Det) : (s.putDet d).answer = s.answer := rfl
@[simp] theorem State.putDet_queued (s : State) (d : Det) : (s.putDet d).queued = s.queued := rfl
@[simp] theorem State.putDet_log (s : State) (d : Det) : (s.putDet d).log = s.log := rfl
@[simp] theorem State.putDet_logTorn (s : State) (d : Det) : (s.putDet d).logTorn = s.logTorn := rfl
@[simp] theorem State.putDet_logOverrun (s : State) (d : Det) : (s.putDet d).logOverrun = s.logOverrun := rfl
@[simp] theorem State.putDet_banks (s : State) (d : Det) : (s.putDet d).banks = s.banks := rfl
@[simp] theorem State.putDet_fab (s : State) (d : Det) : (s.putDet d).fab = s.fab := rfl
@[simp] theorem State.putDet_swap (s : State) (d : Det) : (s.putDet d).swap = s.swap := rfl
@[simp] theorem State.putDet_mic (s : State) (d : Det) : (s.putDet d).mic = s.mic := rfl
@[simp] theorem State.putDet_line (s : State) (d : Det) : (s.putDet d).line = s.line := rfl
@[simp] theorem State.putDet_echo (s : State) (d : Det) : (s.putDet d).echo = s.echo := rfl
@[simp] theorem State.putDet_tg (s : State) (d : Det) : (s.putDet d).tg = s.tg := rfl
@[simp] theorem State.putDet_host (s : State) (d : Det) : (s.putDet d).host = s.host := rfl
@[simp] theorem State.putDet_ring (s : State) (d : Det) : (s.putDet d).ring = s.ring := rfl
@[simp] theorem State.putDet_net (s : State) (d : Det) : (s.putDet d).net = s.net := rfl
@[simp] theorem State.putDet_isle (s : State) (d : Det) : (s.putDet d).isle = s.isle := rfl
@[simp] theorem State.putDet_boot (s : State) (d : Det) : (s.putDet d).boot = s.boot := rfl
@[simp] theorem State.putDet_journal (s : State) (d : Det) : (s.putDet d).journal = s.journal := rfl
@[simp] theorem State.putDet_power (s : State) (d : Det) : (s.putDet d).power = s.power := rfl
@[simp] theorem State.putDet_copy (s : State) (d : Det) : (s.putDet d).copy = s.copy := rfl
@[simp] theorem State.putDet_gpio (s : State) (d : Det) : (s.putDet d).gpio = s.gpio := rfl
@[simp] theorem State.putDet_clk (s : State) (d : Det) : (s.putDet d).clk = s.clk := rfl

@[simp] theorem State.freeBool_regs (s : State) : s.freeBool.2.regs = s.regs := rfl
@[simp] theorem State.freeNat_regs (s : State) : s.freeNat.2.regs = s.regs := rfl
@[simp] theorem State.freeBlock_regs (s : State) (ch : Nat) : (s.freeBlock ch).2.regs = s.regs := rfl
@[simp] theorem State.freeBool_stride (s : State) : s.freeBool.2.stride = s.stride := rfl
@[simp] theorem State.freeNat_stride (s : State) : s.freeNat.2.stride = s.stride := rfl
@[simp] theorem State.freeBlock_stride (s : State) (ch : Nat) : (s.freeBlock ch).2.stride = s.stride := rfl
@[simp] theorem State.freeBool_countAdj (s : State) : s.freeBool.2.countAdj = s.countAdj := rfl
@[simp] theorem State.freeNat_countAdj (s : State) : s.freeNat.2.countAdj = s.countAdj := rfl
@[simp] theorem State.freeBlock_countAdj (s : State) (ch : Nat) : (s.freeBlock ch).2.countAdj = s.countAdj := rfl
@[simp] theorem State.freeBool_strideOn (s : State) : s.freeBool.2.strideOn = s.strideOn := rfl
@[simp] theorem State.freeNat_strideOn (s : State) : s.freeNat.2.strideOn = s.strideOn := rfl
@[simp] theorem State.freeBlock_strideOn (s : State) (ch : Nat) : (s.freeBlock ch).2.strideOn = s.strideOn := rfl
@[simp] theorem State.freeBool_pending (s : State) : s.freeBool.2.pending = s.pending := rfl
@[simp] theorem State.freeNat_pending (s : State) : s.freeNat.2.pending = s.pending := rfl
@[simp] theorem State.freeBlock_pending (s : State) (ch : Nat) : (s.freeBlock ch).2.pending = s.pending := rfl
@[simp] theorem State.freeBool_answer (s : State) : s.freeBool.2.answer = s.answer := rfl
@[simp] theorem State.freeNat_answer (s : State) : s.freeNat.2.answer = s.answer := rfl
@[simp] theorem State.freeBlock_answer (s : State) (ch : Nat) : (s.freeBlock ch).2.answer = s.answer := rfl
@[simp] theorem State.freeBool_queued (s : State) : s.freeBool.2.queued = s.queued := rfl
@[simp] theorem State.freeNat_queued (s : State) : s.freeNat.2.queued = s.queued := rfl
@[simp] theorem State.freeBlock_queued (s : State) (ch : Nat) : (s.freeBlock ch).2.queued = s.queued := rfl
@[simp] theorem State.freeBool_log (s : State) : s.freeBool.2.log = s.log := rfl
@[simp] theorem State.freeNat_log (s : State) : s.freeNat.2.log = s.log := rfl
@[simp] theorem State.freeBlock_log (s : State) (ch : Nat) : (s.freeBlock ch).2.log = s.log := rfl
@[simp] theorem State.freeBool_logTorn (s : State) : s.freeBool.2.logTorn = s.logTorn := rfl
@[simp] theorem State.freeNat_logTorn (s : State) : s.freeNat.2.logTorn = s.logTorn := rfl
@[simp] theorem State.freeBlock_logTorn (s : State) (ch : Nat) : (s.freeBlock ch).2.logTorn = s.logTorn := rfl
@[simp] theorem State.freeBool_logOverrun (s : State) : s.freeBool.2.logOverrun = s.logOverrun := rfl
@[simp] theorem State.freeNat_logOverrun (s : State) : s.freeNat.2.logOverrun = s.logOverrun := rfl
@[simp] theorem State.freeBlock_logOverrun (s : State) (ch : Nat) : (s.freeBlock ch).2.logOverrun = s.logOverrun := rfl
@[simp] theorem State.freeBool_banks (s : State) : s.freeBool.2.banks = s.banks := rfl
@[simp] theorem State.freeNat_banks (s : State) : s.freeNat.2.banks = s.banks := rfl
@[simp] theorem State.freeBlock_banks (s : State) (ch : Nat) : (s.freeBlock ch).2.banks = s.banks := rfl
@[simp] theorem State.freeBool_fab (s : State) : s.freeBool.2.fab = s.fab := rfl
@[simp] theorem State.freeNat_fab (s : State) : s.freeNat.2.fab = s.fab := rfl
@[simp] theorem State.freeBlock_fab (s : State) (ch : Nat) : (s.freeBlock ch).2.fab = s.fab := rfl
@[simp] theorem State.freeBool_swap (s : State) : s.freeBool.2.swap = s.swap := rfl
@[simp] theorem State.freeNat_swap (s : State) : s.freeNat.2.swap = s.swap := rfl
@[simp] theorem State.freeBlock_swap (s : State) (ch : Nat) : (s.freeBlock ch).2.swap = s.swap := rfl
@[simp] theorem State.freeBool_mic (s : State) : s.freeBool.2.mic = s.mic := rfl
@[simp] theorem State.freeNat_mic (s : State) : s.freeNat.2.mic = s.mic := rfl
@[simp] theorem State.freeBlock_mic (s : State) (ch : Nat) : (s.freeBlock ch).2.mic = s.mic := rfl
@[simp] theorem State.freeBool_line (s : State) : s.freeBool.2.line = s.line := rfl
@[simp] theorem State.freeNat_line (s : State) : s.freeNat.2.line = s.line := rfl
@[simp] theorem State.freeBlock_line (s : State) (ch : Nat) : (s.freeBlock ch).2.line = s.line := rfl
@[simp] theorem State.freeBool_echo (s : State) : s.freeBool.2.echo = s.echo := rfl
@[simp] theorem State.freeNat_echo (s : State) : s.freeNat.2.echo = s.echo := rfl
@[simp] theorem State.freeBlock_echo (s : State) (ch : Nat) : (s.freeBlock ch).2.echo = s.echo := rfl
@[simp] theorem State.freeBool_tg (s : State) : s.freeBool.2.tg = s.tg := rfl
@[simp] theorem State.freeNat_tg (s : State) : s.freeNat.2.tg = s.tg := rfl
@[simp] theorem State.freeBlock_tg (s : State) (ch : Nat) : (s.freeBlock ch).2.tg = s.tg := rfl
@[simp] theorem State.freeBool_call (s : State) : s.freeBool.2.call = s.call := rfl
@[simp] theorem State.freeNat_call (s : State) : s.freeNat.2.call = s.call := rfl
@[simp] theorem State.freeBlock_call (s : State) (ch : Nat) : (s.freeBlock ch).2.call = s.call := rfl
@[simp] theorem State.freeBool_host (s : State) : s.freeBool.2.host = s.host := rfl
@[simp] theorem State.freeNat_host (s : State) : s.freeNat.2.host = s.host := rfl
@[simp] theorem State.freeBlock_host (s : State) (ch : Nat) : (s.freeBlock ch).2.host = s.host := rfl
@[simp] theorem State.freeBool_ring (s : State) : s.freeBool.2.ring = s.ring := rfl
@[simp] theorem State.freeNat_ring (s : State) : s.freeNat.2.ring = s.ring := rfl
@[simp] theorem State.freeBlock_ring (s : State) (ch : Nat) : (s.freeBlock ch).2.ring = s.ring := rfl
@[simp] theorem State.freeBool_net (s : State) : s.freeBool.2.net = s.net := rfl
@[simp] theorem State.freeNat_net (s : State) : s.freeNat.2.net = s.net := rfl
@[simp] theorem State.freeBlock_net (s : State) (ch : Nat) : (s.freeBlock ch).2.net = s.net := rfl
@[simp] theorem State.freeBool_isle (s : State) : s.freeBool.2.isle = s.isle := rfl
@[simp] theorem State.freeNat_isle (s : State) : s.freeNat.2.isle = s.isle := rfl
@[simp] theorem State.freeBlock_isle (s : State) (ch : Nat) : (s.freeBlock ch).2.isle = s.isle := rfl
@[simp] theorem State.freeBool_boot (s : State) : s.freeBool.2.boot = s.boot := rfl
@[simp] theorem State.freeNat_boot (s : State) : s.freeNat.2.boot = s.boot := rfl
@[simp] theorem State.freeBlock_boot (s : State) (ch : Nat) : (s.freeBlock ch).2.boot = s.boot := rfl
@[simp] theorem State.freeBool_journal (s : State) : s.freeBool.2.journal = s.journal := rfl
@[simp] theorem State.freeNat_journal (s : State) : s.freeNat.2.journal = s.journal := rfl
@[simp] theorem State.freeBlock_journal (s : State) (ch : Nat) : (s.freeBlock ch).2.journal = s.journal := rfl
@[simp] theorem State.freeBool_power (s : State) : s.freeBool.2.power = s.power := rfl
@[simp] theorem State.freeNat_power (s : State) : s.freeNat.2.power = s.power := rfl
@[simp] theorem State.freeBlock_power (s : State) (ch : Nat) : (s.freeBlock ch).2.power = s.power := rfl
@[simp] theorem State.freeBool_copy (s : State) : s.freeBool.2.copy = s.copy := rfl
@[simp] theorem State.freeNat_copy (s : State) : s.freeNat.2.copy = s.copy := rfl
@[simp] theorem State.freeBlock_copy (s : State) (ch : Nat) : (s.freeBlock ch).2.copy = s.copy := rfl
@[simp] theorem State.freeBool_gpio (s : State) : s.freeBool.2.gpio = s.gpio := rfl
@[simp] theorem State.freeNat_gpio (s : State) : s.freeNat.2.gpio = s.gpio := rfl
@[simp] theorem State.freeBlock_gpio (s : State) (ch : Nat) : (s.freeBlock ch).2.gpio = s.gpio := rfl
@[simp] theorem State.freeBool_clk (s : State) : s.freeBool.2.clk = s.clk := rfl
@[simp] theorem State.freeNat_clk (s : State) : s.freeNat.2.clk = s.clk := rfl
@[simp] theorem State.freeBlock_clk (s : State) (ch : Nat) : (s.freeBlock ch).2.clk = s.clk := rfl

end Sys2Proof.Machine
end

