-- ==== Sys2Proof/Laws/Only.lean ====
section
/-! SUPPORT. `Only`, the frame relation: it composes, and each update of one field keeps it. -/

namespace Sys2Proof.Machine

variable {fs gs : List Fld} {s t u : State} {f : Fld}

theorem Only.refl (fs : List Fld) (s : State) : Only fs s s := ⟨rfl, fun _ _ => rfl⟩

theorem Only.trans (h : Only fs s t) (k : Only fs t u) : Only fs s u := by
  refine ⟨?_, fun f hf => (k.2 f hf).trans (h.2 f hf)⟩
  rw [← h.1, ← k.1]

theorem Only.mono (h : Only fs s t) (hs : ∀ f ∈ fs, f ∈ gs) : Only gs s t :=
  ⟨h.1, fun f hf => h.2 f (fun hk => hf (by
    obtain ⟨_, hg, e⟩ := List.mem_map.mp hk
    exact List.mem_map.mpr ⟨_, hs _ hg, e⟩))⟩

theorem Only.set (h : Only fs s t) (hf : f ∈ fs) (v : Nat) : Only fs s (t.set f v) :=
  h.trans ⟨rfl, fun _ hg => State.get_set_other _ _ _ _ (fun e => hg (e ▸ List.mem_map_of_mem hf))⟩

theorem Only.setB (h : Only fs s t) (hf : f ∈ fs) (b : Bool) : Only fs s (t.setB f b) := h.set hf _

theorem Only.setBit (h : Only fs s t) (hf : f ∈ fs) (n : Nat) (b : Bool) : Only fs s (t.setBit f n b) := h.set hf _

theorem Only.setI (h : Only fs s t) (hf : f ∈ fs) (i : Int) : Only fs s (t.setI f i) := h.set hf _

theorem Only.inc (h : Only fs s t) (hf : f ∈ fs) : Only fs s (t.inc f) := h.set hf _

theorem Only.incSat (h : Only fs s t) (hf : f ∈ fs) : Only fs s (t.incSat f) := by
  unfold State.incSat
  split
  · exact h.set hf _
  · exact h

theorem Only.foldl {α : Type} {g : State → α → State} {l : List α} (h0 : Only fs s t)
    (h : ∀ x, ∀ a ∈ l, Only fs x (g x a)) : Only fs s (l.foldl g t) := by
  induction l generalizing t with
  | nil => exact h0
  | cons a l ih =>
    exact ih (h0.trans (h t a List.mem_cons_self)) (fun x b hb => h x b (List.mem_cons_of_mem _ hb))

end Sys2Proof.Machine
end

