-- ==== Sys2Proof/Laws/Power.lean ====
section
/-! SUPPORT. What follows a change of inputs, roles, requests, levels or grants (`State.syncPower`) writes: the fields of
`followFields` and no other register field. -/

namespace Sys2Proof.Machine

section

variable {fs gs : List Fld} {s t u : State} {f : Fld}

theorem Settles.refl (fs : List Fld) (s : State) : Settles fs s s := ⟨rfl, fun _ _ => rfl⟩

theorem Settles.trans (h : Settles fs s t) (k : Settles fs t u) : Settles fs s u := by
  refine ⟨?_, fun f hf => (k.2 f hf).trans (h.2 f hf)⟩
  rw [← h.1, ← k.1]

theorem Settles.mono (h : Settles fs s t) (hs : ∀ f ∈ fs, f ∈ gs) : Settles gs s t :=
  ⟨h.1, fun f hf => h.2 f (fun hk => hf (by
    obtain ⟨g, hg, e⟩ := List.mem_map.mp hk
    exact List.mem_map.mpr ⟨g, hs g hg, e⟩))⟩

theorem Only.settles (h : Only fs s t) : Settles fs s t := by
  refine ⟨?_, h.2⟩
  rw [← h.1]

theorem Settles.set (h : Settles fs s t) (hf : f ∈ fs) (v : Nat) : Settles fs s (t.set f v) :=
  h.trans (Only.settles ((Only.refl fs t).set hf v))

theorem Settles.setB (h : Settles fs s t) (hf : f ∈ fs) (b : Bool) : Settles fs s (t.setB f b) := h.set hf _

theorem Settles.setBit (h : Settles fs s t) (hf : f ∈ fs) (n : Nat) (b : Bool) : Settles fs s (t.setBit f n b) := h.set hf _

theorem Settles.inc (h : Settles fs s t) (hf : f ∈ fs) : Settles fs s (t.inc f) := h.set hf _

theorem Settles.line (h : Settles fs s t) (l : LineState)
    (e : { l with bal := t.line.bal, tapsClear := t.line.tapsClear, fwSwitch := t.line.fwSwitch, dacRamp := t.line.dacRamp
                  toneRamp := t.line.toneRamp, dacLine := t.line.dacLine, pins := t.line.pins } = t.line) :
    Settles fs s { t with line := l } := h.trans ⟨by simp only [e], fun _ _ => rfl⟩

theorem Settles.power (h : Settles fs s t) (l : PowerState)
    (e : { l with upQueue := t.power.upQueue, refusedAt := t.power.refusedAt, sourcingAt := t.power.sourcingAt
                  pse := t.power.pse } = t.power) :
    Settles fs s { t with power := l } := h.trans ⟨by simp only [e], fun _ _ => rfl⟩

theorem Settles.updBal (h : Settles fs s t) (c : Nat) (g : Bal → Bal) : Settles fs s (t.updBal c g) := h.line _ rfl

theorem Settles.putDet (h : Settles fs s t) (d : Det) : Settles fs s (t.putDet d) := h.trans ⟨rfl, fun _ _ => rfl⟩

theorem Settles.updPse (h : Settles fs s t) (n : Nat) (g : PsePort → PsePort) : Settles fs s (t.updPse n g) := h.power _ rfl

theorem Settles.foldl {α : Type} {g : State → α → State} {l : List α} (h0 : Settles fs s t)
    (h : ∀ x, ∀ a ∈ l, Settles fs x (g x a)) : Settles fs s (l.foldl g t) := by
  induction l generalizing t with
  | nil => exact h0
  | cons a l ih =>
    exact ih (h0.trans (h t a (List.mem_cons_self))) (fun x b hb => h x b (List.mem_cons_of_mem _ hb))

/-- A record of the event log writes only the log and its fields. -/
theorem State.addLog_settles (s : State) (a b c d e f : Nat) : Settles logFields s (s.addLog a b c d e f) := by
  have base : Settles logFields s ((s.inc F.HOST_EVT_COUNT_COUNT).setB F.HOST_IRQ_EVENT true) :=
    ((Settles.refl _ _).inc (by simp [logFields])).setB (by simp [logFields]) _
  unfold State.addLog
  extract_lets n page r s1 s2 s3 s4
  have h3 : Settles logFields s s3 := base.trans ⟨rfl, fun _ _ => rfl⟩
  split
  · have h4 : Settles logFields s s4 := h3.trans ⟨rfl, fun _ _ => rfl⟩
    exact (h4.inc (by simp [logFields])).setB (by simp [logFields]) _
  · exact h3

/-- A completed result writes its cell's fields and the producer's data fields. -/
theorem State.writeCell_only (s : State) (a : Nat) (err : Bool) (data : List (Fld × Nat)) :
    Only (cellFields a ++ data.map (·.1)) s (s.writeCell a err data) := by
  unfold State.writeCell
  extract_lets lost s1 s2 s3 s4 s5
  have h5 : Only (cellFields a ++ data.map (·.1)) s s5 :=
    (((((Only.refl _ _).set (by simp [cellFields]) _).setB (by simp [cellFields]) _).setB (by simp [cellFields]) _).setB
      (by simp [cellFields]) _).setB (by simp [cellFields]) _
  exact h5.foldl (fun x p hp => (Only.refl _ x).set
    (List.mem_append_right _ (List.mem_map_of_mem hp)) _)

end

theorem mem_follow_channel {c : Nat} (hc : c < 4) {f : Fld} (hf : f ∈ channelFields c ++ balanceFields c ++ callFields c) :
    f ∈ followFields := by
  unfold followFields
  exact List.mem_append_right _ (List.mem_flatMap.mpr ⟨c, by simpa using hc, hf⟩)

theorem mem_follow_log {f : Fld} (hf : f ∈ logFields) : f ∈ followFields := by
  unfold followFields
  simp only [List.mem_append]
  exact .inl (.inl (.inl (.inl (.inl (.inl (.inl (.inl (.inr hf))))))))

theorem mem_follow_outState {o : Nat} (ho : o < 4) : F.PWR_OUT_STATE o ∈ followFields := by
  unfold followFields
  simp only [List.mem_append]
  exact .inl (.inl (.inl (.inl (.inl (.inl (.inl (.inr (List.mem_map_of_mem (by simpa using ho)))))))))

theorem mem_follow_outReq {o : Nat} (ho : o < 4) : F.PWR_OUT_REQ o ∈ followFields := by
  unfold followFields
  simp only [List.mem_append]
  exact .inl (.inl (.inl (.inl (.inl (.inl (.inr (List.mem_map_of_mem (by simpa using ho))))))))

theorem mem_follow_line {p : Nat} (hp : p < 2) : F.LINE_STATUS_STATE p ∈ followFields ∧
    F.LINE_STATUS_HOT_LIMIT p ∈ followFields ∧ F.LINE_STATUS_HEADROOM p ∈ followFields ∧
    F.LINE_STATUS_IN_LIMIT p ∈ followFields := by
  have h : p ∈ List.range 2 := by simpa using hp
  unfold followFields
  simp only [List.mem_append]
  exact ⟨.inl (.inl (.inl (.inl (.inl (.inr (List.mem_map_of_mem h)))))),
    .inl (.inl (.inl (.inl (.inr (List.mem_map_of_mem h))))),
    .inl (.inl (.inl (.inr (List.mem_map_of_mem h)))), .inl (.inl (.inr (List.mem_map_of_mem h)))⟩

theorem mem_follow_pse {n : Nat} (hn : n < 2) : F.PSE_STATUS_STATE n ∈ followFields := by
  have h : n ∈ List.range 2 := by simpa using hn
  unfold followFields
  simp only [List.mem_append]
  exact .inl (.inr (List.mem_map_of_mem h))

theorem mem_follow_head {f : Fld} (hf : f ∈ [F.PWR_IN_STATUS_ENABLED, F.PWR_IN_STATUS_ACTIVE, F.PWR_IRQ_INPUT,
    F.PWR_PD_MPS, F.PWR_PD_SIG_INVALID, F.PWR_DOM_ON_ON, F.PWR_LINE_ON_ON, F.PWR_CNT_SHEDS, F.PWR_IRQ_SHED,
    F.PWR_BUDGET_AVAIL, F.PWR_RESERVED_RESERVED, F.PSE_BUDGET_EFFECTIVE, F.CONV_SPK_RUNNING, F.CALL_IRQ_END]) :
    f ∈ followFields := by
  unfold followFields
  simp only [List.mem_append]
  exact .inl (.inl (.inl (.inl (.inl (.inl (.inl (.inl (.inl hf))))))))

/-! ### One lemma for each part of `State.syncPower` -/

section

variable (s : State)

theorem State.requestDomain_get (d : Nat) (f : Fld) : (s.requestDomain d).get f = s.get f := by
  unfold State.requestDomain; split <;> rfl

theorem State.requestDomain_settles (d : Nat) : Settles followFields s (s.requestDomain d) :=
  ⟨by unfold State.requestDomain; split <;> rfl, fun f _ => s.requestDomain_get d f⟩

theorem State.dropDomain_settles (d : Nat) : Settles followFields s (s.dropDomain d) := by
  unfold State.dropDomain
  split
  · exact (Settles.refl _ s).setBit (f := F.PWR_DOM_ON_ON) (mem_follow_head (by simp)) d false
  · exact (Settles.refl _ s).setBit (f := F.PWR_LINE_ON_ON) (mem_follow_head (by simp)) (d - 32) false

theorem State.needDomain_settles (d : Nat) (b : Bool) : Settles followFields s (s.needDomain d b) := by
  unfold State.needDomain; split
  · exact s.requestDomain_settles d
  · exact s.dropDomain_settles d

theorem State.syncInputs_settles : Settles followFields s s.syncInputs := by
  unfold State.syncInputs
  extract_lets s1 a s2 s3 s4
  have h1 : Settles followFields s s1 := (Settles.refl _ s).set (mem_follow_head (by simp)) _
  have h2 : Settles followFields s s2 := by
    unfold s2; split
    · exact h1
    · exact (h1.set (mem_follow_head (by simp)) _).setB (mem_follow_head (by simp)) _
  have h4 : Settles followFields s s4 :=
    (h2.setB (mem_follow_head (by simp)) _).setB (mem_follow_head (by simp)) _
  exact h4.trans (s4.needDomain_settles _ _)

theorem State.setLine_settles {p : Nat} (hp : p < 2) (v : Nat) : Settles followFields s (s.setLine p v) :=
  (Settles.refl _ s).set (mem_follow_line hp).1 v

theorem State.syncLine_settles {p : Nat} (hp : p < 2) : Settles followFields s (s.syncLine p) := by
  unfold State.syncLine
  extract_lets st
  repeat' split
  all_goals first | exact Settles.refl _ s | exact s.setLine_settles hp _

theorem State.setPse_settles {n : Nat} (hn : n < 2) (v : Nat) : Settles followFields s (s.setPse n v) :=
  (Settles.refl _ s).set (mem_follow_pse hn) v

theorem State.syncPse_settles {n : Nat} (hn : n < 2) : Settles followFields s (s.syncPse n) := by
  unfold State.syncPse
  extract_lets st
  have one : Settles followFields s (s.setPse n 1) := s.setPse_settles hn 1
  repeat' split
  all_goals first | exact Settles.refl _ s | exact one | exact s.setPse_settles hn _

theorem State.releaseGrants_settles : Settles followFields s s.releaseGrants := by
  unfold State.releaseGrants
  refine (Settles.refl _ s).foldl fun x o ho => ?_
  split
  · exact Settles.refl _ x
  · exact (Settles.refl _ x).set (mem_follow_outState (by simpa using ho)) _

/-- A fold that keeps one of its elements or what it held answers one of them. -/
theorem foldl_keeps_one {f : Option Nat → Nat → Option Nat} (hf : ∀ m a r, f m a = some r → r = a ∨ m = some r) :
    ∀ (l : List Nat) (m : Option Nat) (r : Nat), l.foldl f m = some r → r ∈ l ∨ m = some r
  | [], _, _, h => .inr h
  | a :: l, m, r, h => by
    rcases foldl_keeps_one hf l (f m a) r h with h | h
    · exact .inl (List.mem_cons_of_mem _ h)
    · rcases hf m a r h with rfl | h
      · exact .inl List.mem_cons_self
      · exact .inr h

theorem State.pseFit_settles (k : Nat) : Settles followFields s (s.pseFit k) := by
  induction k generalizing s with
  | zero => exact Settles.refl _ s
  | succ k ih =>
    unfold State.pseFit
    split
    · exact Settles.refl _ s
    · extract_lets on
      split
      · exact Settles.refl _ s
      · rename_i n hn
        have hlt : n < 2 := by
          refine (foldl_keeps_one (fun m a r h => ?_) on none n hn).elim
            (fun h => by simpa using (List.mem_filter.mp h).1) (by simp)
          cases m with
          | none => simpa using h.symm
          | some q => simp only at h; split at h <;> simp_all
        exact ((s.setPse_settles hlt 9).set (mem_follow_outState (by omega)) 0).trans (ih _)

theorem State.settlePower_settles : Settles followFields s s.settlePower := by
  unfold State.settlePower
  extract_lets s1 s2 s3
  have h1 : Settles followFields s s1 := s.releaseGrants_settles
  have h2 : Settles followFields s s2 :=
    (h1.trans (s1.syncLine_settles (by omega))).trans (State.syncLine_settles _ (by omega))
  have h3 : Settles followFields s s3 :=
    (h2.trans (s2.syncPse_settles (by omega))).trans (State.syncPse_settles _ (by omega))
  exact h3.trans (s3.pseFit_settles 2)

/-- The output shed first is one of the four. -/
theorem State.firstShed_lt {o : Nat} (h : s.firstShed = some o) : o < 4 := by
  refine (foldl_keeps_one (fun m a r h => ?_) _ none o h).elim
    (fun h => by simpa using (List.mem_filter.mp h).1) (by simp)
  cases m with
  | none => simpa using h.symm
  | some q => simp only at h; split at h <;> simp_all

theorem State.shedOutput_settles {o : Nat} (ho : o < 4) {c : Fld} (hc : c ∈ followFields) :
    Settles followFields s (s.shedOutput o c) := by
  unfold State.shedOutput
  extract_lets s1
  have h1 : Settles followFields s s1 := (Settles.refl _ s).set (mem_follow_outState ho) 3
  exact ((h1.inc hc).setB (mem_follow_head (by simp)) _).trans
    ((State.addLog_settles _ _ _ _ _ _ _).mono (fun _ h => mem_follow_log h))

theorem State.shedLoop_settles (k : Nat) : Settles followFields s (s.shedLoop k) := by
  induction k generalizing s with
  | zero => exact Settles.refl _ s
  | succ k ih =>
    unfold State.shedLoop
    split
    · exact Settles.refl _ s
    · split
      · exact Settles.refl _ s
      · rename_i o ho
        exact (s.shedOutput_settles (s.firstShed_lt ho) (mem_follow_head (by simp))).trans (ih _)

theorem State.showLine_settles {p : Nat} (hp : p < 2) : Settles followFields s (s.showLine p) := by
  unfold State.showLine
  extract_lets i need s1 s2
  exact (((Settles.refl _ s).setB (mem_follow_line hp).2.1 _).setB (mem_follow_line hp).2.2.1 _).setB
    (mem_follow_line hp).2.2.2 _

theorem State.balError_settles {c : Nat} (hc : c < 4) (code : Nat) : Settles followFields s (s.balError c code) := by
  unfold State.balError
  extract_lets r
  exact Settles.trans (t := r.2) ⟨rfl, fun _ _ => rfl⟩ ((State.writeCell_only _ _ _ _).settles.mono fun f hf =>
    mem_follow_channel hc (List.mem_append_left _ (List.mem_append_right _ hf)))

theorem State.balAbort_settles {c : Nat} (hc : c < 4) (code : Nat) : Settles followFields s (s.balAbort c code) := by
  have m : ∀ f, f ∈ channelFields c → f ∈ followFields := fun f hf =>
    mem_follow_channel hc (List.mem_append_left _ (List.mem_append_left _ hf))
  have trims : Settles followFields s
      ((s.set (F.HYB_CH_TRIM_R_TRIM c) (s.bal c).savedR).set (F.HYB_CH_TRIM_C_TRIM c) (s.bal c).savedC) :=
    ((Settles.refl _ s).set (m _ (by simp [channelFields])) _).set (m _ (by simp [channelFields])) _
  unfold State.balAbort
  extract_lets b s1 l1 s2 s3
  have h2 : Settles followFields s s2 := by
    unfold s2; split
    · exact Settles.line (t := s1) trims _ rfl
    · exact Settles.refl _ s
  have h3 : Settles followFields s s3 :=
    (h2.set (m (F.HYB_BAL_STATUS_STEP c) (by simp [channelFields])) 0).setB
      (m (F.HYB_BAL_STATUS_BUSY c) (by simp [channelFields])) false
  exact (h3.trans (s3.balError_settles hc code)).updBal c _

theorem State.openSwitch_settles {c : Nat} (hc : c < 4) : Settles followFields s (s.openSwitch c) := by
  unfold State.openSwitch
  extract_lets s1 s2
  have m : ∀ f, f ∈ channelFields c → f ∈ followFields := fun f hf =>
    mem_follow_channel hc (List.mem_append_left _ (List.mem_append_left _ hf))
  have h1 : Settles followFields s s1 :=
    ((Settles.refl _ s).setB (m _ (by simp [channelFields])) _).setB (m _ (by simp [channelFields])) _
  have h2 : Settles followFields s s2 := Settles.line (t := s1) h1 _ rfl
  split
  · exact h2.trans (s2.balAbort_settles hc 3)
  · exact h2

theorem State.syncSwitches_settles : Settles followFields s s.syncSwitches := by
  unfold State.syncSwitches
  extract_lets s1
  have h1 : Settles followFields s s1 := (Settles.refl _ s).foldl fun x c hc => by
    split
    · exact x.openSwitch_settles (by simpa using hc)
    · exact Settles.refl _ x
  exact h1.foldl fun x n _ => by split <;> exact Settles.refl _ x

theorem State.callResult_settles {d : Det} (hc : d.input < 4) (event : Nat) :
    Settles followFields s (s.callResult d event) := by
  unfold State.callResult
  split
  · exact Settles.refl _ s
  extract_lets a dur group
  exact (State.writeCell_only _ _ _ _).settles.mono fun f hf => mem_follow_channel hc (List.mem_append_right _ hf)

/-- A detector is its own input's. -/
theorem State.det_input (input : Nat) (dc : Bool) : (s.det input dc).input = input := by
  unfold State.det
  cases h : s.call.dets.find? (fun d => decide (d.input = input ∧ d.dc = dc)) with
  | none => rfl
  | some d => have := List.find?_some h; simp at this; exact this.1

theorem State.endCall_settles {c : Nat} (hc : c < 4) (dc : Bool) : Settles followFields s (s.endCall c dc) := by
  have m : ∀ f, f ∈ channelFields c → f ∈ followFields := fun f hf =>
    mem_follow_channel hc (List.mem_append_left _ (List.mem_append_left _ hf))
  unfold State.endCall
  extract_lets d s1 s2 s3
  split
  · exact Settles.refl _ s
  · have h1 : Settles followFields s s1 :=
      (s.callResult_settles (d := d) (by rw [s.det_input]; exact hc) 1).putDet _
    have h2 : Settles followFields s s2 := h1.setB (f := F.CALL_IRQ_END) (mem_follow_head (by simp)) true
    have h3 : Settles followFields s s3 := by
      unfold s3; split
      · exact h2.setB (f := F.CALL_CH_STATUS_STUCK c) (m _ (by simp [channelFields])) false
      · exact h2
    unfold State.showCall
    split
    · exact h3
    · exact (h3.setB (f := F.CALL_CH_STATUS_TONE_CALL c) (m _ (by simp [channelFields])) _).setB
        (f := F.CALL_CH_STATUS_DC_CALL c) (m _ (by simp [channelFields])) _

theorem State.syncSuspend_settles : Settles followFields s s.syncSuspend := by
  unfold State.syncSuspend
  refine (Settles.refl _ s).foldl fun x c hc => ?_
  have hc : c < 4 := by simpa using hc
  extract_lets sus s1
  have h1 : Settles followFields x s1 := by
    unfold s1; split
    · exact (x.endCall_settles hc false).trans (State.endCall_settles _ hc true)
    · exact Settles.refl _ x
  exact h1.setB (mem_follow_channel hc (by simp [channelFields])) _

theorem State.syncSpeaker_settles : Settles followFields s s.syncSpeaker := by
  unfold State.syncSpeaker
  extract_lets s1 run s2
  have h1 : Settles followFields s s1 := s.needDomain_settles _ _
  have h2 : Settles followFields s s2 := by
    unfold s2; split
    · exact h1
    · exact Settles.line (t := s1) h1 _ rfl
  exact h2.setB (mem_follow_head (by simp)) _

/-- What follows a change of inputs, roles, requests, levels or grants writes no field outside `followFields`. -/
theorem State.syncPower_settles : Settles followFields s s.syncPower := by
  unfold State.syncPower
  extract_lets s1 s2 s3 s4 s5 s6 s7 s8 s9 s10
  have h2 : Settles followFields s s2 := s.syncInputs_settles.foldl fun x n _ => x.needDomain_settles _ _
  have h3 : Settles followFields s s3 := h2.foldl fun x n _ => x.needDomain_settles _ _
  have h4 : Settles followFields s s4 := h3.trans s3.settlePower_settles
  have h5 : Settles followFields s s5 := (h4.trans (s4.shedLoop_settles 4)).trans (State.settlePower_settles _)
  have h6 : Settles followFields s s6 := h5.trans s5.syncInputs_settles
  have h7 : Settles followFields s s7 := (h6.trans (s6.showLine_settles (by omega))).trans (State.showLine_settles _ (by omega))
  have h8 : Settles followFields s s8 := h7.foldl fun x o ho => (Settles.refl _ x).set (mem_follow_outReq (by simpa using ho)) _
  have h9 : Settles followFields s s9 := (h8.set (mem_follow_head (by simp)) _).set (mem_follow_head (by simp)) _
  have h10 : Settles followFields s s10 := h9.set (mem_follow_head (by simp)) _
  exact ((h10.trans s10.syncSwitches_settles).trans (State.syncSuspend_settles _)).trans (State.syncSpeaker_settles _)

end

end Sys2Proof.Machine
end

