-- ==== Sys2Proof/Laws/Fields.lean ====
section
/-! SUPPORT. Bits of bit-vector fields, and the outcome `State.done` of a command whose effect leaves the queue. -/

namespace Sys2Proof.Machine

variable {fs gs : List Fld} {s t u x : State}

/-! ### Bits -/

/-- The bits of a number below and from bit `n`. -/
theorem testBit_split_at (v n k : Nat) : v.testBit k = if k < n then (v % 2 ^ n).testBit k else (v / 2 ^ n).testBit (k - n) := by
  conv_lhs => rw [← Nat.div_add_mod v (2 ^ n)]
  exact Nat.testBit_two_pow_mul_add _ (Nat.mod_lt _ (by positivity)) _

/-- Halves that agree have every bit but the lowest alike. -/
theorem testBit_top {q r : Nat} (h : q / 2 = r / 2) (j : Nat) : q.testBit (j + 1) = r.testBit (j + 1) := by
  simp [Nat.testBit_add_one, h]

/-- `putBit` sets the one bit and leaves the others. -/
theorem testBit_putBit (v n k : Nat) (b : Bool) : (putBit v n b).testBit k = if k = n then b else v.testBit k := by
  have hp : 0 < 2 ^ n := by positivity
  have h0 : v.testBit n = decide (v / 2 ^ n % 2 = 1) := by
    rw [testBit_split_at v n n]; simp [Nat.testBit_zero]
  have key : ∀ w : Nat, w % 2 ^ n = v % 2 ^ n → w / 2 ^ n / 2 = v / 2 ^ n / 2 → decide (w / 2 ^ n % 2 = 1) = b →
      w.testBit k = if k = n then b else v.testBit k := by
    intro w h1 h2 h3
    rw [testBit_split_at w n k, testBit_split_at v n k, h1]
    rcases Nat.lt_trichotomy k n with h | h | h
    · simp [h, Nat.ne_of_lt h]
    · subst h; simp [Nat.testBit_zero, h3]
    · obtain ⟨j, e⟩ : ∃ j, k - n = j + 1 := ⟨k - n - 1, by omega⟩
      rw [e, testBit_top h2]
      simp [Nat.ne_of_gt h]
  have odd : ∀ q : Nat, q % 2 = 1 → (q - 1) / 2 = q / 2 := by omega
  have odd' : ∀ q : Nat, q % 2 = 1 → (q - 1) % 2 = 0 := by omega
  unfold putBit
  rw [h0]
  by_cases hq : v / 2 ^ n % 2 = 1
  · cases b
    · have hle : 2 ^ n ≤ v := by
        by_contra hlt
        rw [Nat.div_eq_of_lt (by omega)] at hq; omega
      have e := Nat.div_add_mod v (2 ^ n)
      have e1 : (v - 2 ^ n) / 2 ^ n = v / 2 ^ n - 1 := Nat.sub_mul_div v (2 ^ n) 1 ▸ by simp
      have e2 : (v - 2 ^ n) % 2 ^ n = v % 2 ^ n := (Nat.mod_eq_sub_mod hle).symm
      simpa [hq] using key (v - 2 ^ n) e2 (by rw [e1]; exact odd _ hq) (by rw [e1]; simpa using odd' _ hq)
    · simpa [hq] using key v rfl rfl (by simpa using hq)
  · cases b
    · simpa [hq] using key v rfl rfl (by simpa using hq)
    · simpa [hq] using key (v + 2 ^ n) (by simp) (by rw [Nat.add_div_right _ hp]; omega)
        (by rw [Nat.add_div_right _ hp]; simp; omega)

theorem putBit_lt {v n w : Nat} (b : Bool) (hv : v < 2 ^ w) (hn : n < w) : putBit v n b < 2 ^ w := by
  refine Nat.lt_pow_two_of_testBit _ fun i hi => ?_
  rw [testBit_putBit, if_neg (by omega), Nat.testBit_lt_two_pow (lt_of_lt_of_le hv (Nat.pow_le_pow_right (by omega) hi))]

/-- Setting bit `n` of a field that has one sets that bit alone. -/
theorem State.bit_setBit (s : State) (f : Fld) (n k : Nat) (b : Bool) (hn : n < f.width) :
    (s.setBit f n b).bit f k = if k = n then b else s.bit f k := by
  unfold State.bit State.setBit
  rw [State.get_set_self, Nat.mod_eq_of_lt (putBit_lt b (State.get_lt s f) hn), testBit_putBit]

/-! ### Outcomes -/

theorem Only.pending (h : Only fs s t) : t.pending = s.pending := by
  have := congrArg State.pending h.1
  exact this

theorem Settles.pending (h : Settles fs s t) : t.pending = s.pending := by
  have := congrArg State.pending h.1
  exact this

theorem Settles.get (h : Settles fs s t) {f : Fld} (hf : f.key ∉ fs.map Fld.key) : t.get f = s.get f := h.2 f hf

theorem Settles.getB (h : Settles fs s t) {f : Fld} (hf : f.key ∉ fs.map Fld.key) : t.getB f = s.getB f := by
  simp [State.getB, h.2 f hf]

/-- Whatever follows from power is added to a frame that holds its fields. -/
theorem Settles.sync (h : Settles fs s t) (hs : ∀ f ∈ followFields, f ∈ fs) : Settles fs s t.syncPower :=
  h.trans ((State.syncPower_settles t).mono hs)

/-- A command's effect that leaves the queue is its next state. -/
theorem State.done_next (h : x.pending = s.pending) : s.done x = .next x := by
  unfold State.done
  rw [← h]

/-- A command that ends in `State.done` answers a next state, with what holds of its effect. -/
theorem State.finish {o : Host.Outcome State Fault Refusal} {Q : State → Prop} (he : o = s.done x)
    (hp : x.pending = s.pending) (hq : Q x) : ∃ t, o = .next t ∧ Q t :=
  ⟨x, he.trans (State.done_next hp), hq⟩

end Sys2Proof.Machine
end

