-- ==== Sys2Proof/Laws/Writes.lean ====
section
/-! SUPPORT. A write that is alone in its register cycle: every unit of it stands, and what it leaves. -/

namespace Sys2Proof.Machine

variable {s : State} {m : Master} {a : Nat} {r : RegRow}

theorem State.fieldUnits_of (s : State) (i : Nat) (p : PWrite) (rein : Option Nat) (f : FieldRow) :
    ∀ u ∈ s.fieldUnits i p rein f, u.master = p.master.code ∧ u.rein = rein := by
  intro u hu
  unfold State.fieldUnits at hu
  extract_lets v cur u0 bits at hu
  split at hu
  · obtain ⟨b, _, rfl⟩ := List.mem_map.mp hu; exact ⟨rfl, rfl⟩
  · split at hu
    · simp at hu
    all_goals (repeat' split at hu)
    all_goals first
      | (simp at hu; done)
      | (obtain ⟨b, _, rfl⟩ := List.mem_map.mp hu; exact ⟨rfl, rfl⟩)
      | (simp only [List.mem_singleton] at hu; subst hu; exact ⟨rfl, rfl⟩)

theorem State.verdict_sole {us : List UWrite} {u : UWrite} {c : Nat} (hu : u.master = c) (hus : ∀ v ∈ us, v.master = c)
    (hr : match u.rein with
      | none => True
      | some g => s.get (F.REINS_HOLDER_HOLDER g) = 15 ∨ s.get (F.REINS_HOLDER_HOLDER g) = c) :
    s.verdict us u = .stands := by
  have hb : s.blocked u = false := by
    unfold State.blocked State.holderOf
    cases h : u.rein with
    | none => simp
    | some g => simp only [h] at hr; rcases hr with e | e <;> simp [e, hu]
  have hf : us.filter (fun v => u.contra v && !s.blocked v) = [] := by
    rw [List.filter_eq_nil_iff]
    intro v hv
    simp [UWrite.contra, hus v hv, hu]
  unfold State.verdict State.beats
  rw [hf]
  simp [hb]

theorem mem_lastStands {u : UWrite} : ∀ {l : List UWrite}, u ∈ lastStands l → u ∈ l
  | [], h => by simp [lastStands] at h
  | x :: t, h => by
    unfold lastStands at h
    split at h
    · exact List.mem_cons_of_mem _ (mem_lastStands h)
    · rcases List.mem_cons.mp h with e | e
      · exact e ▸ List.mem_cons_self
      · exact List.mem_cons_of_mem _ (mem_lastStands e)

/-- The bits of a sole write that stand. -/
def soleMask (us : List UWrite) : Nat :=
  (us.filter (fun u => (lastStands us).contains u)).foldl (fun n u => Nat.lor n u.wordMask) 0

theorem foldl_if_all {α : Type} {q : α → Prop} [DecidablePred q] (g : Nat → α → Nat) :
    ∀ (l : List α) (n : Nat), (∀ u ∈ l, q u) → l.foldl (fun n u => if q u then g n u else n) n = l.foldl g n
  | [], _, _ => rfl
  | u :: t, n, h => by
    simp only [List.foldl_cons, if_pos (h u List.mem_cons_self)]
    exact foldl_if_all g t _ (fun v hv => h v (List.mem_cons_of_mem _ hv))

/-- What a sole write that is prepared leaves. -/
theorem State.carry_sole {x : Prepared} {us : List UWrite} (hrow : x.row = some r) (ha : x.p.addr ≠ 0x30)
    (hv : ∀ u ∈ x.units, s.verdict us u = .stands) :
    (s.carry s us x).1 =
      (if (x.units.filter (fun u => us.contains u)).foldl (fun n u => Nat.lor n u.wordMask) 0 ≠ 0 ∨ x.p.addr = 0x1C ∨
          s.streamErr x.p.addr x.p.val r ∨ s.sidetoneErr x.p.master x.p.addr x.p.val x.p.mask r then
        ((s.logRefusals x.p r x.admits).applyWrite x.p.master x.p.addr x.p.val
          ((x.units.filter (fun u => us.contains u)).foldl (fun n u => Nat.lor n u.wordMask) 0) r).1
      else s.logRefusals x.p r x.admits) := by
  have hmine : ∀ u ∈ x.units.filter (fun u => us.contains u), s.verdict us u = .stands :=
    fun u hu => hv u (List.mem_of_mem_filter hu)
  unfold State.carry
  rw [hrow]
  simp only [if_neg ha, foldl_if_all _ _ _ hmine]
  rw [List.filterMap_eq_nil_iff.mpr (fun u hu => by rw [hmine u hu])]
  split <;> rfl

theorem State.prepare_of (h : s.reach m a false = .reg r) (w : Nat) (hb : s.bar ⟨m, a, w, cycleMask a, .direct⟩ r = none) :
    (s.prepare 0 ⟨m, a, w, cycleMask a, .direct⟩).row = some r ∧ (s.prepare 0 ⟨m, a, w, cycleMask a, .direct⟩).p = ⟨m, a, w, cycleMask a, .direct⟩ ∧
    ∀ u ∈ (s.prepare 0 ⟨m, a, w, cycleMask a, .direct⟩).units, u.master = m.code ∧ u.rein = r.rein := by
  unfold State.prepare
  simp only [viaCopy]
  rw [h]
  dsimp only
  rw [hb]
  refine ⟨rfl, rfl, fun u hu => ?_⟩
  simp only [List.mem_flatMap] at hu
  obtain ⟨f, _, hf⟩ := hu
  split at hf
  · exact s.fieldUnits_of 0 _ r.rein f.1 u hf
  · simp at hf

/-- A sole write to a register none of whose written fields waits for the stride boundary. -/
theorem State.write_sole (h : Writable s m a r) (w : Word) (ha : a ≠ 0x30)
    (hq : s.waits ⟨m, a, w.toNat, cycleMask a, .direct⟩ = false) {x : Prepared}
    (hx : x = s.prepare 0 ⟨m, a, w.toNat, cycleMask a, .direct⟩) :
    s.write m a w = (if soleMask x.units ≠ 0 ∨ a = 0x1C ∨ s.streamErr a w.toNat r ∨
        s.sidetoneErr m a w.toNat (cycleMask a) r then
      ((s.logRefusals ⟨m, a, w.toNat, cycleMask a, .direct⟩ r x.admits).applyWrite m a w.toNat (soleMask x.units) r).1
      else s.logRefusals ⟨m, a, w.toNat, cycleMask a, .direct⟩ r x.admits) := by
  obtain ⟨he, hr, hb, hre⟩ := h
  obtain ⟨h1, h2, h3⟩ := State.prepare_of hr w.toNat hb
  rw [← hx] at h1 h2 h3
  have hv : ∀ u ∈ x.units, s.verdict (lastStands x.units) u = .stands := by
    intro u hu
    refine State.verdict_sole (h3 u hu).1 (fun v hv => (h3 v (mem_lastStands hv)).1) ?_
    rw [(h3 u hu).2]
    exact hre
  have hacc : s.write m a w = (s.carry s (lastStands x.units) x).1 := by
    unfold State.write State.accept
    rw [he]
    simp only [List.filter_nil, List.map_nil, Bool.not_true, Bool.false_eq_true, if_false]
    have e1 : ([(⟨m, a, w.toNat, cycleMask a, .direct⟩ : PWrite)].filter s.waits) = [] := by simp [hq]
    simp only [e1, List.map_nil, List.append_nil]
    unfold State.decideWrites
    simp [List.range_succ, hx]
  rw [hacc, State.carry_sole h1 (by rw [h2]; exact ha) hv, h2]
  rfl

/-- A register that an access reaches is the row of its address. -/
theorem State.reach_row {v : Bool} (h : s.reach m a v = .reg r) : regRow a = some r := by
  unfold State.reach at h
  repeat' split at h
  all_goals simp_all

theorem Writable.row (h : Writable s m a r) : regRow a = some r := State.reach_row h.2.1

/-- With no field of its row that waits for the boundary, no part of a write waits. -/
theorem Writable.waits_none (h : Writable s m a r) (hs : r.fields.any (·.stride) = false) (w c : Nat) :
    s.waits ⟨m, a, w, c, .direct⟩ = false := by
  unfold State.waits
  rw [show viaCopy WSrc.direct = false from rfl, h.2.1]
  simp [hs]

theorem Writable.waits_some (h : Writable s m a r) (hs : r.fields.any (·.stride) = true) (w c : Nat) :
    s.waits ⟨m, a, w, c, .direct⟩ = true := by
  unfold State.waits
  rw [show viaCopy WSrc.direct = false from rfl, h.2.1]
  have : s.bar ⟨m, a, w, c, .direct⟩ r = none := h.2.2.1
  simp [hs, this]

/-- How a write that nothing keeps out is prepared. -/
theorem Writable.prepare (h : Writable s m a r) (w : Nat) :
    s.prepare 0 ⟨m, a, w, cycleMask a, .direct⟩ =
      (let p : PWrite := ⟨m, a, w, cycleMask a, .direct⟩
       let fs := coveredFields r (cycleMask a)
       let ads := fs.map (fun f => s.admitField m a w f (bitsOf w f.fld.lo f.fld.width))
       ⟨p, some r, .ok, ads,
        (fs.zip ads).flatMap (fun x => if x.2 = .take then s.fieldUnits 0 p r.rein x.1 else [])⟩) := by
  unfold State.prepare
  rw [show viaCopy WSrc.direct = false from rfl]
  simp only [h.2.1]
  have : s.bar ⟨m, a, w, cycleMask a, .direct⟩ r = none := h.2.2.1
  rw [this]

/-- A row's write by a master that is no host is the direct write. -/
theorem State.rowWrite_direct (h : isHost m = false) (w : Word) : s.rowWrite m a w = s.write m a w := by
  simp [State.rowWrite, h]

end Sys2Proof.Machine
end

