-- ==== Sys2Proof/WellFormed.lean ====
section
/-! DEFINITION. Which commands are well formed: operands within the ranges that the spec gives what they stand for. A meaning is
total all the same; these are the commands that the hardware can meet. -/

namespace Sys2Proof

/-- An address of the host view has 32 bits (R824). -/
def addrOk (a : Nat) : Bool := decide (a < 2 ^ 32)

/-- A span of `n` words from address `a` ends within the 32-bit view (R555, R824). -/
def spanOk (a n : Nat) : Bool := decide (a + 4 * n ≤ 2 ^ 32)

/-- An operation of a control datagram names 1–32 words (R597). -/
def opWordsOk (n : Nat) : Bool := decide (1 ≤ n) && decide (n ≤ 32)

/-- One page transfer carries at most the 512 bytes of a page, in whole words (R569, R571). -/
def pageBytesOk (n : Nat) : Bool := decide (n ≤ 512) && n % 4 == 0

/-- A sample is an audio word: 24 bits, two's complement (R7). -/
def sampleOk (x : Sample) : Bool := decide (-8388608 ≤ x) && decide (x ≤ 8388607)

/-- `n` channels of six audio words (R6, R7). -/
def blockOk (n : Nat) (b : Block) : Bool := b.length == n && b.all (fun c => c.length == 6 && c.all sampleOk)

/-- A TDM frame has at most 16 slots of at most 32 bits (R260). -/
def slotsOk (l : List Nat) : Bool := decide (l.length ≤ 16) && l.all (fun v => decide (v < 2 ^ 32))

/-- A frame as a port hands it on is no longer than its longest counted form, and the bytes after its SecTAG lie in it (R475,
R480). -/
def frameOk (f : RxFrame) : Bool := decide (f.bytes.length ≤ 16384) && decide (f.cipher.length ≤ f.bytes.length)

/-- Gallop scores its wake models, at most four (R190, R704). -/
def scoresOk (f : WakeFrame) : Bool := decide (f.gallop.length ≤ 4)

/-- The readings of two party-line ports and two PSE ports (R727, R733). -/
def powerOk (m : PowerMeas) : Bool :=
  m.lineMv.length == 2 && m.lineMa.length == 2 && m.pseMv.length == 2 && m.pseMa.length == 2

/-- What a stride brings: ten ADC channels, the 384 PDM bits of eight microphones, twenty call inputs, the meters (R137, R162,
R441, R450). -/
def strideOk (x : StrideIn) : Bool :=
  blockOk 10 x.adc && x.mic.length == 8 && x.mic.all (fun v => decide (v < 2 ^ 384)) && x.calls.length == 20 && powerOk x.power && decide (x.ptp.2 < 1000000000)

/-- Eight sensors of the logic die and six of the line die (R787). -/
def sensorsOk (logic line : List Int) : Bool := logic.length == 8 && line.length == 6

/-- A tack image's digest shows as eight bytes (R59). -/
def evidenceOk (e : ImgEv) : Bool := e.digest.length == 8

/-- The header of a control datagram: one-byte version, flags and count, two-byte session, four-byte number (R597). -/
def headerOk (h : NetHdr) : Bool :=
  decide (h.version < 256) && decide (h.flags < 256) && decide (h.session < 65536) && decide (h.seq < 2 ^ 32) &&
  decide (h.opCount < 256) && decide (h.index < 32)

/-- A command whose operands are ones that the hardware can meet. -/
def Instr.wf : Instr → Bool
  | .registerWrite _ a _ rs => addrOk a && rs.all (fun r => addrOk r.2.1)
  | .accessTimeout _ a => addrOk a
  | .hostWrite _ a ws => addrOk a && spanOk a ws.length
  | .hostRead _ a n => addrOk a && spanOk a n
  | .pageRead _ n => pageBytesOk (4 * n)
  | .readContinue _ n => pageBytesOk (4 * n)
  | .pageWrite _ b => pageBytesOk b.length
  | .writeContinue _ b => pageBytesOk b.length
  | .netRead h a n => headerOk h && addrOk a && opWordsOk n
  | .netWrite h a ws => headerOk h && addrOk a && opWordsOk ws.length
  | .netKey h _ => headerOk h
  | .netReinsTake h _ => headerOk h
  | .netReinsGive h _ => headerOk h
  | .netGetChallenge h out => headerOk h && out.bytes.length == 241
  | .netAuthenticate h body _ id => headerOk h && decide (body.length ≤ 256) && decide (id < 65536)
  | .getChallenge out => out.bytes.length == 241
  | .authenticate _ id => decide (id < 65536)
  | .netSessionExpiry id _ => decide (id < 65536)
  | .genIdentity pub _ => pub.length == 97
  | .selfTestsComplete _ osc ident _ => decide (osc < 2 ^ 16) && decide (ident.length ≤ 97)
  | .strideBoundary x => strideOk x
  | .tdmFrame _ _ sl => slotsOk sl
  | .wakeFrameEnd f => scoresOk f
  | .outReceived _ f _ => frameOk f
  | .retReceived _ f _ => frameOk f
  | .turnReceived _ f _ => frameOk f
  | .gateReceived _ f => frameOk f
  | .musterReceived _ f => frameOk f
  | .foghornReceived _ f => frameOk f
  | .frameReceived _ f _ _ => frameOk f
  | .thermSample a b => sensorsOk a b
  | .fullLoad e => evidenceOk e
  | .swapLanded e => evidenceOk e
  | .commitTackNow _ _ e => evidenceOk e
  | .commitTackNextBoot _ _ e => evidenceOk e
  | .stallsStart _ ms => decide (ms.length ≤ 4)
  | .journalSettingWrite a m v => addrOk a && decide (m < 2 ^ 32) && decide (v < 2 ^ 32)
  | .ptpCapture _ _ _ ns => decide (ns < 1000000000)
  | .ptpClockStep _ ns => decide (ns < 1000000000)
  | .powerOnReset _ fl serial mac _ => fl.all (fun c => decide (c.1 < 2 ^ 32)) && decide (serial < 2 ^ 32) && decide (mac < 2 ^ 48)
  | .pinReset _ _ fl => fl.all (fun c => decide (c.1 < 2 ^ 32))
  | .watchdogExpiry => true
  | .softReset _ _ => true
  | .swapGo _ _ => true
  | .swapBoundary => true
  | .swapCrossfadeEnd => true
  | .stallStart _ => true
  | .blockCommit _ _ _ => true
  | .layerEnd _ => true
  | .clockSlackCheck1S _ => true
  | .clockSlackCheck64 _ => true
  | .micStuck _ _ => true
  | .micUnstuck _ _ => true
  | .stageReady _ => true
  | .stageTimeout _ => true
  | .wakeHangExpiry => true
  | .wakeForce _ _ => true
  | .catchupStart => true
  | .catchupRingSwitch => true
  | .catchupLive => true
  | .catchupTalkClosed => true
  | .micMuteAssert => true
  | .micMuteRelease _ => true
  | .muteSilenceEnd _ => true
  | .termWrite _ _ _ => true
  | .trimWrite _ _ _ => true
  | .levelWrite _ _ _ => true
  | .balanceStart _ _ _ => true
  | .balanceSilence _ => true
  | .balanceNoiseCheck _ _ => true
  | .balanceFit _ _ _ => true
  | .balanceMeasure _ => true
  | .balanceResult _ _ => true
  | .autoBalance _ => true
  | .hsmicGainStep _ _ => true
  | .hpLoadSense _ _ => true
  | .hpShort _ => true
  | .spkOvercurrent _ => true
  | .spkRestart _ => true
  | .dtdHangExpiry _ => true
  | .echoDiverge _ => true
  | .echoConverged _ => true
  | .echoResult _ => true
  | .echoReset _ _ _ => true
  | .keyDebounce _ _ _ => true
  | .keyToggle _ _ => true
  | .talkClose _ _ => true
  | .xpWrite _ _ => true
  | .sidetoneWrite _ _ => true
  | .foghornAck _ _ => true
  | .duckHangExpiry _ _ => true
  | .beamLaunch => true
  | .icvVerdict _ _ => true
  | .musterSend => true
  | .musterPhaseCheck => true
  | .admissionEffect => true
  | .nodeIdRelease _ => true
  | .peerDelay _ _ => true
  | .ringLocked _ _ _ => true
  | .lighthouseClaim => true
  | .claimSend => true
  | .ringDisable _ _ => true
  | .slackEnter => true
  | .slackLeave => true
  | .linkDown _ _ => true
  | .silentPort _ => true
  | .wrapEntry => true
  | .retMissing _ => true
  | .ringHealClose => true
  | .lighthouseLoss => true
  | .foghornRepeat => true
  | .foghornRelease => true
  | .foghornExpiry _ => true
  | .callStart _ _ => true
  | .callEnd _ _ => true
  | .callStuck _ => true
  | .callGenMinEnd _ => true
  | .blankEnd _ => true
  | .callSendTimeout _ => true
  | .lampFoldback _ _ _ => true
  | .lampFoldbackEnd _ _ => true
  | .pauseExpiry _ => true
  | .pauseWatchdog _ => true
  | .txFrameStart _ _ _ _ _ => true
  | .saSwitch _ => true
  | .lpiEnter _ => true
  | .lpiLeave _ _ _ _ => true
  | .statSnapshot _ _ => true
  | .snapshotDone => true
  | .iopStreamEnable _ _ _ _ => true
  | .ssrcTimeout _ => true
  | .ptpLock _ _ _ _ _ => true
  | .mediaAlign _ => true
  | .enterQuad => true
  | .exitQuad => true
  | .pageHoldExpiry _ => true
  | .loadStart _ _ => true
  | .loadHoldExpiry _ => true
  | .resultAck _ _ _ => true
  | .reinsTake _ _ => true
  | .reinsGive _ _ => true
  | .copyGo _ _ _ => true
  | .copyAbort _ _ _ => true
  | .copyRow => true
  | .gpioEdge _ _ _ => true
  | .gpioOutSet _ _ => true
  | .gpioOutClr _ _ => true
  | .encoderDetent _ _ => true
  | .closeSession => true
  | .getIdentity => true
  | .enrolOperator => true
  | .removeOperator => true
  | .enrolImageKey => true
  | .loadKey _ => true
  | .deleteKey => true
  | .setMacsec => true
  | .commitApproved => true
  | .zeroise => true
  | .challengeExpiry _ _ => true
  | .lockoutEnd _ _ => true
  | .entropyHealthFail _ _ _ => true
  | .mkaLifeExpiry _ _ => true
  | .zeroPin _ => true
  | .shieldBreach => true
  | .envFailure _ _ _ => true
  | .zeroisationComplete => true
  | .commitFirmware _ _ _ => true
  | .commitWakeModel _ _ _ => true
  | .bootConfirm _ _ => true
  | .trialAutoConfirm => true
  | .recover _ _ => true
  | .hostApiDeclare _ _ => true
  | .autoListenEnd _ _ => true
  | .autoRelisten _ _ _ => true
  | .hostWdogExpiry _ => true
  | .hostAlive _ _ => true
  | .inputQualify _ _ _ => true
  | .inputDisqualify _ _ => true
  | .pdClassify _ _ => true
  | .pdInrushEnd _ => true
  | .outputRequest _ => true
  | .budgetShed => true
  | .budgetRecheck _ => true
  | .inputOverload _ _ => true
  | .vinValid _ _ => true
  | .railTimeout _ _ => true
  | .railRetry _ => true
  | .seqViolation _ => true
  | .seqLegal => true
  | .avsAdjust _ => true
  | .appSleep => true
  | .appWake => true
  | .brownoutWarning _ _ => true
  | .brownoutEnd _ _ => true
  | .vinLoss _ _ => true
  | .tetherLoss _ _ => true
  | .tetherRetrain => true
  | .sourceStart _ => true
  | .sourceListenEnd _ _ => true
  | .alreadyPoweredRelisten _ _ => true
  | .softStartDone _ _ _ _ => true
  | .softStartTimeout _ _ _ => true
  | .lineOverload _ _ _ => true
  | .lineContention _ _ _ => true
  | .retryWaitEnd _ _ _ => true
  | .retryReset _ => true
  | .lineLatchClear _ _ _ => true
  | .shortToSupplyBegin _ _ _ => true
  | .shortToSupplyEnd _ _ _ => true
  | .shortRecover _ _ => true
  | .pseDetection _ _ _ => true
  | .pseClassification _ _ => true
  | .psePowerUp _ _ _ _ => true
  | .pseFault _ _ _ _ => true
  | .pseDisconnect _ _ _ => true
  | .pseRetryWaitEnd _ _ => true
  | .pseLatchClear _ _ _ => true
  | .thermLevelChange _ => true
  | .thermShutdown _ => true
  | .thermShutdownEnd _ => true
  | .mediaPllLock => true
  | .mediaModeChange _ _ => true
  | .refLost _ loss => loss.cuts.length == 3
  | .refRestored _ => true
  | .rtcSet _ _ => true
  | .rtcXtalSwitch _ => true
  | .strideCapture _ _ => true
  | .linkUp _ _ _ => true
  | .hpShortEnd _ => true
  | .phyRxLpiEntry _ => true
  | .mkaHello => true
  | .mboxServiceDone => true
  | .domainPowerUpDone _ => true

end Sys2Proof
end

