-- ==== Sys2Proof/Tests/Slice0.lean ====
section
/-! SUPPORT. Tests of the model: ill-formed commands that `Instr.wf` refuses, worked examples of the spec, single steps, and for
each statement of Certificates/Slice0 with hypotheses the states and operands that meet them (its witness theorems carry its
name). -/

open Sys2Proof Sys2Proof.Machine

/-! ### States to test on -/

namespace Sys2Proof.Tests

set_option Elab.async false -- one theorem at a time: each waiting kernel check would hold a thread of its own

/-- A MIX stall as stall `n`: two inputs, three outputs. -/
def stallRec (n tmpl inst : Nat) (cfg : List Nat) : StallRec := ⟨n, tmpl, 2, inst, 0, 1, 15, cfg, [], 0⟩

/-- A stall that runs. -/
def stall (n tmpl inst : Nat) (cfg : List Nat) : Stall :=
  freshStall 0 0 (stallRec n tmpl inst cfg)

/-- An image with streams, keys and queues for port C. -/
def image : Image := { romImage true with
  claims := ⟨3, 1, 0, 2, 2, 2, 2, 0, 5, 0⟩
  queues := [⟨2, 0, true, 0, 8, 0⟩, ⟨2, 5, true, 5, 8, 0⟩, ⟨2, 7, true, 7, 8, 0⟩, ⟨2, 1, false, 0, 8, 0⟩] }

/-- A node that runs: every domain on, 125 s after its counter started, two MIX inputs, an echo canceller and call detector 3. -/
def base : State :=
  ({ State.reset with
    stride := 1000000, strideOn := true
    fab := { FabState.reset with
      image := some image, running := true, hidden := false
      stalls := [stall 0 0 0 [2, 3, 40, 0], stall 8 3 0 [0, 1], stall 16 9 3 [3]] } } : State).set F.PWR_DOM_ON_ON 0x3FFFFFFF
  |>.set F.PWR_LINE_ON_ON 0x1F

/-- What a sole write by `m` to `a` needs, as a test. -/
def alone (s : State) (m : Master) (a : Nat) : Bool :=
  !isHost m && s.exists_ m && (match s.reach m a false with
    | .reg r => (s.bar ⟨m, a, 0, 0, .direct⟩ r).isNone && (match r.rein with
      | none => true
      | some g => s.get (F.REINS_HOLDER_HOLDER g) == 15 || s.get (F.REINS_HOLDER_HOLDER g) == m.code)
    | _ => false)

theorem alone_ok {s : State} {m : Master} {a : Nat} (h : alone s m a = true) : Alone s m a := by
  unfold alone at h
  split at h
  · rename_i r hr
    simp only [Bool.and_eq_true, Bool.not_eq_true', Option.isNone_iff_eq_none] at h
    refine ⟨h.1.1, r, h.1.2, hr, h.2.1, ?_⟩
    have := h.2.2
    cases hg : r.rein with
    | none => trivial
    | some g => simpa [hg] using this
  · simp at h

/-! ### Ill-formed commands, one for each check -/

/-- A well-formed control header. -/
def goodHdr : NetHdr := ⟨1, 0, 7, 5, 1, 0, 40, true, true, 0⟩

/-- A frame of no bytes. -/
def noFrame : RxFrame := ⟨[], [], 0, true, true, false, false⟩

/-- A well-formed stride's input. -/
def quietStride : StrideIn :=
  ⟨List.replicate 10 (List.replicate 6 0), List.replicate 8 0, List.replicate 20 ⟨0, 0, 0⟩,
   ⟨48000, 0, 0, [0, 0], [0, 0], [0, 0], [0, 0]⟩, (0, 0), 0, 0, 0, 0, [], none, []⟩

theorem test_wf_accepts : Instr.wf (.netRead goodHdr 0x28 32) = true ∧ Instr.wf (.strideBoundary quietStride) = true ∧
    Instr.wf (.pageWrite .whole (List.replicate 512 0)) = true ∧ Instr.wf (.frameReceived 0 noFrame 0 none) = true ∧
    Instr.wf (.fullLoad ⟨true, true, [], List.replicate 8 0⟩) = true := by
  decide +kernel

theorem test_wf_address : Instr.wf (.accessTimeout .app (2 ^ 32)) = false ∧
    Instr.wf (.registerWrite .app 0 0 [(.steward, 2 ^ 32, 0)]) = false := by decide
theorem test_wf_span : Instr.wf (.hostRead .whole (2 ^ 32 - 4) 2) = false ∧
    Instr.wf (.hostWrite .whole (2 ^ 32 - 4) [0, 0]) = false := by decide
theorem test_wf_page : Instr.wf (.pageWrite .whole [0, 0, 0]) = false ∧ Instr.wf (.pageRead .whole 129) = false := by decide
theorem test_wf_operation : Instr.wf (.netRead goodHdr 0x28 33) = false ∧ Instr.wf (.netWrite goodHdr 0x28 []) = false := by decide
theorem test_wf_header : Instr.wf (.netKey { goodHdr with session := 65536 } 0) = false ∧
    Instr.wf (.netKey { goodHdr with index := 32 } 0) = false := by decide
theorem test_wf_challenge : Instr.wf (.getChallenge ⟨[0], true⟩) = false ∧ Instr.wf (.netGetChallenge goodHdr ⟨[0], true⟩) = false := by decide
theorem test_wf_session : Instr.wf (.authenticate true 65536) = false ∧ Instr.wf (.netSessionExpiry 65536 60) = false ∧
    Instr.wf (.netAuthenticate goodHdr (List.replicate 257 0) true 1) = false := by
  decide +kernel
theorem test_wf_identity : Instr.wf (.genIdentity [4] true) = false ∧ Instr.wf (.selfTestsComplete 0 65536 [] true) = false ∧
    Instr.wf (.selfTestsComplete 0 0 (List.replicate 98 0) true) = false := by decide
theorem test_wf_stride : Instr.wf (.strideBoundary { quietStride with adc := [] }) = false ∧
    Instr.wf (.strideBoundary { quietStride with mic := 2 ^ 384 :: List.replicate 7 0 }) = false ∧
    Instr.wf (.strideBoundary { quietStride with calls := [] }) = false ∧
    Instr.wf (.strideBoundary { quietStride with power := ⟨0, 0, 0, [0], [0, 0], [0, 0], [0, 0]⟩ }) = false ∧
    Instr.wf (.strideBoundary { quietStride with ptp := (0, 1000000000) }) = false := by decide
theorem test_wf_slots : Instr.wf (.tdmFrame 0 512 (List.replicate 17 0)) = false ∧ Instr.wf (.tdmFrame 0 512 [2 ^ 32]) = false := by
  decide
theorem test_wf_frame : Instr.wf (.frameReceived 0 { noFrame with cipher := [0] } 0 none) = false ∧
    Instr.wf (.outReceived 0 { noFrame with cipher := [0] } 0) = false := by decide
theorem test_wf_scores : Instr.wf (.wakeFrameEnd ⟨0, 0, 0, [0, 0, 0, 0, 0], true, 0⟩) = false := by decide
theorem test_wf_sensors : Instr.wf (.thermSample [] []) = false := by decide
theorem test_wf_digest : Instr.wf (.fullLoad ⟨true, true, [], [0]⟩) = false ∧ Instr.wf (.swapLanded ⟨true, true, [], [0]⟩) = false := by
  decide
theorem test_wf_models : Instr.wf (.stallsStart 0 [true, true, true, true, true]) = false := by decide
theorem test_wf_journal : Instr.wf (.journalSettingWrite 0 (2 ^ 32) 0) = false ∧ Instr.wf (.journalSettingWrite 0 0 (2 ^ 32)) = false := by
  decide
theorem test_wf_clock : Instr.wf (.ptpClockStep 0 1000000000) = false ∧ Instr.wf (.ptpCapture .app 0 0 1000000000) = false := by decide
theorem test_wf_reset : Instr.wf (.powerOnReset ⟨0, 0, false, false⟩ [] 0 (2 ^ 48) true) = false ∧
    Instr.wf (.powerOnReset ⟨0, 0, false, false⟩ [] (2 ^ 32) 0 true) = false ∧
    Instr.wf (.pinReset 10 ⟨0, 0, false, false⟩ [(2 ^ 32, 0)]) = false ∧ Instr.wf (.refLost 10 ⟨0, []⟩) = false := by decide

/-! ### Worked examples of the spec -/

/-- R481: the check value of "123456789", and the worked example of chapter 11. -/
theorem test_crc16 : crc16 [0x31, 0x32, 0x33, 0x34, 0x35, 0x36, 0x37, 0x38, 0x39] = 0x29B1 ∧ crc16 [8, 0, 0x11] = 0x672D := by
  decide +kernel

/-- R374 in the worked example of chapter 8: nodes 1 and 255. -/
theorem test_phaseQ : phaseQ 966324 = 8 ∧ phaseQ 1906124 = 16 := by decide

/-- The worked example of chapter 12: M(k), in whole samples modulo 2^32. -/
theorem test_mediaTime : mediaTime 1700000000 250000 / 65536 % 2 ^ 32 = 4211310604 := by decide

/-- R75, R880: code 0 is silence, code 192 is 0 dB, and code 112, 80 half-dB steps lower, a hundredth of it. -/
theorem test_gain : gainFactor 0 = 0 ∧ gainFactor 192 = 2 ^ 20 ∧ gainFactor 112 = (2 ^ 20 + 50) / 100 := by decide

/-! ### The step and the words of the table -/

theorem test_idle : step State.reset = .next State.reset := rfl
theorem test_no_words (nbits w : Nat) : decodeTableWord nbits w = none ∧ State.reset.withFetchWord nbits w = State.reset := ⟨rfl, rfl⟩

/-! ### Witnesses: the queue and the memories -/

theorem witness_StepRunsTheFrontCommand : base.pending = [] := rfl
theorem witness_StepKeepsMemories : base.memoriesKept ∧ step base = .next base := ⟨by
  intro m hm
  have : base.boot.fw ++ base.boot.tack ++ base.boot.wake ++
    [base.boot.flash, base.copy.buf, base.copy.sram, base.swap.buf, base.host.loadBuf] = List.replicate 13 [] := rfl
  rw [this] at hm
  rw [List.eq_of_mem_replicate hm]
  rfl, rfl⟩

/-! ### Witnesses: states and operands that meet the hypotheses of each statement -/

theorem witness_ResultsCompleteInTheirCell :
    (∀ f ∈ cellFields 0xC0020, f.key ∉ [(F.HYB_BAL_RESULT_ERR_CODE 0, 5)].map (fun d => d.1.key)) ∧
    ([(F.HYB_BAL_RESULT_ERR_CODE 0, 5)].map (fun d => d.1.key)).Nodup := by decide

/-- Cell 1 is the balance result of line channel 0. -/
def fresh : State := (base.set (cellSeq (cellAddr 1)) 255).setB (cellFresh (cellAddr 1)) true

theorem witness_AcknowledgeClearsFresh :
    Alone fresh .app (cellAddr 1 + 0x10) ∧ (255#32 : Word).toNat % 256 = fresh.get (cellSeq (cellAddr 1)) ∧
    fresh.getB (cellFresh (cellAddr 1)) = true := ⟨alone_ok rfl, rfl, rfl⟩

theorem witness_AcknowledgeClearsFresh_other :
    Alone fresh .app (cellAddr 32 + 0x10) ∧ fresh.getB (cellFresh (cellAddr 32)) = false := ⟨alone_ok rfl, rfl⟩

/-- The log holds one record. -/
def logged : State := base.addLog 1 0 0 0 0 0

theorem witness_RecordsJoinTheLog :
    ∃ q ∈ logged.log, logged.get F.HOST_EVT_COUNT_COUNT / 15 < (q.serial - 1) / 15 + 64 := ⟨_, List.mem_cons_self, by decide⟩

/-- A unit of eight bits of one field of reins group 3. -/
def unit (m v : Nat) (quiet : Bool) : UWrite := ⟨0, m, 9, 0, 8, v, quiet, false, 0, 0, 8, some 3⟩

/-- The application core holds group 3. -/
def held : State := base.set (F.REINS_HOLDER_HOLDER 3) 1

theorem witness_ArbitrationHasOneWinner_holder :
    (unit 1 5 false).quiet = false ∧ (unit 1 5 false).master < 15 ∧ held.holderOf (unit 1 5 false) = 1 ∧
    (unit 1 5 false).contra (unit 0 6 false) = true ∧
    (∀ v ∈ [unit 1 5 false, unit 0 6 false], (unit 1 5 false).contra v = true → v.quiet = false ∧ v.rein = some 3) := by decide

theorem witness_ArbitrationHasOneWinner_order :
    base.holderOf (unit 1 5 false) = 15 ∧ (unit 1 5 false).contra (unit 0 6 false) = true ∧
    (∀ v ∈ [unit 1 5 false, unit 0 6 false], (unit 1 5 false).contra v = true → v.quiet = false ∧ v.rein = some 3 ∧ v.master < 15) := by
  decide

theorem witness_ArbitrationHasOneWinner_quiet :
    (unit 5 0 true).quiet = true ∧ (unit 5 0 true).contra (unit 0 6 false) = true ∧
    (unit 5 0 true).rein = (unit 0 6 false).rein ∧ ((unit 5 0 true).quiet = false ∨ (unit 0 6 false).quiet = false) := by decide

/-! ### Witnesses: register rows -/

theorem witness_WaitingWritesAreDecidedAtTheBoundary_join :
    rowOf (.keyToggle .app 1#32) = some (.app, 0x110184, 1#32) ∧ Alone base .app 0x110184 ∧ Alone base .app 0x110188 ∧
    Alone base .app 0x1101A0 ∧ Alone base .app 0x1101E8 ∧ Alone base .app 0x1101E4 ∧ Alone base .app 0xC0304 :=
  ⟨rfl, alone_ok rfl, alone_ok rfl, alone_ok rfl, alone_ok rfl, alone_ok rfl, alone_ok rfl⟩

theorem witness_WaitingWritesAreDecidedAtTheBoundary_same :
    Alone base .app 0xC0300 ∧ Alone base .app 0xC0310 ∧ Alone base .app 0xD0000 ∧
    bit1 ((0x10000#32 : Word).getLsbD 16) = base.get (F.HYB_CH_CFG_ADAPT 3) ∧
    bit1 ((0x10000#32 : Word).getLsbD 17) = base.get (F.HYB_CH_CFG_AUTO_BAL 3) ∧
    bitsOf (0x21#32 : Word).toNat 4 3 = base.get (F.HYB_BAL_CTRL_PROBE 3) ∧
    bitsOf (2#32 : Word).toNat 8 9 = base.get (F.ECHO_CTRL_STEP 0) ∧
    bit1 ((2#32 : Word).getLsbD 0) = base.get (F.ECHO_CTRL_FREEZE 0) :=
  ⟨alone_ok rfl, alone_ok rfl, alone_ok rfl, rfl, rfl, rfl, rfl, rfl⟩

/-- One write waits for the boundary. -/
def waiting (m : Master) (a : Nat) (w : Word) : State := { base with queued := [⟨m, a, w, .direct⟩] }

theorem witness_WaitingWritesAreDecidedAtTheBoundary_boundary :
    (Alone (waiting .app 0x110184 1#32) .app 0x110184 ∧ (waiting .app 0x110184 1#32).takeDetents.1 = []) ∧
    (Alone (waiting .app 0x110188 1#32) .app 0x110188 ∧ (waiting .app 0x110188 1#32).takeDetents.1 = []) ∧
    (Alone (waiting .steward 0x1101A0 0x102C0#32) .steward 0x1101A0 ∧
      (waiting .steward 0x1101A0 0x102C0#32).takeDetents.1 = []) :=
  ⟨⟨alone_ok rfl, rfl⟩, ⟨alone_ok rfl, rfl⟩, ⟨alone_ok rfl, rfl⟩⟩

theorem witness_RowCommandsAreRegisterWrites :
    rowOf (.hostAlive .app 0#32) = some (.app, 0x28, 0#32) ∧ isHost .app = false ∧ base.hostMaster = .hostSpi ∧
    isHost .hostI2c = true ∧ Master.hostI2c ≠ base.hostMaster := by decide

theorem witness_SystemRowsTakeEffect :
    Alone base .app 0x28 ∧ (Alone base .app 0x40014 ∧ (1#32 : Word).getLsbD 0 = true) ∧
    (Alone base .app 0x40100 ∧ (9#32 : Word).toNat ≠ base.get F.CLK_RTC_SEC_SEC) ∧
    (Alone base .app 0x10024 ∧ (1#32 : Word).getLsbD 0 = true) ∧
    (Master.hostSpi = base.hostMaster ∧ base.power.resetHeld = false ∧ ∃ r, base.reach .hostSpi 0x1C false = .reg r) :=
  ⟨alone_ok rfl, ⟨alone_ok rfl, rfl⟩, ⟨alone_ok rfl, by decide⟩, ⟨alone_ok rfl, rfl⟩, rfl, rfl, _, rfl⟩

theorem witness_ResetNeedsItsKey :
    (Alone base .steward 0x10 ∧ (0x52530001#32 : Word).toNat / 2 ^ 16 = 0x5253 ∧ (0x52530001#32 : Word).getLsbD 1 = false ∧
      (0x52530001#32 : Word).getLsbD 0 = true) ∧
    ((0x52530002#32 : Word).toNat / 2 ^ 16 = 0x5253 ∧ (0x52530002#32 : Word).getLsbD 1 = true ∧ base.halter = false ∧
      base.approved = false) ∧
    (0x52520003#32 : Word).toNat / 2 ^ 16 ≠ 0x5253 := ⟨⟨alone_ok rfl, rfl, rfl, rfl⟩, ⟨rfl, rfl, rfl, rfl⟩, by decide⟩

theorem witness_ReinsAreTakenAndReleased :
    Alone base .app 0x50000 ∧ Alone base .app 0x50004 ∧ (8 : Nat).testBit 3 = true ∧
    held.get (F.REINS_HOLDER_HOLDER 3) ≠ 15 ∧ held.get (F.REINS_HOLDER_HOLDER 3) ≠ 0 :=
  ⟨alone_ok rfl, alone_ok rfl, rfl, by decide, by decide⟩

theorem witness_LoadCopyAndGpioRows_load :
    (Alone base .app 0x60040 ∧ (0x08000011#32 : Word).getLsbD 4 = true ∧ 1 ≤ (0x08000011#32 : Word).toNat % 16 ∧
      (0x08000011#32 : Word).toNat % 16 ≤ 4 ∧ (0x08000011#32 : Word).toNat / 256 ≤ sinkLimit 1 ∧
      base.get F.HOST_LOAD_STATUS_STATE ≠ 1 ∧ base.get F.HOST_LOAD_STATUS_STATE ≠ 2) ∧
    ((0x01C00014#32 : Word).toNat / 256 = sinkLimit ((0x01C00014#32 : Word).toNat % 16)) :=
  ⟨⟨alone_ok rfl, rfl, by decide, by decide, by decide, by decide, by decide⟩, by decide⟩

theorem witness_LoadCopyAndGpioRows_copy :
    Alone fresh .app (cellAddr 1 + 0x10) ∧
    (Alone base .app (0x70010 + 0x40 * 3) ∧ (1#32 : Word).getLsbD 0 = true ∧ (1#32 : Word).getLsbD 1 = false ∧
      base.copy.run.getD 3 none = none) ∧
    (Alone base .app 0x70010 ∧ (2#32 : Word).getLsbD 0 = false ∧ (2#32 : Word).getLsbD 1 = true) ∧
    Alone base .app 0x80108 ∧ Alone base .app 0x8010C :=
  ⟨alone_ok rfl, ⟨alone_ok rfl, rfl, rfl, rfl⟩, ⟨alone_ok rfl, rfl, rfl⟩, alone_ok rfl, alone_ok rfl⟩

/-- A node on a ring, its receive streams off. -/
def ringing : State := base.set F.RING_CTRL_ENABLE 1

theorem witness_LatchSwapAndNetworkRows_latches :
    (Alone base .app 0xA010C ∧ (0x80000000#32 : Word).getLsbD 31 = true) ∧ Alone base .app 0xA0510 ∧
    (Alone base .app 0xF0100 ∧ (2#32 : Word).getLsbD 1 = true ∧ bit1 ((2#32 : Word).getLsbD 0) = base.get F.WAKE_CTRL_ENABLE) ∧
    (Alone base .app 0x108020 ∧ (1#32 : Word).getLsbD 0 = true ∧ base.get F.FAB_SWAP_STATUS_STATE < 2) :=
  ⟨⟨alone_ok rfl, rfl⟩, alone_ok rfl, ⟨alone_ok rfl, rfl, rfl⟩, alone_ok rfl, rfl, by decide⟩

theorem witness_LatchSwapAndNetworkRows_network :
    (Alone ringing .app 0x120000 ∧ ringing.getB F.RING_CTRL_ENABLE = true ∧ (2#32 : Word).getLsbD 0 = false ∧
      bit1 ((2#32 : Word).getLsbD 2) = ringing.get F.RING_CTRL_CANDIDATE ∧
      bit1 ((2#32 : Word).getLsbD 1) = ringing.get F.RING_CTRL_SLACK_EN ∧
      bitsOf (2#32 : Word).toNat 8 8 = ringing.get F.RING_CTRL_PRECEDENCE) ∧
    (Alone base .app 0x140800 ∧ (7#32 : Word).toNat % 8 ≠ 0) ∧
    (Alone base .app 0x160020 ∧ (1#32 : Word).getLsbD 0 = true) :=
  ⟨⟨alone_ok rfl, rfl, rfl, rfl, rfl, rfl⟩, ⟨alone_ok rfl, by decide⟩, alone_ok rfl, rfl⟩

theorem witness_LatchSwapAndNetworkRows_stream :
    Alone base .app (0x150000 + 0x40 * 1) ∧ (0x80600200#32 : Word).getLsbD 31 = true ∧
    base.getB (F.IOP_RX_CFG_EN 1) = false ∧ base.streamConflict false 1 = false ∧
    (∀ r, regRow (0x150000 + 0x40 * 1) = some r → ∀ f ∈ r.fields, f.fld.lo ≠ 31 →
       bitsOf (0x80600200#32 : Word).toNat f.fld.lo f.fld.width = base.get f.fld) :=
  ⟨alone_ok rfl, rfl, rfl, rfl, fun r hr => by cases (Option.some_inj.mp hr); decide⟩

/-! ### Witnesses: power -/

/-- All four inputs qualified. -/
def fed : State := base.set F.PWR_IN_STATUS_QUAL 15

theorem witness_InputsQualifyAndPdClasses :
    (base.inputQual 0 = false ∧ 31000 ≤ 31000 ∧ 31000 ≤ 57500) ∧
    (base.inputQual 3 = false ∧ 9500 < 9501 ∧ 9501 ≤ 61000 ∧ 10 ≤ 10) ∧
    (base.inputQual 2 = false ∧ 17000 < 35000 ∧ 35000 ≤ 35000 ∧ 10 ≤ 10) ∧
    (fed.inputQual 0 = true ∧ 57500 < 57501) ∧ (fed.inputQual 3 = true ∧ 7999 < 8000) ∧ (fed.inputQual 1 = true ∧ 15999 < 16000) := by
  decide

theorem witness_InputsQualifyAndPdClasses_inrush : ({ base with power := { base.power with inrush := true } } : State).power.inrush = true ∧ 80 ≤ 80 := by
  decide

/-- Port A sources from a DC input of `w` tenths of a watt; its STATE and its output's STATE are `l` and `o`. -/
def source (w l o : Nat) : State :=
  ((((((base.set (roleField 0) 2).setB (F.LINE_SRC_CFG_EN 0) true).set F.PWR_IN_STATUS_ACTIVE 3).set F.PWR_DC_LIMIT_WATTS w).set
    (F.LINE_STATUS_STATE 0) l).set (F.PWR_OUT_STATE 0) o).set F.PWR_IN_STATUS_QUAL 8

theorem witness_BudgetGrantsAndSheds_grant :
    (source 4000 1 0).reservedSum + (source 4000 1 0).outRequest 0 ≤ (source 4000 1 0).pAvail ∧
    (source 100 1 0).pAvail < (source 100 1 0).reservedSum + (source 100 1 0).outRequest 0 := by decide

theorem witness_BudgetGrantsAndSheds_overload :
    (source 4000 5 1).pAvail < 4001 ∧ (source 4000 5 1).firstShed = some 0 ∧ (source 4000 1 0).firstShed = none ∧
    (F.PWR_CNT_OVERLOADS = F.PWR_CNT_SHEDS ∨ F.PWR_CNT_OVERLOADS = F.PWR_CNT_OVERLOADS) := by decide

/-- Self-supplied from the DC input. -/
def selfRun : State := (source 4000 1 0).setB F.PWR_RAILS_SELF true

theorem witness_RailsAndCoreVoltage_rails :
    (9500 ≤ 9500 ∧ (source 4000 1 0).get F.PWR_IN_STATUS_ACTIVE ≠ 7 ∧ (source 4000 1 0).power.railTries < 3) ∧
    (selfRun.getB F.PWR_RAILS_SELF = true ∧ 10 ≤ 10 ∧ selfRun.power.railTries < 2) ∧
    (({ selfRun with power := { selfRun.power with railTries := 2 } } : State).getB F.PWR_RAILS_SELF = true) ∧
    (({ selfRun with power := { selfRun.power with railTries := 2, railsStopped := true } } : State).power.railsStopped = true ∧
      100 ≤ 100) := by decide

/-- The rails come from outside, and rule 5 of R742 is broken. -/
def seqBad : State := { base.setB F.PWR_RAILS_SELF false with power := { base.power with resetHeld := true, seqBroken := 5 } }

theorem witness_RailsAndCoreVoltage_order :
    ((base.setB F.PWR_RAILS_SELF false).getB F.PWR_RAILS_SELF = false ∧ base.power.resetHeld = false) ∧
    (seqBad.getB F.PWR_RAILS_SELF = false ∧ seqBad.power.resetHeld = true ∧ seqBad.power.seqBroken ≠ 0) := by decide

/-- Adaptive voltage at setpoint `v`, with the slow stalls `low` and `good` good strides. -/
def avs (v : Nat) (low : List (Nat × Nat)) (good : Nat) : State :=
  { (selfRun.setB F.PWR_CORE_AVS_EN true).set F.PWR_CORE_SETPOINT v with power := { selfRun.power with avsLow := low, avsGood := good } }

theorem witness_RailsAndCoreVoltage_avs :
    ((avs 850 [(0, 8)] 0).getB F.PWR_RAILS_SELF = true ∧ (avs 850 [(0, 8)] 0).getB F.PWR_CORE_AVS_EN = true ∧ 0 < 1 ∧
      650 ≤ (avs 850 [(0, 8)] 0).get F.PWR_CORE_SETPOINT ∧ (avs 850 [(0, 8)] 0).get F.PWR_CORE_SETPOINT ≤ 850 ∧
      (avs 850 [(0, 8)] 0).power.avsLow.any (fun q => decide (8 ≤ q.2)) = true) ∧
    ((avs 650 [] 8000).getB F.PWR_CORE_AVS_EN = true ∧ 650 ≤ (avs 650 [] 8000).get F.PWR_CORE_SETPOINT ∧
      (avs 650 [] 8000).power.avsLow.any (fun q => decide (8 ≤ q.2)) = false ∧ 8000 ≤ (avs 650 [] 8000).power.avsGood) := by
  decide

/-- The application core may sleep: the network domains are off. -/
def drowsy : State := (base.set F.PWR_DOM_ON_ON 0x1F).setB F.PWR_CFG_APP_SLEEP true

theorem witness_DomainsAndBrownout_sleep :
    (drowsy.getB F.PWR_CFG_APP_SLEEP = true ∧ drowsy.domOn 5 = false ∧ drowsy.domOn 6 = false ∧ drowsy.domOn 7 = false ∧
      drowsy.power.panelAt + 80000 ≤ drowsy.stride) ∧
    ((base.set F.PWR_DOM_ON_ON 0x7).domOn 3 = false ∧ 3 ∉ (base.set F.PWR_DOM_ON_ON 0x7).power.upQueue) := by decide

/-- Domains 3 and 33 are asked for. -/
def rising : State := { base with power := { base.power with upQueue := [3, 33] } }

theorem witness_DomainsAndBrownout_rise :
    rising.power.upQueue = 3 :: [33] ∧ powerUpUs 3 ≤ powerUpUs 3 ∧ 3 ≠ 9 := by decide

/-- A brown-out warning stands. -/
def brown : State := { base with power := { base.power with brownout := true } }

theorem witness_DomainsAndBrownout_brown :
    (8999 < 9000 ∧ 10 ≤ 10 ∧ base.power.brownout = false ∧ base.power.resetHeld = false) ∧
    (brown.power.brownout = true ∧ 9500 < 9501 ∧ 20 ≤ 20) := by decide

/-- The tether is lost. -/
def untethered : State := base.setB F.PWR_TETHER_LOST true

theorem witness_LineDieLossAndReturn :
    (7499 < 7500 ∧ 5 ≤ 5 ∧ selfRun.getB F.PWR_RAILS_SELF = true) ∧ ((16 ≤ 16 ∨ 8 ≤ 0) ∧ base.getB F.PWR_TETHER_LOST = false) ∧
    (untethered.getB F.PWR_TETHER_LOST = true ∧ untethered.getB F.PWR_TETHER_FAILED = false) ∧
    ((540 : Int) < 541 ∧ base.getB F.THERM_STATUS_SHUTDOWN = false) ∧
    ((479 : Int) < 480 ∧ (untethered.setB F.THERM_STATUS_SHUTDOWN true).getB F.THERM_STATUS_SHUTDOWN = true ∧
      (untethered.setB F.THERM_STATUS_SHUTDOWN true).getB F.PWR_TETHER_LOST = true) ∧
    ((base.setB F.THERM_STATUS_SHUTDOWN true).getB F.THERM_STATUS_SHUTDOWN = true ∧
      (base.setB F.THERM_STATUS_SHUTDOWN true).getB F.PWR_TETHER_LOST = false) := by decide

/-! ### Witnesses: the line, PSE ports and temperature -/

/-- Both ports have the AUTO role and listen. -/
def auto : State := { (base.set (roleField 0) 3).set (roleField 1) 3 with line := { base.line with codes := (3, 3) } }

/-- The same with a DC input of 195.2 W; port A's sourcing is granted. -/
def autoGrant : State := { source 4000 2 1 with line := { base.line with codes := (3, 3) } }

theorem witness_PortsListenBeforePower_auto :
    (auto.role 1 = 3 ∧ auto.roleCode 1 = 3 ∧ auto.lineUp = true ∧ 8000 < 8001) ∧
    (8000 ≤ 8000 ∧ auto.onlyInput 1 = false ∧ ((auto.setRole 1 2).mayLine 1 && (auto.setRole 1 2).granted 1) = false) ∧
    ((autoGrant.set (roleField 0) 3).role 0 = 3 ∧ (autoGrant.set (roleField 0) 3).roleCode 0 = 3 ∧
      (autoGrant.set (roleField 0) 3).onlyInput 0 = false ∧
      (((autoGrant.set (roleField 0) 3).setRole 0 2).mayLine 0 && ((autoGrant.set (roleField 0) 3).setRole 0 2).granted 0) = true) ∧
    ((auto.set (roleField 1) 1).role 1 = 1 ∧ (auto.set (roleField 1) 1).roleCode 1 = 3 ∧ 7999 < 8000 ∧ 1000 ≤ 1000 ∧
      (auto.set (roleField 1) 1).lineUp = true) := by decide +kernel

theorem witness_PortsListenBeforePower_source :
    ((source 4000 1 1).role 0 = 2 ∧ (source 4000 1 1).get (F.LINE_STATUS_STATE 0) = 1 ∧ (source 4000 1 1).mayLine 0 = true ∧
      (source 4000 1 1).granted 0 = true) ∧
    ((source 4000 2 1).get (F.LINE_STATUS_STATE 0) = 2 ∧ ((source 4000 2 1).alreadyPowered 0 8001).roleCode 0 ≠ 3) ∧
    ((source 4000 3 1).get (F.LINE_STATUS_STATE 0) = 3 ∧ 8000 ≤ 8000) := by decide

theorem witness_LineFaultsRetriesAndShorts_faults :
    ((source 4000 4 1).get (F.LINE_STATUS_STATE 0) = 4 ∧ 95 * (source 4000 4 1).lineVset 0 ≤ 100 * (source 4000 4 1).lineVset 0 ∧
      100 * (source 4000 4 1).lineVset 0 ≤ 105 * (source 4000 4 1).lineVset 0 ∧ 60 ≤ 60) ∧
    (100 * 0 < 95 * (source 4000 4 1).lineVset 0) ∧ ((source 4000 5 1).sourcing 0 = true ∧ (10 ≤ 10 ∨ 1 ≤ 0)) ∧
    ((source 4000 4 1).feeding 0 = true ∧ 50 < 51 ∧ 2 ≤ 2) := by decide

theorem witness_LineFaultsRetriesAndShorts_retries :
    ((source 4000 6 1).get (F.LINE_STATUS_STATE 0) = 6 ∧ (source 4000 6 1).mayLine 0 = true ∧
      (source 4000 6 1).power.waitMs.1 ≤ 5000 ∧ (source 4000 6 1).roleCode 0 ≠ 3 ∧ 8000 ≤ 8000 ∧
      (source 4000 6 1).granted 0 = true) ∧
    ((source 4000 6 2).mayLine 0 = true ∧ (source 4000 6 2).granted 0 = false) := by decide

/-- Port A has sourced for 600 s without a break. -/
def steady : State :=
  { source 4000 5 1 with stride := 4800000, power := { (source 4000 5 1).power with sourcingAt := [some 0, none] } }

theorem witness_LineFaultsRetriesAndShorts_retries_reset :
    steady.power.sourcingAt.getD 0 none = some 0 ∧ steady.sourcing 0 = true ∧ 0 + 4800000 ≤ steady.stride :=
  ⟨rfl, rfl, Nat.le_refl _⟩

/-- Four-wire pin 9 is shorted to supply, and held. -/
def shorted (now : Bool) : State :=
  { base.setBit F.LINE_SHORT_NOW 9 now with line := { base.line with shortHold := 512 } }

theorem witness_LineFaultsRetriesAndShorts_shorts :
    (base.pinOn 1 = true ∧ 15000 < 15001 ∧ 10 ≤ 10 ∧ base.bit F.LINE_SHORT_NOW 1 = false ∧ base.generating 3 = false) ∧
    ((shorted true).bit F.LINE_SHORT_NOW 9 = true ∧ 12000 ≤ 12000) ∧
    ((shorted false).line.shortHold.testBit 9 = true ∧ (shorted false).bit F.LINE_SHORT_NOW 9 = false ∧ 1000 ≤ 1000) := by decide

/-- PSE port 1 in state `st`, waiting `wait` ms. -/
def pse (st wait : Nat) : State :=
  { base.set (F.PSE_STATUS_STATE 1) st with power := { base.power with pse := [⟨0, none, false, 0⟩, ⟨40, none, false, wait⟩] } }

theorem witness_PsePortsPowerAndFault_start :
    ((pse 2 0).pseState 1 = 2 ∧ ((pse 2 0).psePort 1).wait = 0 ∧ 10000 < 10001) ∧ (10000 ≤ 10000 ∧ 190 ≤ 265 ∧ 265 ≤ 265) ∧
    ((189 < 190 ∨ 265 < 189) ∧ (266 < 190 ∨ 265 < 266)) ∧ (pse 3 0).pseState 1 = 3 ∧
    ((pse 4 0).pseState 1 = 4 ∧ 48000 ≤ 47000 + 1000 ∧ 75 ≤ 75) ∧ (46999 + 1000 < 48000 ∧ 75 ≤ 75) := by decide

theorem witness_PsePortsPowerAndFault_run :
    ((pse 5 0).pseState 1 = 5 ∧ (pse 5 0).pseWant 1 * 105 < 43 * 100 ∧ 60 ≤ 60) ∧ (850 ≤ 850 ∧ 60 ≤ 60) ∧ 2000 < 2001 ∧
    ((42999 < 43000 ∨ 57500 < 42999) ∧ 1 ≤ 1) ∧ (9 < 10 ∧ 350 ≤ 350) ∧
    (((pse 6 2000).psePort 1).wait ≠ 0 ∧ ((pse 6 2000).psePort 1).wait ≤ 2000 ∧ ((pse 6 2000).pseState 1 = 6 ∨ (pse 6 2000).pseState 1 = 8)) := by
  decide

/-- A die at level 0 that has been above its first threshold for 251 samples, and one that is due for CRITICAL. -/
def hot : State :=
  { base with power := { base.power with die := [⟨[], [251, 0, 0], [0, 0, 0], 2000⟩, ⟨[], [0, 0, 251], [0, 0, 0], 0⟩] } }

theorem witness_ThermalLevels :
    (hot.nextLevel 0 = some 1 ∧ 0 < hot.power.die.length) ∧ (hot.nextLevel 1 = some 3 ∧ 1 < hot.power.die.length) := by decide

/-! ### Witnesses: resets and clocks -/

/-- The island zeroises itself. -/
def zeroing : State := { base with isle := { base.isle with zeroing := some 3 } }

/-- In halter mode with cause `c`. -/
def haltered (c : Nat) : State := (base.setB F.SYS_PERSONA_HALTER true).set F.BOOT_STATUS_HALTER_CAUSE c

theorem witness_ResetsAndWatchdog :
    (rstOfKey F.CONV_HSMIC_GAIN.key ≠ none ∧
      F.CONV_HSMIC_GAIN.key ∉ [F.MIC_PRIV_STATUS_PIN, F.PWR_TETHER_LOST, F.TG_PRIO_INTERRUPT_DIM].map Fld.key) ∧
    (F.CONV_HSMIC_GAIN.key ∉ ([F.SYS_SERIAL_SERIAL, F.SYS_MAC_HI_BASE_0_1, F.SYS_MAC_LO_BASE_2_5, F.SYS_STRAPS_SUPPLY_MODE,
      F.PWR_RAILS_SELF, F.PWR_AON_STATUS_SEQ_FAULT, F.PWR_AON_STATUS_SEQ_RULE, F.MIC_PRIV_STATUS_PIN] ++
      ownAddressFields).map Fld.key) ∧
    (({ base with pending := [.powerOnReset ⟨0, 0, false, false⟩ [] 0 0 true] } : State).porWaits = true ∧
      base.porWaits = false ∧ 0 < 1 ∧ 10 ≤ 10 ∧ 1 ≤ 9 ∧ 9 < 10) ∧
    (({ base with pending := [.pinReset 10 ⟨0, 0, false, false⟩ []] } : State).hardResetWaits = true ∧
      base.hardResetWaits = false ∧ base.isle.zeroing = none ∧ base.getB F.SYS_PERSONA_HALTER = false) ∧
    (zeroing.isle.zeroing = some 3 ∧ zeroing.hardResetWaits = false) ∧
    ((haltered 1).hardResetWaits = false ∧ (haltered 1).isle.zeroing = none ∧ (haltered 1).get F.BOOT_STATUS_HALTER_CAUSE ≠ 2 ∧
      (haltered 1).get F.BOOT_STATUS_HALTER_CAUSE ≠ 3) ∧
    ((haltered 3).getB F.SYS_PERSONA_HALTER = true ∧ (haltered 3).get F.BOOT_STATUS_HALTER_CAUSE = 3 ∧
      (haltered 3).isle.zeroing = none ∧ (haltered 3).hardResetWaits = false) ∧
    ((haltered 2).getB F.SYS_PERSONA_HALTER = true ∧ (haltered 2).get F.BOOT_STATUS_HALTER_CAUSE = 2 ∧
      (haltered 2).isle.zeroing = none ∧ (haltered 2).hardResetWaits = false) := by decide +kernel

theorem witness_ClocksFollowTheirReferences :
    (10 ≤ 10 ∧ base.getB F.CLK_STATUS_REF_LOST = false) ∧
    (10 ≤ 10 ∧ (base.setB F.CLK_STATUS_REF_LOST true).getB F.CLK_STATUS_REF_LOST = true) ∧ 1000 ≤ 1000 ∧
    (base.exists_ .debug = true ∧ (∃ r, base.reach .debug 0x28 false = .reg r) ∧ (Master.debug).code < base.banks.length) :=
  ⟨by decide, by decide, by decide, rfl, ⟨_, rfl⟩, by decide⟩

/-! ### Witnesses: the island -/

/-- The partition's operators: a CO in slot 0 and another in slot 11. -/
def partition_ : SecState := { SecState.reset with
  tested := true, osc := 0xFFFF, operators := [⟨0, 2, []⟩, ⟨11, 2, []⟩], identity := [1], challenges := [2] }

/-- Service `sv` is under way for a host with session role `role`, its body beginning with the four bytes of `w`, `len` bytes
long. -/
def asked (sv role len : Nat) (w : Nat) : State :=
  { (((base.set F.SEC_SESSIONS_HOST role).set F.SEC_MBOX_CTRL_LENGTH len).set (F.SEC_MBOX_IN_DATA 0) w).set (F.SEC_MBOX_IN_DATA 24) 0x200 with
    isle := { partition_ with mbox := some ⟨sv, none⟩ } }

theorem witness_IslandSessionsAndRoles :
    (Serving (asked 0x10 0 0 0) 0x10 ∧ (asked 0x10 0 0 0).hostCode ∉ (asked 0x10 0 0 0).isle.locked) ∧
    (Serving (asked 0x12 2 0 0) 0x12 ∧ (asked 0x12 2 0 0).get F.SEC_SESSIONS_HOST ≠ 0) ∧ Serving (asked 0x13 0 0 0) 0x13 ∧
    (Serving (asked 0x28 1 0 0) 0x28 ∧ (asked 0x28 1 0 0).co = false) := by
  refine ⟨⟨⟨rfl, rfl⟩, by decide⟩, ⟨⟨rfl, rfl⟩, by decide⟩, ⟨rfl, rfl⟩, ⟨rfl, rfl⟩, by decide⟩

/-- The same with the host locked out or not, and without a challenge. -/
def askedBad (sv len : Nat) (locked : Bool) : State := { asked sv 0 len 0 with
  isle := { (asked sv 0 len 0).isle with locked := if locked then [(asked sv 0 len 0).hostCode] else [], challenges := [] } }

theorem witness_IslandSessionsAndRoles_refused :
    (Serving (askedBad 0x10 0 true) 0x10 ∧ (askedBad 0x10 0 true).hostCode ∈ (askedBad 0x10 0 true).isle.locked) ∧
    (Serving (askedBad 0x11 194 false) 0x11 ∧ (askedBad 0x11 194 false).mboxIn.length ≠ 195) ∧
    (Serving (askedBad 0x11 195 false) 0x11 ∧ (askedBad 0x11 195 false).mboxIn.length = 195 ∧
      (askedBad 0x11 195 false).hostCode ∉ (askedBad 0x11 195 false).isle.challenges) :=
  ⟨⟨⟨rfl, rfl⟩, by decide +kernel⟩, ⟨⟨rfl, rfl⟩, by decide +kernel⟩, ⟨rfl, rfl⟩, by decide +kernel, by decide +kernel⟩

theorem witness_IslandSessionsAndRoles_authenticate :
    Serving (asked 0x11 0 195 0x0B000000) 0x11 ∧ (asked 0x11 0 195 0x0B000000).mboxIn.length = 195 ∧
    (asked 0x11 0 195 0x0B000000).hostCode ∈ (asked 0x11 0 195 0x0B000000).isle.challenges ∧
    (asked 0x11 0 195 0x0B000000).isle.operators.find? (fun o => o.slot = beAt (asked 0x11 0 195 0x0B000000).mboxIn 0 1) =
      some ⟨11, 2, []⟩ ∧
    beAt (asked 0x11 0 195 0x0B000000).mboxIn 98 1 = (asked 0x11 0 195 0x0B000000).hostCode :=
  ⟨⟨rfl, rfl⟩, rfl, by decide, rfl, rfl⟩

theorem witness_IslandKeysAndServices_enrol :
    (Serving (asked 0x20 2 99 0x0B010000) 0x20 ∧ (asked 0x20 2 99 0x0B010000).co = true ∧
      (asked 0x20 2 99 0x0B010000).mboxIn.length = 99 ∧ beAt (asked 0x20 2 99 0x0B010000).mboxIn 1 1 = 1 ∧
      beAt (asked 0x20 2 99 0x0B010000).mboxIn 0 1 = 11) ∧
    ((asked 0x21 2 1 0x0B000000).mboxIn.length = 1 ∧ beAt (asked 0x21 2 1 0x0B000000).mboxIn 0 1 = 11 ∧
      ((asked 0x21 2 1 0x0B000000).isle.operators.filter (fun o => o.slot ≠ 11)).any (fun o => o.role = 2) = true) ∧
    ((asked 0x22 2 98 0x03000000).mboxIn.length = 98 ∧ beAt (asked 0x22 2 98 0x03000000).mboxIn 0 1 = 3) ∧
    ((asked 0x22 2 1 0x03000000).mboxIn.length = 1 ∧ beAt (asked 0x22 2 1 0x03000000).mboxIn 0 1 = 3) :=
  ⟨⟨⟨rfl, rfl⟩, rfl, rfl, rfl, rfl⟩, ⟨rfl, rfl, rfl⟩, ⟨rfl, rfl⟩, rfl, rfl⟩

/-- The first crypto officer enrols. -/
def firstOfficer : State := { asked 0x20 0 99 0x00020000 with isle := { (asked 0x20 0 99 0x00020000).isle with operators := [] } }

theorem witness_IslandKeysAndServices_first :
    Serving firstOfficer 0x20 ∧ beAt firstOfficer.mboxIn 1 1 = 2 ∧ (∀ o ∈ firstOfficer.isle.operators, o.role ≠ 2) ∧
    firstOfficer.mboxIn.length = 99 ∧ beAt firstOfficer.mboxIn 0 1 < 12 :=
  ⟨⟨rfl, rfl⟩, rfl, by simp [firstOfficer], rfl, by decide⟩

theorem witness_IslandKeysAndServices_load :
    (Serving (asked 0x23 2 42 0x01000000) 0x23 ∧ (asked 0x23 2 42 0x01000000).co = true ∧
      beAt (asked 0x23 2 42 0x01000000).mboxIn 0 1 = 1 ∧ (asked 0x23 2 42 0x01000000).mboxIn.length = 42 ∧
      beAt (asked 0x23 2 42 0x01000000).mboxIn 1 1 = 0) ∧
    (beAt (asked 0x23 2 74 0x02030000).mboxIn 0 1 = 2 ∧ (asked 0x23 2 74 0x02030000).mboxIn.length = 74 ∧
      beAt (asked 0x23 2 74 0x02030000).mboxIn 1 1 = 3) ∧
    (Serving (asked 0x24 2 2 0x01000000) 0x24 ∧ (asked 0x24 2 2 0x01000000).mboxIn.length = 2 ∧
      beAt (asked 0x24 2 2 0x01000000).mboxIn 0 1 = 1 ∧ beAt (asked 0x24 2 2 0x01000000).mboxIn 1 1 = 0) ∧
    (beAt (asked 0x24 2 2 0x02030000).mboxIn 0 1 = 2 ∧ beAt (asked 0x24 2 2 0x02030000).mboxIn 1 1 = 3) ∧
    Serving (asked 0x25 2 0 0) 0x25 :=
  ⟨⟨⟨rfl, rfl⟩, rfl, rfl, rfl, rfl⟩, ⟨rfl, rfl, rfl⟩, ⟨⟨rfl, rfl⟩, rfl, rfl, rfl⟩, ⟨rfl, rfl⟩, rfl, rfl⟩

theorem witness_IslandKeysAndServices_macsec :
    (Serving (asked 0x26 2 4 0x02020300) 0x26 ∧ (asked 0x26 2 4 0x02020300).co = true ∧
      (asked 0x26 2 4 0x02020300).mboxIn.length = 4 ∧ beAt (asked 0x26 2 4 0x02020300).mboxIn 0 1 = 2 ∧
      beAt (asked 0x26 2 4 0x02020300).mboxIn 1 1 = 2 ∧ beAt (asked 0x26 2 4 0x02020300).mboxIn 2 1 = 3) ∧
    (beAt (asked 0x26 2 4 0x00000000).mboxIn 1 1 = 0 ∧ (asked 0x26 2 4 0x00000000).approved = false) ∧
    (Serving (asked 0x27 2 4 0x41505256) 0x27 ∧ (asked 0x27 2 4 0x41505256).mboxIn = [0x41, 0x50, 0x52, 0x56]) ∧
    (Serving (asked 0x28 2 0 0) 0x28 ∧ (asked 0x28 2 0 0).co = true ∧ (asked 0x28 2 0 0).isle.zeroing = none) :=
  ⟨⟨⟨rfl, rfl⟩, rfl, rfl, rfl, rfl, rfl⟩, ⟨rfl, rfl⟩, ⟨⟨rfl, rfl⟩, rfl⟩, ⟨rfl, rfl⟩, rfl, rfl⟩

/-- A service has answered with one byte. -/
def answered : State := { base with isle := { partition_ with mbox := some ⟨0x13, some (0, [1])⟩ } }

/-- The island has an identity and is not yet tested. -/
def untested : State := { base with isle := { partition_ with tested := false } }

/-- The island is ready. -/
def ready : State := { base with isle := partition_ }

/-- Of the oscillators those of `osc` passed. -/
def passing (s : State) (osc : Nat) : State :=
  ({ s with isle := { s.isle with osc := Nat.land s.isle.osc (osc % 65536), tested := true } } : State).showOsc

/-- Without oscillator `o`. -/
def without (s : State) (o : Nat) : State := { s with isle := { s.isle with osc := putBit s.isle.osc o false } }

/-- The island has no identity. -/
def unnamed : State := { untested with isle := { untested.isle with identity := [] } }

/-- Twelve oscillators run. -/
def scarce : State := { ready with isle := { ready.isle with osc := 0xFFF } }

theorem witness_MailboxTestsAndEntropy :
    answered.isle.mbox = some ⟨0x13, some (0, [1])⟩ ∧
    (untested.get F.SEC_STATUS_STATE = 0 ∧ untested.isle.zeroing = none ∧ untested.isle.identity ≠ [] ∧
      (passing untested 0x7FF).oscCount < 12 ∧ 12 ≤ (passing untested 0xFFF).oscCount) ∧
    (unnamed.get F.SEC_STATUS_STATE = 0 ∧ unnamed.isle.zeroing = none ∧ unnamed.isle.identity = [] ∧
      12 ≤ (passing unnamed 0xFFF).oscCount) ∧
    (10 : Fin 11).val ≠ 0 ∧
    ((41 ≤ 41 ∨ 800 ≤ 0) ∧ ready.isle.osc.testBit 15 = true ∧ ready.isle.tested = true ∧ 12 ≤ (without ready 15).oscCount) ∧
    untested.isle.tested = false ∧
    (scarce.isle.osc.testBit 11 = true ∧ scarce.isle.tested = true ∧ (without scarce 11).oscCount < 12 ∧
      scarce.get F.SEC_STATUS_STATE ≠ 2) := by decide +kernel

theorem witness_ExpiriesTampersAndZeroisation :
    base.isle.zeroing = none ∧ 450000 ≤ 450000 ∧ (599 : Int) < 600 ∧ ((950 : Int) < 951 ∧ 10 ≤ 10) ∧
    ((140 : Int) < -51 ∨ (-51 : Int) < -50) ∧ ((60001 : Int) < 40000 ∨ (60000 : Int) < 60001) ∧
    ready.isle.mbox = none ∧ (asked 0x10 0 0 0).isle.mbox = some ⟨0x10, none⟩ :=
  ⟨rfl, Nat.le_refl _, by decide, by decide, by decide, by decide, rfl, rfl⟩

/-! ### Witnesses: the host interface and network control -/

theorem witness_RegisterWriteIsTheDirectWrite :
    isHost .debug = false ∧ base.power.resetHeld = false ∧ 0x3C % 4 = 0 := by decide

theorem witness_WrittenFieldsReadBack :
    ∃ r, regRow 0x90020 = some r ∧ (r.fields.map (fun f => f.fld.key)).Nodup ∧
      (∃ f ∈ r.fields, f.acc = .ro ∨ f.acc = .wo) := ⟨_, rfl, by decide, by decide⟩

theorem witness_WrittenFieldsReadBack_rw :
    ∃ r, regRow 0x60020 = some r ∧ (r.fields.map (fun f => f.fld.key)).Nodup ∧
      (∃ f ∈ r.fields, f.acc = .rw ∧ f.fld.lo + f.fld.width ≤ 32) := ⟨_, rfl, by decide, by decide⟩

theorem witness_CopyBufferReadsBack :
    base.power.resetHeld = false ∧ 0x2000000 % 4 = 0 ∧ 0x2000000 ≤ 0x2000000 ∧
    0x200FFFC + 4 * ([1#32] : List Word).length ≤ 0x2010000 ∧ 0x200FFFC + 4 * 1 ≤ 0x2010000 :=
  ⟨rfl, rfl, Nat.le_refl _, Nat.le_refl _, Nat.le_refl _⟩

/-- The log's page is selected. -/
def paged : State := (logged.set F.HOST_PAGE_SEL_SOURCE 3).set F.HOST_PAGE_SEL_MODE 2

/-- A page of the log is held at word 127. -/
def holding : State := { paged.setB F.HOST_PAGE_STATUS_HELD true with
  host := { paged.host with page := some ⟨3, 2, 0, List.replicate 512 7, 127, true⟩ } }

theorem witness_PagesAndLoadsPass_read :
    (paged.power.resetHeld = false ∧ paged.host.page = none ∧
      paged.choosePage (paged.get F.HOST_PAGE_SEL_SOURCE) (paged.get F.HOST_PAGE_SEL_MODE) (paged.get F.HOST_PAGE_SEL_SEQ) = some 0) ∧
    (∃ p, holding.host.page = some p ∧ p.pos + 0 < 128 ∧ 128 ≤ p.pos + 1) ∧
    (holding.getB F.HOST_PAGE_STATUS_HELD = true ∧
      holding.get F.HOST_PAGE_SEL_HOLD_MS ≤ holding.get F.HOST_PAGE_SEL_HOLD_MS) :=
  ⟨⟨rfl, rfl, rfl⟩, ⟨_, rfl, by decide, by decide⟩, rfl, Nat.le_refl _⟩

/-- A load of 520 bytes stands at byte 512. -/
def loading : State := { (base.set F.HOST_LOAD_STATUS_STATE 2) with
  host := { base.host with loadSink := 1, loadLen := 520, loadPos := 512 } }

theorem witness_PagesAndLoadsPass_load :
    (loading.get F.HOST_LOAD_STATUS_STATE = 2 ∧ loading.get F.HOST_PAGE_SEL_HOLD_MS ≤ loading.get F.HOST_PAGE_SEL_HOLD_MS) ∧
    (loading.power.resetHeld = false ∧ loading.loadRuns = true ∧ ([1, 2, 3, 4] : List Byte).length % 4 = 0 ∧
      loading.host.loadPos % 512 = 0) ∧
    (([1, 2, 3, 4] : List Byte).length ≤ 512 - loading.host.loadPos % 512 ∧
      loading.host.loadPos + ([1, 2, 3, 4] : List Byte).length < loading.host.loadLen) := by decide

/-- In host mode with a watchdog of `ms` ms. -/
def watched (ms : Nat) : State :=
  { (base.setB F.SYS_PERSONA_HOST_MODE true).set F.SYS_HOST_WDOG_TIMEOUT ms with host := { base.host with wdogRunning := true } }

theorem witness_QuadModeAndHostWatchdog :
    (base.power.resetHeld = false ∧ base.getB F.HOST_STATUS_I2C = false ∧ base.getB F.HOST_STATUS_QUAD = false) ∧
    ((base.setB F.HOST_STATUS_QUAD true).getB F.HOST_STATUS_I2C = false ∧
      (base.setB F.HOST_STATUS_QUAD true).getB F.HOST_STATUS_QUAD = true) ∧
    ((watched 1).getB F.SYS_PERSONA_HOST_MODE = true ∧ (watched 1).get F.SYS_HOST_WDOG_TIMEOUT ≠ 0 ∧
      (watched 1).get F.SYS_HOST_WDOG_TIMEOUT ≤ 1 ∧ (watched 1).host.wdogRunning = true) := by decide

theorem witness_AliveClearsHostLost : Alone (base.setB F.SYS_PERSONA_HOST_LOST true) .debug 0x28 := alone_ok rfl

/-- Port C listens for control datagrams; session 7 is open. -/
def listening : State :=
  { ((base.setB F.HOST_NET_CFG_EN true).setB (F.MAC_STATUS_LINK 2) true) with
    isle := { partition_ with challenges := [4], nets := [⟨7, 2, 5, 0⟩] } }

/-- A datagram of session `session` with sequence number `seq`. -/
def hdr (session seq : Nat) : NetHdr := ⟨1, 0, session, seq, 1, 0, 64, true, true, 0⟩

theorem witness_NetControlIsTaken :
    (listening.netListens = true ∧ (hdr 7 6).index = 0 ∧ (hdr 7 6).opCount = 1 ∧ netHdrOk (hdr 7 6) = true ∧
      (hdr 7 6).tagOk = true ∧ (hdr 7 6).session ≠ 0 ∧ listening.netSession 7 = some ⟨7, 2, 5, 0⟩ ∧ 5 < (hdr 7 6).seq) ∧
    (∃ n, listening.netSession (hdr 7 5).session = some n ∧ (hdr 7 5).seq ≤ n.lastSeq) ∧
    listening.netSession (hdr 8 6).session = none ∧ (hdr 0 6).session = 0 ∧
    netHdrOk { hdr 7 6 with version := 2 } = false ∧ ({ hdr 7 6 with tagOk := false } : NetHdr).tagOk = false :=
  ⟨⟨rfl, rfl, rfl, rfl, rfl, by decide, rfl, by decide⟩, ⟨_, rfl, by decide⟩, rfl, rfl, rfl, rfl⟩

/-- The 195 bytes of an authentication by the operator of slot 11, bound to the network. -/
def authBody : List Byte := 11 :: List.replicate 97 0 ++ 4 :: List.replicate 96 0

theorem witness_NetControlIsTaken_sessions :
    (listening.takeOpening (hdr 0 6) = true ∧ listening.islandServes = true ∧ 4 ∉ listening.isle.locked) ∧
    (authBody.length = 195 ∧ 4 ∈ listening.isle.challenges ∧
      listening.isle.operators.find? (fun o => o.slot = beAt authBody 0 1) = some ⟨11, 2, []⟩ ∧ beAt authBody 98 1 = 4) ∧
    (listening.netSession 7 = some ⟨7, 2, 5, 0⟩ ∧ listening.get F.HOST_NET_CFG_HOLD_S ≤ listening.get F.HOST_NET_CFG_HOLD_S) :=
  ⟨⟨rfl, rfl, by decide⟩, ⟨rfl, by decide, rfl, rfl⟩, rfl, Nat.le_refl _⟩

/-- The network is locked out. -/
def lockedOut : State := { listening with isle := { listening.isle with locked := [4] } }

theorem witness_NetControlIsTaken_refused :
    lockedOut.takeOpening (hdr 0 6) = true ∧ 4 ∈ lockedOut.isle.locked := ⟨rfl, by decide⟩

/-! ### A tack image -/

/-- The bytes of a header, manifest and the first directory entries that full and partial images share: `len` bytes, `n`
sections, one region with the stalls of mask byte `mask`, its record at `at_`. -/
def imageHead (len n flags mlo mhi at_ : Nat) : List (Nat × Nat) :=
  [(0x00, 0x56), (0x01, 0x58), (0x02, 0x54), (0x03, 0x4B), (0x04, 1), (0x06, 64), (0x08, len % 256), (0x09, len / 256),
   (0x0C, flags), (0x20, 0x40), (0x24, 0x48), (0x28, 0x88), (0x2C, n), (0x40, 1), (0x41, 2), (0x50, 1), (0x55, 1), (0x58, mlo), (0x59, mhi),
   (0x68, mlo), (0x69, mhi), (0x88, 1), (0x8C, at_), (0x90, 32), (0x94, 1)]

/-- One BYPASS stall `n` at offset `a`, of one channel and one frame. -/
def bypassRec (a n : Nat) : List (Nat × Nat) :=
  [(a, n), (a + 1, 12), (a + 2, 1), (a + 6, 1), (a + 7, 15), (a + 8, 16), (a + 16, 1), (a + 20, 1)]

/-- The bytes as memory: no listed byte is 0. -/
def asMemory (l : List (Nat × Nat)) : List Host.Cell :=
  (l.filter (fun p => p.2 ≠ 0)).map (fun p => (p.1, BitVec.ofNat 8 p.2))

/-- A full image of 432 bytes: STALL_PROG, HARNESS, GROUPS, PORTS, MACQ and SIGNATURE. -/
def fullBytes : List Host.Cell := asMemory (imageHead 432 6 0 1 0 0xF0 ++
  [(0x98, 2), (0x9C, 0x10), (0x9D, 1), (0xA8, 3), (0xA9, 255), (0xAC, 0x10), (0xAD, 1), (0xB0, 16), (0xB8, 4), (0xB9, 255),
   (0xBC, 0x20), (0xBD, 1), (0xC0, 32), (0xC8, 5), (0xC9, 255), (0xCC, 0x40), (0xCD, 1), (0xD8, 15), (0xD9, 255),
   (0xDC, 0x40), (0xDD, 1), (0xE0, 112), (0xE4, 1)] ++ bypassRec 0xF0 0 ++
  (List.range 13).map (fun i => (0x120 + i, 255)) ++
  [(0x12E, 255), (0x12F, 255), (0x132, 255), (0x133, 255), (0x135, 255), (0x141, 1)])

/-- A partial image of 336 bytes that puts a BYPASS stall 8 in region 0. -/
def partBytes : List Host.Cell := asMemory (imageHead 336 3 1 0 1 0xC0 ++
  [(0x98, 2), (0x9C, 0xE0), (0xA8, 15), (0xA9, 255), (0xAC, 0xE0), (0xB0, 112), (0xB4, 1)] ++ bypassRec 0xC0 8 ++ [(0xE1, 1)])

/-- A good signature. -/
def goodEv : ImgEv := ⟨true, true, [], List.replicate 8 0⟩

/-- Firmware whose vectors fit the image's. -/
def firmware : FwImage := ⟨0, ⟨1, 2, 0, 0, 0, 0, 0, 0, 0⟩, ⟨1, 2, 0, 0, 0, 0, 0, 0, 0⟩, []⟩

/-- A full load of slot 0 is wanted. -/
def wanting : State := { base with
  fab := FabState.reset
  isle := { partition_ with imageKeys := [(0, [])] }
  boot := { BootState.reset with tack := [fullBytes, []], want := some 0, fwImg := some firmware } }

/-- Region 0 of the running image may be swapped; a partial image of it is staged. -/
def staged : State := { (base.set F.FAB_SWAP_STATUS_STATE 2).set F.FAB_LAYERS_COUNT 1 with
  isle := { partition_ with imageKeys := [(0, [])] }
  boot := { BootState.reset with fwImg := some firmware }
  swap := { SwapState.reset with buf := partBytes, len := 336, cur := partBytes }
  fab := { FabState.reset with
    image := some { image with regions := [⟨0, true, 0, 1⟩], stalls := [stallRec 0 12 0 [1, 1, 0, 0]], links := [] }
    baseDigest := List.replicate 8 0, running := true, stalls := [stall 0 12 0 [1, 1, 0, 0]] } }

/-! ### Witnesses: wake, panel, copy, loads and swaps -/

/-- A wake stage `k` is up, with `ready`, its frame ending with this stride. -/
def staging (k ready : Nat) : State := { base.set F.WAKE_STATUS_STAGE k with
  stride := 1000063, mic := { base.mic with ready := ready } }

theorem witness_MicrophonesAndStages :
    ((base.setB F.CLK_STATUS_MEDIA_LOCK true).micClock 3 = true ∧ 1000 ≤ 1000) ∧
    ((staging 2 1).stage = 2 ∧ (staging 2 1).mic.ready.testBit 1 = false) ∧
    ((staging 4 15).stage = 4 ∧ (staging 4 15).mic.latched = false ∧
      (staging 4 15).mic.upAt.getD 3 0 + 64 * (staging 4 15).stageTimeout 4 ≤ (staging 4 15).stride) ∧
    ((staging 1 1).stage = 1 ∧ (staging 1 1).count % 64 = 63 ∧ (staging 1 1).mic.frameAt ≠ some (staging 1 1).stride ∧
      (staging 1 1).mic.ready.testBit 0 = true ∧ (staging 1 1).mic.runs.length = 4) := by decide +kernel

/-- A catch-up in `mode` with `lag`, at a group boundary. -/
def catching (mode lag : Nat) : State := { (base.set F.HIST_STATUS_MODE mode).set F.HIST_STATUS_LAG lag with
  mic := { base.mic with since := 999992, start := some (1000000, 12001) } }

/-- The hardware mute is in force. -/
def muted : State := { base.setB F.MIC_PRIV_STATUS_PIN true with mic := { base.mic with muteLow := true } }

theorem witness_WakeTalkAndMute :
    ((((staging 4 15).setB F.WAKE_STATUS_TALK true).getB F.WAKE_STATUS_TALK = true ∧
      (staging 4 15).mic.voiceAt + 8 * (staging 4 15).get F.WAKE_HANG_HANG_MS ≤ (staging 4 15).stride) ∧ (staging 2 1).stage ≠ 4) ∧
    (catching 0 0).mic.start = some ((catching 0 0).stride, 12001) ∧
    ((catching 1 12000).groupBoundary = true ∧ (catching 1 12000).get F.HIST_STATUS_MODE = 1 ∧
      (catching 1 12000).get F.HIST_STATUS_LAG ≤ 12000) ∧
    ((catching 2 0).groupBoundary = true ∧ (catching 2 0).get F.HIST_STATUS_LAG = 0) ∧
    ((catching 2 600).catching = true ∧ (catching 2 600).hcodecTalk = false) ∧ base.catching = false ∧
    (muted.muteOn = true ∧ 20000 ≤ 20000) ∧ (base.muteOn = false ∧ 50000 ≤ 50000) := by decide +kernel

/-- A catch-up of the beam of microphones 0 and 1, which the mute would silence. -/
def beaming : State := { ((base.set F.HIST_STATUS_MODE 2).set F.MIC_PRIV_MUTE 1) with
  fab := { base.fab with
    stalls := [stall 24 8 0 [], stall 32 6 0 [3]]
    links := [freshLink ⟨0x82, 0, 32, 0, 2, 2, true, 0, 0⟩, freshLink ⟨32, 0, 24, 0, 1, 2, true, 0, 0⟩] } }

/-- The state after a command, if it answers one. -/
def after : Host.Outcome State Fault Refusal → Option State
  | .next t => some t
  | _ => none

theorem witness_WakeTalkAndMute_assert :
    beaming.muteOn = false ∧ beaming.catching = true ∧ beaming.bit F.MIC_PRIV_MUTE (1 / 2) = true ∧
    (after (exec .micMuteAssert beaming)).map State.beamMuted = some true := by decide +kernel

/-- Copy channel 3 has a rectangle under way. -/
def copying (rows : List Nat) (abort : Bool) : State :=
  { base with copy := { base.copy with run := [none, none, none, some ⟨0, 0, 4, 4, 4, .app, rows, abort, 0⟩] } }

theorem witness_PanelInputsAndCopyRows :
    (10000 ≤ 10000 ∧ (base.set (F.GPIO_PIN_EDGE 31) 1).get (F.GPIO_PIN_FUNC 31) = 0 ∧
      (base.set (F.GPIO_PIN_EDGE 31) 1).get (F.GPIO_PIN_EDGE 31) = 1 ∧ base.get F.GPIO_DEBOUNCE_MS * 1000 ≤ 10000000) ∧
    base.get (F.GPIO_PIN_EDGE 31) = 0 ∧
    (base.setB (F.GPIO_ENC_CFG_EN 3) true).getB (F.GPIO_ENC_CFG_EN 3) = true ∧
    (copying [0] false).nextChannel = some 3 ∧ base.nextChannel = none ∧
    ((copying [0] true).copy.run.getD 3 none = some ⟨0, 0, 4, 4, 4, .app, [0], true, 0⟩) ∧
    ((copying [] false).copy.run.getD 3 none = some ⟨0, 0, 4, 4, 4, .app, [], false, 0⟩) := by decide +kernel

theorem witness_LoadsBuildAndStallsStart :
    (wanting.boot.want = some 0 ∧ wanting.fab.running = false ∧ wanting.fab.rampDown = none ∧ wanting.fab.loaded = false) ∧
    (wanting.fullCheck 0 goodEv).1 = 0 ∧ (wanting.fullCheck 0 goodEv).2.isSome = true ∧
    wanting.fullCheck 0 { goodEv with sigOk := false } = (3, none) := by decide +kernel

/-- An image is loaded and its stalls wait for the boundary. -/
def loaded : State := { base with fab := { base.fab with running := false, loaded := true, hidden := true } }

theorem witness_LoadsBuildAndStallsStart_start :
    loaded.fab.image = some image ∧ loaded.fab.loaded = true ∧ loaded.strideOn = true ∧ loaded.fab.rampDown = none :=
  ⟨rfl, rfl, rfl, rfl⟩

/-- The staged swap is to land at a stride that matches `a`; a boundary has matched it already, or not. -/
def aimed (a : Nat) (passed : Bool) : State := { staged with swap := { staged.swap with atStride := some a, passed := passed } }

theorem witness_SwapsLandRunAndEnd_land :
    (staged.get F.FAB_SWAP_STATUS_STATE = 2 ∧ (staged.partialCheck goodEv).1 = 0 ∧ (staged.partialCheck goodEv).2.isSome = true ∧
      staged.swap.atStride = none ∧ staged.swap.passed = false ∧
      staged.partialCheck { goodEv with sigOk := false } = (3, none)) ∧
    ((aimed 0x4243 false).get F.FAB_SWAP_STATUS_STATE = 2 ∧ ((aimed 0x4243 false).partialCheck goodEv).1 = 0 ∧
      ((aimed 0x4243 false).partialCheck goodEv).2.isSome = true ∧ (aimed 0x4243 false).swap.atStride ≠ none ∧
      (aimed 0x4243 false).count + 2 < (aimed 0x4243 false).swapStride) ∧
    ((aimed 0x4242 false).get F.FAB_SWAP_STATUS_STATE = 2 ∧ ((aimed 0x4242 false).partialCheck goodEv).1 = 0 ∧
      ((aimed 0x4242 false).partialCheck goodEv).2.isSome = true ∧ (aimed 0x4242 false).swap.atStride ≠ none ∧
      (aimed 0x4242 false).swapStride ≤ (aimed 0x4242 false).count + 2) ∧
    (((aimed 0x4240 true).partialCheck goodEv).1 = 0 ∧ ((aimed 0x4240 true).partialCheck goodEv).2.isSome = true ∧
      (aimed 0x4240 true).swap.passed = true) ∧ 15 < 16 := by decide +kernel

/-- A swap of region 0 that waits for boundary S, which is now, or runs since `k` strides. -/
def swapping (st k : Nat) : State := { staged.set F.FAB_SWAP_STATUS_STATE st with
  swap := { staged.swap with img := some { image with regions := [⟨0, true, 0, 0x100⟩], stalls := [stallRec 8 12 0 [1, 1, 0, 0]], links := [] }
                             at_ := some 1000000, k := k } }

theorem witness_SwapsLandRunAndEnd_run :
    ((swapping 3 0).swap.img.isSome = true ∧ (swapping 3 0).fab.image.isSome = true ∧ (swapping 3 0).get F.FAB_SWAP_STATUS_STATE = 3 ∧
      (swapping 3 0).swap.at_ = some (swapping 3 0).stride ∧ (swapping 3 0).swap.img.map (·.params) = some []) ∧
    ((swapping 4 40).get F.FAB_SWAP_STATUS_STATE = 4 ∧ 40 ≤ (swapping 4 40).swap.k) := by decide +kernel

/-! ### Witnesses: the stride and the fabric -/

theorem witness_StrideBoundaryTakesItsParts :
    (State.reset.strideOn = false ∧ State.reset.getB F.CLK_STATUS_MEDIA_LOCK = false) ∧
    (base.strideOn = true ∨ base.getB F.CLK_STATUS_MEDIA_LOCK = true) := by decide

/-- A fabric of one BYPASS stall 127 and a link from it, layer 0 ending at 900, the cap at 20 MHz. -/
def oneStall (u : Stall) : State := { (base.set (F.FAB_LAYER_END_END 0) 900).set F.FAB_CLK_CAP_ACTIVE_CAP 2 with
  fab := { base.fab with stalls := [u], links := [⟨⟨127, 0, 0x81, 0, 1, 2, true, 0, 0⟩, [[[2, 4, 6, 8, 10, -12]]], false, false, false⟩] } }

/-- That stall, which has started or not. -/
def bypass (started : Bool) : Stall :=
  { stall 127 12 0 [1, 1, 0, 0] with started := started, outs := [[[1, 2, 3, 4, 5, 6]]] }

theorem witness_StallsComputeAndCommit :
    ((oneStall (bypass false)).stallAt 127 = some (bypass false) ∧ (oneStall (bypass false)).stallRuns 127 = true ∧
      (bypass false).started = false ∧ (bypass false).owes = 0 ∧ (oneStall (bypass false)).stallReady (bypass false) = true ∧
      (oneStall (bypass false)).inputsReady 127 = true ∧ (bypass false).cfg.slice = 0 ∧
      (bypass false).cfg.template ∉ [3, 4, 8]) ∧
    ((oneStall { bypass false with owes := 1 }).stallAt 127 = some { bypass false with owes := 1 } ∧
      (oneStall { bypass false with owes := 1 }).stallRuns 127 = true) ∧
    ((oneStall (bypass true)).stallAt 127 = some (bypass true) ∧ (oneStall (bypass true)).stallRuns 127 = true ∧
      (bypass true).started = true ∧ (bypass true).worked = false ∧ (bypass true).owes = 0 ∧
      (bypass true).committed = false ∧ (bypass true).lateNow = false ∧ (bypass true).fellBack = false ∧
      (bypass true).cfg.template ≠ 3 ∧ (bypass true).cfg.template ≠ 4 ∧ (bypass true).cfg.slice = 0 ∧
      (bypass true).force = false) ∧
    900 ≤ (oneStall (bypass true)).get (F.FAB_LAYER_END_END 0) ∧ (oneStall (bypass true)).get (F.FAB_LAYER_END_END 0) < 901 := by
  decide +kernel

theorem witness_LateStallsAndTheirClocks_late :
    State.reset.fab.running = false ∧
    ((oneStall (bypass true)).fab.running = true ∧ (oneStall (bypass true)).fab.stalls = [bypass true] ∧
      (bypass true).layer = (0 : Fin 8).val ∧ (bypass true).fellBack = false ∧ (oneStall (bypass true)).lame 127 = false ∧
      (bypass true).force = false ∧ (bypass true).committed = false ∧ (bypass true).cfg.slice = 0) ∧
    { bypass true with force := true }.force = true ∧
    ((oneStall (bypass true)).setBit (F.FAB_LAME_MASK_LAME 3) 31 true).lame 127 = true ∧
    ({ bypass true with committed := true }.committed = true ∧ { bypass true with committed := true }.lateNow = false) ∧
    ((bypass true).cfg.fallback = 2 ∧ { (bypass true).cfg with fallback := 1 }.fallback = 1 ∧
      { (bypass true).cfg with fallback := 0 }.fallback = 0) := by decide +kernel

/-- A stall at setpoint `cur`, whose smallest slack of the window is `m`, `n` strides after its start. -/
def slackened (cur m n : Nat) : Stall := { bypass true with since := 1000000 - n, nextSet := some cur, slacks := [(999999, m)] }

theorem witness_LateStallsAndTheirClocks_clocks :
    ((oneStall (slackened 16 179 8000)).stallAt 127 = some (slackened 16 179 8000) ∧
      (oneStall (slackened 16 179 8000)).stallRuns 127 = true ∧ (slackened 16 179 8000).since < 1000000 ∧
      (1000000 - (slackened 16 179 8000).since) % 8000 = 0 ∧
      minSlack 1000000 8000 (slackened 16 179 8000).slacks = some 179 ∧
      (oneStall (slackened 16 179 8000)).layerLength 0 ≤ 5 * 179 ∧ lateBefore 1000000 (slackened 16 179 8000).lateAt = [] ∧
      (slackened 16 179 8000).cfg.clockMin < 16) ∧
    ((1000000 - (slackened 1 44 64).since) % 64 = 0 ∧ minSlack 1000000 64 (slackened 1 44 64).slacks = some 44 ∧
      20 * 44 < (oneStall (slackened 1 44 64)).layerLength 0 ∧
      1 < (oneStall (slackened 1 44 64)).get F.FAB_CLK_CAP_ACTIVE_CAP) := by decide +kernel

/-! ### Witnesses: balances, converters, TDM and echo -/

/-- A balance of channel 3 at step `st`, whose boundary B was `n` strides ago. -/
def balancing (st n : Nat) : State := { (base.setB (F.HYB_BAL_STATUS_BUSY 3) true).set (F.HYB_BAL_STATUS_STEP 3) st with
  line := { base.line with bal := base.line.bal.set 3 ⟨1000000 - n, 5, 6, true, true, false, 0, 0, none⟩ } }

theorem witness_BalanceRunsAndEnds :
    ((balancing 0 0).getB (F.HYB_BAL_STATUS_BUSY 3) = true ∧ (balancing 0 0).get (F.HYB_BAL_STATUS_STEP 3) = 0) ∧
    ((balancing 2 160).get (F.HYB_BAL_STATUS_STEP 3) = 2 ∧ ((balancing 2 160).bal 3).at_ + 160 ≤ (balancing 2 160).stride ∧
      (-300 : Int) < -299 ∧ (-300 : Int) ≤ -300) ∧
    ((balancing 4 1760).get (F.HYB_BAL_STATUS_STEP 3) = 4 ∧ ((balancing 4 1760).bal 3).at_ + 1760 ≤ (balancing 4 1760).stride ∧
      (balancing 4 1760).line.bal.length = 4 ∧
      (189 < 190 ∨ 830 < 189 ∨ 3150 < 0) ∧ 190 ≤ 190 ∧ 190 ≤ 830 ∧ 3150 ≤ 3150 ∧ 200 ≤ 830 ∧ (830 - 200) % 20 ≠ 0 + 11 ∧
      (829 - 200) % 20 ≠ 10 ∧ 3149 % 100 ≠ 50) ∧
    ((balancing 6 4160).get (F.HYB_BAL_STATUS_STEP 3) = 6 ∧ ((balancing 6 4160).bal 3).at_ + 4160 ≤ (balancing 6 4160).stride) ∧
    ((balancing 7 4960).get (F.HYB_BAL_STATUS_STEP 3) = 7 ∧ ((balancing 7 4960).bal 3).at_ + 4960 ≤ (balancing 7 4960).stride ∧
      (balancing 7 4960).line.driveR.length = 4) := by decide +kernel

/-- Channel 3's port was resolved 1 s ago, with AUTO_BAL. -/
def resolved : State := { base.setB (F.HYB_CH_CFG_AUTO_BAL 3) true with
  line := { base.line with resolvedAt := [none, none, none, some 992000] } }

theorem witness_BalanceRunsAndEnds_auto :
    resolved.line.resolvedAt.getD 3 none = some 992000 ∧ resolved.getB (F.HYB_CH_CFG_AUTO_BAL 3) = true ∧
    992000 + 8000 ≤ resolved.stride := by decide +kernel

/-- The speaker runs, having tripped at the strides `l`. -/
def speaking (l : List Nat) : State := { base.setB F.CONV_SPK_RUNNING true with
  line := { base.line with hsGain := 5, spkTrips := l, spkTripped := true } }

/-- An interrupt duck of output 255 whose talk ended `n` strides ago. -/
def ducking (n : Nat) : State := { base with
  tg := { base.tg with ducks := [⟨.interrupt, 255, [], some (1000000 - n)⟩, ⟨.allCall, 255, [], none⟩] } }

theorem witness_ConvertersAndDucks :
    (false = true ∨ 10 ≤ 10) ∧ ((speaking []).line.hsGain < (base.set F.CONV_HSMIC_GAIN 6).get F.CONV_HSMIC_GAIN ∧
      (base.set F.CONV_HSMIC_GAIN 4).get F.CONV_HSMIC_GAIN < (speaking []).line.hsGain) ∧
    ((speaking [992001, 992002]).getB F.CONV_SPK_RUNNING = true ∧ 5000 < 5001) ∧
    ((speaking []).line.spkTripped = true ∧ 100 ≤ 100) ∧
    (⟨.interrupt, 255, [], some (1000000 - 1)⟩ ∈ ((ducking 1).set F.TG_PRIO_HANG_MS 0).tg.ducks ∧
      (1000000 - 1) + 8 * ((ducking 1).set F.TG_PRIO_HANG_MS 0).get F.TG_PRIO_HANG_MS < (ducking 1).stride) := by decide +kernel

/-- A TDM port with `n` frames received and one sample to send, which has seen frames of `b` BCLK periods. -/
def tdmPort (n b : Nat) : TdmPort := ⟨List.replicate n [], [[1]], [], b, 7⟩

/-- TDM port 3 is claimed and enabled, as a master or not. -/
def tdm (m : Bool) (q : TdmPort) : State := { (base.setB (F.TDM_CFG_EN 3) true).setB (F.TDM_CFG_MASTER 3) m with
  fab := { base.fab with image := some { image with claims := ⟨3, 1, 0, 2, 2, 2, 2, 8, 5, 0⟩ } }
  line := { base.line with tdm := base.line.tdm.set 3 q } }

theorem witness_TdmFramesAreTaken :
    (base.tdmClaimed 3 = false ∧ (tdm true (tdmPort 11 0)).tdmClaimed 3 = true ∧
      (tdm true (tdmPort 11 0)).getB (F.TDM_CFG_EN 3) = true ∧ (tdm true (tdmPort 11 0)).line.tdm[3]? = some (tdmPort 11 0) ∧
      (tdmPort 11 0).rx.length < 12 ∧ (tdm true (tdmPort 11 0)).getB (F.TDM_CFG_MASTER 3) = true) ∧
    ((tdm false (tdmPort 11 512)).line.tdm[3]? = some (tdmPort 11 512) ∧ (tdm false (tdmPort 11 512)).tdmNeeds 3 ≤ 512 ∧
      (tdm false (tdmPort 11 512)).getB (F.TDM_CFG_MASTER 3) = false) ∧
    ((tdmPort 11 512).lastBclk ≠ 0 ∧ (tdmPort 11 512).lastBclk ≠ 511 ∧ 23 < (tdm false (tdmPort 11 0)).tdmNeeds 3) ∧
    ((tdm false (tdmPort 12 512)).line.tdm[3]? = some (tdmPort 12 512) ∧ 12 ≤ (tdmPort 12 512).rx.length ∧
      (tdm false (tdmPort 12 512)).tdmNeeds 3 ≤ 512 ∧ (tdmPort 12 512).lastBclk = 512) := by decide +kernel

/-- Echo instance 0, its stall committed, with double talk, divergence and a good ERLE since `n` strides, due now. -/
def echoing (n : Nat) : State := { (base.set (F.ECHO_STATUS_STATE 0) 1) with
  fab := { base.fab with stalls := [{ stall 8 3 0 [0, 1] with started := true, committed := true }] }
  echo := ⟨[{ freshEcho 0 0 false with
    heard := true, dtdAt := some (1000000 - n), divSince := some (1000000 - n), erleSince := some (1000000 - n)
    dueAt := 1000000, lastResult := 998000, adapted := 1000, talked := 500 }]⟩ }

theorem witness_EchoStatesAndResults :
    (((echoing 2400).echoInst 0).isSome = true ∧ ((echoing 2400).echoInst 0).map (·.dtdAt) = some (some 997600) ∧
      997600 + 8 * (echoing 2400).get (F.ECHO_DTD_HANG 0) ≤ (echoing 2400).stride) ∧
    (((echoing 799).echoInst 0).map (·.divSince) = some (some 999201) ∧ 999201 + 800 ≤ (echoing 799).stride + 1) ∧
    (((echoing 3999).echoInst 0).map (·.erleSince) = some (some 996001) ∧ 996001 + 4000 ≤ (echoing 3999).stride + 1 ∧
      (echoing 3999).get (F.ECHO_STATUS_STATE 0) = 1) ∧
    (((echoing 0).echoStall 0).isSome = true ∧ ((echoing 0).echoInst 0).map (·.dueAt) = some 1000000 ∧
      1000000 ≤ (echoing 0).stride ∧ 998000 < (echoing 0).stride ∧
      ((echoing 0).echoStall 0).map (fun u => ((echoing 0).slices u).any (fun v => v.lateNow || !v.committed)) = some false) := by
  decide +kernel

/-! ### Witnesses: the ring -/

/-- A node on the ring in state `st`, both ring links up at 1 Gb/s. -/
def ring (st : Nat) : State := { ((((((ringing.set F.RING_STATE_STATE st).setB (F.MAC_STATUS_LINK 0) true).set (F.MAC_STATUS_SPEED 0) 2).setB
    (F.MAC_STATUS_LINK 1) true).set (F.MAC_STATUS_SPEED 1) 2).setB F.RING_CTRL_CANDIDATE true).set F.RING_ID_RING_NUMBER 9 with
      ring := { base.ring with number := 9 } }

/-- A beam and a control frame with every field at the top of its range. -/
def topBeam : Beam := ⟨3, true, true, true, true, 255, 255, 2 ^ 32 - 1, 2 ^ 24 - 1, 255, 4, 65535, 2 ^ 32 - 1, 2 ^ 32 - 1, 2 ^ 32 - 1,
  2 ^ 32 - 1, 2 ^ 32 - 1, [2 ^ 32 - 1]⟩

/-- A control frame of type `ty` from sender 7, after `hops` hops. -/
def ctl (ty hops : Nat) (body : List Byte) : Ctl := ⟨ty, 7, true, 255, hops, 65535, 2 ^ 48 - 1, 65535, body⟩

theorem witness_RingFramesReadBack :
    (1 ≤ topBeam.typ ∧ topBeam.typ ≤ 3 ∧ topBeam.ring < 2 ^ 8 ∧ topBeam.lighthouse < 2 ^ 8 ∧ topBeam.stride < 2 ^ 32 ∧
      topBeam.offset < 2 ^ 24 ∧ topBeam.epoch < 2 ^ 8 ∧ topBeam.length = 4 * topBeam.payload.length ∧ topBeam.length < 2 ^ 16 ∧
      topBeam.adders < 2 ^ 16 ∧ topBeam.talk < 2 ^ 32 ∧ topBeam.int_ < 2 ^ 32 ∧ topBeam.all < 2 ^ 32 ∧ topBeam.call < 2 ^ 32 ∧
      topBeam.bitmap < 2 ^ 32 ∧ ∀ w ∈ topBeam.payload, w < 2 ^ 32) ∧
    (4 ≤ (ctl 6 255 [1]).typ ∧ (ctl 6 255 [1]).typ ≤ 6 ∧ (ctl 6 255 [1]).cls < 8 ∧ (ctl 6 255 [1]).ring < 2 ^ 8 ∧
      (ctl 6 255 [1]).hops < 2 ^ 8 ∧ (ctl 6 255 [1]).sender < 2 ^ 16 ∧ (ctl 6 255 [1]).stride < 2 ^ 48 ∧
      (ctl 6 255 [1]).seq < 2 ^ 16 ∧ (ctl 6 255 [1]).body.length < 2 ^ 16) := by decide +kernel

theorem witness_WilnanFramesAreDispatched :
    (⟨8, 5, false, [], 0, 14, false⟩ : EthHdr).da % 256 ≠ (ring 1).ring.number ∧
    ((⟨9, 0, false, [], 0, 14, false⟩ : EthHdr).da % 256 = (ring 1).ring.number ∧ 0 = (ring 1).macAddr 0) ∧
    (ring 1).ctlOk (1 - 0) = true ∧ base.ctlOk (1 - 0) = false ∧
    (5 ≠ (ring 1).macAddr 0 ∧ 5 ≠ (ring 1).macAddr 1 ∧ (ctl 4 255 []).hops = 255 ∧ (ctl 4 254 []).hops ≠ 255 ∧
      (ctl 4 254 []).typ = 4 ∧ (ctl 5 254 []).typ = 5 ∧ (ctl 6 254 []).typ = 6) := by decide +kernel

/-- A GATE of MAC `mac` with flags `flags`. -/
def gate (mac flags : Nat) : Ctl := ctl 4 0 (gateBody mac 1 100 flags 3 5)

/-- A beam that awaits its verdict on port B. -/
def pending_ : PendRx := ⟨1, topBeam, true, true, false, false, false, 0, 0, false, [], none⟩

/-- A lighthouse with a waiting GATE, a member and a beam under way. -/
def lighthouse : State := { ring 2 with
  ring := { (ring 2).ring with
    gates := [⟨77, 1, 0, 3, 5, 0, 999999⟩], members := [⟨255, 88, 1, 1000000 - 16384⟩], launchedAt := some 999999
    pend := [pending_] } }

/-- The lighthouse has launched at stride `k`. -/
def launched (k : Nat) : State := { lighthouse with ring := { lighthouse.ring with launchedAt := some k } }

theorem witness_LighthouseLaunchesAndAnswers :
    bitOf (beAt (gate 88 0x40).body 9 1) 6 = true ∧
    (bitOf (beAt (gate 77 0).body 9 1) 6 = false ∧ bitOf (beAt (gate 77 0).body 9 1) 5 = false ∧
      (∃ g ∈ lighthouse.ring.gates, g.mac = beAt (gate 77 0).body 0 6) ∧ ∀ g ∈ lighthouse.ring.gates, g.mac ≠ beAt (gate 66 0).body 0 6) ∧
    (lighthouse.ringOn = true ∧ lighthouse.ringState = 2 ∧ lighthouse.strideOn = true ∧
      lighthouse.ring.launchedAt ≠ some lighthouse.stride ∧
      (lighthouse.getB F.RING_STATE_SLACK = false ∨ lighthouse.count % 80 = 0) ∧ lighthouse.getB F.RING_WRAP_WRAPPED = false ∧
      lighthouse.portDead 0 = false) ∧
    ((launched 1000000).ringOn = true ∧ (launched 1000000).musterStride = true ∧
      (launched 1000000).ring.launchedAt = some (launched 1000000).stride ∧
      (launched 1000000).ring.musterAt ≠ some (launched 1000000).stride) ∧
    (lighthouse.ring.members.find? (fun x => x.id = 255) = some ⟨255, 88, 1, 983616⟩ ∧ 983616 + 16384 ≤ lighthouse.stride) ∧
    lighthouse.ring.pend.find? (fun x => x.port = 1) = some pending_ := by
  decide +kernel

/-- A node in gate that the beam of this stride admits as node 255, RET B ending `e` ns after the boundary. -/
def admitted (e : Nat) : State := { ring 0 with ring := { (ring 0).ring with admission := some (1000000, 255), lastE := e } }

/-- A member with phases `p` and `q`, beam A arriving `a` ns and RET B ending `e` ns after the boundary. -/
def phased (p q a e : Nat) : State :=
  { (((ring 1).set F.RING_PHASE_P p).set F.RING_PHASE_Q q).set F.RING_ARRIVAL_A a with ring := { (ring 1).ring with lastE := e } }

theorem witness_MembersAdmittedAndPhased :
    ((admitted 1998000).ring.admission = some (1000000, 255) ∧ (admitted 1998000).ringOn = true ∧
      ((admitted 1998000).ringState = 0 ∨ (admitted 1998000).ringState = 3) ∧
      (admitted 1998000).beamAt 1000000 ≤ (admitted 1998000).stride ∧ (admitted 1998000).ring.foreign = false ∧
      phaseQ (admitted 1998000).ring.lastE ≤ 16) ∧ 16 < phaseQ (admitted 2000000).ring.lastE ∧
    ((ring 1).ringLink 1 = true ∧ (ring 1).portDead 1 = false ∧ (ring 1).ringState ≠ 2) ∧ (1000 < 1001 ∧ 200 < 201 ∧ 1999 < 2000) ∧
    ((phased 1 15 125999 1000000).ringOn = true ∧ (phased 1 15 125999 1000000).ringState = 1 ∧
      (phased 1 15 125999 1000000).musterStride = true ∧
      (phased 1 15 125999 1000000).ring.checkedAt ≠ some (phased 1 15 125999 1000000).stride ∧
      (phased 1 15 125999 1000000).get F.RING_PHASE_Q ≤ 15 ∧ 125999 < 125000 * 1 + 1000 ∧ 1000000 + 126000 < 125000 * 15) ∧
    ((phased 1 15 251001 1874001).get F.RING_ARRIVAL_A = 251001 ∧ 125000 * 1 + 126000 < 251001 ∧ 125000 * 15 < 1874001 + 1000) ∧
    (125000 * 1 + 1000 ≤ 251000 ∧ 251000 ≤ 125000 * 1 + 126000 ∧ 1874000 + 1000 ≤ 125000 * 15 ∧ 125000 * 15 ≤ 1749000 + 126000) ∧
    ((phased 1 16 126000 1999001).get F.RING_PHASE_Q = 16 ∧ 125000 * 16 < 1999001 + 1000 ∧ 1999000 + 1000 ≤ 125000 * 16) := by
  decide +kernel

/-- A claimant whose last claim was 8 strides ago. -/
def claimant : State := { ring 0 with ring := { (ring 0).ring with claiming := true, lastClaim := 999992 } }

/-- A silent lighthouse without a waiting GATE, in slack or not, and woken at a stride or not. -/
def silent (slack : Bool) (wake : Option Nat) : State := { (ring 2).setB F.RING_STATE_SLACK slack with
  ring := { (ring 2).ring with zeroSince := 992000, slackWake := wake } }

/-- A node with an open foghorn, another's announcement, and two releases to send. -/
def fog (open_ : Bool) (at_ : Nat) : State := { ring 1 with
  ring := { (ring 1).ring with fogOpen := open_, fogAt := at_, fogLeft := 2, live := [⟨5, 1, 999808⟩, ⟨6, 1, 999809⟩] } }

theorem witness_ClaimsSlackAndFoghorns :
    ((ring 0).ringOn = true ∧ (ring 0).ringHeld = false ∧ (ring 0).ringState = 0 ∧ (ring 0).getB F.RING_CTRL_CANDIDATE = true ∧
      (ring 0).ring.known = false ∧ (ring 0).ring.claiming = false ∧ (ring 0).ring.winning = false ∧
      (ring 0).ring.foreign = false ∧
      (ring 0).ring.enAt + 64 ≤ (ring 0).stride) ∧
    (claimant.ringOn = true ∧ claimant.ring.claiming = true ∧ claimant.getB F.RING_CTRL_CANDIDATE = true ∧
      claimant.ring.lastClaim + 8 ≤ claimant.stride) ∧
    ((silent false none).ringOn = true ∧ (silent false none).ringState = 2 ∧
      (silent false none).getB F.RING_CTRL_SLACK_EN = true ∧ (silent false none).getB F.RING_STATE_SLACK = false ∧
      (silent false none).ring.gates = [] ∧ (silent false none).ring.zeroSince + 8000 ≤ (silent false none).stride) ∧
    ((silent true (some 999999)).ringState = 2 ∧ (silent true (some 999999)).getB F.RING_STATE_SLACK = true ∧
      (silent true (some 999999)).ring.slackWake = some 999999 ∧ 999999 < (silent true (some 999999)).stride) ∧
    ((fog true 999936).ring.fogOpen = true ∧ (fog true 999936).ring.fogAt + 64 ≤ (fog true 999936).stride) ∧
    (0 < (fog false 999992).ring.fogLeft ∧ (fog false 999992).ring.fogAt + 8 ≤ (fog false 999992).stride) := by decide +kernel

/-- Port A has sent two consecutive wrapped beams without a TURN, ring lost its lighthouse 24 strides ago. -/
def lost : State := { ring 1 with
  ring := { (ring 1).ring with known := true, lastValid := 999976, outs := [⟨100, false, false, true, 0⟩, ⟨101, false, false, true, 0⟩] } }

/-- A wrapped lighthouse whose pair of 20 strides ago has not ended, and whose MUSTERs crossed. -/
def wrapped : State := { (ring 2).setB F.RING_WRAP_WRAPPED true with
  ring := { (ring 2).ring with launches := [⟨999980, [0], [], true, false, false⟩], crossed := [⟨1, [0], [1]⟩, ⟨2, [0], [1]⟩, ⟨3, [0], [1]⟩] } }

/-- A lighthouse that is to wrap: a beam was found missing, those of stride `k` and the next are overdue, and a node leaves. -/
def due (k : Nat) : State := { (ring 2).set F.RING_LAP_LAP 1 with
  ring := { (ring 2).ring with wrapDue := true, unreturned := [k, k + 1], wrapAt := some 1000000 } }

theorem witness_LinksWrapsAndHeals :
    (base.domOn 5 = true ∧ base.getB F.CLK_STATUS_REF_LOST = false ∧ base.ringOn = false) ∧
    ((listening.domOn 7 = true ∧ listening.getB (F.MAC_STATUS_LINK 2) = true) ∧ listening.net.ports.length = 3) ∧
    ((ring 1).domOn 5 = true ∧ (ring 1).getB (F.MAC_STATUS_LINK 0) = true ∧ (ring 1).getB F.CLK_STATUS_REF_LOST = false ∧
      (ring 1).ringOn = true ∧ (ring 1).net.ports.length = 3) ∧
    ((due 999980).ringOn = true ∧ (due 999980).ringState = 2 ∧ (due 999980).getB F.RING_WRAP_WRAPPED = false ∧
      (due 999980).ring.wrapDue = true ∧ (due 999980).overdue = true ∧ (due 999980).ring.wrapAt = some 1000000) ∧
    (lost.ringOn = true ∧ lost.portDead 0 = false ∧ ⟨100, false, false, true, 0⟩ ∈ lost.ring.outs ∧
      ⟨101, false, false, true, 0⟩ ∈ lost.ring.outs ∧ lost.unturned 0 ⟨100, false, false, true, 0⟩ = true ∧
      lost.unturned 0 ⟨101, false, false, true, 0⟩ = true ∧ 101 = (100 + lost.beamStep) % 2 ^ 32) ∧
    (((ring 2).set (F.RING_PORT_ROLE 1) 1).ringState = 2 ∧ ((ring 2).set (F.RING_PORT_ROLE 1) 1).getB F.RING_WRAP_WRAPPED = false ∧
      ((ring 2).set (F.RING_PORT_ROLE 1) 1).portDead 1 = true) ∧
    (⟨999980, [0], [], true, false, false⟩ ∈ wrapped.ring.launches ∧ 999980 + 16 ≤ wrapped.stride) ∧
    (wrapped.ringOn = true ∧ wrapped.ringState = 2 ∧ wrapped.getB F.RING_WRAP_WRAPPED = true ∧ wrapped.musterStride = true ∧
      wrapped.ring.crossed = [⟨1, [0], [1]⟩, ⟨2, [0], [1]⟩, ⟨3, [0], [1]⟩]) ∧
    (lost.ringState ≠ 2 ∧ lost.ring.known = true ∧ lost.ring.lastValid + (if lost.ring.slackSeen then 240 else 24) ≤ lost.stride) := by
  decide +kernel

/-! ### Witnesses: calls and lamps -/

/-- Port A sources; the detectors `d` have counted. -/
def calling (d : List Det) : State := { ((source 4000 5 1).setB (F.CALL_CH_CFG_TONE_EN 1) true).setB (F.CALL_CH_CFG_DC_EN 1) true with
  call := { (source 4000 5 1).call with
    dets := d, gen := [none, some (999200, false), none, none], stopAt := [none, some 999680, none, none], sendAt := [(63, 992000)] } }

/-- Call detector 3 serves inputs 16 to 19. -/
def farCall : State := { base with
  fab := { base.fab with stalls := [stall 16 9 0 [3, 4, 200, 15, 40]] }, call := { base.call with dets := [⟨19, false, 160, 0, none, 30⟩] } }

theorem witness_CallsStartAndEnd :
    ((calling [⟨1, true, 160, 0, none, 5000⟩]).detOn 1 true = true ∧ ((calling [⟨1, true, 160, 0, none, 5000⟩]).det 1 true).startAt = none ∧
      160 ≤ ((calling [⟨1, true, 160, 0, none, 5000⟩]).det 1 true).qual) ∧
    ((calling [⟨1, false, 160, 0, none, 5⟩]).detOn 1 false = true ∧ 160 ≤ ((calling [⟨1, false, 160, 0, none, 5⟩]).det 1 false).qual) ∧
    (farCall.detOn 19 false = true ∧ (farCall.det 19 false).startAt = none ∧ 160 ≤ (farCall.det 19 false).qual) ∧
    (((calling [⟨3, true, 0, 320, some 0, 5⟩]).det 3 true).startAt = some 0 ∧
      320 ≤ ((calling [⟨3, true, 0, 320, some 0, 5⟩]).det 3 true).unqual ∧ 3 < 4) ∧
    (((calling [⟨1, true, 9, 0, some 920000, 5⟩]).det 1 true).startAt = some 920000 ∧
      920000 + 80000 ≤ (calling [⟨1, true, 9, 0, some 920000, 5⟩]).stride ∧
      (calling [⟨1, true, 9, 0, some 920000, 5⟩]).getB (F.CALL_CH_STATUS_STUCK 1) = false) := by decide +kernel

theorem witness_CallsStartAndEnd_generation :
    ((calling []).call.gen.getD 1 none = some (999200, false) ∧ 999200 + 800 ≤ (calling []).stride ∧ (calling []).callDue 1 = false) ∧
    ((calling []).setBit F.CALL_LINE_SEND_SEND 1 true).callDue 1 = true ∧
    ((calling []).call.stopAt.getD 1 none = some 999680 ∧ 999680 + 320 ≤ (calling []).stride ∧ (calling []).generating 1 = false) := by
  decide +kernel

/-- Group 63's SEND bit has stood for a second, the limit; lamp 3 is lit. -/
def sending : State := (((calling []).setBit (F.CALL_SEND_SEND 1) 31 true).set F.CALL_TIMING_SEND_MAX_S 1).setBit F.LAMP_STATUS_ON 3 true

theorem witness_SendTimeoutAndLamps :
    (sending.call.sendAt.lookup 63 = some 992000 ∧ sending.bit (F.CALL_SEND_SEND (63 / 32)) (63 % 32) = true ∧
      sending.get F.CALL_TIMING_SEND_MAX_S ≠ 0 ∧ 992000 + 8000 * sending.get F.CALL_TIMING_SEND_MAX_S ≤ sending.stride) ∧
    (sending.bit F.LAMP_STATUS_ON 3 = true ∧ 6000 < 6001 ∧ 100 ≤ 100) ∧ 4999 < 5000 := by decide +kernel

/-! ### Witnesses: MAC, MACsec, interop streams, PTP and commits -/

/-- Every port linked at full duplex and 1 Gb/s, low-power idle allowed; port C holds a CAK and the queues of `image`. -/
def linked : State :=
  { ((((((base.setB (F.MAC_STATUS_LINK 0) true).setB (F.MAC_STATUS_LINK 1) true).setB (F.MAC_STATUS_LINK 2) true).set
      (F.MAC_STATUS_SPEED 0) 2).set (F.MAC_STATUS_SPEED 2) 2).setB (F.MAC_EEE_EN 2) true).setB F.HOST_NET_CFG_EN true with
    net := { base.net with sec := [⟨none, 0, none, none, none, false, 1, 0, 0⟩, ⟨none, 0, none, none, none, false, 1, 0, 0⟩,
      ⟨some 5, 1, some 3, some 2, some 3, true, 77, 6, 5⟩] } }

/-- Frames wait at port `p`: `l`, with their queues. -/
def sendingOn (p : Fin 3) (l : List (Nat × List Byte)) (left : Option (Nat × Nat)) : State :=
  linked.updMac p (fun m => { m with txq := l, lpiLeft := left })

/-- A received frame of 60 bytes and FCS, to `da`, of EtherType `ety`. -/
def rxf (da ety : Nat) : RxFrame := ⟨padBytes 60 (ethFrame da 9 ety [0, 1, 255, 255]), [], 0, true, true, false, false⟩

theorem witness_FramesPassTheMac_framesAreReceived_dropped :
    base.carries 2 = false ∧ linked.carries 0 = true ∧ linked.carries 2 = true ∧
    ((1 : Fin 3).val < 2 ∧ (ethHdr (rxf 0x0B5658000009 (linked.get F.RING_ETYPE_ETYPE)).bytes).etype =
      linked.get F.RING_ETYPE_ETYPE) ∧
    (linked.acceptFrame 2 (rxf 0x0A0000000001 0x888E)).2 = false := by decide +kernel

theorem witness_FramesPassTheMac_framesAreReceived_accepted :
    ((linked.acceptFrame 2 (rxf 0x0180C2000001 0x8808)).2 = true ∧ (ethHdr (rxf 0x0180C2000001 0x8808).bytes).etype = 0x8808 ∧
      (ethHdr (rxf 0x0180C2000001 0x8808).bytes).secTag = false ∧
      (ethHdr (rxf 0x0180C2000001 0x8808).bytes).etype ≠ linked.get F.RING_ETYPE_ETYPE) ∧
    ((linked.acceptFrame 0 (rxf 0x0180C2000003 0x888E)).2 = true ∧ (ethHdr (rxf 0x0180C2000003 0x888E).bytes).etype ≠ 0x8808 ∧
      (ethHdr (rxf 0x0180C2000003 0x888E).bytes).etype ≠ linked.get F.RING_ETYPE_ETYPE ∧
      ((linked.acceptFrame 0 (rxf 0x0180C2000003 0x888E)).1.macsecCheck 0 (rxf 0x0180C2000003 0x888E)).2 = true) := by decide +kernel

/-- Port C is paused for 3 quanta. -/
def paused : State := (linked.setB (F.MAC_STATUS_PAUSED 2) true).updMac 2 (fun m => { m with pauseQ := 3 })

theorem witness_FramesPassTheMac_pausesEnd :
    (paused.getB (F.MAC_STATUS_PAUSED 2) = true ∧ 512 * (paused.mac 2).pauseQ ≤ 1536) ∧
    (paused.get (F.MAC_PAUSE_WATCHDOG_MS 2) ≤ 65535 ∧ paused.net.ports.length = 3) := by decide +kernel

/-- A control frame waits at ring port A. -/
def ringFrame : State := (sendingOn 0 [(5, [9]), (0, [1])] none).setB F.RING_CTRL_ENABLE true

/-- A frame may start at port C before all of it is queued. -/
def starved : State := (sendingOn 2 [(7, List.replicate 65 1)] none).set (F.MAC_TXQ_THRESH_CURRENT 2 7) 1

theorem witness_FramesPassTheMac_framesStart :
    ((sendingOn 2 [(0, [1]), (7, [2, 3])] (some (999999, 0))).nextTx (2 : Fin 3) = some (7, [2, 3]) ∧
      (sendingOn 2 [(0, [1]), (7, [2, 3])] (some (999999, 0))).carries (2 : Fin 3) = true ∧
      (sendingOn 2 [(0, [1]), (7, [2, 3])] (some (999999, 0))).awakeAt (2 : Fin 3) 0 = true ∧
      (sendingOn 2 [(0, [1]), (7, [2, 3])] (some (999999, 0))).getB (F.MAC_STATUS_PAUSED 2) = false ∧ [(2 : Byte), 3].length ≤ 2) ∧
    (ringFrame.nextTx (0 : Fin 3) = some (0, [1]) ∧ ringFrame.carries (0 : Fin 3) = true ∧
      ringFrame.awakeAt (0 : Fin 3) 0 = true ∧
      ringFrame.wireNs (0 : Fin 3) (ringFrame.wireLength (0 : Fin 3) 1) + 1000 ≤ 1512) ∧
    (starved.nextTx (2 : Fin 3) = some (7, List.replicate 65 1) ∧ starved.carries (2 : Fin 3) = true ∧
      starved.awakeAt (2 : Fin 3) 0 = true ∧ starved.getB (F.MAC_STATUS_PAUSED 2) = false ∧
      starved.get (F.MAC_TXQ_THRESH_CURRENT 2 7) ≠ 0 ∧ 64 * starved.get (F.MAC_TXQ_THRESH_CURRENT 2 7) ≤ 64 ∧
      64 < (starved.stampedFrame (2 : Fin 3) (List.replicate 65 1) 0).length) := by decide +kernel

theorem witness_FramesPassTheMac_lowPowerIdle :
    ((linked.mac 2).txq = [] ∧ linked.getB (F.MAC_STATUS_PAUSED 2) = false ∧ linked.get (F.MAC_EEE_IDLE_US 2) ≤ 65535 ∧
      linked.eeeOn 2 = true ∧ linked.getB (F.MAC_STATUS_LPI_TX 2) = false) ∧
    ((((sendingOn 2 [(7, [1])] none).setB (F.MAC_STATUS_LPI_TX 2) true).mac 2).txq ≠ [] ∧
      ((sendingOn 2 [(7, [1])] none).setB (F.MAC_STATUS_LPI_TX 2) true).getB (F.MAC_STATUS_PAUSED 2) = false ∧
      ((sendingOn 2 [(7, [1])] none).setB (F.MAC_STATUS_LPI_TX 2) true).getB (F.MAC_STATUS_LPI_TX 2) = true ∧
      ((sendingOn 2 [(7, [1])] none).setB (F.MAC_STATUS_LPI_TX 2) true).net.ports.length = 3) ∧
    ((linked.setB (F.MAC_STATUS_LPI_TX 0) true).getB (F.MAC_STATUS_LPI_TX 0) = true ∧
      (linked.setB (F.MAC_STATUS_LPI_TX 0) true).getB (F.MAC_STATUS_LPI_TX (1 - 0)) = false ∧
      (linked.setB (F.MAC_STATUS_LPI_TX 0) true).getB F.RING_STATE_SLACK = false ∧
      (linked.setB (F.MAC_STATUS_LPI_TX 0) true).net.ports.length = 3) ∧
    (linked.carries 0 = true ∧ linked.getB (F.MAC_STATUS_LPI_RX 0) = false) := by decide +kernel

/-- A snapshot of ports A and C with every count at its top. -/
def snapping : State := { linked.setB F.STAT_SNAP_STATUS_BUSY true with
  net := { linked.net with snap := [(0, List.replicate 52 1), (2, List.replicate 52 0xFFFFFFFF)] } }

theorem witness_SnapshotsKeysAndMediaTime_snapshotsComplete :
    snapping.getB F.STAT_SNAP_STATUS_BUSY = true ∧ snapping.net.snap ≠ [] ∧
    (∀ x ∈ snapping.net.snap, x.1 < 3 ∧ x.2.length = 52) ∧ (snapping.net.snap.map (·.1)).Nodup := by decide +kernel

/-- The peer of port C is live. -/
def peered : State := linked.setB (F.SEC_MACSEC_PEER_LIVE 2) true

theorem witness_SnapshotsKeysAndMediaTime_macsecKeysMove :
    ((linked.sec 2).nextTx = some 3 ∧ (linked.sec 2).peerHas = true ∧ linked.net.sec.length = 3) ∧
    ((linked.sec 0).cak = none ∧ (linked.sec 1).cak = none ∧ (linked.sec 2).cak.isSome = true ∧ linked.carries 2 = true ∧
      linked.txQueueFor 2 7 = some 7) ∧
    (peered.getB (F.SEC_MACSEC_PEER_LIVE 2) = true ∧ 6000 ≤ 6000) := by decide +kernel

/-- Receive stream 1 has locked to a source and heard nothing for a second; PTP is on. -/
def streaming : State :=
  { (((((linked.setB (F.IOP_RX_CFG_EN 1) true).setB (F.IOP_RX_STATUS_SSRC_LOCKED 1) true).setB F.PTP_CFG_EN true).setB
      F.PTP_MEDIA_SOURCE true).setB F.PTP_STATUS_LOCKED true) with
    net := { linked.net with rx := [IopRx.idle, ⟨none, 992000, 0, 96⟩] } }

theorem witness_SnapshotsKeysAndMediaTime_streamsAndPtpLock :
    (streaming.rxOn (1 : Fin 32) = true ∧ streaming.getB (F.IOP_RX_STATUS_SSRC_LOCKED 1) = true ∧
      (streaming.net.rx.getD 1 IopRx.idle).lockedAt + 8000 ≤ streaming.stride) ∧
    (streaming.getB F.PTP_CFG_EN = true ∧ streaming.domOn 8 = true) ∧ 10000 < (-10001 : Int).natAbs ∧
    ((-10000 : Int).natAbs ≤ 10000 ∧ 1000 ≤ 1000 ∧ 2000 ≤ 2000) ∧ ((10000 : Int).natAbs ≤ 10000 ∧ (1000 < 1001 ∨ 2000 < 2000)) := by
  decide +kernel

theorem witness_SnapshotsKeysAndMediaTime_mediaAlignsAndSteps :
    (streaming.getB F.PTP_MEDIA_SOURCE = true ∧ streaming.getB F.PTP_STATUS_LOCKED = true ∧
      streaming.ringGoverns = false ∧ 65536 % 65536 = 0) ∧
    (streaming.domOn 8 = true ∧ streaming.net.rx ≠ []) := by decide +kernel

/-- Loads of a tack image, firmware and a wake model are done, and nothing runs. -/
def loadedAll : State := { base with
  fab := { base.fab with running := false }, boot := { base.boot with done := [(1, 1), (3, 0), (4, 3)] } }

theorem witness_CommitsAndTrials_commitsActOnTheLastLoad :
    (Alone loadedAll .app 0x10020 ∧ loadedAll.boot.commitDue = none) ∧
    ((bitsOf (0x434D0011#32 : Word).toNat 16 16 = 0x434D ∧ bitOf (0x434D0011#32 : Word).toNat 0 = true ∧
      loadedAll.boot.done.find? (fun d => d.1 = commitSink (0x434D0011#32 : Word).toNat) = some (commitSink (0x434D0011#32 : Word).toNat, 1)) ∧
      bitsOf (0x434D0011#32 : Word).toNat 4 2 = 1 ∧ loadedAll.boot.want = none ∧ loadedAll.fab.loaded = false ∧
      loadedAll.fab.rampDown = none ∧ bitOf (0x434D0011#32 : Word).toNat 6 = false ∧ bitOf (0x434D0051#32 : Word).toNat 6 = true ∧
      bitsOf (0x434D0051#32 : Word).toNat 4 2 = 1) ∧
    (bitsOf (0x434D0023#32 : Word).toNat 4 2 = 2 ∧ loadedAll.boot.done.find? (fun d => d.1 = commitSink (0x434D0023#32 : Word).toNat) =
      some (commitSink (0x434D0023#32 : Word).toNat, 0)) ∧
    (bitsOf (0x434D0031#32 : Word).toNat 4 2 = 3 ∧ loadedAll.boot.done.find? (fun d => d.1 = commitSink (0x434D0031#32 : Word).toNat) =
      some (commitSink (0x434D0031#32 : Word).toNat, 3)) :=
  ⟨⟨alone_ok rfl, by decide +kernel⟩, by decide +kernel, by decide +kernel, by decide +kernel⟩

/-- A firmware image of 208 bytes whose two parts agree. -/
def fwBytes : List Host.Cell := asMemory
  [(0, 0x56), (1, 0x58), (2, 0x46), (3, 0x57), (4, 1), (6, 96), (8, 208), (0x0C, 7), (0x10, 96), (0x18, 96), (0x20, 96), (0x30, 1),
   (0x31, 2), (0x40, 1), (0x41, 2), (96, 255), (97, 1)]

/-- Firmware slot `slot` holds that image, the other nothing. -/
def withFw (slot : Nat) : State := { loadedAll with boot := { loadedAll.boot with fw := [[], []].set slot fwBytes } }

theorem witness_CommitsAndTrials_committedSlotsAreOnTrial :
    ((withFw 1).boot.serials.length = 4 ∧ (withFw 1).boot.states.length = 4) ∧
    (fwFormatOk ((withFw 1).boot.fw.getD 1 []) = true ∧ partsAgree (fwImage ((withFw 1).boot.fw.getD 1 [])) = true) ∧
    fwFormatOk ((withFw 1).boot.fw.getD 0 []) = false := by decide +kernel

/-- Audio has run for 30 s, and one journalled field has stood for 2 s. -/
def lasting (host : Bool) : State := { base.setB F.SYS_PERSONA_HOST_MODE host with
  boot := { base.boot with audioAt := some 760000 }, journal := { base.journal with waits := [⟨0x110180, 0xFF, 5, 0, 984000⟩] } }

theorem witness_CommitsAndTrials_trialsConfirmAndSettingsStay :
    ((lasting true).boot.audioAt = some 760000 ∧ (lasting true).fab.running = true ∧ (lasting true).halter = false ∧
      760000 + 240000 ≤ (lasting true).stride) ∧
    ((⟨0x110180, 0xFF, 5, 0, 984000⟩ : JWait) ∈ (lasting true).journal.waits ∧
      (lasting true).journal.waits = [⟨0x110180, 0xFF, 5, 0, 984000⟩] ∧ 984000 + 16000 ≤ (lasting true).stride ∧
      (lasting true).getB F.SYS_PERSONA_HOST_MODE = true ∧ (lasting false).getB F.SYS_PERSONA_HOST_MODE = false) := by decide +kernel

end Sys2Proof.Tests
end

section
/-! Microphones that are stuck and the stages of the wake path (R171, R183–R189): what each operation of the path does to the
fields and the stage state that it names, and the settlement of O38. -/

namespace Sys2Proof.Machine

variable {s : State} {f : WakeFrame} {k : Nat}

/-! ### Stuck microphones (R171) -/

/-- Both microphones of pair `p` shown stuck, or free. -/
def State.showPairStuck (s : State) (p : Nat) (b : Bool) : State :=
  (s.setBit F.MIC_STATUS_STUCK (2 * p) b).setBit F.MIC_STATUS_STUCK (2 * p + 1) b

theorem State.bit_showPairStuck (s : State) {p : Nat} (hp : p < 4) (b : Bool) (k : Nat) :
    (s.showPairStuck p b).bit F.MIC_STATUS_STUCK k = if k / 2 = p then b else s.bit F.MIC_STATUS_STUCK k := by
  have hw : F.MIC_STATUS_STUCK.width = 8 := rfl
  unfold State.showPairStuck
  rw [State.bit_setBit _ _ _ _ _ (by omega), State.bit_setBit _ _ _ _ _ (by omega)]
  grind

theorem State.showPairStuck_only (s : State) (p : Nat) (b : Bool) : Only [F.MIC_STATUS_STUCK] s (s.showPairStuck p b) :=
  ((Only.refl _ s).setBit (by simp) _ _).setBit (by simp) _ _

theorem exec_micStuck_clocked {p : Fin 4} {us : Nat} (hc : s.micClock p = true) (hu : 1000 ≤ us) :
    exec (.micStuck p us) s = s.done (s.showPairStuck p true) := by
  change execMicStuck p us s = _
  simp [execMicStuck, hc, hu, State.showPairStuck]

theorem exec_micUnstuck_toggling {p : Fin 4} {us : Nat} (hu : 10000 ≤ us) :
    exec (.micUnstuck p us) s = s.done (s.showPairStuck p false) := by
  change execMicUnstuck p us s = _
  simp [execMicUnstuck, hu, State.showPairStuck]

/-! ### The fields of the wake path -/

/-- A write of a field other than WAKE_STATUS.STAGE leaves the highest running stage. -/
theorem State.stage_set_other (s : State) {g : Fld} (v : Nat) (hg : F.WAKE_STATUS_STAGE.key ≠ g.key) :
    (s.set g v).stage = s.stage := State.get_set_other _ _ _ _ hg

theorem State.stage_lt (s : State) : s.stage < 8 := State.get_lt s _

@[simp] theorem State.stage_setConf (s : State) (k v : Nat) : (s.setConf k v).stage = s.stage := by
  unfold State.setConf
  split <;> exact s.stage_set_other v (by decide)

@[simp] theorem State.setConf_mic (s : State) (k v : Nat) : (s.setConf k v).mic = s.mic := rfl

/-- WAKE_STATUS.MUTED is all that showing it changes. -/
theorem State.get_showStageMuted (s : State) {g : Fld} (hg : g.key ≠ F.WAKE_STATUS_MUTED.key) :
    s.showStageMuted.get g = s.get g := State.get_setB_other _ _ _ _ hg

@[simp] theorem State.stage_showStageMuted (s : State) : s.showStageMuted.stage = s.stage :=
  s.get_showStageMuted (by decide)

@[simp] theorem State.showStageMuted_mic (s : State) : s.showStageMuted.mic = s.mic := rfl

/-! ### Stages that power up and down (R186–R189) -/

/-- STAGE_READY's effect: the domain of stage `k` is on, and the stage evaluates from here on. -/
def State.startStage (s : State) (k : Nat) : State :=
  { s.setBit F.PWR_DOM_ON_ON (8 + k) true with mic := { s.mic with ready := putBit s.mic.ready (k - 1) true } }

theorem exec_stageReady_waiting {k : Fin 5} (h2 : 2 ≤ k.val) (hs : s.stage = k.val)
    (hr : s.mic.ready.testBit (k.val - 1) = false) : exec (.stageReady k) s = s.done (s.startStage k) := by
  change execStageReady k s = _
  simp [execStageReady, h2, hs, hr, State.startStage]

theorem State.ready_startStage (s : State) (k : Nat) : (s.startStage k).mic.ready.testBit (k - 1) = true := by
  simp [State.startStage, testBit_putBit]

theorem State.domOn_setBit (s : State) {d : Nat} (hd : d < 30) (b : Bool) : (s.setBit F.PWR_DOM_ON_ON d b).domOn d = b := by
  have hw : F.PWR_DOM_ON_ON.width = 30 := rfl
  rw [State.domOn, if_pos (by omega), State.bit_setBit _ _ _ _ _ (by omega), if_pos rfl]

theorem State.domOn_startStage (s : State) (hk : k < 5) : (s.startStage k).domOn (8 + k) = true :=
  s.domOn_setBit (by omega) true

theorem State.startStage_only (s : State) (k : Nat) :
    Only [F.PWR_DOM_ON_ON] { s with mic := { s.mic with ready := (s.startStage k).mic.ready } } (s.startStage k) :=
  (Only.refl _ ({ s with mic := { s.mic with ready := (s.startStage k).mic.ready } } : State)).setBit (by simp) (8 + k) true

theorem State.domOn_showStageMuted (s : State) (d : Nat) : s.showStageMuted.domOn d = s.domOn d := by
  simp [State.domOn, State.bit, State.getB, s.get_showStageMuted (g := F.PWR_DOM_ON_ON) (by decide),
    s.get_showStageMuted (g := F.PWR_TETHER_LOST) (by decide), s.get_showStageMuted (g := F.PWR_LINE_ON_ON) (by decide)]

theorem exec_stageTimeout_passed {k : Fin 5} (h2 : 2 ≤ k.val) (hs : s.stage = k.val)
    (hl : k.val = 4 → s.mic.latched = false)
    (ht : s.mic.upAt.getD (k.val - 1) 0 + 64 * s.stageTimeout k.val ≤ s.stride) :
    exec (.stageTimeout k) s = s.done s.stageDown := by
  change execStageTimeout k s = _
  have hl' : ¬ (k.val = 4 ∧ s.mic.latched = true) := by grind
  rw [execStageTimeout, if_pos ⟨h2, hs, hl', ht⟩]

theorem State.stage_stageDown (s : State) : s.stageDown.stage = s.stage - 1 := by
  have hw : F.WAKE_STATUS_STAGE.width = 3 := rfl
  have hv : (s.stage - 1) % 2 ^ 3 = s.stage - 1 := Nat.mod_eq_of_lt (by have := s.stage_lt; omega)
  have hset : ∀ x : State, (x.set F.WAKE_STATUS_STAGE (s.stage - 1)).stage = s.stage - 1 := fun x => by
    rw [State.stage, State.get_set_self, hw, hv]
  unfold State.stageDown
  rw [State.stage_showStageMuted]
  split
  · exact (State.stage_set_other _ _ (by decide)).trans (hset _)
  · exact hset _

theorem State.pending_stageDown (s : State) : s.stageDown.pending = s.pending := by
  unfold State.stageDown
  dsimp only
  split <;> rfl

theorem State.ready_stageDown (s : State) : s.stageDown.mic.ready.testBit (s.stage - 1) = false := by
  simp [State.stageDown, testBit_putBit]

theorem State.domOn_stageDown (h : 2 ≤ s.stage) : s.stageDown.domOn (8 + s.stage) = false := by
  have hd : 8 + s.stage < 30 := by have := s.stage_lt; omega
  unfold State.stageDown
  rw [State.domOn_showStageMuted, if_pos h]
  exact State.domOn_setBit _ hd false

/-! ### Walk's floor (R185) -/

theorem State.floor_moveFloor_fall {e : Nat} (h : e ≤ s.mic.floor) : (s.moveFloor e).mic.floor = e := by
  simp [State.moveFloor, h]

theorem State.floor_moveFloor_rise {e : Nat} (h : s.mic.floor < e) :
    (s.moveFloor e).mic.floor = s.mic.floor ∨ (s.moveFloor e).mic.floor = s.mic.floor + 1 := by
  have hn : ¬ e ≤ s.mic.floor := by omega
  cases hb : s.freeBool.1 <;> simp [State.moveFloor, hn, hb]

/-! ### A frame of Walk alone (R183, R184, R186) -/

/-- The run of stage `k` after a frame: one longer at or above THRESH, ended below it (R186). -/
def State.nextRun (s : State) (f : WakeFrame) (k : Nat) : Nat :=
  if s.stageThresh k ≤ s.confidence f k then s.mic.runs.getD (k - 1) 0 + 1 else 0

theorem State.stageReady_above (h : s.stage < k) : s.stageReady k = false := by
  simp [State.stageReady, h]

theorem State.stageFrame_idle (h : s.stageReady k = false) : s.stageFrame f k = s := by
  simp [State.stageFrame, h]

@[simp] theorem State.stage_stageFrame (s : State) (f : WakeFrame) (k : Nat) : (s.stageFrame f k).stage = s.stage := by
  unfold State.stageFrame
  split
  · rfl
  · exact s.stage_setConf _ _

theorem State.stageFrame_ready (s : State) (f : WakeFrame) (k : Nat) : (s.stageFrame f k).mic.ready = s.mic.ready := by
  unfold State.stageFrame
  split <;> rfl

theorem State.runs_stageFrame (h : s.stageReady k = true) :
    (s.stageFrame f k).mic.runs = s.mic.runs.set (k - 1) (s.nextRun f k) := by
  simp [State.stageFrame, h, State.nextRun]

theorem State.conf_stageFrame (h : s.stageReady 1 = true) :
    (s.stageFrame f 1).get F.WAKE_CONF_WALK = s.confidence f 1 % 2 ^ F.WAKE_CONF_WALK.width := by
  rw [State.stageFrame, if_neg (by simp [h])]
  exact State.get_set_self _ _ _

theorem State.frames_stageFrame (s : State) (f : WakeFrame) : (s.stageFrame f 1).stageFrames 1 = s.stageFrames 1 := by
  unfold State.stageFrame
  split
  · rfl
  · exact State.get_set_other _ _ _ _ (by decide)

/-- While Walk alone runs, a frame is Walk's alone. -/
theorem State.stageFrames_walk (h : s.stage = 1) :
    (List.range 4).foldl (fun s k => s.stageFrame f (k + 1)) s = s.stageFrame f 1 := by
  have idle : ∀ k, 1 < k → (s.stageFrame f 1).stageFrame f k = s.stageFrame f 1 := fun k hk =>
    State.stageFrame_idle (State.stageReady_above (by simp [h, hk]))
  simp [List.range_succ, idle]

theorem State.get_stageUp (s : State) (k : Nat) {g : Fld} (hg : g.key ≠ F.WAKE_STATUS_STAGE.key) :
    (s.stageUp k).get g = s.get g := State.get_set_other _ _ _ _ hg

theorem State.stage_stageUp (s : State) (hk : k < 8) : (s.stageUp k).stage = k :=
  (State.get_set_self s F.WAKE_STATUS_STAGE k).trans (Nat.mod_eq_of_lt hk)

/-- What Walk's frame promotes: Trot where Walk has passed, else nothing (R186). -/
theorem State.promote_walk (h : s.stage = 1) : s.promote f = if s.passed 1 then s.stageUp 2 else s := by
  simp only [State.promote, h]
  cases s.passed 1 <;> simp

/-- The state in which Walk's frame is judged: the floor moved, Walk's confidence and run taken, MUTED shown. -/
def State.walkFrame (s : State) (f : WakeFrame) : State := ((s.moveFloor f.energy).stageFrame f 1).showStageMuted

@[simp] theorem State.stage_walkFrame (s : State) (f : WakeFrame) : (s.walkFrame f).stage = s.stage := by
  rw [State.walkFrame, State.stage_showStageMuted, State.stage_stageFrame]
  rfl

/-- The end of a frame once the confidences stand: Gallop's voice, what the frame promotes, and that it has been taken. -/
def State.closeFrame (s : State) (f : WakeFrame) : State :=
  let s := if f.voice && s.stageReady 4 then { s with mic := { s.mic with voiceAt := s.stride } } else s
  let s := s.promote f
  { s with mic := { s.mic with frameAt := some s.stride, mutedInFrame := false } }

theorem exec_wakeFrameEnd_walk (h : s.stage = 1) (hc : s.count % 64 = 63) (hf : s.mic.frameAt ≠ some s.stride) :
    exec (.wakeFrameEnd f) s = s.done ((s.walkFrame f).closeFrame f) := by
  have hg : ¬ (s.stage = 0 ∨ s.count % 64 ≠ 63 ∨ s.mic.frameAt = some s.stride) := by simp [h, hc, hf]
  have hw : (List.range 4).foldl (fun s k => s.stageFrame f (k + 1)) (s.moveFloor f.energy) =
      (s.moveFloor f.energy).stageFrame f 1 := State.stageFrames_walk h
  have he : execWakeFrameEnd f s = s.done (State.closeFrame (State.showStageMuted
      ((List.range 4).foldl (fun s k => s.stageFrame f (k + 1)) (s.moveFloor f.energy))) f) := by
    rw [execWakeFrameEnd, if_neg hg]
    rfl
  exact he.trans (by rw [hw, State.walkFrame])

/-- Gallop does not run beside Walk alone, so no voice is heard: the close is the promotion, and the frame taken. -/
theorem State.closeFrame_promote (h : s.stage = 1) : s.closeFrame f =
    { s.promote f with mic := { (s.promote f).mic with frameAt := some (s.promote f).stride, mutedInFrame := false } } := by
  have hv : s.stageReady 4 = false := State.stageReady_above (by simp [h])
  rw [State.closeFrame, hv, Bool.and_false]
  rfl

/-- What the close of Walk's frame leaves: Trot powered up where Walk has passed, and the frame taken. -/
theorem State.closeFrame_walk (h : s.stage = 1) :
    (s.closeFrame f).pending = s.pending ∧ (s.closeFrame f).mic.frameAt = some s.stride ∧
    (s.closeFrame f).mic.mutedInFrame = false ∧ (s.closeFrame f).get F.WAKE_CONF_WALK = s.get F.WAKE_CONF_WALK ∧
    (s.closeFrame f).stage = if s.passed 1 then 2 else 1 := by
  rw [State.closeFrame_promote h, State.promote_walk h]
  split
  · exact ⟨rfl, rfl, rfl, s.get_stageUp 2 (by decide), s.stage_stageUp (k := 2) (by decide)⟩
  · exact ⟨rfl, rfl, rfl, rfl, h⟩

theorem State.pending_walkFrame (s : State) (f : WakeFrame) : (s.walkFrame f).pending = s.pending := by
  unfold State.walkFrame State.stageFrame
  split <;> rfl

theorem State.stride_walkFrame (s : State) (f : WakeFrame) : (s.walkFrame f).stride = s.stride := by
  unfold State.walkFrame State.stageFrame
  split <;> rfl

theorem State.conf_walkFrame (h : s.stageReady 1 = true) :
    (s.walkFrame f).get F.WAKE_CONF_WALK = (s.moveFloor f.energy).confidence f 1 % 2 ^ F.WAKE_CONF_WALK.width := by
  rw [State.walkFrame, State.get_showStageMuted _ (by decide)]
  exact State.conf_stageFrame h

theorem State.passed_walkFrame (h : s.stageReady 1 = true) (hl : s.mic.runs.length = 4) :
    (s.walkFrame f).passed 1 = decide (s.stageFrames 1 ≤ (s.moveFloor f.energy).nextRun f 1) := by
  have hr : (s.walkFrame f).stageReady 1 = true := by
    rw [State.stageReady, State.stage_walkFrame, State.walkFrame, State.showStageMuted_mic, State.stageFrame_ready]
    exact h
  have hn : (s.walkFrame f).stageFrames 1 = s.stageFrames 1 := by
    rw [State.walkFrame, State.stageFrames, State.get_showStageMuted _ (by decide)]
    exact State.frames_stageFrame _ _
  have hu : (s.walkFrame f).mic.runs = (s.moveFloor f.energy).mic.runs.set 0 ((s.moveFloor f.energy).nextRun f 1) :=
    State.runs_stageFrame h
  have hl' : (s.moveFloor f.energy).mic.runs.length = 4 := hl
  simp [State.passed, hr, hn, hu, hl']

/-! ### The settlement -/

/-- Settles O38 (it holds): the stuck pair's two bits (R171), the domain and readiness of a stage that powers up or down
(R186, R189), Walk's frame, judged above the floor that it has itself moved (log entry 58), and the floor (R185). -/
theorem microphonesAndStages : Obligations.MicrophonesAndStages := by
  refine ⟨⟨?stuck, ?unstuck, ?ready, ?timeout⟩, ?frame, ?floor⟩
  case stuck =>
    intro s p us hc hu
    refine State.finish (exec_micStuck_clocked hc hu) (s.showPairStuck_only p true).pending
      ⟨fun k _ => ?_, s.showPairStuck_only p true⟩
    rw [State.bit_showPairStuck s p.isLt]
    by_cases hk : k / 2 = p.val <;> simp [hk]
  case unstuck =>
    intro s p us hu
    refine State.finish (exec_micUnstuck_toggling hu) (s.showPairStuck_only p false).pending
      ⟨fun k _ => ?_, s.showPairStuck_only p false⟩
    rw [State.bit_showPairStuck s p.isLt]
    by_cases hk : k / 2 = p.val <;> simp [hk]
  case ready =>
    intro s k h2 hs hr
    exact State.finish (exec_stageReady_waiting h2 hs hr) rfl
      ⟨s.ready_startStage k, s.domOn_startStage k.isLt, s.startStage_only k⟩
  case timeout =>
    intro s k h2 hs hl ht
    refine State.finish (exec_stageTimeout_passed h2 hs hl ht) s.pending_stageDown ?_
    rw [← hs] at h2 ⊢
    exact ⟨s.stage_stageDown, s.ready_stageDown, State.domOn_stageDown h2⟩
  case frame =>
    intro s f hs hc hf hr hl
    have hready : s.stageReady 1 = true := by simp [State.stageReady, hs, hr]
    obtain ⟨hpend, hat, hmuted, hconf, hstage⟩ :=
      State.closeFrame_walk (f := f) ((s.stage_walkFrame f).trans hs)
    refine State.finish (exec_wakeFrameEnd_walk hs hc hf) (hpend.trans (s.pending_walkFrame f))
      ⟨by rw [hat, State.stride_walkFrame], hmuted, hconf.trans (State.conf_walkFrame hready), ?_⟩
    rw [hstage, State.passed_walkFrame hready hl]
    simp only [decide_eq_true_eq]
    rfl
  case floor => exact fun s e => ⟨State.floor_moveFloor_fall, State.floor_moveFloor_rise⟩

end Sys2Proof.Machine
end

section
/-! SEND bits that time out and lamp drivers that fold back (R465, R469): what each command does to the bits that it names, and
the settlement of O57. -/

namespace Sys2Proof.Machine

variable {s : State}

/-! ### Bits of other fields -/

theorem State.bit_set_other (s : State) {f g : Fld} (v : Nat) (h : g.key ≠ f.key) (k : Nat) :
    (s.set f v).bit g k = s.bit g k :=
  congrArg (·.testBit k) (State.get_set_other s f g v h)

theorem State.bit_setB_other (s : State) {f g : Fld} (b : Bool) (h : g.key ≠ f.key) (k : Nat) :
    (s.setB f b).bit g k = s.bit g k := s.bit_set_other _ h k

/-! ### SEND bits and their times (R469) -/

/-- Groups are told apart by the word and the bit of their SEND: a write of one group's bit leaves the others. -/
theorem State.bit_setBit_send (s : State) (g j : Nat) (b : Bool) :
    (s.setBit (F.CALL_SEND_SEND (g / 32)) (g % 32) b).bit (F.CALL_SEND_SEND (j / 32)) (j % 32) =
      if j = g then b else s.bit (F.CALL_SEND_SEND (j / 32)) (j % 32) := by
  by_cases hw : j / 32 = g / 32
  · have hwidth : g % 32 < (F.CALL_SEND_SEND (g / 32)).width := Nat.mod_lt g (by decide)
    have hbit : j % 32 = g % 32 ↔ j = g := by omega
    rw [hw, State.bit_setBit _ _ _ _ _ hwidth]
    simp only [hbit]
  · have hkey : (F.CALL_SEND_SEND (j / 32)).key ≠ (F.CALL_SEND_SEND (g / 32)).key := by
      simp only [Fld.key, F.CALL_SEND_SEND]; omega
    have hne : j ≠ g := fun e => hw (congrArg (· / 32) e)
    rw [if_neg hne]
    exact s.bit_set_other _ hkey _

/-- A group whose SEND bit is 0 has no time. -/
theorem State.sendAt_stepSends (s : State) {g : Nat} (h : s.bit (F.CALL_SEND_SEND (g / 32)) (g % 32) = false) :
    s.stepSends.call.sendAt.lookup g = none := by
  rw [List.lookup_eq_none_iff]
  intro p hp
  obtain ⟨j, -, hj⟩ := List.mem_filterMap.mp hp
  split at hj
  case isTrue hset =>
    obtain rfl := Option.some.inj hj
    have hne : g ≠ j := by
      rintro rfl
      exact absurd hset (by simp [h])
    simpa using hne
  case isFalse => contradiction

/-- What a time-out leaves before its record: the group's SEND bit cleared, its interrupt set, and the times of the bits
that still stand. -/
def State.sendTimedOut (s : State) (g : Nat) : State :=
  ((s.setBit (F.CALL_SEND_SEND (g / 32)) (g % 32) false).setB F.CALL_IRQ_TIMEOUT true).stepSends

theorem exec_callSendTimeout_due {g : Fin 64} {k : Nat} (hk : s.call.sendAt.lookup g.val = some k)
    (hb : s.bit (F.CALL_SEND_SEND (g / 32)) (g % 32) = true) (hm : s.get F.CALL_TIMING_SEND_MAX_S ≠ 0)
    (hd : k + 8000 * s.get F.CALL_TIMING_SEND_MAX_S ≤ s.stride) :
    exec (.callSendTimeout g) s = s.done ((s.sendTimedOut g).ev .callTimeout 1 g 0 0) := by
  change execCallSendTimeout g s = _
  simp only [execCallSendTimeout, hk]
  rw [if_pos ⟨hb, hm, hd⟩]
  rfl

theorem State.bit_sendTimedOut (s : State) (g j : Nat) :
    (s.sendTimedOut g).bit (F.CALL_SEND_SEND (j / 32)) (j % 32) =
      (s.bit (F.CALL_SEND_SEND (j / 32)) (j % 32) && decide (j ≠ g)) := by
  have hkey : (F.CALL_SEND_SEND (j / 32)).key ≠ F.CALL_IRQ_TIMEOUT.key := by
    simp only [Fld.key, F.CALL_SEND_SEND, F.CALL_IRQ_TIMEOUT]; omega
  have hirq : (s.sendTimedOut g).bit (F.CALL_SEND_SEND (j / 32)) (j % 32) =
      (s.setBit (F.CALL_SEND_SEND (g / 32)) (g % 32) false).bit (F.CALL_SEND_SEND (j / 32)) (j % 32) :=
    State.bit_setB_other _ true hkey _
  rw [hirq, State.bit_setBit_send]
  by_cases hj : j = g <;> simp [hj]

theorem State.timeout_sendTimedOut (s : State) (g : Nat) : (s.sendTimedOut g).getB F.CALL_IRQ_TIMEOUT = true :=
  State.getB_setB_self (s.setBit (F.CALL_SEND_SEND (g / 32)) (g % 32) false) F.CALL_IRQ_TIMEOUT true rfl

theorem State.sendAt_sendTimedOut (s : State) (g : Nat) : (s.sendTimedOut g).call.sendAt.lookup g = none := by
  have hclear := s.bit_sendTimedOut g g
  rw [decide_eq_false (not_not.mpr rfl), Bool.and_false] at hclear
  exact State.sendAt_stepSends _ hclear

theorem State.sendTimedOut_only (s : State) (g : Nat) : Only [F.CALL_SEND_SEND (g / 32), F.CALL_IRQ_TIMEOUT]
    { s with call := (s.sendTimedOut g).call } (s.sendTimedOut g) :=
  ((Only.refl _ ({ s with call := (s.sendTimedOut g).call } : State)).setBit (by simp) (g % 32) false).setB
    (f := F.CALL_IRQ_TIMEOUT) (by simp) true

/-! ### Lamp drivers (R465) -/

theorem exec_lampFoldback_over {n : Fin 4} {mv us : Nat} (hon : s.bit F.LAMP_STATUS_ON n = true) (hv : 6000 < mv)
    (ht : 100 ≤ us) :
    exec (.lampFoldback n mv us) s = s.done ((s.setBit F.LAMP_STATUS_FOLDBACK n true).setB F.CALL_IRQ_FOLDBACK true) := by
  change execLampFoldback n mv us s = _
  simp [execLampFoldback, hon, hv, ht]

theorem exec_lampFoldbackEnd_below {n : Fin 4} {mv : Nat} (hv : mv < 5000) :
    exec (.lampFoldbackEnd n mv) s = s.done (s.setBit F.LAMP_STATUS_FOLDBACK n false) := by
  change execLampFoldbackEnd n mv s = _
  rw [execLampFoldbackEnd, if_pos hv]

/-! ### The settlement -/

/-- Settles O57 (it holds): the time-out of a SEND bit, its record and its interrupt (R469), and the fold-back of a lamp's
driver and its end (R465). -/
theorem sendTimeoutAndLamps : Obligations.SendTimeoutAndLamps := by
  refine ⟨?timeout, ?foldback, ?back⟩
  case timeout =>
    intro s g k hk hb hm hd
    have hpend : ((s.sendTimedOut g).ev .callTimeout 1 g 0 0).pending = s.pending :=
      (State.addLog_settles _ _ _ _ _ _ _).pending
    exact ⟨s.sendTimedOut g, (exec_callSendTimeout_due hk hb hm hd).trans (State.done_next hpend),
      fun j _ => s.bit_sendTimedOut g j, s.timeout_sendTimedOut g, s.sendAt_sendTimedOut g, s.sendTimedOut_only g⟩
  case foldback =>
    intro s n mv us hon hv ht
    refine State.finish (exec_lampFoldback_over hon hv ht) rfl
      ⟨fun k _ => ?_, State.getB_setB_self _ _ _ rfl, ((Only.refl _ s).setBit (by simp) _ _).setB (by simp) _⟩
    rw [State.bit_setB_other _ _ (by decide), State.bit_setBit _ _ _ _ _ n.isLt]
    by_cases hk : k = n.val <;> simp [hk]
  case back =>
    intro s n mv hv
    refine State.finish (exec_lampFoldbackEnd_below hv) rfl ⟨fun k _ => ?_, (Only.refl _ s).setBit (by simp) _ _⟩
    rw [State.bit_setBit _ _ _ _ _ n.isLt]
    by_cases hk : k = n.val <;> simp [hk]

end Sys2Proof.Machine
end

section
/-! The completion of a result in its cell (R562–R565): the cell's status, the producer's data, and the settlement of O6. -/

namespace Sys2Proof.Machine

variable {s : State} {a : Nat} {err : Bool} {data : List (Fld × Nat)}

/-! ### A cell's status fields lie at different places -/

@[simp] theorem key_cellSeq (a : Nat) : (cellSeq a).key = a * 32 := rfl
@[simp] theorem key_cellReady (a : Nat) : (cellReady a).key = a * 32 + 8 := rfl
@[simp] theorem key_cellFresh (a : Nat) : (cellFresh a).key = a * 32 + 9 := rfl
@[simp] theorem key_cellErr (a : Nat) : (cellErr a).key = a * 32 + 10 := rfl
@[simp] theorem key_cellLost (a : Nat) : (cellLost a).key = a * 32 + 11 := rfl

/-! ### Fields written one after another -/

/-- A run of field writes leaves every field that it does not name. -/
theorem State.get_foldl_set_other (s : State) {g : Fld} (hg : g.key ∉ data.map (fun d => d.1.key)) :
    (data.foldl (fun s d => s.set d.1 d.2) s).get g = s.get g := by
  have hrun : Only (data.map (·.1)) s (data.foldl (fun s d => s.set d.1 d.2) s) :=
    (Only.refl _ s).foldl fun x d hd => (Only.refl _ x).set (List.mem_map_of_mem hd) d.2
  exact hrun.2 g (by simpa using hg)

/-- A run of writes to fields at different places leaves in each what was written to it. -/
theorem State.get_foldl_set_mem {d : Fld × Nat} (hd : d ∈ data) (hn : (data.map (fun d => d.1.key)).Nodup) (s : State) :
    (data.foldl (fun s d => s.set d.1 d.2) s).get d.1 = d.2 % 2 ^ d.1.width := by
  induction data generalizing s with
  | nil => exact absurd hd List.not_mem_nil
  | cons e rest ih =>
    obtain ⟨hfirst, hrest⟩ := List.nodup_cons.mp hn
    rcases List.mem_cons.mp hd with rfl | hd
    · exact (State.get_foldl_set_other _ hfirst).trans (State.get_set_self _ _ _)
    · exact ih hd hrest _

/-! ### The status of a completed result (R564) -/

/-- A completion is its status fields and then the producer's data. -/
theorem State.writeCell_eq_foldl (s : State) (a : Nat) (err : Bool) (data : List (Fld × Nat)) :
    s.writeCell a err data = data.foldl (fun s d => s.set d.1 d.2) (s.writeCell a err []) := rfl

/-- The data of a completion leaves the cell's status. -/
theorem State.get_writeCell_status (h : ∀ f ∈ cellFields a, f.key ∉ data.map (fun d => d.1.key)) {f : Fld}
    (hf : f ∈ cellFields a) : (s.writeCell a err data).get f = (s.writeCell a err []).get f := by
  rw [State.writeCell_eq_foldl]
  exact State.get_foldl_set_other _ (h f hf)

theorem State.getB_writeCell_status (h : ∀ f ∈ cellFields a, f.key ∉ data.map (fun d => d.1.key)) {f : Fld}
    (hf : f ∈ cellFields a) : (s.writeCell a err data).getB f = (s.writeCell a err []).getB f :=
  congrArg (· != 0) (State.get_writeCell_status h hf)

/-- The number after a SEQ fits in SEQ. -/
theorem nextSeq_lt {q : Nat} (h : q < 256) : nextSeq q < 256 := by
  unfold nextSeq
  split <;> omega

theorem State.seq_writeCell (s : State) (a : Nat) (err : Bool) :
    (s.writeCell a err []).get (cellSeq a) = nextSeq (s.get (cellSeq a)) := by
  have hlt : s.get (cellSeq a) < 256 := s.get_lt (cellSeq a)
  simp only [State.writeCell, List.foldl_nil]
  rw [State.get_setB_other _ _ _ _ (by simp), State.get_setB_other _ _ _ _ (by simp),
    State.get_setB_other _ _ _ _ (by simp), State.get_setB_other _ _ _ _ (by simp), State.get_set_self]
  exact Nat.mod_eq_of_lt (nextSeq_lt hlt)

theorem State.ready_writeCell (s : State) (a : Nat) (err : Bool) :
    (s.writeCell a err []).getB (cellReady a) = true := by
  simp only [State.writeCell, List.foldl_nil]
  rw [State.getB_setB_other _ _ _ _ (by simp), State.getB_setB_other _ _ _ _ (by simp),
    State.getB_setB_other _ _ _ _ (by simp), State.getB_setB_self _ _ _ rfl]

theorem State.fresh_writeCell (s : State) (a : Nat) (err : Bool) :
    (s.writeCell a err []).getB (cellFresh a) = true := by
  simp only [State.writeCell, List.foldl_nil]
  rw [State.getB_setB_other _ _ _ _ (by simp), State.getB_setB_other _ _ _ _ (by simp), State.getB_setB_self _ _ _ rfl]

theorem State.err_writeCell (s : State) (a : Nat) (err : Bool) :
    (s.writeCell a err []).getB (cellErr a) = err := by
  simp only [State.writeCell, List.foldl_nil]
  rw [State.getB_setB_other _ _ _ _ (by simp), State.getB_setB_self _ _ _ rfl]

theorem State.lost_writeCell (s : State) (a : Nat) (err : Bool) :
    (s.writeCell a err []).getB (cellLost a) = s.getB (cellFresh a) :=
  State.getB_setB_self _ _ _ rfl

/-! ### The settlement -/

/-- Settles O6 (it holds): the status of the cell is written first, and the data, whose fields lie elsewhere, leaves it
(R564). -/
theorem resultsCompleteInTheirCell : Obligations.ResultsCompleteInTheirCell := by
  intro s a err data hstatus hnodup
  refine ⟨?seq, ?ready, ?fresh, ?err, ?lost, ?data, s.writeCell_only a err data⟩
  case seq => exact (State.get_writeCell_status hstatus (by simp [cellFields])).trans (s.seq_writeCell a err)
  case ready => exact (State.getB_writeCell_status hstatus (by simp [cellFields])).trans (s.ready_writeCell a err)
  case fresh => exact (State.getB_writeCell_status hstatus (by simp [cellFields])).trans (s.fresh_writeCell a err)
  case err => exact (State.getB_writeCell_status hstatus (by simp [cellFields])).trans (s.err_writeCell a err)
  case lost => exact (State.getB_writeCell_status hstatus (by simp [cellFields])).trans (s.lost_writeCell a err)
  case data => exact fun d hd => State.get_foldl_set_mem hd hnodup _

end Sys2Proof.Machine
end

section
/-! Acknowledged results (R566): a write to a cell's ACK register that is alone in its register cycle is the cell's own
acknowledgement, and the settlement of O7. -/

namespace Sys2Proof.Machine

variable {s : State} {m : Master} {r : RegRow} {a : Nat} {cell : Fin 33}

/-! ### The ACK registers (R562, R568) -/

/-- The one field of the ACK register at `a`: eight write-only bits, which take every value. -/
def ackField (a : Nat) : FieldRow := ⟨⟨a, 0, 8, 0⟩, .wo, .soft, .any, false, none⟩

theorem fields_ackRow : ∀ cell : Fin 33,
    (regRow (cellAddr cell + 0x10)).map (·.fields) = some [ackField (cellAddr cell + 0x10)] := by decide

/-- The ACK registers lie in the blocks HYB, ECHO, CALL and MIC. -/
theorem ackAddr_range : ∀ cell : Fin 33, 0xC0010 ≤ cellAddr cell + 0x10 ∧ cellAddr cell + 0x10 < 0x100000 := by decide

theorem ackAddr_ne_mute : ∀ cell : Fin 33, cellAddr cell + 0x10 ≠ F.MIC_PRIV_MUTE.addr := by decide

theorem cellAddr_mem : ∀ cell : Fin 33,
    (resultCells 0 ++ resultCells 1 ++ resultCells 2 ++ resultCells 3).contains (cellAddr cell) = true := by decide

theorem Writable.ack_fields (h : Writable s m (cellAddr cell + 0x10) r) : r.fields = [ackField (cellAddr cell + 0x10)] := by
  have hrow := fields_ackRow cell
  rw [h.row] at hrow
  exact Option.some.inj hrow

/-! ### What comes of a write to an ACK register, before arbitration -/

/-- Its field takes every write: it is none of the fields that a mode, a lock, a stream or the personality guards. -/
theorem State.admitField_ack (s : State) (m : Master) (cell : Fin 33) (w v : Nat) :
    s.admitField m (cellAddr cell + 0x10) w (ackField (cellAddr cell + 0x10)) v = .take := by
  obtain ⟨lo, hi⟩ := ackAddr_range cell
  have hmute := ackAddr_ne_mute cell
  generalize cellAddr cell + 0x10 = a at *
  have hinert : s.inert a ⟨a, 0, 8, 0⟩ = false := by
    simp [State.inert, F.HOST_CAP_CTRL_EN, F.FAB_STALL_CTRL_FORCE_FALLBACK, F.MAC_CFG_MACSEC_REQ, F.PWR_CORE_AVS_EN,
      F.MAC_CFG_PROMISC]
  have henables : s.enables ⟨a, 0, 8, 0⟩ v = false := by
    simp [State.enables, F.CONV_SPK_EN, F.PSE_CFG_EN, F.LINE_SRC_CFG_EN]
  have hpanel : s.panelFunc ⟨a, 0, 8, 0⟩ v = false := by
    have : a / 0x100 ≠ 0x800 := by omega
    simp [State.panelFunc, this]
  have hstream : s.streamLocked a ⟨a, 0, 8, 0⟩ = false := by
    have : ¬ 0x150000 ≤ a := by omega
    simp [State.streamLocked, this]
  have hlayer : s.layerEndFixed a = false := by
    have : ¬ 0x108044 ≤ a := by omega
    simp [State.layerEndFixed, this]
  have hstall : ¬ 0x100000 ≤ a := by omega
  have htherm : ¬ (a = 0x30010 ∨ a = 0x30014) := by omega
  simp [State.admitField, ackField, Chk.ok, hinert, henables, hpanel, hstream, hlayer, hstall, htherm, hmute]

/-- A unit that is the whole of a field in bits 7–0 stands for those bits of the word. -/
theorem UWrite.wordMask_byte {u : UWrite} (hk : u.key < 2 ^ 40) (hlo : u.fieldLo = 0) (hw : u.width = 8)
    (hf : u.fieldWidth = 8) : u.wordMask = 0xFF := by
  rw [UWrite.wordMask, if_neg (Nat.not_le.mpr hk), hlo, hw, hf]
  rfl

/-- A write of any value, 0 too, is one unit of the field's eight bits. -/
theorem State.fieldUnits_ack (s : State) (i : Nat) (p : PWrite) (rein : Option Nat) (hp : p.addr = cellAddr cell + 0x10) :
    ∃ u, s.fieldUnits i p rein (ackField (cellAddr cell + 0x10)) = [u] ∧ u.wordMask = 0xFF := by
  obtain ⟨lo, hi⟩ := ackAddr_range cell
  have hgpio : ¬ (p.addr = 0x80108 ∨ p.addr = 0x8010C) := by omega
  have hxp : p.addr ≠ F.TG_XP_WRITE_GAIN.addr := by simp only [F.TG_XP_WRITE_GAIN]; omega
  have hkey : (ackField (cellAddr cell + 0x10)).fld.key < 2 ^ 40 := by simp only [Fld.key, ackField]; omega
  have hwide : ∀ v : Nat, ¬ (v = 0 ∧ (ackField (cellAddr cell + 0x10)).fld.width < 8) := fun _ h => Nat.lt_irrefl 8 h.2
  exact ⟨_, (if_neg hgpio).trans ((if_neg hxp).trans (if_neg (hwide _))), UWrite.wordMask_byte hkey rfl rfl rfl⟩

theorem cycleMask_ack (cell : Fin 33) : cycleMask (cellAddr cell + 0x10) = 2 ^ 32 - 1 := by
  obtain ⟨r, hr, hf⟩ := Option.map_eq_some_iff.mp (fields_ackRow cell)
  simp [cycleMask, hr, strideMask, hf, ackField]

/-- An ACK's write is admitted, and its eight bits stand. -/
theorem Writable.prepare_ack (h : Writable s m (cellAddr cell + 0x10) r) (w : Nat) :
    let x := s.prepare 0 ⟨m, cellAddr cell + 0x10, w, cycleMask (cellAddr cell + 0x10), .direct⟩
    x.admits = [.take] ∧ soleMask x.units = 0xFF := by
  have hcover : coveredFields r (2 ^ 32 - 1) = [ackField (cellAddr cell + 0x10)] := by
    simp [coveredFields, h.ack_fields, ackField, bitsOf]
  rw [h.prepare, cycleMask_ack]
  simp only [hcover, List.map_cons, List.map_nil, State.admitField_ack, List.zip_cons_cons, List.zip_nil_right,
    List.flatMap_cons, List.flatMap_nil, List.append_nil, if_true, true_and]
  obtain ⟨u, hu, hmask⟩ := s.fieldUnits_ack 0 ⟨m, cellAddr cell + 0x10, w, 2 ^ 32 - 1, .direct⟩ r.rein rfl
  rw [hu]
  simp [soleMask, lastStands, hmask]

/-! ### What an ACK's bits do -/

/-- A register whose one field is write-only keeps its word (R17). -/
theorem State.setFields_ack (hf : r.fields = [ackField a]) (w mask : Nat) : s.setFields r w mask = s := by
  simp [State.setFields, hf, ackField]

/-- The settings journal takes no write-only field (R683). -/
theorem State.noteChanges_ack (hf : r.fields = [ackField a]) (old : State) : s.noteChanges old m r = s := by
  simp [State.noteChanges, hf, ackField, journalled]

theorem State.hook_ack (s old : State) (m : Master) (cell : Fin 33) (w : Nat) :
    s.hook old m (cellAddr cell + 0x10) w = (s.ackCell (cellAddr cell) (w % 256), .ok) := by
  have hr := (ackAddr_range cell).1
  rw [State.hook, Nat.add_sub_cancel, if_pos ⟨cellAddr_mem cell, by omega⟩]

theorem Writable.applyWrite_ack (h : Writable s m (cellAddr cell + 0x10) r) (w : Nat) :
    (s.applyWrite m (cellAddr cell + 0x10) w 0xFF r).1 = s.ackCell (cellAddr cell) (w % 256) := by
  obtain ⟨lo, hi⟩ := ackAddr_range cell
  have hstream : s.streamErr (cellAddr cell + 0x10) w r = false := by
    have : ¬ 0x150000 ≤ cellAddr cell + 0x10 := by omega
    simp [State.streamErr, this]
  have hword : ¬ (cellAddr cell + 0x10 = 0x1C ∨
      (cellAddr cell + 0x10) % 0x40 = 0 ∧ 0x150000 ≤ cellAddr cell + 0x10 ∧ cellAddr cell + 0x10 < 0x151000) := by omega
  have hland : Nat.land w 0xFF = w % 256 := Nat.and_two_pow_sub_one_eq_mod w 8
  simp only [State.applyWrite, State.setFields_ack h.ack_fields, hstream, if_neg hword, State.hook_ack,
    State.noteChanges_ack h.ack_fields, hland, Nat.mod_mod]
  rfl

theorem State.write_ack (h : Writable s m (cellAddr cell + 0x10) r) (w : Word) :
    s.write m (cellAddr cell + 0x10) w = s.ackCell (cellAddr cell) (w.toNat % 256) := by
  have ha : cellAddr cell + 0x10 ≠ 0x30 := by have := ackAddr_range cell; omega
  have hnow : r.fields.any (·.stride) = false := by rw [h.ack_fields]; rfl
  obtain ⟨hadmits, hmask⟩ := h.prepare_ack w.toNat
  rw [State.write_sole h w ha (h.waits_none hnow _ _) rfl, hadmits, hmask, if_pos (.inl (by decide))]
  exact h.applyWrite_ack w.toNat

/-! ### The acknowledgement (R566) -/

theorem State.ackCell_matching {seq : Nat} (hseq : seq % 256 = s.get (cellSeq a)) (hfresh : s.getB (cellFresh a) = true) :
    s.ackCell a seq = s.setB (cellFresh a) false := by
  simp [State.ackCell, hseq, hfresh]

theorem State.ackCell_other {seq : Nat} (h : seq % 256 ≠ s.get (cellSeq a) ∨ s.getB (cellFresh a) = false) :
    s.ackCell a seq = s := by
  rw [State.ackCell, if_neg]
  rcases h with h | h
  · simp [h.symm]
  · simp [h]

theorem State.pending_ackCell (s : State) (a seq : Nat) : (s.ackCell a seq).pending = s.pending := by
  unfold State.ackCell
  split <;> rfl

/-- RESULT_ACK of a master whose write nothing keeps out is the cell's acknowledgement. -/
theorem exec_resultAck_alone (h : Alone s m (cellAddr cell + 0x10)) (w : Word) :
    exec (.resultAck m cell w) s = .next (s.ackCell (cellAddr cell) (w.toNat % 256)) := by
  obtain ⟨hhost, r, hw⟩ := h
  change s.done (s.rowWrite m (cellAddr cell + 0x10) w) = _
  rw [State.rowWrite_direct hhost, State.write_ack hw]
  exact State.done_next (s.pending_ackCell _ _)

/-! ### The settlement -/

/-- Settles O7 (it holds): the write reaches the cell as its acknowledgement, which clears FRESH for a SEQ that matches
while FRESH is 1 and is the state itself for any other (R566). -/
theorem acknowledgeClearsFresh : Obligations.AcknowledgeClearsFresh := by
  intro s m cell w halone
  have hmod : w.toNat % 256 % 256 = w.toNat % 256 := Nat.mod_mod _ _
  rw [exec_resultAck_alone halone w]
  refine ⟨fun hseq hfresh => ?_, fun hother => ?_⟩
  · rw [State.ackCell_matching (hmod.trans hseq) hfresh]
    exact ⟨_, rfl, State.getB_setB_self _ _ _ rfl, (Only.refl _ s).setB (by simp) false⟩
  · rw [State.ackCell_other (by rwa [hmod])]

end Sys2Proof.Machine
end

section
/-! Beams and control frames read back (R347–R352): numbers of a fixed count of bytes, headers laid out one number after the
other, and the settlement of O50. -/

namespace Sys2Proof.Machine

/-! ### Numbers of a fixed count of bytes (R12) -/

@[simp] theorem length_leBytes (v n : Nat) : (leBytes v n).length = n := by
  induction n generalizing v with
  | zero => rfl
  | succ n ih => simp [leBytes, ih]

@[simp] theorem length_beBytes (v n : Nat) : (beBytes v n).length = n := by simp [beBytes]

theorem beNat_concat (l : List Byte) (b : Byte) : beNat (l ++ [b]) = 256 * beNat l + b.toNat := by
  simp [beNat, Nat.mul_comm]

theorem beNat_beBytes {v n : Nat} (h : v < 256 ^ n) : beNat (beBytes v n) = v := by
  induction n generalizing v with
  | zero =>
    have hv : v = 0 := by simpa using h
    simp [hv, beBytes, leBytes, beNat]
  | succ n ih =>
    have hdiv : v / 256 < 256 ^ n := Nat.div_lt_of_lt_mul (by rwa [Nat.pow_succ'] at h)
    have hsplit : beBytes v (n + 1) = beBytes (v / 256) n ++ [BitVec.ofNat 8 v] := by simp [beBytes, leBytes]
    rw [hsplit, beNat_concat, ih hdiv]
    simpa using Nat.div_add_mod v 256

/-! ### Headers: numbers laid out one after the other -/

/-- The bytes of a header of numbers, each with its count of bytes. -/
def layout (fs : List (Nat × Nat)) : List Byte := fs.flatMap (fun f => beBytes f.1 f.2)

/-- Every number of a header is one that its bytes can hold. -/
def LayoutFits (fs : List (Nat × Nat)) : Prop := ∀ f ∈ fs, f.1 < 256 ^ f.2

theorem length_layout (fs : List (Nat × Nat)) : (layout fs).length = (fs.map (·.2)).sum := by
  simp [layout, List.length_flatMap]

/-- From place `o` of `l` on, the numbers of a header read one after the other. -/
def LayoutReads (l : List Byte) : Nat → List (Nat × Nat) → Prop
  | _, [] => True
  | o, f :: fs => beAt l o f.2 = f.1 ∧ LayoutReads l (o + f.2) fs

/-- The numbers of a header read back at their places, whatever stands before and after it. -/
theorem layoutReads_layout {fs : List (Nat × Nat)} (h : LayoutFits fs) (before after : List Byte) :
    LayoutReads (before ++ (layout fs ++ after)) before.length fs := by
  induction fs generalizing before with
  | nil => trivial
  | cons f fs ih =>
    have hsplit : layout (f :: fs) ++ after = beBytes f.1 f.2 ++ (layout fs ++ after) := by simp [layout]
    refine ⟨?_, ?_⟩
    · rw [beAt, List.drop_left, hsplit, List.take_left' (length_beBytes f.1 f.2)]
      exact beNat_beBytes (h f List.mem_cons_self)
    · have := ih (fun g hg => h g (List.mem_cons_of_mem _ hg)) (before ++ beBytes f.1 f.2)
      rwa [List.length_append, length_beBytes, List.append_assoc, ← hsplit] at this

/-- Behind a header stands what follows it. -/
theorem drop_layout (fs : List (Nat × Nat)) (rest : List Byte) :
    (layout fs ++ rest).drop (fs.map (·.2)).sum = rest := by
  rw [← length_layout, List.drop_left]

/-! ### Beams (R347–R350) -/

/-- The header of a beam: its numbers in order, with their counts of bytes. -/
def Beam.header (b : Beam) : List (Nat × Nat) :=
  [(16 + b.typ, 1), (bit1 b.beamB + 2 * bit1 b.wrapped + 4 * bit1 b.slack + 8 * bit1 b.segB, 1), (b.ring, 1),
   (b.lighthouse, 1), (b.stride, 4), (b.offset, 3), (b.epoch, 1), (b.length, 2), (b.adders, 2), (b.talk, 4), (b.int_, 4),
   (b.all, 4), (b.call, 4), (b.bitmap, 4)]

/-- What follows a beam's header: the words of its payload and the padding. -/
def Beam.tail (b : Beam) : List Byte :=
  b.payload.flatMap (fun w => beBytes w 4) ++ List.replicate (46 - (36 + 4 * b.payload.length)) 0

theorem length_payloadBytes (ws : List Nat) : (ws.flatMap (fun w => beBytes w 4)).length = 4 * ws.length := by
  simp [List.length_flatMap, Nat.mul_comm]

theorem encodeBeam_eq (b : Beam) : encodeBeam b = layout b.header ++ b.tail := by
  simp only [encodeBeam, padBytes, layout, Beam.header, Beam.tail, List.flatMap_cons, List.flatMap_nil, List.append_assoc,
    List.append_nil, List.length_append, length_beBytes, length_payloadBytes, ← Nat.add_assoc, Nat.reduceAdd]

theorem length_encodeBeam (b : Beam) : (encodeBeam b).length = max 46 (36 + 4 * b.payload.length) := by
  rw [encodeBeam_eq, List.length_append, length_layout, Beam.tail, List.length_append, length_payloadBytes,
    List.length_replicate]
  simp only [Beam.header, List.map_cons, List.map_nil, List.sum_cons, List.sum_nil]
  omega

/-- The words of a payload read back, whatever follows them. -/
theorem beWords_payload {ws : List Nat} (h : ∀ w ∈ ws, w < 2 ^ 32) (rest : List Byte) :
    beWords (ws.flatMap (fun w => beBytes w 4) ++ rest) ws.length = ws := by
  induction ws with
  | nil => rfl
  | cons w ws ih =>
    have hw : w < 256 ^ 4 := h w List.mem_cons_self
    rw [List.length_cons, beWords, List.flatMap_cons, List.append_assoc, List.take_left' (length_beBytes w 4),
      List.drop_left' (length_beBytes w 4), beNat_beBytes hw, ih fun v hv => h v (List.mem_cons_of_mem _ hv)]

/-- The flags of a beam stand in the low bits of their byte. -/
theorem beamFlags (a b c d : Bool) :
    let f := bit1 a + 2 * bit1 b + 4 * bit1 c + 8 * bit1 d
    f < 256 ∧ bitOf f 0 = a ∧ bitOf f 1 = b ∧ bitOf f 2 = c ∧ bitOf f 3 = d := by
  revert a b c d
  decide

/-- A first byte of 16 and a type names that type and version 1. -/
theorem firstByte {t : Nat} (h : t < 16) : (16 + t) / 16 = 1 ∧ (16 + t) % 16 = t := by omega

/-! ### Control frames (R352) -/

/-- The header of a control frame: its numbers in order, with their counts of bytes. -/
def Ctl.header (c : Ctl) : List (Nat × Nat) :=
  [(16 + c.typ, 1), (c.cls + 8 * bit1 c.fromAdrift, 1), (c.ring, 1), (c.hops, 1), (c.sender, 2), (c.stride, 6),
   (c.body.length, 2), (c.seq, 2)]

theorem encodeCtl_eq (c : Ctl) :
    encodeCtl c = layout c.header ++ (c.body ++ List.replicate (46 - (16 + c.body.length)) 0) := by
  simp only [encodeCtl, padBytes, layout, Ctl.header, List.flatMap_cons, List.flatMap_nil, List.append_assoc,
    List.append_nil, List.length_append, length_beBytes, ← Nat.add_assoc, Nat.reduceAdd]

/-- The class stands in bits 2–0 of its byte, FROM_ADRIFT in bit 3. -/
theorem classByte {k : Nat} (h : k < 8) (b : Bool) :
    k + 8 * bit1 b < 256 ∧ (k + 8 * bit1 b) % 8 = k ∧ bitOf (k + 8 * bit1 b) 3 = b := by
  revert b k
  decide

/-! ### The settlement -/

/-- A beam that its header's bytes can hold reads back. -/
theorem parseBeam_encodeBeam {b : Beam} (ht : 1 ≤ b.typ ∧ b.typ ≤ 3) (hfit : LayoutFits b.header)
    (hlen : b.length = 4 * b.payload.length) (hp : ∀ w ∈ b.payload, w < 2 ^ 32) : parseBeam (encodeBeam b) = some b := by
  have hat := layoutReads_layout hfit [] b.tail
  rw [List.nil_append, ← encodeBeam_eq] at hat
  have hlength := length_encodeBeam b
  have hwords : beWords ((encodeBeam b).drop 36) (min (b.length / 4) (((encodeBeam b).length - 36) / 4)) = b.payload := by
    have hcount : min (b.length / 4) (((encodeBeam b).length - 36) / 4) = b.payload.length := by omega
    have hdrop : (encodeBeam b).drop 36 = b.tail := by
      have hsum : (b.header.map (·.2)).sum = 36 := by simp [Beam.header]
      rw [encodeBeam_eq, ← hsum, drop_layout]
    rw [hcount, hdrop]
    exact beWords_payload hp _
  obtain ⟨-, hB, hwrapped, hslack, hseg⟩ := beamFlags b.beamB b.wrapped b.slack b.segB
  obtain ⟨hversion, htyp⟩ := firstByte (t := b.typ) (by omega)
  have hshape : ¬ ((encodeBeam b).length < 36 ∨ 1 ≠ 1 ∨ b.typ = 0 ∨ 3 < b.typ) := by omega
  simp only [LayoutReads, Beam.header, List.length_nil, Nat.reduceAdd] at hat
  obtain ⟨h0, h1, h2, h3, h4, h8, h11, h12, h14, h16, h20, h24, h28, h32, -⟩ := hat
  simp only [parseBeam, h0, h1, h2, h3, h4, h8, h11, h12, h14, h16, h20, h24, h28, h32, hversion, htyp, hB, hwrapped,
    hslack, hseg, hwords, if_neg hshape]

/-- A control frame that its header's bytes can hold reads back. -/
theorem parseCtl_encodeCtl {c : Ctl} (ht : 4 ≤ c.typ ∧ c.typ ≤ 6) (hc : c.cls < 8) (hfit : LayoutFits c.header) :
    parseCtl (encodeCtl c) = some c := by
  have hat := layoutReads_layout hfit [] (c.body ++ List.replicate (46 - (16 + c.body.length)) 0)
  rw [List.nil_append, ← encodeCtl_eq] at hat
  have hdrop : (encodeCtl c).drop 16 = c.body ++ List.replicate (46 - (16 + c.body.length)) 0 := by
    have hsum : (c.header.map (·.2)).sum = 16 := by simp [Ctl.header]
    rw [encodeCtl_eq, ← hsum, drop_layout]
  have hlength : 16 + c.body.length ≤ (encodeCtl c).length := by
    rw [encodeCtl_eq, List.length_append, List.length_append, length_layout]
    simp only [Ctl.header, List.map_cons, List.map_nil, List.sum_cons, List.sum_nil]
    omega
  obtain ⟨-, hcls, hadrift⟩ := classByte hc c.fromAdrift
  obtain ⟨hversion, htyp⟩ := firstByte (t := c.typ) (by omega)
  have hshape : ¬ ((encodeCtl c).length < 16 + c.body.length ∨ 1 ≠ 1 ∨ c.typ < 4 ∨ 6 < c.typ) := by omega
  simp only [LayoutReads, Ctl.header, List.length_nil, Nat.reduceAdd] at hat
  obtain ⟨h0, h1, h2, h3, h4, h6, h12, h14, -⟩ := hat
  simp only [parseCtl, h0, h1, h2, h3, h4, h6, h12, h14, hversion, htyp, hcls, hadrift, hdrop, List.take_left,
    if_neg hshape]

/-- Settles O50 (it holds): each number of a header reads back at its place, and the payload or body stands behind it. -/
theorem ringFramesReadBack : Obligations.RingFramesReadBack := by
  refine ⟨?beam, ?ctl⟩
  case beam =>
    intro b hlo hhi hring hlight hstride hoffset hepoch hlen hlength hadders htalk hint hall hcall hbitmap hp
    obtain ⟨hflags, -⟩ := beamFlags b.beamB b.wrapped b.slack b.segB
    refine parseBeam_encodeBeam ⟨hlo, hhi⟩ ?_ hlen hp
    simp only [LayoutFits, Beam.header, List.forall_mem_cons, List.not_mem_nil, false_implies, implies_true, and_true]
    omega
  case ctl =>
    intro c hlo hhi hcls hring hhops hsender hstride hseq hbody
    obtain ⟨hflags, -⟩ := classByte hcls c.fromAdrift
    refine parseCtl_encodeCtl ⟨hlo, hhi⟩ hcls ?_
    simp only [LayoutFits, Ctl.header, List.forall_mem_cons, List.not_mem_nil, false_implies, implies_true, and_true]
    omega

end Sys2Proof.Machine
end

section
/-! What every command has in common: it ends in `State.done`, so it answers a next state and leaves the queue; the state
after reset; and the settlements of O1, O2 and O3. -/

namespace Sys2Proof.Machine

/-! ### Every command ends in `State.done` -/

/-- A slack check of 1 s is done, whether or not the stall exists. -/
theorem execClockSlackCheck1S_done (n : Fin 128) (s : State) : ∃ x, execClockSlackCheck1S n s = s.done x := by
  unfold execClockSlackCheck1S
  split <;> exact ⟨_, rfl⟩

theorem execClockSlackCheck64_done (n : Fin 128) (s : State) : ∃ x, execClockSlackCheck64 n s = s.done x := by
  unfold execClockSlackCheck64
  split <;> exact ⟨_, rfl⟩

theorem execDuckHangExpiry_done (kind : Fin 3) (output : Fin 256) (s : State) :
    ∃ x, execDuckHangExpiry kind output s = s.done x := by
  unfold execDuckHangExpiry
  extract_lets k ends
  split <;> exact ⟨_, rfl⟩

/-- Every command is done: its effect is some state, with the queue as it was. -/
theorem exec_done (c : Instr) (s : State) : ∃ x, exec c s = s.done x := by
  cases c
  case clockSlackCheck1S n => exact execClockSlackCheck1S_done n s
  case clockSlackCheck64 n => exact execClockSlackCheck64_done n s
  case duckHangExpiry kind output => exact execDuckHangExpiry_done kind output s
  all_goals exact ⟨_, rfl⟩

/-- A step with a command waiting is that command on the state with the queue's rest. -/
theorem step_cons (c : Instr) (s : State) : step { s with pending := c :: s.pending } = exec c s := rfl

theorem step_idle {s : State} (h : s.pending = []) : step s = .next s := by
  unfold step
  rw [h]

/-! ### The state after reset -/

/-- With nothing written every field reads its reset value. -/
theorem State.get_reset (f : Fld) : State.reset.get f = f.rst % 2 ^ f.width := rfl

theorem State.memoriesKept_reset : State.reset.memoriesKept := by
  unfold State.memoriesKept
  decide

/-! ### The settlements -/

/-- Settles O1 (it holds): both clauses are the two branches of `step`. -/
theorem stepRunsTheFrontCommand : Obligations.StepRunsTheFrontCommand :=
  ⟨step_cons, fun _ h => step_idle h⟩

/-- Settles O2 (it holds): every command ends in `State.done`. -/
theorem everyCommandCompletes : Obligations.EveryCommandCompletes := by
  intro c s
  obtain ⟨x, hx⟩ := exec_done c s
  exact ⟨_, hx, rfl⟩

/-- Settles O3 (it holds): after reset the register file lists nothing, and neither do the queues, the log and the stores. -/
theorem resetLeavesTheBlockIdle : Obligations.ResetLeavesTheBlockIdle :=
  ⟨State.get_reset, rfl, rfl, rfl, rfl, rfl, rfl, rfl, State.memoriesKept_reset⟩

end Sys2Proof.Machine
end

section
/-! Arbitration of the writes of one period (R590, R592, R593): when a unit stands, and the settlement of O8. -/

namespace Sys2Proof.Machine

variable {s : State} {us : List UWrite} {u v : UWrite}

/-! ### Contradiction (R592) -/

theorem UWrite.meets_comm (a b : UWrite) : a.meets b = b.meets a := by
  simp only [UWrite.meets, Bool.beq_comm (a := a.key), and_comm]

theorem UWrite.contra_comm (a b : UWrite) : a.contra b = b.contra a := by
  have hmaster : (a.master != b.master) = (b.master != a.master) := bne_comm
  have hbits : ∀ x y : Nat, (x != y) = (y != x) := fun _ _ => bne_comm
  simp only [UWrite.contra, a.meets_comm b, hmaster, Nat.max_comm a.lo, Nat.min_comm (a.lo + a.width), hbits (bitsOf a.val _ _),
    Bool.and_assoc, Bool.and_left_comm (!a.loose)]

theorem UWrite.contra_master_ne (h : u.contra v = true) : u.master ≠ v.master := by
  simp only [UWrite.contra, Bool.and_eq_true, bne_iff_ne] at h
  obtain ⟨⟨⟨⟨-, hne⟩, -⟩, -⟩, -⟩ := h
  exact hne

/-! ### When a unit stands (R590, R593) -/

theorem State.verdict_eq_stands : s.verdict us u = .stands ↔ s.blocked u = false ∧ s.beats us u = none := by
  unfold State.verdict
  cases s.blocked u
  · cases s.beats us u <;> simp
  · simp only [if_true, Bool.true_eq_false, false_and, iff_false]
    split <;> simp

/-- Only a quiet value, or a group that nobody else holds, is not kept out. -/
theorem State.blocked_eq_false :
    s.blocked u = false ↔ s.holderOf u = 15 ∨ s.holderOf u = u.master ∨ u.quiet = true := by
  simp only [State.blocked, Bool.and_eq_false_iff, bne_eq_false_iff_eq, Bool.not_eq_false', or_assoc]

/-- A unit is beaten by none if it is quiet, or if no contradictory unit that is not kept out is quiet, its holder's, or, where
the unit's own master holds nothing, earlier in the order. -/
theorem State.beats_eq_none : s.beats us u = none ↔ u.quiet = true ∨ ∀ v ∈ us, u.contra v = true → s.blocked v = false →
    v.quiet = false ∧ v.master ≠ s.holderOf v ∧ (s.holderOf u = u.master ∨ u.master ≤ v.master) := by
  have hnone : ∀ q : UWrite → Bool, (us.filter (fun v => u.contra v && !s.blocked v)).find? q = none ↔
      ∀ v ∈ us, u.contra v = true → s.blocked v = false → q v = false := by
    intro q
    simp only [List.find?_eq_none, List.mem_filter, Bool.and_eq_true, Bool.not_eq_true', Bool.not_eq_true, and_imp]
  unfold State.beats
  cases hq : u.quiet
  · simp only [Bool.false_eq_true, if_false, false_or]
    split
    next w hw =>
      refine iff_of_false (by simp) fun hall => ?_
      rw [(hnone _).mpr fun v hv hc hb => (hall v hv hc hb).1] at hw
      cases hw
    next hquiet =>
      split
      next w hw =>
        refine iff_of_false (by simp) fun hall => ?_
        rw [(hnone _).mpr fun v hv hc hb => beq_false_of_ne (hall v hv hc hb).2.1] at hw
        cases hw
      next hholder =>
        have hquiet' := (hnone _).mp hquiet
        have hholder' := (hnone _).mp hholder
        split
        next hown =>
          refine iff_of_true rfl fun v hv hc hb => ⟨hquiet' v hv hc hb, ?_, .inl (eq_of_beq hown)⟩
          exact ne_of_beq_false (hholder' v hv hc hb)
        next hown =>
          have hown' : s.holderOf u ≠ u.master := fun e => hown (beq_iff_eq.mpr e)
          rw [hnone]
          refine forall_congr' fun v => forall_congr' fun hv => forall_congr' fun hc => forall_congr' fun hb => ?_
          simp [hquiet' v hv hc hb, ne_of_beq_false (hholder' v hv hc hb), hown']
  · simp

/-- Units of one group have one holder. -/
theorem State.holderOf_congr (h : v.rein = u.rein) : s.holderOf v = s.holderOf u := by
  simp only [State.holderOf, h]

/-! ### The clauses of the order -/

/-- A quiet value is applied whoever holds the reins. -/
theorem State.quiet_stands (h : u.quiet = true) : s.verdict us u = .stands :=
  State.verdict_eq_stands.mpr ⟨State.blocked_eq_false.mpr (.inr (.inr h)), State.beats_eq_none.mpr (.inl h)⟩

/-- The holder's write stands against writes of its group that are not quiet: these are kept out. -/
theorem State.holder_stands (hm : u.master < 15) (hh : s.holderOf u = u.master)
    (h : ∀ v ∈ us, u.contra v = true → v.quiet = false ∧ v.rein = u.rein) : s.verdict us u = .stands := by
  refine State.verdict_eq_stands.mpr ⟨State.blocked_eq_false.mpr (.inr (.inl hh)), State.beats_eq_none.mpr (.inr ?_)⟩
  intro v hv hc hb
  obtain ⟨hquiet, hrein⟩ := h v hv hc
  have hne := UWrite.contra_master_ne hc
  rw [State.blocked_eq_false, State.holderOf_congr hrein, hh, hquiet] at hb
  rcases hb with hb | hb | hb
  · omega
  · exact absurd hb hne
  · cases hb

/-- In a group that nobody holds the first in the fixed order stands. -/
theorem State.first_stands (hq : u.quiet = false) (hh : s.holderOf u = 15) (hm : u.master < 15)
    (h : ∀ v ∈ us, u.contra v = true → v.quiet = false ∧ v.rein = u.rein ∧ v.master < 15) :
    s.verdict us u = .stands ↔ ∀ v ∈ us, u.contra v = true → u.master < v.master := by
  have hblocked : s.blocked u = false := State.blocked_eq_false.mpr (.inl hh)
  rw [State.verdict_eq_stands, State.beats_eq_none]
  simp only [hblocked, hq, true_and, Bool.false_eq_true, false_or]
  refine forall_congr' fun v => forall_congr' fun hv => forall_congr' fun hc => ?_
  obtain ⟨hquiet, hrein, hmaster⟩ := h v hv hc
  have hholder : s.holderOf v = 15 := (State.holderOf_congr hrein).trans hh
  have hfree : s.blocked v = false := State.blocked_eq_false.mpr (.inl hholder)
  have hne := UWrite.contra_master_ne hc
  simp only [hfree, hquiet, hholder, hh, forall_true_left, true_and]
  omega

/-- Of two contradictory writes to one group, the second not quiet, one does not stand if the first is quiet or earlier in the
order. -/
theorem State.not_both_stand (hu : u ∈ us) (hc : u.contra v = true) (hr : u.rein = v.rein) (hv15 : v.master < 15)
    (hv : v.quiet = false) (h : u.quiet = true ∨ u.master < v.master) :
    ¬ (s.verdict us u = .stands ∧ s.verdict us v = .stands) := by
  rintro ⟨hsu, hsv⟩
  obtain ⟨hbu, -⟩ := State.verdict_eq_stands.mp hsu
  obtain ⟨hbv, hnv⟩ := State.verdict_eq_stands.mp hsv
  rw [State.beats_eq_none, hv] at hnv
  have hbeat := hnv.resolve_left (by simp) u hu (UWrite.contra_comm u v ▸ hc) hbu
  have hne := UWrite.contra_master_ne hc
  have hholder := State.holderOf_congr (s := s) hr
  obtain ⟨hquiet, hown, hlast⟩ := hbeat
  rw [State.blocked_eq_false, hquiet] at hbu
  rw [State.blocked_eq_false, hv] at hbv
  simp only [hquiet, Bool.false_eq_true, false_or, or_false] at h hbu hbv
  omega

/-! ### The settlement -/

/-- Settles O8 (it holds): what beats a unit is a quiet value, then the holder's, then the earlier in the order. -/
theorem arbitrationHasOneWinner : Obligations.ArbitrationHasOneWinner := by
  refine ⟨fun s us u => State.quiet_stands, fun s us u _ => State.holder_stands, fun s us u => State.first_stands, ?one,
    by decide, by decide, by decide, by decide, by decide⟩
  case one =>
    intro s us u v hu hv hc hr hmu hmv hquiet
    have hne := UWrite.contra_master_ne hc
    have hsym : v.contra u = true := UWrite.contra_comm u v ▸ hc
    cases hqu : u.quiet <;> cases hqv : v.quiet
    · rcases Nat.lt_or_gt_of_ne hne with hlt | hgt
      · exact State.not_both_stand hu hc hr hmv hqv (.inr hlt)
      · exact mt And.symm (State.not_both_stand hv hsym hr.symm hmu hqu (.inr hgt))
    · exact mt And.symm (State.not_both_stand hv hsym hr.symm hmu hqu (.inl hqv))
    · exact State.not_both_stand hu hc hr hmv hqv (.inl hqu)
    · simp [hqu, hqv] at hquiet

end Sys2Proof.Machine
end

section
/-! Commands that are a write of one register (R551, R826): the write by a master that is no host, the transaction of the host
that the strap selects, and the settlement of O10. -/

namespace Sys2Proof.Machine

variable {s : State} {c : Instr} {m : Master} {a : Nat} {w : Word}

/-- A command of `rowOf` is the write of its word to its register. -/
theorem exec_row (h : rowOf c = some (m, a, w)) (s : State) : exec c s = s.done (s.rowWrite m a w) := by
  cases c <;> cases h <;> rfl

theorem isHost_hostMaster (s : State) : isHost s.hostMaster = true := by
  unfold State.hostMaster
  split <;> rfl

/-- A command of `rowOf` by a master that is no host is its direct write. -/
theorem exec_row_direct (h : rowOf c = some (m, a, w)) (hm : isHost m = false) :
    exec c s = s.done (s.write m a w) := by
  rw [exec_row h, State.rowWrite_direct hm]

theorem State.rowWrite_hostMaster (s : State) (a : Nat) (w : Word) :
    s.rowWrite s.hostMaster a w = s.hostWrite .whole a [w] := by
  rw [State.rowWrite, if_pos (isHost_hostMaster s), if_pos rfl]

/-- The host that the strap does not select does not exist (R547). -/
theorem State.rowWrite_otherHost (hm : isHost m = true) (hne : m ≠ s.hostMaster) : s.rowWrite m a w = s := by
  rw [State.rowWrite, if_pos hm, if_neg hne]

/-- Settles O10 (it holds): each command of `rowOf` is the row's write, and that branches on the kind of master. -/
theorem rowCommandsAreRegisterWrites : Obligations.RowCommandsAreRegisterWrites := by
  intro s c m a w hrow
  refine ⟨fun hm => exec_row_direct hrow hm, fun hm => ?_, fun hm hne => ?_⟩
  · subst hm
    rw [exec_row hrow, State.rowWrite_hostMaster]
    rfl
  · rw [exec_row hrow, State.rowWrite_otherHost hm hne]
    rfl

end Sys2Proof.Machine
end

section
/-! The fields of a decided write (R17): each field takes its own bits and leaves the fields of other keys, and the settlement
of O32. -/

namespace Sys2Proof.Machine

variable {s : State} {f : FieldRow} {w mask : Nat}

/-- What one field takes of the bits of `mask` of word `w`. -/
def State.setField (s : State) (w mask : Nat) (f : FieldRow) : State :=
  let fm := bitsOf mask f.fld.lo f.fld.width
  let v := bitsOf w f.fld.lo f.fld.width
  let cur := s.get f.fld
  if fm = 0 then s
  else match f.acc with
    | .ro | .wo | .w1s => s
    | .w1c => if f.fld.addr = 0x8010C then s else s.set f.fld (cur - Nat.land cur (Nat.land v fm))
    | .rw | .rwl | .rws => s.set f.fld (cur - Nat.land cur fm + Nat.land v fm)

theorem State.setFields_eq (s : State) (r : RegRow) (w mask : Nat) :
    s.setFields r w mask = r.fields.foldl (fun s f => s.setField w mask f) s := rfl

theorem State.setField_only (s : State) (w mask : Nat) (f : FieldRow) : Only [f.fld] s (s.setField w mask f) := by
  have hset : ∀ v, Only [f.fld] s (s.set f.fld v) := (Only.refl _ s).set List.mem_cons_self
  unfold State.setField
  extract_lets fm v cur
  split
  · exact Only.refl _ s
  · split
    case h_4 => split
                · exact Only.refl _ s
                · exact hset _
    case h_1 | h_2 | h_3 => exact Only.refl _ s
    case h_5 | h_6 | h_7 => exact hset _

/-- A field that a write does not set keeps its state. -/
theorem State.setField_readOnly (h : f.acc = .ro ∨ f.acc = .wo) : s.setField w mask f = s := by
  unfold State.setField
  rcases h with h | h <;> simp [h]

theorem bitsOf_lt (w lo width : Nat) : bitsOf w lo width < 2 ^ width := Nat.mod_lt _ (by positivity)

/-- All bits of a word that reach up to bit 31 are all bits of the field. -/
theorem bitsOf_allOnes {lo width : Nat} (h : lo + width ≤ 32) : bitsOf (2 ^ 32 - 1) lo width = 2 ^ width - 1 := by
  refine Nat.eq_of_testBit_eq fun i => ?_
  rw [bitsOf, Nat.testBit_mod_two_pow, Nat.testBit_div_two_pow, Nat.testBit_two_pow_sub_one, Nat.testBit_two_pow_sub_one]
  by_cases hi : i < width
  · have : i + lo < 32 := by omega
    simp [hi, this]
  · simp [hi]

/-- A plain read/write field takes the word's bits, all of its own bits standing. -/
theorem State.get_setField_rw (hacc : f.acc = .rw) (hplace : f.fld.lo + f.fld.width ≤ 32) :
    (s.setField w (2 ^ 32 - 1) f).get f.fld = bitsOf w f.fld.lo f.fld.width := by
  have hland : ∀ x, x < 2 ^ f.fld.width → Nat.land x (2 ^ f.fld.width - 1) = x := fun x hx =>
    (Nat.and_two_pow_sub_one_eq_mod x _).trans (Nat.mod_eq_of_lt hx)
  have hword := bitsOf_lt w f.fld.lo f.fld.width
  have hcur := State.get_lt s f.fld
  unfold State.setField
  simp only [bitsOf_allOnes hplace, hacc, hland _ hword, hland _ hcur, Nat.sub_self, Nat.zero_add]
  split
  next hnone =>
    have hone : 2 ^ f.fld.width = 1 := by omega
    omega
  next => rw [State.get_set_self, Nat.mod_eq_of_lt hword]

/-- Among fields of different keys each one is set alone: on a state that reads it as the first one does. -/
theorem State.get_setFields {fs : List FieldRow} (hf : f ∈ fs) (hnodup : (fs.map (fun f => f.fld.key)).Nodup) (s : State) :
    ∃ x : State, x.get f.fld = s.get f.fld ∧
      (fs.foldl (fun s f => s.setField w mask f) s).get f.fld = (x.setField w mask f).get f.fld := by
  induction fs generalizing s with
  | nil => exact absurd hf List.not_mem_nil
  | cons g fs ih =>
    obtain ⟨hg, hnodup'⟩ := List.nodup_cons.mp hnodup
    rcases List.mem_cons.mp hf with rfl | hf'
    · refine ⟨s, rfl, ?_⟩
      have hrest : Only (fs.map (·.fld)) (s.setField w mask f) (fs.foldl (fun s f => s.setField w mask f) (s.setField w mask f)) :=
        (Only.refl _ _).foldl fun x g hg => (x.setField_only w mask g).mono (by
          simpa using ⟨g, hg, rfl⟩)
      exact hrest.2 f.fld (by simpa [Function.comp_def] using hg)
    · obtain ⟨x, hx, hfold⟩ := ih hf' hnodup' (s.setField w mask g)
      have hne : f.fld.key ∉ [g.fld].map Fld.key := by
        simp only [List.map_cons, List.map_nil, List.mem_singleton]
        exact fun e => hg (List.mem_map.mpr ⟨f, hf', e⟩)
      exact ⟨x, hx.trans ((s.setField_only w mask g).2 f.fld hne), hfold⟩

/-- Settles O32 (it holds): the row's fields have different keys, so each reads back what it took itself. -/
theorem writtenFieldsReadBack : Obligations.WrittenFieldsReadBack := by
  intro s r w hnodup
  rw [State.setFields_eq]
  refine ⟨fun f hf hacc hplace => ?_, ?_, fun f hf hacc => ?_⟩
  · obtain ⟨x, -, hfold⟩ := State.get_setFields hf hnodup s
    exact hfold.trans (State.get_setField_rw hacc hplace)
  · exact (Only.refl _ s).foldl fun x f hf => (x.setField_only w _ f).mono (by simpa using ⟨f, hf, rfl⟩)
  · obtain ⟨x, hx, hfold⟩ := State.get_setFields hf hnodup s
    rw [hfold, State.setField_readOnly hacc, hx]

end Sys2Proof.Machine
end

section
/-! REGISTER_WRITE as the direct write, and HOST_WRITE and HOST_READ of the copy buffer (R552, R555, R592, R601): how a word of
the buffer is accepted and read, and the settlements of O31 and O33. -/

namespace Sys2Proof.Machine

variable {s : State} {m : Master} {a : Nat}

/-! ### A host write wakes the application core (R747) -/

/-- A domain asked for joins the power-up queue, and nothing else changes. -/
theorem State.requestDomain_eq (s : State) (d : Nat) :
    ∃ q, s.requestDomain d = { s with power := { s.power with upQueue := q } } := by
  unfold State.requestDomain
  split
  · exact ⟨s.power.upQueue, rfl⟩
  · exact ⟨_, rfl⟩

theorem State.hostWakes_eq (s : State) :
    ∃ q, s.hostWakes = { s with power := { s.power with upQueue := q } } := s.requestDomain_eq 3

@[simp] theorem State.hostWakes_regs (s : State) : s.hostWakes.regs = s.regs := by
  obtain ⟨q, hq⟩ := s.hostWakes_eq
  rw [hq]

@[simp] theorem State.hostWakes_copy (s : State) : s.hostWakes.copy = s.copy := by
  obtain ⟨q, hq⟩ := s.hostWakes_eq
  rw [hq]

@[simp] theorem State.hostWakes_resetHeld (s : State) : s.hostWakes.power.resetHeld = s.power.resetHeld := by
  obtain ⟨q, hq⟩ := s.hostWakes_eq
  rw [hq]

@[simp] theorem State.hostMaster_hostWakes (s : State) : s.hostWakes.hostMaster = s.hostMaster := by
  obtain ⟨q, hq⟩ := s.hostWakes_eq
  rw [hq]
  rfl

/-! ### REGISTER_WRITE (R547, R592) -/

/-- A write by a master that does not exist is none. -/
theorem State.write_absent (h : s.exists_ m = false) (a : Nat) (w : Word) : s.write m a w = s := by
  simp [State.write, State.accept, h]

theorem exec_registerWrite_direct (hm : isHost m = false) (a : Nat) (w : Word) :
    exec (.registerWrite m a w []) s = s.done (s.write m a w) := by
  have hne : m ≠ s.hostMaster := fun e => by simp [e, isHost_hostMaster] at hm
  change execRegisterWrite m a w [] s = _
  unfold execRegisterWrite
  cases hex : s.exists_ m
  · simp [hne, hex, State.write_absent hex]
  · simp [hne, hex, State.write]

theorem exec_registerWrite_host (hreset : s.power.resetHeld = false) (ha : a % 4 = 0) (w : Word) :
    exec (.registerWrite s.hostMaster a w []) s = exec (.hostWrite .whole a [w]) s := by
  have hwakes : s.newTxn.2.hostWakes.hostMaster = s.hostMaster := State.hostMaster_hostWakes _
  change execRegisterWrite s.hostMaster a w [] s = s.done (s.hostWrite .whole a [w])
  simp [execRegisterWrite, State.hostWrite, State.writeWords, hreset, ha, isHost_hostMaster, hwakes]

/-- Settles O31 (it holds): without rivals the one write of the cycle is found, the host's as a transaction of one word. -/
theorem registerWriteIsTheDirectWrite : Obligations.RegisterWriteIsTheDirectWrite :=
  ⟨fun _ _ a w hm => exec_registerWrite_direct hm a w, fun _ _ w hreset ha => exec_registerWrite_host hreset ha w⟩

/-! ### Runs of bytes in a memory -/

theorem Memory.readAll_eq_map (m : List Host.Cell) (a n : Nat) :
    Memory.readAll m a n = (List.range n).map (fun j => Memory.read m (a + j)) := by
  induction n generalizing a with
  | zero => rfl
  | succ n ih =>
    rw [Memory.readAll, ih, List.range_succ_eq_map]
    simp [Function.comp_def, Nat.add_comm 1, Nat.add_assoc]

/-- Bytes inside a run of writes read back in order. -/
theorem Memory.readAll_writeAll (m : List Host.Cell) (a : Nat) (before l after : List Byte) :
    Memory.readAll (Memory.writeAll m a (before ++ (l ++ after))) (a + before.length) l.length = l := by
  rw [Memory.readAll_eq_map]
  refine List.ext_getElem (by simp) fun j _ hj => ?_
  have hlt : before.length + j < (before ++ (l ++ after)).length := by simp only [List.length_append]; omega
  rw [List.getElem_map, List.getElem_range, Nat.add_assoc, Memory.read_writeAll _ _ _ _ hlt,
    List.getElem_append_right (by omega)]
  simp [List.getElem_append_left hj]

theorem Memory.writeAll_append (l k : List Byte) : ∀ (m : List Host.Cell) (a : Nat),
    Memory.writeAll m a (l ++ k) = Memory.writeAll (Memory.writeAll m a l) (a + l.length) k := by
  induction l with
  | nil => intro m a; rfl
  | cons b l ih =>
    intro m a
    rw [List.cons_append, Memory.writeAll, Memory.writeAll, ih, List.length_cons, Nat.add_assoc, Nat.add_comm 1]

/-! ### Words of the copy buffer (R601) -/

/-- The bytes `l` written to the copy buffer from offset `o` up. -/
def State.fillBuffer (s : State) (o : Nat) (l : List Byte) : State :=
  { s with copy := { s.copy with buf := Memory.writeAll s.copy.buf o l } }

/-- A word address of the copy buffer. -/
def inBuffer (a : Nat) : Prop := a % 4 = 0 ∧ 0x2000000 ≤ a ∧ a < 0x2010000

theorem State.reach_buffer (h : inBuffer a) (s : State) (m : Master) :
    s.reach m a false = .buffer (a - 0x2000000) := by
  obtain ⟨halign, hlo, hhi⟩ := h
  have hwindow : ¬ (0x1000000 ≤ a ∧ a < 0x1000200) := by omega
  simp only [State.reach, halign, hwindow, hlo, hhi, ne_eq, not_true_eq_false, if_false, if_true, and_self]

theorem State.exists_hostMaster (h : s.power.resetHeld = false) : s.exists_ s.hostMaster = true := by
  simp [State.exists_, h, isHost_hostMaster]

/-- A word for the copy buffer, by whatever way it comes but the copy engine's, is taken at once. -/
theorem State.accept_buffer (hex : s.exists_ m = true) (h : inBuffer a) {src : WSrc} (hsrc : viaCopy src = false) (w : Nat) :
    s.accept m a w [] src = (s.fillBuffer (a - 0x2000000) (beBytes w 4), .ok, false) := by
  have hreach := State.reach_buffer h
  have hwaits : ∀ p : PWrite, p.addr = a → p.src = src → s.waits p = false := by
    intro p hp hp'
    simp only [State.waits, hp, hp', hsrc, hreach]
  unfold State.accept
  simp only [hex, List.filter_nil, List.map_nil, hwaits ⟨m, a, w, _, src⟩ rfl rfl,
    List.filter_cons, Bool.not_true, Bool.false_eq_true, if_false, List.append_nil]
  simp only [State.decideWrites, State.prepare, State.carry, hsrc, hreach,
    List.length_singleton, List.range_one, List.zip_cons_cons, List.zip_nil_right, List.map_cons, List.map_nil,
    List.foldl_cons, List.foldl_nil, List.reverse_singleton, List.getD_cons_zero]
  rfl

/-- The words of a host write to the copy buffer fill it in order. -/
theorem State.writeWords_buffer (hreset : s.power.resetHeld = false) (ws : List Word) (id i : Nat) (t : Txn)
    (halign : a % 4 = 0) (hlo : 0x2000000 ≤ a) (hhi : a + 4 * (i + ws.length) ≤ 0x2010000) :
    s.writeWords a id i t ws =
      (s.fillBuffer (a - 0x2000000 + 4 * i) (ws.flatMap (fun w => beBytes w.toNat 4)), t) := by
  induction ws generalizing s i t with
  | nil => rfl
  | cons w ws ih =>
    rw [List.length_cons] at hhi
    have hin : inBuffer (a + 4 * i) := ⟨by omega, by omega, by omega⟩
    have hplace : a + 4 * i - 0x2000000 = a - 0x2000000 + 4 * i := by omega
    rw [State.writeWords, State.accept_buffer (State.exists_hostMaster hreset) hin rfl, hplace]
    simp only [noteBad, true_or, if_true, bit1, Bool.false_eq_true, if_false, Nat.add_zero]
    rw [ih (s := s.fillBuffer (a - 0x2000000 + 4 * i) (beBytes w.toNat 4)) hreset (i + 1) t (by omega)]
    simp only [State.fillBuffer, List.flatMap_cons, Memory.writeAll_append, length_beBytes, Nat.mul_add, Nat.add_assoc]

/-- A host write of whole words to the copy buffer fills it, and its transaction ends OK. -/
theorem exec_hostWrite_buffer (hreset : s.power.resetHeld = false) (ws : List Word) (halign : a % 4 = 0)
    (hlo : 0x2000000 ≤ a) (hhi : a + 4 * ws.length ≤ 0x2010000) :
    ∃ t, exec (.hostWrite .whole a ws) s = .next t ∧ t.answer.code = .ok ∧ t.regs = s.regs ∧
      t.copy.buf = Memory.writeAll s.copy.buf (a - 0x2000000) (ws.flatMap (fun w => beBytes w.toNat 4)) := by
  have hwords := State.writeWords_buffer (s := s.newTxn.2.hostWakes) ((State.hostWakes_resetHeld _).trans hreset) ws
    s.newTxn.1 0 ⟨s.newTxn.1, [], 0⟩ halign hlo (by omega)
  rw [Nat.mul_zero, Nat.add_zero] at hwords
  have halign' : ¬ a % 4 ≠ 0 := by omega
  have hbuf : s.newTxn.2.hostWakes.copy.buf = s.copy.buf := by rw [State.hostWakes_copy]; rfl
  refine ⟨_, rfl, ?_⟩
  simp only [State.hostWrite, hreset, Bool.false_eq_true, if_false, if_neg halign', reduceCtorEq, hwords, if_true,
    State.answerHost, State.endTxn, State.fillBuffer]
  refine ⟨rfl, State.hostWakes_regs _, ?_⟩
  simp only [State.updHost, hbuf]

/-- A read of words of the copy buffer answers them and leaves the state. -/
theorem State.readWords_buffer (s : State) (k i : Nat) (halign : a % 4 = 0) (hlo : 0x2000000 ≤ a)
    (hhi : a + 4 * (i + k) ≤ 0x2010000) :
    s.readWords a i k = ([], (List.range k).map (fun j =>
      BitVec.ofNat 32 (beNat (Memory.readAll s.copy.buf (a - 0x2000000 + 4 * (i + j)) 4))), s) := by
  induction k generalizing i with
  | zero => rfl
  | succ k ih =>
    have hin : inBuffer (a + 4 * i) := ⟨by omega, by omega, by omega⟩
    have hplace : a + 4 * i - 0x2000000 = a - 0x2000000 + 4 * i := by omega
    rw [State.readWords, State.readWord, State.reach_buffer hin, hplace]
    simp only [if_true, ih (i + 1) (by omega), List.range_succ_eq_map, List.map_cons, List.map_map, Nat.add_zero]
    simp only [Function.comp_def, Nat.succ_eq_add_one, Nat.add_assoc, Nat.add_comm 1]

/-- Settles O33 (it holds): the words of a write fill the buffer in order, and a read leaves the state. -/
theorem copyBufferReadsBack : Obligations.CopyBufferReadsBack := by
  refine ⟨fun s a ws hreset halign hlo hhi => ?write, fun s a k hreset halign hlo hhi => ?read⟩
  case write =>
    obtain ⟨t, ht, hcode, hregs, hbuf⟩ := exec_hostWrite_buffer hreset ws halign hlo hhi
    refine ⟨t, ht, hcode, hregs, fun i hi => ?_, fun b hb => ?_⟩
    · have hsplit : ws.flatMap (fun w => beBytes w.toNat 4) = (ws.take i).flatMap (fun w => beBytes w.toNat 4) ++
          (beBytes ws[i].toNat 4 ++ (ws.drop (i + 1)).flatMap (fun w => beBytes w.toNat 4)) := by
        conv_lhs => rw [← List.take_append_drop i ws, List.drop_eq_getElem_cons hi]
        rw [List.flatMap_append, List.flatMap_cons]
      have hplace : ((ws.take i).flatMap (fun w => beBytes w.toNat 4)).length = 4 * i := by
        simp [List.length_flatMap, Nat.mul_comm, Nat.min_eq_left (Nat.le_of_lt hi)]
      have hread := Memory.readAll_writeAll s.copy.buf (a - 0x2000000) ((ws.take i).flatMap (fun w => beBytes w.toNat 4))
        (beBytes ws[i].toNat 4) ((ws.drop (i + 1)).flatMap (fun w => beBytes w.toNat 4))
      rw [hplace, length_beBytes] at hread
      rw [hbuf, hsplit, hread, List.getD_eq_getElem _ _ hi]
      exact beNat_beBytes ws[i].isLt
    · rw [hbuf, Memory.read_writeAll_other]
      simpa [List.length_flatMap, Nat.mul_comm] using hb
  case read =>
    have hwords := s.newTxn.2.readWords_buffer k 0 halign hlo (by omega)
    have halign' : ¬ a % 4 ≠ 0 := by omega
    refine ⟨_, rfl, ?_⟩
    simp only [State.hostRead, hreset, Bool.false_eq_true, if_false, if_neg halign', reduceCtorEq, hwords, if_true,
      State.answerHost, State.endTxn, Nat.zero_add]
    exact ⟨rfl, rfl, rfl, rfl⟩

end Sys2Proof.Machine
end

section
/-! A write that nothing keeps out, to a register of plain fields (R17, R592, R826): which of its fields the write moves, which
bits of the word then stand, and what the register file takes. -/

namespace Sys2Proof.Machine

variable {s : State} {m : Master} {a w : Nat} {r : RegRow} {f : FieldRow} {fs : List FieldRow}

/-- A fold whose every step leaves the value leaves it. -/
theorem foldl_of_fixed {α β : Type} {g : β → α → β} {b : β} {l : List α} (h : ∀ x ∈ l, g b x = b) : l.foldl g b = b := by
  induction l with
  | nil => rfl
  | cons x l ih =>
    rw [List.foldl_cons, h x List.mem_cons_self]
    exact ih fun y hy => h y (List.mem_cons_of_mem _ hy)

/-! ### The fields that a write moves -/

/-- The write `w` gives field `f` something to decide: for a read/write field another value, for a write-only field of less than
eight bits a value other than 0. -/
def FieldRow.moves (s : State) (w : Nat) (f : FieldRow) : Bool :=
  match f.acc with
  | .ro => false
  | .w1c | .w1s => bitsOf w f.fld.lo f.fld.width != 0
  | .wo => bitsOf w f.fld.lo f.fld.width != 0 || decide (8 ≤ f.fld.width)
  | .rw | .rwl | .rws => bitsOf w f.fld.lo f.fld.width != s.get f.fld

/-- The bits of the word at a field's place. -/
def FieldRow.mask (f : FieldRow) : Nat := (2 ^ f.fld.width - 1) * 2 ^ f.fld.lo

/-- The bits of the word that a write of `w` to the fields `fs` moves. -/
def moveMask (s : State) (fs : List FieldRow) (w : Nat) : Nat :=
  (fs.filter (fun f => f.moves s w)).foldl (fun n f => Nat.lor n f.mask) 0

theorem FieldRow.testBit_mask (f : FieldRow) (i : Nat) :
    f.mask.testBit i = (decide (f.fld.lo ≤ i) && decide (i < f.fld.lo + f.fld.width)) := by
  rw [FieldRow.mask, Nat.testBit_mul_two_pow, Nat.testBit_two_pow_sub_one]
  by_cases h : f.fld.lo ≤ i
  · have : i - f.fld.lo < f.fld.width ↔ i < f.fld.lo + f.fld.width := by omega
    simp [h, this]
  · simp [h]

theorem testBit_foldl_lor (l : List FieldRow) (n i : Nat) :
    (l.foldl (fun n f => Nat.lor n f.mask) n).testBit i = (n.testBit i || l.any (fun f => f.mask.testBit i)) := by
  induction l generalizing n with
  | nil => simp
  | cons f l ih =>
    have hor : (Nat.lor n f.mask).testBit i = (n.testBit i || f.mask.testBit i) := Nat.testBit_or n f.mask i
    rw [List.foldl_cons, ih, hor, List.any_cons, Bool.or_assoc]

theorem testBit_moveMask (s : State) (fs : List FieldRow) (w i : Nat) :
    (moveMask s fs w).testBit i = fs.any (fun f => f.moves s w && f.mask.testBit i) := by
  rw [moveMask, testBit_foldl_lor, Nat.zero_testBit, Bool.false_or, List.any_filter]

/-- The fields of a row lie at different places of its word. -/
def FieldsApart (fs : List FieldRow) : Prop :=
  ∀ f ∈ fs, ∀ g ∈ fs, f.fld.lo < g.fld.lo + g.fld.width → g.fld.lo < f.fld.lo + f.fld.width → f = g

theorem testBit_bitsOf (w lo width i : Nat) : (bitsOf w lo width).testBit i = (decide (i < width) && w.testBit (i + lo)) := by
  rw [bitsOf, Nat.testBit_mod_two_pow, Nat.testBit_div_two_pow]

/-- At a field's own place the moved bits are all or none. -/
theorem testBit_moveMask_field (hapart : FieldsApart fs) (hf : f ∈ fs) {i : Nat} (hi : i < f.fld.width) :
    (moveMask s fs w).testBit (i + f.fld.lo) = f.moves s w := by
  rw [testBit_moveMask]
  cases hm : f.moves s w
  · rw [List.any_eq_false]
    intro g hg
    by_cases hgf : g = f
    · simp [hgf, hm]
    · have : ¬ (g.fld.lo ≤ i + f.fld.lo ∧ i + f.fld.lo < g.fld.lo + g.fld.width) := fun hin =>
        hgf (hapart g hg f hf (by omega) (by omega))
      simp only [FieldRow.testBit_mask, ← Bool.decide_and, this, decide_false, Bool.and_false, Bool.false_eq_true,
        not_false_eq_true]
  · refine List.any_eq_true.mpr ⟨f, hf, ?_⟩
    simp only [hm, FieldRow.testBit_mask, Bool.true_and, ← Bool.decide_and, decide_eq_true_eq]
    omega

theorem bitsOf_moveMask (hapart : FieldsApart fs) (hf : f ∈ fs) :
    bitsOf (moveMask s fs w) f.fld.lo f.fld.width = if f.moves s w then 2 ^ f.fld.width - 1 else 0 := by
  refine Nat.eq_of_testBit_eq fun i => ?_
  rw [testBit_bitsOf]
  by_cases hi : i < f.fld.width
  · rw [testBit_moveMask_field hapart hf hi]
    cases f.moves s w <;> simp [hi]
  · cases f.moves s w <;> simp [hi]

/-- What stands of the word at the place of a field that is write-only, or that moves, is what was written there. -/
theorem bitsOf_land_moveMask (hapart : FieldsApart fs) (hf : f ∈ fs) (hacc : f.acc = .wo ∨ f.moves s w = true) :
    bitsOf (Nat.land w (moveMask s fs w)) f.fld.lo f.fld.width = bitsOf w f.fld.lo f.fld.width := by
  refine Nat.eq_of_testBit_eq fun i => ?_
  have hland : (Nat.land w (moveMask s fs w)).testBit (i + f.fld.lo) =
      (w.testBit (i + f.fld.lo) && (moveMask s fs w).testBit (i + f.fld.lo)) := Nat.testBit_and _ _ _
  rw [testBit_bitsOf, testBit_bitsOf, hland]
  by_cases hi : i < f.fld.width
  · rw [testBit_moveMask_field hapart hf hi]
    cases hm : f.moves s w
    · have hzero : bitsOf w f.fld.lo f.fld.width = 0 := by
        simp only [hm, Bool.false_eq_true, or_false] at hacc
        simp only [FieldRow.moves, hacc, Bool.or_eq_false_iff, bne_eq_false_iff_eq] at hm
        exact hm.1
      have := testBit_bitsOf w f.fld.lo f.fld.width i
      rw [hzero, Nat.zero_testBit] at this
      simpa using this
    · simp
  · simp [hi]

/-! ### Plain fields, and how a write of them is prepared -/

/-- A field of the register at `a` whose write is one unit of all its bits. -/
def FieldRow.plain (a : Nat) (f : FieldRow) : Bool :=
  decide (f.fld.addr = a) && decide (f.quiet = none) && decide (f.fld.lo + f.fld.width ≤ 32) && decide (0 < f.fld.width)

/-- An address whose fields are no bits of another register's field. -/
def plainAddr (a : Nat) : Bool :=
  decide (a ∉ [0x30, 0x80108, 0x8010C, F.TG_XP_WRITE_GAIN.addr]) && decide (a < 2 ^ 32)

/-- The writes that contradict none: of single bits set or cleared, of the toggles, and of the reins (R592). -/
def looseWrite (a : Nat) (f : FieldRow) : Bool :=
  match f.acc with
  | .w1c | .w1s => true
  | .wo => decide (f.fld = F.TG_KEY_TOGGLE_TOGGLE ∨ a = 0x50000 ∨ a = 0x50004)
  | .ro | .rw | .rwl | .rws => false

/-- The unit of a plain field. -/
def plainUnit (i : Nat) (p : PWrite) (rein : Option Nat) (f : FieldRow) : UWrite :=
  ⟨i, p.master.code, f.fld.key, 0, f.fld.width, bitsOf p.val f.fld.lo f.fld.width, false,
    looseWrite p.addr f, p.addr, f.fld.lo, f.fld.width, rein⟩

theorem State.fieldUnits_plain {p : PWrite} (hp : plainAddr p.addr = true) (hf : f.plain p.addr = true) (s : State) (i : Nat)
    (rein : Option Nat) :
    s.fieldUnits i p rein f = if f.moves s p.val then [plainUnit i p rein f] else [] := by
  simp only [plainAddr, List.mem_cons, List.not_mem_nil, or_false, not_or, Bool.and_eq_true, decide_eq_true_eq] at hp
  simp only [FieldRow.plain, Bool.and_eq_true, decide_eq_true_eq] at hf
  obtain ⟨⟨-, hset, hclr, hxp⟩, -⟩ := hp
  obtain ⟨⟨⟨-, hquiet⟩, -⟩, -⟩ := hf
  have hgpio : ¬ (p.addr = 0x80108 ∨ p.addr = 0x8010C) := by simp [hset, hclr]
  unfold State.fieldUnits FieldRow.moves plainUnit looseWrite
  simp only [if_neg hgpio, if_neg hxp, hquiet]
  generalize bitsOf p.val f.fld.lo f.fld.width = v
  cases f.acc
  case ro => rfl
  case w1c | w1s => by_cases h : v = 0 <;> simp [h]
  case rw | rwl | rws => by_cases h : v = s.get f.fld <;> simp [h]
  case wo => by_cases h : v = 0 <;> by_cases h8 : f.fld.width < 8 <;> simp [h, h8]

theorem plainUnit_wordMask {p : PWrite} {i : Nat} {rein : Option Nat} (hp : plainAddr p.addr = true)
    (hf : f.plain p.addr = true) : (plainUnit i p rein f).wordMask = f.mask := by
  simp only [plainAddr, Bool.and_eq_true, decide_eq_true_eq] at hp
  simp only [FieldRow.plain, Bool.and_eq_true, decide_eq_true_eq] at hf
  obtain ⟨-, haddr⟩ := hp
  obtain ⟨⟨⟨hfa, -⟩, hplace⟩, hwidth⟩ := hf
  have hkey : ¬ 2 ^ 40 ≤ (plainUnit i p rein f).key := by
    simp only [plainUnit, Fld.key, hfa]
    omega
  rw [UWrite.wordMask, if_neg hkey]
  exact if_pos rfl

/-- Units of different keys all stand. -/
theorem lastStands_of_nodup : ∀ {us : List UWrite}, (us.map (·.key)).Nodup → lastStands us = us
  | [], _ => rfl
  | u :: us, h => by
    obtain ⟨hu, hus⟩ := List.nodup_cons.mp h
    have hlast : us.any (fun v => v.master == u.master && v.key == u.key && v.lo == u.lo && v.width == u.width) = false := by
      rw [List.any_eq_false]
      intro v hv
      have hkey : ¬ v.key = u.key := fun e => hu (List.mem_map.mpr ⟨v, hv, e⟩)
      simp [hkey]
    rw [lastStands, hlast, Bool.and_false, if_neg Bool.false_ne_true, lastStands_of_nodup hus]

theorem soleMask_of_nodup {us : List UWrite} (h : (us.map (·.key)).Nodup) :
    soleMask us = us.foldl (fun n u => Nat.lor n u.wordMask) 0 := by
  rw [soleMask, lastStands_of_nodup h, List.filter_eq_self.mpr fun u hu => List.contains_iff_mem.mpr hu]

/-- The outcome of each field of a write that nothing refuses: it is taken, or, read-only, skipped. -/
def Admits (s : State) (m : Master) (a w : Nat) (fs : List FieldRow) : Prop :=
  ∀ f ∈ fs, s.admitField m a w f (bitsOf w f.fld.lo f.fld.width) = if f.acc = .ro then .skip else .take

theorem Admits.no_refusal (h : Admits s m a w fs) {x : Admit} (hx : x = .refuse ∨ x = .persona) :
    (fs.map (fun f => s.admitField m a w f (bitsOf w f.fld.lo f.fld.width))).contains x = false := by
  rw [List.contains_eq_any_beq, List.any_eq_false]
  intro y hy
  obtain ⟨f, hf, rfl⟩ := List.mem_map.mp hy
  rw [h f hf]
  rcases hx with rfl | rfl <;> split <;> simp

/-- A write with no field refused leaves no record of a refusal. -/
theorem Admits.logRefusals (h : Admits s m a w fs) (t : State) (p : PWrite) (r : RegRow) :
    t.logRefusals p r (fs.map (fun f => s.admitField m a w f (bitsOf w f.fld.lo f.fld.width))) = t := by
  simp only [State.logRefusals, h.no_refusal (.inl rfl), h.no_refusal (.inr rfl), Bool.false_eq_true, if_false]

/-- The units of a write of plain fields are those of the fields that it moves. -/
theorem Admits.units {p : PWrite} (h : Admits s p.master p.addr p.val fs) (hp : plainAddr p.addr = true)
    (hfs : ∀ f ∈ fs, f.plain p.addr = true) (i : Nat) (rein : Option Nat) :
    (fs.zip (fs.map (fun f => s.admitField p.master p.addr p.val f (bitsOf p.val f.fld.lo f.fld.width)))).flatMap
        (fun x => if x.2 = .take then s.fieldUnits i p rein x.1 else []) =
      (fs.filter (fun f => f.moves s p.val)).map (plainUnit i p rein) := by
  induction fs with
  | nil => rfl
  | cons f fs ih =>
    have hrest := ih (fun g hg => h g (List.mem_cons_of_mem _ hg)) (fun g hg => hfs g (List.mem_cons_of_mem _ hg))
    rw [List.map_cons, List.zip_cons_cons, List.flatMap_cons, hrest, h f List.mem_cons_self,
      State.fieldUnits_plain hp (hfs f List.mem_cons_self)]
    by_cases hro : f.acc = .ro
    · have hstill : f.moves s p.val = false := by simp [FieldRow.moves, hro]
      simp [hro, hstill]
    · cases hm : f.moves s p.val <;> simp [hro, hm]

theorem foldl_plainUnit {p : PWrite} {i : Nat} {rein : Option Nat} (hp : plainAddr p.addr = true)
    (hfs : ∀ f ∈ fs, f.plain p.addr = true) (n : Nat) :
    (fs.map (plainUnit i p rein)).foldl (fun n u => Nat.lor n u.wordMask) n = fs.foldl (fun n f => Nat.lor n f.mask) n := by
  induction fs generalizing n with
  | nil => rfl
  | cons f fs ih =>
    rw [List.map_cons, List.foldl_cons, List.foldl_cons, plainUnit_wordMask hp (hfs f List.mem_cons_self),
      ih fun g hg => hfs g (List.mem_cons_of_mem _ hg)]

/-- The bits of the word that the units of plain fields stand for. -/
theorem soleMask_plain {p : PWrite} {i : Nat} {rein : Option Nat} (hp : plainAddr p.addr = true)
    (hfs : ∀ f ∈ fs, f.plain p.addr = true) (hkeys : (fs.map (fun f => f.fld.key)).Nodup) :
    soleMask ((fs.filter (fun f => f.moves s p.val)).map (plainUnit i p rein)) = moveMask s fs p.val := by
  have hnodup : (((fs.filter (fun f => f.moves s p.val)).map (plainUnit i p rein)).map (·.key)).Nodup := by
    rw [List.map_map]
    exact (List.filter_sublist.map _).nodup hkeys
  rw [soleMask_of_nodup hnodup, foldl_plainUnit hp fun f hf => hfs f (List.mem_of_mem_filter hf)]
  rfl

/-! ### A write that is decided at once -/

/-- A row none of whose fields waits for the boundary, all of them plain and at different places. -/
structure PlainRow (a : Nat) (r : RegRow) : Prop where
  addr : plainAddr a = true
  plain : ∀ f ∈ r.fields, f.plain a = true
  now : ∀ f ∈ r.fields, f.stride = false
  keys : (r.fields.map (fun f => f.fld.key)).Nodup
  apart : FieldsApart r.fields

theorem PlainRow.ne_errBank (h : PlainRow a r) : a ≠ 0x30 := by
  rintro rfl
  exact absurd h.addr (by decide)

theorem strideMask_now (h : ∀ f ∈ r.fields, f.stride = false) : strideMask r = 0 := by
  exact foldl_of_fixed fun f hf => if_neg (by simp [h f hf])

theorem PlainRow.cycleMask (h : PlainRow a r) (hrow : regRow a = some r) : cycleMask a = 2 ^ 32 - 1 := by
  simp [Sys2Proof.Machine.cycleMask, hrow, strideMask_now h.now]

/-- With all bits of the word covered, every field is. -/
theorem PlainRow.covered (h : PlainRow a r) : coveredFields r (2 ^ 32 - 1) = r.fields := by
  refine List.filter_eq_self.mpr fun f hf => ?_
  have hf' := h.plain f hf
  simp only [FieldRow.plain, Bool.and_eq_true, decide_eq_true_eq] at hf'
  obtain ⟨⟨-, hplace⟩, hwidth⟩ := hf'
  have hpow := Nat.one_lt_two_pow (Nat.pos_iff_ne_zero.mp hwidth)
  rw [bitsOf_allOnes hplace, bne_iff_ne]
  omega

/-- A write that nothing keeps out to a row of plain fields, none of them refused, applies the bits that it moves. -/
theorem Writable.write_plain (h : Writable s m a r) (hr : PlainRow a r) (w : Word) (hadm : Admits s m a w.toNat r.fields) :
    s.write m a w =
      if moveMask s r.fields w.toNat ≠ 0 ∨ a = 0x1C ∨ s.streamErr a w.toNat r ∨
          s.sidetoneErr m a w.toNat (2 ^ 32 - 1) r then
        (s.applyWrite m a w.toNat (moveMask s r.fields w.toNat) r).1
      else s := by
  have hstride : r.fields.any (·.stride) = false := by
    rw [List.any_eq_false]
    exact fun f hf => by simp [hr.now f hf]
  have hcycle := hr.cycleMask h.row
  have hprep := h.prepare w.toNat
  simp only [hcycle, hr.covered] at hprep
  rw [State.write_sole h w hr.ne_errBank (h.waits_none hstride _ _) rfl, hcycle, hprep]
  have hunits := Admits.units (p := ⟨m, a, w.toNat, 2 ^ 32 - 1, .direct⟩) hadm hr.addr hr.plain 0 r.rein
  have hmask := soleMask_plain (s := s) (p := ⟨m, a, w.toNat, 2 ^ 32 - 1, .direct⟩) (i := 0) (rein := r.rein) hr.addr hr.plain hr.keys
  simp only at hunits hmask ⊢
  rw [hunits, hmask, hadm.logRefusals]

/-! ### What the register file takes -/

/-- A write that moves no read/write field and has no field that is cleared by a 1 leaves the register file. -/
theorem State.setFields_still (hapart : FieldsApart r.fields)
    (h : ∀ f ∈ r.fields, f.acc = .ro ∨ f.acc = .wo ∨ f.acc = .w1s ∨ f.moves s w = false) :
    s.setFields r w (moveMask s r.fields w) = s := by
  have hstep : ∀ f ∈ r.fields, s.setField w (moveMask s r.fields w) f = s := by
    intro f hf
    unfold State.setField
    rw [bitsOf_moveMask hapart hf]
    rcases h f hf with hacc | hacc | hacc | hm
    · simp [hacc]
    · simp [hacc]
    · simp [hacc]
    · simp [hm]
  rw [State.setFields_eq]
  exact foldl_of_fixed hstep

/-- A plain read/write field reads back what the word has for it, moved or not. -/
theorem State.get_setFields_rw (hr : PlainRow a r) (hf : f ∈ r.fields) (hacc : f.acc = .rw) (s : State) (w : Nat) :
    (s.setFields r w (moveMask s r.fields w)).get f.fld = bitsOf w f.fld.lo f.fld.width := by
  obtain ⟨x, hx, hfold⟩ := State.get_setFields (w := w) (mask := moveMask s r.fields w) hf hr.keys s
  have hland : ∀ y, y < 2 ^ f.fld.width → Nat.land y (2 ^ f.fld.width - 1) = y := fun y hy =>
    (Nat.and_two_pow_sub_one_eq_mod y _).trans (Nat.mod_eq_of_lt hy)
  have hword := bitsOf_lt w f.fld.lo f.fld.width
  have hcur := State.get_lt x f.fld
  have hwidth : 1 < 2 ^ f.fld.width := by
    have hpl := hr.plain f hf
    simp only [FieldRow.plain, Bool.and_eq_true, decide_eq_true_eq] at hpl
    exact Nat.one_lt_two_pow (Nat.pos_iff_ne_zero.mp hpl.2)
  rw [State.setFields_eq, hfold]
  unfold State.setField
  rw [bitsOf_moveMask hr.apart hf]
  cases hm : f.moves s w
  · simp only [Bool.false_eq_true, if_false, if_true, hx]
    simp only [FieldRow.moves, hacc, bne_eq_false_iff_eq] at hm
    exact hm.symm
  · have hne : ¬ 2 ^ f.fld.width - 1 = 0 := by omega
    simp only [if_true, if_neg hne, hacc, hland _ hword, hland _ hcur, Nat.sub_self, Nat.zero_add, State.get_set_self]
    exact Nat.mod_eq_of_lt hword

/-- Only the row's own fields change. -/
theorem State.setFields_only (s : State) (r : RegRow) (w mask : Nat) :
    Only (r.fields.map (·.fld)) s (s.setFields r w mask) := by
  rw [State.setFields_eq]
  exact (Only.refl _ s).foldl fun x f hf => (x.setField_only w mask f).mono (by simpa using ⟨f, hf, rfl⟩)

/-! ### What follows a write -/

/-- A register with no field of the settings journal notes nothing (R683). -/
theorem State.noteChanges_none (h : ∀ f ∈ r.fields, journalled f = false) (t old : State) : t.noteChanges old m r = t := by
  unfold State.noteChanges
  split
  · rfl
  · exact foldl_of_fixed fun f hf => by simp [h f hf]

/-- Outside the streams a decided write sets its fields, follows its register's rule and notes what the journal keeps. -/
theorem State.applyWrite_of (ha : a ≠ 0x1C) (hstream : ¬ (0x150000 ≤ a ∧ a < 0x151000))
    (hj : ∀ f ∈ r.fields, journalled f = false) (mask : Nat) :
    (s.applyWrite m a w mask r).1 = ((s.setFields r w mask).hook s m a (Nat.land w mask)).1 := by
  have herr : s.streamErr a w r = false := by simp [State.streamErr, hstream]
  have hword : ¬ (a = 0x1C ∨ a % 0x40 = 0 ∧ 0x150000 ≤ a ∧ a < 0x151000) := by
    rintro (h | ⟨-, h⟩)
    · exact ha h
    · exact hstream h
  simp only [State.applyWrite, herr, Bool.false_eq_true, if_false, if_neg hword, State.noteChanges_none hj]

/-! ### Admission -/

/-- An address that no rule of `State.admitField` singles out. -/
def openAddr (a : Nat) : Bool :=
  decide (¬ (0x100000 ≤ a ∧ a < 0x110000) ∧ a / 0x100 ≠ 0x800 ∧ ¬ (0x150000 ≤ a ∧ a < 0x151000) ∧
    a ∉ [F.HOST_CAP_CTRL_EN.addr, 0x130000, 0x134000, F.PWR_CORE_AVS_EN.addr, F.MIC_PRIV_MUTE.addr, 0x30010, 0x30014,
      F.CONV_SPK_EN.addr, 0xA0400, 0xA0500, 0xA0000, 0xA0100, 0x1C, F.TG_SIDETONE_IN.addr])

/-- Everything that singles out a field by its address lets a field of an open address be. -/
theorem openAddr_rules (ha : openAddr a = true) (hf : f.fld.addr = a) (s : State) (v : Nat) :
    s.inert a f.fld = false ∧ s.enables f.fld v = false ∧ s.panelFunc f.fld v = false ∧ s.streamLocked a f.fld = false ∧
      s.layerEndFixed a = false := by
  simp only [openAddr, List.mem_cons, List.not_mem_nil, or_false, not_or, decide_eq_true_eq, F.HOST_CAP_CTRL_EN,
    F.PWR_CORE_AVS_EN, F.MIC_PRIV_MUTE, F.CONV_SPK_EN] at ha
  obtain ⟨hfab, hpanel, hstream, hcap, hmac0, hmac1, hcore, -, -, -, hspk, hpse0, hpse1, hline0, hline1, -⟩ := ha
  have hne : ∀ g : Fld, g.addr ≠ a → (f.fld == g) = false := fun g hg =>
    beq_eq_false_iff_ne.mpr fun e => hg (e ▸ hf)
  have hblock : (f.fld.addr / 0x10000 == 0x10) = false := by
    rw [hf, beq_eq_false_iff_ne]
    omega
  refine ⟨?_, ?_, ?_, ?_, ?_⟩
  · simp only [State.inert, hblock, hne F.HOST_CAP_CTRL_EN (Ne.symm hcap), hne (F.MAC_CFG_MACSEC_REQ 0) (Ne.symm hmac0),
      hne (F.MAC_CFG_MACSEC_REQ 1) (Ne.symm hmac1), hne F.PWR_CORE_AVS_EN (Ne.symm hcore),
      hne (F.MAC_CFG_PROMISC 0) (Ne.symm hmac0), hne (F.MAC_CFG_PROMISC 1) (Ne.symm hmac1), Bool.false_and, Bool.and_false,
      Bool.or_false]
  · simp only [State.enables, hne F.CONV_SPK_EN (Ne.symm hspk), hne (F.PSE_CFG_EN 0) (Ne.symm hpse0),
      hne (F.PSE_CFG_EN 1) (Ne.symm hpse1), hne (F.LINE_SRC_CFG_EN 0) (Ne.symm hline0),
      hne (F.LINE_SRC_CFG_EN 1) (Ne.symm hline1), Bool.false_and, Bool.and_false, Bool.or_false]
  · have : (f.fld.addr / 0x100 == 0x800) = false := by rw [hf, beq_eq_false_iff_ne]; exact hpanel
    simp only [State.panelFunc, this, Bool.false_and]
  · simp only [State.streamLocked, hstream, decide_false, Bool.false_and]
  · have : ¬ (0x108044 ≤ a ∧ a < 0x108064) := by omega
    simp only [State.layerEndFixed, this, decide_false, Bool.false_and]

/-- At an open address a plain field takes every value that its table takes, and a read-only one none. -/
theorem State.admitField_open (ha : openAddr a = true) (hf : f.fld.addr = a) (hacc : f.acc ≠ .rwl ∧ f.acc ≠ .rws)
    {v : Nat} (hchk : f.chk.ok s w f.fld.width v = true) :
    s.admitField m a w f v = if f.acc = .ro then .skip else .take := by
  obtain ⟨hinert, henables, hpanel, hstream, hlayer⟩ := openAddr_rules ha hf s v
  simp only [openAddr, List.mem_cons, List.not_mem_nil, or_false, not_or, decide_eq_true_eq] at ha
  obtain ⟨hfab, -, -, -, -, -, -, hmute, htherm0, htherm1, -⟩ := ha
  have hstall : ¬ (0x100000 ≤ a ∧ a < 0x108000) := by omega
  simp only [State.admitField, hstall, hinert, henables, hpanel, hstream, hlayer, hchk, hmute, htherm0, htherm1, hacc.1, hacc.2,
    decide_false, Bool.false_and, Bool.false_eq_true, Bool.not_true, Bool.or_false, and_false, false_and, or_false, if_false]

/-! ### Rows of plain fields at open addresses -/

/-- The fields of a register that are plain, at different places, and wait for nothing. -/
def plainFields (a : Nat) (fs : List FieldRow) : Bool :=
  plainAddr a && fs.all (fun f => f.plain a && !f.stride) && decide (fs.map (fun f => f.fld.key)).Nodup &&
    fs.all (fun f => fs.all (fun g =>
      decide (f.fld.lo < g.fld.lo + g.fld.width → g.fld.lo < f.fld.lo + f.fld.width → f = g)))

theorem PlainRow.of_fields (hf : r.fields = fs) (hc : plainFields a fs = true) : PlainRow a r := by
  simp only [plainFields, Bool.and_eq_true, List.all_eq_true, decide_eq_true_eq, Bool.not_eq_true'] at hc
  obtain ⟨⟨⟨haddr, hplain⟩, hkeys⟩, hapart⟩ := hc
  subst hf
  exact ⟨haddr, fun f h => (hplain f h).1, fun f h => (hplain f h).2, hkeys, fun f h g k => hapart f h g k⟩

/-- The fields of a register at an open address that the settings journal does not keep and no lock guards. -/
def openFields (a : Nat) (fs : List FieldRow) : Bool :=
  openAddr a && fs.all (fun f => decide (f.acc ≠ .rwl ∧ f.acc ≠ .rws) && !journalled f)

/-- A write that nothing keeps out to such a register sets its fields and follows the register's rule; one that moves nothing
is none. -/
theorem Writable.write_open (h : Writable s m a r) (hf : r.fields = fs) (hp : plainFields a fs = true)
    (ho : openFields a fs = true) (w : Word)
    (hchk : ∀ f ∈ fs, f.chk.ok s w.toNat f.fld.width (bitsOf w.toNat f.fld.lo f.fld.width) = true) :
    s.write m a w =
      if moveMask s fs w.toNat ≠ 0 then
        ((s.setFields r w.toNat (moveMask s fs w.toNat)).hook s m a (Nat.land w.toNat (moveMask s fs w.toNat))).1
      else s := by
  have hr := PlainRow.of_fields hf hp
  subst hf
  simp only [openFields, Bool.and_eq_true, List.all_eq_true, decide_eq_true_eq, Bool.not_eq_true'] at ho
  obtain ⟨ha, hfs⟩ := ho
  have hadm : Admits s m a w.toNat r.fields := by
    intro f hf
    have hpl := hr.plain f hf
    simp only [FieldRow.plain, Bool.and_eq_true, decide_eq_true_eq] at hpl
    obtain ⟨⟨⟨hfa, -⟩, -⟩, -⟩ := hpl
    exact State.admitField_open ha hfa (hfs f hf).1 (hchk f hf)
  have hopen := ha
  simp only [openAddr, List.mem_cons, List.not_mem_nil, or_false, not_or, decide_eq_true_eq] at hopen
  obtain ⟨-, -, hstream, -, -, -, -, -, -, -, -, -, -, -, -, hapi, hside⟩ := hopen
  have herr : s.streamErr a w.toNat r = false := by simp [State.streamErr, hstream]
  have hsideErr : s.sidetoneErr m a w.toNat (2 ^ 32 - 1) r = false := by simp [State.sidetoneErr, hside]
  rw [h.write_plain hr w hadm, State.applyWrite_of hapi hstream fun f hf => (hfs f hf).2]
  simp only [hapi, herr, hsideErr, Bool.false_eq_true, or_false]

/-- Such a write that moves a field. -/
theorem Writable.write_open_moving (h : Writable s m a r) (hf : r.fields = fs) (hp : plainFields a fs = true)
    (ho : openFields a fs = true) (w : Word)
    (hchk : ∀ f ∈ fs, f.chk.ok s w.toNat f.fld.width (bitsOf w.toNat f.fld.lo f.fld.width) = true)
    (hm : ∃ f ∈ fs, f.moves s w.toNat = true) :
    s.write m a w =
      ((s.setFields r w.toNat (moveMask s fs w.toNat)).hook s m a (Nat.land w.toNat (moveMask s fs w.toNat))).1 := by
  obtain ⟨f, hmem, hmoves⟩ := hm
  have hr := PlainRow.of_fields hf hp
  have hpl := hr.plain f (hf ▸ hmem)
  simp only [FieldRow.plain, Bool.and_eq_true, decide_eq_true_eq] at hpl
  have hbit := testBit_moveMask_field (s := s) (w := w.toNat) (hf ▸ hr.apart) hmem hpl.2
  have hne : moveMask s fs w.toNat ≠ 0 := fun hzero => by simp [hzero, hmoves] at hbit
  rw [h.write_open hf hp ho w hchk, if_pos hne]

/-- What a decided write of `w` to the fields `fs` leaves for the register's rule: the register file `t` with the read/write
fields set, and of the word the bits `eff` that stand. -/
structure Decided (s : State) (fs : List FieldRow) (w : Nat) (t : State) (eff : Nat) : Prop where
  only : Only (fs.map (·.fld)) s t
  rw : ∀ f ∈ fs, f.acc = .rw → t.get f.fld = bitsOf w f.fld.lo f.fld.width
  kept : ∀ f ∈ fs, f.acc = .ro ∨ f.acc = .wo → t.get f.fld = s.get f.fld
  stands : ∀ f ∈ fs, f.acc = .wo ∨ f.moves s w = true →
    bitsOf eff f.fld.lo f.fld.width = bitsOf w f.fld.lo f.fld.width
  still : (∀ f ∈ fs, f.acc = .ro ∨ f.acc = .wo ∨ f.acc = .w1s ∨ f.moves s w = false) → t = s
  below : eff ≤ w

theorem PlainRow.decided (hr : PlainRow a r) (s : State) (w : Nat) :
    Decided s r.fields w (s.setFields r w (moveMask s r.fields w)) (Nat.land w (moveMask s r.fields w)) where
  only := s.setFields_only r w _
  rw := fun _ hf hacc => State.get_setFields_rw hr hf hacc s w
  kept := fun f hf hacc => by
    obtain ⟨x, hx, hfold⟩ := State.get_setFields (w := w) (mask := moveMask s r.fields w) hf hr.keys s
    rw [State.setFields_eq, hfold, State.setField_readOnly hacc, hx]
  stands := fun _ hf hacc => bitsOf_land_moveMask hr.apart hf hacc
  still := State.setFields_still hr.apart
  below := Nat.and_le_left

/-- What stands of the word at a write-only field of one bit. -/
theorem Decided.bit {t : State} {eff : Nat} (h : Decided s fs w t eff) (hf : f ∈ fs) (hacc : f.acc = .wo)
    (hw : f.fld.width = 1) : bitOf eff f.fld.lo = bitOf w f.fld.lo := by
  have hbits := h.stands f hf (.inl hacc)
  rw [hw] at hbits
  rw [bitOf, bitOf, hbits]

/-- A write that nothing keeps out to a register of plain fields at an open address, moving one of them, is decided, and the
register's rule follows. -/
theorem Writable.write_decided (h : Writable s m a r) (hf : r.fields = fs) (hp : plainFields a fs = true)
    (ho : openFields a fs = true) (w : Word)
    (hchk : ∀ f ∈ fs, f.chk.ok s w.toNat f.fld.width (bitsOf w.toNat f.fld.lo f.fld.width) = true)
    (hm : ∃ f ∈ fs, f.moves s w.toNat = true) :
    ∃ t eff, Decided s fs w.toNat t eff ∧ s.write m a w = (t.hook s m a eff).1 := by
  have hr := PlainRow.of_fields hf hp
  exact ⟨_, _, hf ▸ hr.decided s w.toNat, h.write_open_moving hf hp ho w hchk hm⟩

/-- At a register of write-only and read-only fields that take every value the register file is left to the rule. -/
theorem Writable.write_rule (h : Writable s m a r) (hf : r.fields = fs) (hp : plainFields a fs = true)
    (ho : openFields a fs = true) (hwo : ∀ f ∈ fs, f.acc = .ro ∨ f.acc = .wo) (hany : ∀ f ∈ fs, f.chk = .any) (w : Word)
    (hm : ∃ f ∈ fs, f.moves s w.toNat = true) :
    ∃ eff, Decided s fs w.toNat s eff ∧ s.write m a w = (s.hook s m a eff).1 := by
  obtain ⟨t, eff, hd, hw⟩ := h.write_decided hf hp ho w (fun f hf => by rw [hany f hf]; rfl) hm
  obtain rfl := hd.still fun f hf => (hwo f hf).imp_right .inl
  exact ⟨eff, hd, hw⟩

/-! ### Bits of a word -/

theorem bitOf_eq_testBit (w n : Nat) : bitOf w n = w.testBit n := by
  rw [bitOf, bitsOf, Nat.testBit_eq_decide_div_mod_eq]
  rfl

theorem bitOf_toNat (w : Word) (n : Nat) : bitOf w.toNat n = w.getLsbD n := bitOf_eq_testBit _ _

theorem bitsOf_one (w n : Nat) : bitsOf w n 1 = bit1 (w.testBit n) := by
  have hlt := bitsOf_lt w n 1
  rw [← bitOf_eq_testBit, bitOf, bit1]
  rcases Nat.lt_or_ge (bitsOf w n 1) 1 with h | h
  · simp [Nat.lt_one_iff.mp h]
  · have hone : bitsOf w n 1 = 1 := by omega
    simp [hone]

theorem bitsOf_word {w : Nat} (h : w < 2 ^ 32) : bitsOf w 0 32 = w := by
  rw [bitsOf, pow_zero, Nat.div_one, Nat.mod_eq_of_lt h]

/-! ### Write-only fields -/

/-- A write-only field that takes every value. -/
def woField (f : Fld) : FieldRow := ⟨f, .wo, .soft, .any, false, none⟩

theorem woField_moves {f : Fld} (h : bitsOf w f.lo f.width ≠ 0) : (woField f).moves s w = true := by
  simp [FieldRow.moves, woField, h]

/-- A write-only bit written 1 moves. -/
theorem woField_moves_bit {f : Fld} (hw : f.width = 1) (h : w.testBit f.lo = true) : (woField f).moves s w = true := by
  refine woField_moves ?_
  rw [hw, bitsOf_one, h]
  decide

/-- A write-only field of eight bits or more always moves. -/
theorem woField_moves_wide {f : Fld} (h : 8 ≤ f.width) : (woField f).moves s w = true := by
  simp [FieldRow.moves, woField, h]

/-! ### Rows written by a master that is no host -/

/-- A command of `rowOf` whose register nothing keeps out is the direct write of that register. -/
theorem Alone.exec_row {c : Instr} {w : Word} (h : Alone s m a) (hrow : rowOf c = some (m, a, w)) :
    ∃ r, Writable s m a r ∧ exec c s = s.done (s.write m a w) := by
  obtain ⟨hm, r, hr⟩ := h
  exact ⟨r, hr, exec_row_direct hrow hm⟩

/-- The fields of a reached register are those of its table. -/
theorem Writable.fields (h : Writable s m a r) (ht : (regRow a).map (·.fields) = some fs) : r.fields = fs := by
  rw [h.row] at ht
  exact Option.some.inj ht

end Sys2Proof.Machine
end

section
/-! SWAP_GO in approved mode: the field that `State.inert` takes for FORCE_FALLBACK of stall 128, which no node has, is
FAB_SWAP_CTRL.GO, so approved mode (R158) takes GO's effect away; and the refutation of O15. -/

namespace Sys2Proof.Machine

/-- A node in approved mode with the fabric's registers shown and the steward's domain on. -/
def approvedNode : State :=
  (({ State.reset with fab := { FabState.reset with hidden := false } } : State).set F.PWR_DOM_ON_ON 0x3FFFFFFF).setB
    F.SEC_STATUS_APPROVED true

/-- FORCE_FALLBACK of a stall past the last lies where GO does. -/
theorem forceFallback_128_eq_swapGo : F.FAB_STALL_CTRL_FORCE_FALLBACK 128 = F.FAB_SWAP_CTRL_GO := rfl

theorem approvedNode_swapCtrl_alone : Alone approvedNode .steward 0x108020 := by
  obtain ⟨r, hr⟩ : ∃ r, approvedNode.reach .steward 0x108020 false = .reg r := ⟨_, rfl⟩
  have hrow : regRow 0x108020 = some r := State.reach_row hr
  have hrein : r.rein = some 1 ∧ r.hostOnly = false := by
    have hfacts : (regRow 0x108020).map (fun r => (r.rein, r.hostOnly)) = some (some 1, false) := by decide
    rw [hrow] at hfacts
    simpa using hfacts
  refine ⟨rfl, r, rfl, hr, ?_, ?_⟩
  · simp [State.bar, State.hostBar, isHost, hrein.2]
  · rw [hrein.1]
    exact .inl rfl

/-- GO of the idle swap leaves STATE 0 there. -/
theorem swapGo_approved_idle :
    (match exec (.swapGo .steward 1) approvedNode with
      | .next t => some (t.get F.FAB_SWAP_STATUS_STATE)
      | _ => none) = some 0 := by decide +kernel

/-- Refutes O15: in approved mode a GO of an idle swap, alone in its register cycle, has no effect, so STATE stays 0. -/
theorem not_latchSwapAndNetworkRows : ¬ Obligations.LatchSwapAndNetworkRows := by
  rintro ⟨⟨-, -, -, hswap⟩, -⟩
  obtain ⟨t, ht, hstate, -⟩ := hswap approvedNode .steward 1 approvedNode_swapCtrl_alone (by decide) (by decide)
  have hidle := swapGo_approved_idle
  rw [ht] at hidle
  simp [hstate] at hidle

end Sys2Proof.Machine
end

section
/-! The rows of SYS, BOOT and CLK (R49, R51, R670, R705, R711, R713, R800, R813): the fields of their registers, what a lone write
of each does, and the settlements of O11 and O12. -/

namespace Sys2Proof.Machine

variable {s t old : State} {m : Master} {w : Nat} {r : RegRow}

/-! ### The tables (chapter 19) -/

theorem fields_hostAlive : (regRow 0x28).map (·.fields) = some [woField F.SYS_HOST_ALIVE_ALIVE] := by decide

theorem fields_capture : (regRow 0x40014).map (·.fields) = some [woField F.CLK_CAPTURE_GO] := by decide

theorem fields_confirm : (regRow 0x10024).map (·.fields) = some [woField F.BOOT_CONFIRM_CONFIRM] := by decide

theorem fields_reset : (regRow 0x10).map (·.fields) =
    some [woField F.SYS_RESET_KEY, woField F.SYS_RESET_RECOVER, woField F.SYS_RESET_SOFT] := by decide

/-- CLK_RTC_SEC: the second, which a write sets at the next tick. -/
def rtcField : FieldRow := ⟨F.CLK_RTC_SEC_SEC, .rw, .por, .any, false, none⟩

theorem fields_rtc : (regRow 0x40100).map (·.fields) = some [rtcField] := by decide

/-! ### Their rules -/

theorem State.hook_hostAlive : (t.hook old m 0x28 w).1 =
    ({ t with host := { t.host with wdogRunning := true } } : State).setB F.SYS_PERSONA_HOST_LOST false := by
  simp [State.hook, State.hookSys]

theorem State.hook_capture : (t.hook old m 0x40014 w).1 = if bitOf w 0 then
    ((t.inc F.CLK_CAP_HI_SEQ).set F.CLK_CAP_HI_COUNT_HI (t.count / 2 ^ 32)).set F.CLK_CAP_LO_COUNT (t.count % 2 ^ 32)
    else t := by
  simp [State.hook, State.hookSys, F.PWR_CORE_AVS_EN]

theorem State.hook_rtc : (t.hook old m 0x40100 w).1 =
    ({ t with clk := { t.clk with rtcSet := some w } } : State).set F.CLK_RTC_SEC_SEC (old.get F.CLK_RTC_SEC_SEC) := by
  simp [State.hook, State.hookSys, F.PWR_CORE_AVS_EN]

theorem State.hook_confirm : (t.hook old m 0x10024 w).1 = if bitOf w 0 then t.confirmTrials else t := by
  simp [State.hook, State.hookSys]

theorem State.hook_reset : (t.hook old m 0x10 w).1 = (t.resetWritten m w).1 := by
  simp [State.hook, State.hookSys]

/-! ### A lone write of each -/

theorem Writable.write_hostAlive (h : Writable s m 0x28 r) (w : Word) : s.write m 0x28 w =
    ({ s with host := { s.host with wdogRunning := true } } : State).setB F.SYS_PERSONA_HOST_LOST false := by
  obtain ⟨eff, -, hw⟩ := h.write_rule (h.fields fields_hostAlive) (by decide) (by decide) (by decide) (by decide) w
    ⟨_, List.mem_cons_self, woField_moves_wide (by decide)⟩
  rw [hw, State.hook_hostAlive]

/-- GO latches the stride count and steps the capture's number (R800). -/
theorem Writable.write_capture (h : Writable s m 0x40014 r) {w : Word} (hgo : w.getLsbD 0 = true) : s.write m 0x40014 w =
    ((s.inc F.CLK_CAP_HI_SEQ).set F.CLK_CAP_HI_COUNT_HI (s.count / 2 ^ 32)).set F.CLK_CAP_LO_COUNT (s.count % 2 ^ 32) := by
  obtain ⟨eff, hd, hw⟩ := h.write_rule (h.fields fields_capture) (by decide) (by decide) (by decide) (by decide) w
    ⟨_, List.mem_cons_self, woField_moves_bit rfl hgo⟩
  have hbit : bitOf eff 0 = true := (hd.bit List.mem_cons_self rfl rfl).trans ((bitOf_toNat w 0).trans hgo)
  rw [hw, State.hook_capture, if_pos hbit]

/-- CONFIRM makes the running trials valid (R711). -/
theorem Writable.write_confirm (h : Writable s m 0x10024 r) {w : Word} (hgo : w.getLsbD 0 = true) :
    s.write m 0x10024 w = s.confirmTrials := by
  obtain ⟨eff, hd, hw⟩ := h.write_rule (h.fields fields_confirm) (by decide) (by decide) (by decide) (by decide) w
    ⟨_, List.mem_cons_self, woField_moves_bit rfl hgo⟩
  have hbit : bitOf eff 0 = true := (hd.bit List.mem_cons_self rfl rfl).trans ((bitOf_toNat w 0).trans hgo)
  rw [hw, State.hook_confirm, if_pos hbit]

/-- Another second waits for the next tick, and the register keeps the present one until then (R813). -/
theorem Writable.write_rtc (h : Writable s m 0x40100 r) {w : Word} (hne : w.toNat ≠ s.get F.CLK_RTC_SEC_SEC) :
    ∃ t : State, Only [F.CLK_RTC_SEC_SEC] s t ∧ s.write m 0x40100 w =
      ({ t with clk := { t.clk with rtcSet := some w.toNat } } : State).set F.CLK_RTC_SEC_SEC (s.get F.CLK_RTC_SEC_SEC) := by
  have hbits : bitsOf w.toNat 0 32 = w.toNat := bitsOf_word w.isLt
  have hmoves : rtcField.moves s w.toNat = true := by
    change (bitsOf w.toNat 0 32 != s.get F.CLK_RTC_SEC_SEC) = true
    rw [hbits]
    exact bne_iff_ne.mpr hne
  obtain ⟨t, eff, hd, hw⟩ := h.write_decided (h.fields fields_rtc) (by decide) (by decide) w (by
    intro f hf
    rw [List.mem_singleton.mp hf]
    rfl) ⟨_, List.mem_cons_self, hmoves⟩
  have heff : eff = w.toNat := by
    have hstands : bitsOf eff 0 32 = bitsOf w.toNat 0 32 := hd.stands _ List.mem_cons_self (.inr hmoves)
    rwa [hbits, bitsOf_word (Nat.lt_of_le_of_lt hd.below w.isLt)] at hstands
  exact ⟨t, hd.only, by rw [hw, State.hook_rtc, heff]⟩

/-! ### SYS_RESET (R670, R713) -/

/-- A write of SYS_RESET is its rule on the key and the two bits as written. -/
theorem Writable.write_reset (h : Writable s m 0x10 r) (w : Word) : ∃ eff, bitsOf eff 16 16 = w.toNat / 2 ^ 16 ∧
    bitOf eff 1 = w.getLsbD 1 ∧ bitOf eff 0 = w.getLsbD 0 ∧ s.write m 0x10 w = (s.resetWritten m eff).1 := by
  obtain ⟨eff, hd, hw⟩ := h.write_rule (h.fields fields_reset) (by decide) (by decide) (by decide) (by decide) w
    ⟨_, List.mem_cons_self, woField_moves_wide (by decide)⟩
  have hkey : bitsOf eff 16 16 = bitsOf w.toNat 16 16 := hd.stands _ List.mem_cons_self (.inl rfl)
  have hword : bitsOf w.toNat 16 16 = w.toNat / 2 ^ 16 := by
    have := w.isLt
    simp only [bitsOf]
    omega
  refine ⟨eff, hkey.trans hword, (hd.bit (f := woField F.SYS_RESET_RECOVER) (by simp) rfl rfl).trans (bitOf_toNat w 1),
    (hd.bit (f := woField F.SYS_RESET_SOFT) (by simp) rfl rfl).trans (bitOf_toNat w 0), ?_⟩
  rw [hw, State.hook_reset]

theorem State.resetWritten_noKey (h : bitsOf w 16 16 ≠ 0x5253) : s.resetWritten m w = (s, .ok) := by
  rw [State.resetWritten, if_pos (.inl h)]

theorem State.resetWritten_soft (hkey : bitsOf w 16 16 = 0x5253) (h1 : bitOf w 1 = false) (h0 : bitOf w 0 = true) :
    s.resetWritten .steward w = (s.startSoft, .ok) := by
  simp [State.resetWritten, hkey, h1, h0]

/-- Recovery is for the host cause of halter, and in approved mode for a crypto officer (R713). -/
theorem State.resetWritten_recover (hkey : bitsOf w 16 16 = 0x5253) (h1 : bitOf w 1 = true)
    (hhalter : s.halter = true → s.get F.BOOT_STATUS_HALTER_CAUSE = 1) (hco : s.approved = true → s.co = true) :
    s.resetWritten .steward w = (s.recoveryBoot, .ok) := by
  have hopen : (s.halter && s.get F.BOOT_STATUS_HALTER_CAUSE != 1 || s.approved && !s.co) = false := by
    cases hh : s.halter <;> cases ha : s.approved <;> simp_all
  simp [State.resetWritten, hkey, h1, hopen]

/-- Settles O12 (it holds): a lone write of SYS_RESET is its rule on the key and bits as written. -/
theorem resetNeedsItsKey : Obligations.ResetNeedsItsKey := by
  refine ⟨⟨fun s w halone hkey h1 h0 => ?_, fun s w halone hkey h1 hhalter hco => ?_⟩, fun s m w halone hkey => ?_⟩
  · obtain ⟨r, hr, hexec⟩ := halone.exec_row (c := .softReset .steward w) rfl
    obtain ⟨eff, hekey, he1, he0, hw⟩ := hr.write_reset w
    rw [hexec, hw, State.resetWritten_soft (hekey.trans hkey) (he1.trans h1) (he0.trans h0)]
    rfl
  · obtain ⟨r, hr, hexec⟩ := halone.exec_row (c := .recover .steward w) rfl
    obtain ⟨eff, hekey, he1, -, hw⟩ := hr.write_reset w
    rw [hexec, hw, State.resetWritten_recover (hekey.trans hkey) (he1.trans h1) hhalter hco]
    rfl
  · obtain ⟨r, hr, hsoft⟩ := halone.exec_row (c := .softReset m w) rfl
    obtain ⟨-, -, hrecover⟩ := halone.exec_row (c := .recover m w) rfl
    obtain ⟨eff, hekey, -, -, hw⟩ := hr.write_reset w
    have hnone : s.write m 0x10 w = s := by rw [hw, State.resetWritten_noKey fun e => hkey (hekey.symm.trans e)]
    rw [hsoft, hrecover, hnone]
    exact ⟨rfl, rfl⟩

end Sys2Proof.Machine
end

section
/-! HOST_API_DECLARE (R705): how the host's lone write of SYS_HOST_API is decided, what the declared level leaves, and the
settlement of O11. -/

namespace Sys2Proof.Machine

variable {s t old : State} {m : Master} {a w : Nat} {r : RegRow}

/-! ### A lone host write of a register that no group holds -/

/-- A lone write whose fields are all admitted, by whatever way it comes but the copy engine's, to a register of plain fields
that belongs to no group, whose rule takes words that move nothing. -/
theorem State.accept_apply (hex : s.exists_ m = true) (hreach : s.reach m 0x1C false = .reg r)
    (hbar : ∀ p : PWrite, p.master = m → p.addr = 0x1C → s.bar p r = none) (hrein : r.rein = none) (hr : PlainRow 0x1C r)
    (hadm : Admits s m 0x1C w r.fields) {src : WSrc} (hsrc : viaCopy src = false) :
    s.accept m 0x1C w [] src =
      ((s.applyWrite m 0x1C w (moveMask s r.fields w) r).1, (s.applyWrite m 0x1C w (moveMask s r.fields w) r).2, false) := by
  have hcycle := hr.cycleMask (State.reach_row hreach)
  have hwaits : s.waits ⟨m, 0x1C, w, 2 ^ 32 - 1, src⟩ = false := by
    have hstride : r.fields.any (·.stride) = false := by
      rw [List.any_eq_false]
      exact fun f hf => by simp [hr.now f hf]
    simp [State.waits, hsrc, hreach, hstride]
  obtain ⟨us, hus⟩ : ∃ us, us = (r.fields.filter (fun f => f.moves s w)).map (plainUnit 0 ⟨m, 0x1C, w, 2 ^ 32 - 1, src⟩ r.rein) :=
    ⟨_, rfl⟩
  have hprep : s.prepare 0 ⟨m, 0x1C, w, 2 ^ 32 - 1, src⟩ = ⟨⟨m, 0x1C, w, 2 ^ 32 - 1, src⟩, some r, .ok,
      r.fields.map (fun f => s.admitField m 0x1C w f (bitsOf w f.fld.lo f.fld.width)), us⟩ := by
    have hunits := Admits.units (p := ⟨m, 0x1C, w, 2 ^ 32 - 1, src⟩) hadm hr.addr hr.plain 0 r.rein
    simp only at hunits
    simp only [State.prepare, hsrc, hreach, hbar ⟨m, 0x1C, w, 2 ^ 32 - 1, src⟩ rfl rfl, hr.covered, hunits, hus]
  have hverdict : ∀ u ∈ us, s.verdict (lastStands us) u = .stands := by
    have hof : ∀ u ∈ us, u.master = m.code ∧ u.rein = none := by
      intro u hu
      rw [hus] at hu
      obtain ⟨f, -, rfl⟩ := List.mem_map.mp hu
      exact ⟨rfl, hrein⟩
    intro u hu
    refine State.verdict_sole (hof u hu).1 (fun v hv => (hof v (mem_lastStands hv)).1) ?_
    rw [(hof u hu).2]
    trivial
  have hmask : (us.filter (fun u => (lastStands us).contains u)).foldl (fun n u => Nat.lor n u.wordMask) 0 =
      moveMask s r.fields w := by
    have := soleMask_plain (s := s) (p := ⟨m, 0x1C, w, 2 ^ 32 - 1, src⟩) (i := 0) (rein := r.rein) hr.addr hr.plain hr.keys
    rwa [← hus] at this
  have hstands : ∀ u ∈ us.filter (fun u => (lastStands us).contains u), s.verdict (lastStands us) u = .stands :=
    fun u hu => hverdict u (List.mem_of_mem_filter hu)
  have hkept : (us.filter (fun u => (lastStands us).contains u)).any (fun u => s.verdict (lastStands us) u = .noReins) = false := by
    rw [List.any_eq_false]
    intro u hu
    simp [hstands u hu]
  have hcarry : s.carry s (lastStands us) ⟨⟨m, 0x1C, w, 2 ^ 32 - 1, src⟩, some r, .ok,
      r.fields.map (fun f => s.admitField m 0x1C w f (bitsOf w f.fld.lo f.fld.width)), us⟩ =
      s.applyWrite m 0x1C w (moveMask s r.fields w) r := by
    unfold State.carry
    simp only [hadm.logRefusals, foldl_if_all _ _ _ hstands, hmask]
    rw [List.filterMap_eq_nil_iff.mpr fun u hu => by rw [hstands u hu]]
    simp only [List.foldl_nil, List.isEmpty_nil, Bool.not_true, hkept, hadm.no_refusal (.inl rfl), hadm.no_refusal (.inr rfl),
      Bool.or_false, Bool.false_eq_true, if_false, true_or, or_true, if_true, show ¬ (0x1C : Nat) = 0x30 by decide]
  unfold State.accept
  simp only [hex, hcycle, List.filter_nil, List.map_nil, List.filter_cons, hwaits, Bool.not_true, Bool.false_eq_true, if_false,
    List.append_nil]
  simp only [State.decideWrites, List.length_singleton, List.range_one, List.zip_cons_cons, List.zip_nil_right, List.map_cons,
    List.map_nil, List.flatMap_cons, List.flatMap_nil, List.append_nil, List.foldl_cons, List.foldl_nil, hprep, hcarry,
    List.reverse_singleton, List.getD_cons_zero]

/-! ### SYS_HOST_API -/

def apiFields : List FieldRow :=
  [⟨F.SYS_HOST_API_MISMATCH, .ro, .soft, .any, false, none⟩, ⟨F.SYS_HOST_API_DECLARED, .ro, .soft, .any, false, none⟩,
   ⟨F.SYS_HOST_API_LEVEL, .rw, .soft, .any, false, none⟩]

theorem fields_hostApi : (regRow 0x1C).map (fun r => (r.fields, r.rein)) = some (apiFields, none) := by decide

/-- Every level is taken. -/
theorem admits_hostApi (s : State) (m : Master) (w : Nat) : Admits s m 0x1C w apiFields := by
  intro f hf
  simp only [apiFields, List.mem_cons, List.not_mem_nil, or_false] at hf
  rcases hf with rfl | rfl | rfl
  · simp [State.admitField]
  · simp [State.admitField]
  · simp [State.admitField, State.inert, State.panelFunc, State.streamLocked, State.layerEndFixed, State.enables, Chk.ok,
      F.SYS_HOST_API_LEVEL, F.HOST_CAP_CTRL_EN, F.FAB_STALL_CTRL_FORCE_FALLBACK, F.MAC_CFG_MACSEC_REQ, F.PWR_CORE_AVS_EN,
      F.MAC_CFG_PROMISC, F.MIC_PRIV_MUTE, F.CONV_SPK_EN, F.PSE_CFG_EN, F.LINE_SRC_CFG_EN]

/-- The rule of the register follows every word (R705). -/
theorem State.applyWrite_hostApi (hf : r.fields = apiFields) (s : State) (m : Master) (w mask : Nat) :
    s.applyWrite m 0x1C w mask r = ((s.setFields r w mask).apiDeclared, .ok) := by
  have herr : s.streamErr 0x1C w r = false := by simp [State.streamErr]
  have hrule : ∀ t : State, t.hook s m 0x1C w = (t.apiDeclared, .ok) := fun t => by simp [State.hook, State.hookSys]
  have hnote : ∀ f ∈ r.fields, journalled f = false := by
    rw [hf]
    decide
  simp only [State.applyWrite, herr, Bool.false_eq_true, if_false, true_or, if_true, hrule, State.noteChanges_none hnote]

/-- What a declaration shows: the level stays, DECLARED is set, and API_MISMATCH says whether the level is out of range. -/
theorem State.apiDeclared_shows (t : State) : t.apiDeclared.getB F.SYS_HOST_API_DECLARED = true ∧
    t.apiDeclared.get F.SYS_HOST_API_LEVEL = t.get F.SYS_HOST_API_LEVEL ∧
    t.apiDeclared.getB F.SYS_HOST_API_MISMATCH = (decide (t.get F.SYS_HOST_API_LEVEL < t.get F.BOOT_API_MIN) ||
      decide (t.get F.BOOT_API_MAX < t.get F.SYS_HOST_API_LEVEL)) := by
  obtain ⟨u, hu⟩ : ∃ u, u = t.setB F.SYS_HOST_API_DECLARED true := ⟨_, rfl⟩
  have hdeclared : u.getB F.SYS_HOST_API_DECLARED = true := by rw [hu, getB_setB_self _ _ _ (by decide)]
  have hget : ∀ f : Fld, f.key ≠ F.SYS_HOST_API_DECLARED.key → u.get f = t.get f := fun f hf => by
    rw [hu, State.get_setB_other _ _ _ _ hf]
  have hbad : u.apiBad = (decide (t.get F.SYS_HOST_API_LEVEL < t.get F.BOOT_API_MIN) ||
      decide (t.get F.BOOT_API_MAX < t.get F.SYS_HOST_API_LEVEL)) := by
    rw [State.apiBad, hdeclared, hget F.SYS_HOST_API_LEVEL (by decide), hget F.BOOT_API_MIN (by decide),
      hget F.BOOT_API_MAX (by decide), Bool.not_true, Bool.false_or]
  rw [← hbad, ← hget F.SYS_HOST_API_LEVEL (by decide), ← hdeclared, State.apiDeclared, ← hu]
  simp only
  cases u.apiBad
  · simp only [Bool.false_eq_true, if_false]
    exact ⟨getB_setB_other _ _ _ _ (by decide), State.get_setB_other _ _ _ _ (by decide), getB_setB_self _ _ _ (by decide)⟩
  · simp only [if_true]
    have hlog : ∀ (x : State) (a b c d e g : Nat) (f : Fld), f.key ∉ logFields.map Fld.key →
        (x.addLog a b c d e g).get f = x.get f := fun x a b c d e g f hf => (x.addLog_settles a b c d e g).2 f hf
    refine ⟨?_, ?_, ?_⟩
    · rw [State.getB, hlog _ _ _ _ _ _ _ _ (by decide), State.get_setB_other _ _ _ _ (by decide),
        State.get_setB_other _ _ _ _ (by decide)]
      rfl
    · rw [hlog _ _ _ _ _ _ _ _ (by decide), State.get_setB_other _ _ _ _ (by decide),
        State.get_setB_other _ _ _ _ (by decide)]
    · rw [State.getB, hlog _ _ _ _ _ _ _ _ (by decide), State.get_setB_other _ _ _ _ (by decide)]
      exact getB_setB_self _ _ _ (by decide)

/-! ### The transaction -/

theorem State.get_of_regs {x y : State} (h : x.regs = y.regs) (f : Fld) : x.get f = y.get f := by
  rw [State.get, State.get, h]

theorem State.answerHost_regs (s : State) (status : Nat) (t : Txn) (ws : List Word) (bs : List Byte) :
    (s.answerHost status t ws bs).regs = s.regs := by
  simp only [State.answerHost, State.endTxn]
  split <;> rfl

/-- A HOST_API_DECLARE of the host that the strap selects ends OK, its level set and the declaration made. -/
theorem State.hostWrite_hostApi (hreset : s.power.resetHeld = false) (hreach : s.reach s.hostMaster 0x1C false = .reg r)
    (w : Word) : ∃ t : State, t.get F.SYS_HOST_API_LEVEL = w.toNat % 2 ^ 16 ∧ t.get F.BOOT_API_MIN = s.get F.BOOT_API_MIN ∧
      t.get F.BOOT_API_MAX = s.get F.BOOT_API_MAX ∧ (s.hostWrite .whole 0x1C [w]).regs = t.apiDeclared.regs ∧
      (s.hostWrite .whole 0x1C [w]).answer.code = .ok := by
  have htable := fields_hostApi
  rw [State.reach_row hreach, Option.map_some, Option.some.injEq, Prod.mk.injEq] at htable
  obtain ⟨hfields, hrein⟩ := htable
  have hr : PlainRow 0x1C r := PlainRow.of_fields hfields (by decide)
  obtain ⟨x, hx⟩ : ∃ x, x = s.newTxn.2.hostWakes := ⟨_, rfl⟩
  have hxregs : x.regs = s.regs := by
    rw [hx, State.hostWakes_regs]
    rfl
  have hxmaster : x.hostMaster = s.hostMaster := by
    rw [hx, State.hostMaster_hostWakes]
    rfl
  have hxreset : x.power.resetHeld = false := by
    rw [hx, State.hostWakes_resetHeld]
    exact hreset
  have hxreach : x.reach x.hostMaster 0x1C false = .reg r := by
    obtain ⟨q, hq⟩ := s.newTxn.2.hostWakes_eq
    rw [hxmaster, hx, hq]
    exact hreach
  have hbar : ∀ p : PWrite, p.master = x.hostMaster → p.addr = 0x1C → x.bar p r = none := by
    intro p hp ha
    simp [State.bar, State.hostBar, hp, ha, isHost_hostMaster]
  have hacc := State.accept_apply (s := x) (State.exists_hostMaster hxreset) hxreach hbar hrein hr (w := w.toNat)
    (hfields ▸ admits_hostApi x x.hostMaster w.toNat) (src := .host s.newTxn.1 0) rfl
  rw [State.applyWrite_hostApi hfields] at hacc
  have hdec := hr.decided x w.toNat
  have hlevel := hdec.rw (f := ⟨F.SYS_HOST_API_LEVEL, .rw, .soft, .any, false, none⟩) (by simp [hfields, apiFields]) rfl
  have hkept : ∀ f : Fld, f.key ∉ [F.SYS_HOST_API_MISMATCH, F.SYS_HOST_API_DECLARED, F.SYS_HOST_API_LEVEL].map Fld.key →
      (x.setFields r w.toNat (moveMask x r.fields w.toNat)).get f = s.get f := by
    intro f hf
    rw [hdec.only.2 f (by rw [hfields]; exact hf), State.get_of_regs hxregs]
  refine ⟨_, hlevel.trans (by simp [bitsOf, F.SYS_HOST_API_LEVEL]), hkept _ (by decide), hkept _ (by decide), ?_⟩
  have hwrite : s.hostWrite .whole 0x1C [w] =
      ((x.setFields r w.toNat (moveMask x r.fields w.toNat)).apiDeclared).answerHost (s.statusSent false)
        ⟨s.newTxn.1, [], 0⟩ [] [] := by
    simp only [State.hostWrite, hreset, Bool.false_eq_true, if_false, reduceCtorEq, ← hx, State.writeWords, Nat.mul_zero,
      Nat.add_zero, hacc, if_true, show ¬ (0x1C % 4 ≠ 0) by decide]
    rfl
  rw [hwrite]
  exact ⟨State.answerHost_regs _ _ _ _ _, rfl⟩

/-- Settles O11 (it holds): the first four are lone writes of their registers, HOST_API_DECLARE the host's transaction. -/
theorem systemRowsTakeEffect : Obligations.SystemRowsTakeEffect := by
  refine ⟨⟨fun s m w halone => ?alive, fun s m w halone hgo => ?capture, fun s m w halone hne => ?rtc,
    fun s m w halone hgo => ?confirm⟩, fun s m w r hm hreset hreach => ?api⟩
  case alive =>
    obtain ⟨r, hr, hexec⟩ := halone.exec_row (c := .hostAlive m w) rfl
    rw [hexec, hr.write_hostAlive]
    rfl
  case capture =>
    obtain ⟨r, hr, hexec⟩ := halone.exec_row (c := .strideCapture m w) rfl
    rw [hr.write_capture hgo] at hexec
    refine State.finish hexec rfl ⟨?_, ?_, ?_, ?_⟩
    · rw [State.get_set_self]
      exact Nat.mod_mod _ _
    · rw [State.get_set_other _ _ _ _ (by decide), State.get_set_self]
    · rw [State.get_set_other _ _ _ _ (by decide), State.get_set_other _ _ _ _ (by decide), State.inc, State.get_set_self]
    · exact (((Only.refl _ s).inc (by simp)).set (by simp) _).set (by simp) _
  case rtc =>
    obtain ⟨r, hr, hexec⟩ := halone.exec_row (c := .rtcSet m w) rfl
    obtain ⟨t, ⟨hframe, hfields⟩, hw⟩ := hr.write_rtc hne
    rw [hw] at hexec
    refine State.finish hexec (congrArg State.pending hframe :) ⟨rfl, ?_, ?_, fun f hf => ?_⟩
    · rw [State.get_set_self]
      exact Nat.mod_eq_of_lt (State.get_lt s _)
    · exact congrArg (fun x : State => { x with clk := { x.clk with rtcSet := some w.toNat } }) hframe
    · rw [State.get_set_other _ _ _ _ (by simpa using hf)]
      exact hfields f hf
  case confirm =>
    obtain ⟨r, hr, hexec⟩ := halone.exec_row (c := .bootConfirm m w) rfl
    rw [hexec, hr.write_confirm hgo]
    rfl
  case api =>
    subst hm
    obtain ⟨t, hlevel, hmin, hmax, hregs, hcode⟩ := State.hostWrite_hostApi hreset hreach w
    obtain ⟨hd, hl, hmis⟩ := t.apiDeclared_shows
    have hget := State.get_of_regs hregs
    have hexec : exec (.hostApiDeclare s.hostMaster w) s = s.done (s.hostWrite .whole 0x1C [w]) := by
      rw [exec_row rfl, State.rowWrite_hostMaster]
    refine ⟨_, hexec, ?_, ?_, ?_, hcode⟩
    · exact (congrArg (· != 0) (hget _)).trans hd
    · exact (hget _).trans (hl.trans hlevel)
    · rw [← hlevel, ← hmin, ← hmax]
      exact (congrArg (· != 0) (hget _)).trans hmis

end Sys2Proof.Machine
end

section
/-! The rows of HOST, COPY and GPIO (R566, R582, R602–R608, R613): LOAD_START, COPY_GO, COPY_ABORT and the set and clear
registers of the GPIO outputs, and the settlement of O14. -/

namespace Sys2Proof.Machine

variable {s t old : State} {m : Master} {w : Nat} {r : RegRow}

/-! ### The tables (chapter 19) -/

/-- HOST_LOAD_CTRL: the length and sink of the next load, and its start. -/
def loadFields : List FieldRow :=
  [⟨F.HOST_LOAD_CTRL_LENGTH, .rw, .soft, .any, false, none⟩, woField F.HOST_LOAD_CTRL_START,
   ⟨F.HOST_LOAD_CTRL_SINK, .rw, .soft, .range 1 4, false, none⟩]

theorem fields_load : (regRow 0x60040).map (·.fields) = some loadFields := by decide

/-- COPY_CH_CTRL of channel `ch`. -/
def copyFields (ch : Nat) : List FieldRow := [woField (F.COPY_CH_CTRL_ABORT ch), woField (F.COPY_CH_CTRL_GO ch)]

theorem fields_copy : ∀ ch : Fin 4, (regRow (0x70010 + 0x40 * ch)).map (·.fields) = some (copyFields ch) := by decide

theorem plain_copy : ∀ ch : Fin 4, plainFields (0x70010 + 0x40 * ch) (copyFields ch) = true := by decide

theorem open_copy : ∀ ch : Fin 4, openFields (0x70010 + 0x40 * ch) (copyFields ch) = true := by decide

theorem rule_copy : ∀ ch : Fin 4, (∀ f ∈ copyFields ch, f.acc = .ro ∨ f.acc = .wo) ∧ ∀ f ∈ copyFields ch, f.chk = .any := by
  decide

/-! ### LOAD_START (R582) -/

theorem State.hook_load : (t.hook old m 0x60040 w).1 = if bitOf w 4 then t.loadStart.1 else t := by
  cases h : bitOf w 4 <;> simp [State.hook, State.hookHost, h]

/-- A load of a sink that takes its length starts empty. -/
theorem State.loadStart_shows (hs1 : t.get F.HOST_LOAD_STATUS_STATE ≠ 1) (hs2 : t.get F.HOST_LOAD_STATUS_STATE ≠ 2)
    (hlen : t.get F.HOST_LOAD_CTRL_LENGTH ≤ sinkLimit (t.get F.HOST_LOAD_CTRL_SINK))
    (hsink : sinkLimit (t.get F.HOST_LOAD_CTRL_SINK) ≠ 0) :
    t.loadStart.1.get F.HOST_LOAD_STATUS_STATE = 1 ∧ t.loadStart.1.get F.HOST_LOAD_STATUS_CODE = 0 ∧
      t.loadStart.1.get F.HOST_LOAD_STATUS_PAGES = 0 ∧ t.loadStart.1.host.loadLen = t.get F.HOST_LOAD_CTRL_LENGTH ∧
      t.loadStart.1.host.loadSink = t.get F.HOST_LOAD_CTRL_SINK ∧ t.loadStart.1.host.loadPos = 0 ∧
      t.loadStart.1.host.loadBuf = [] ∧ t.loadStart.1.pending = t.pending := by
  rw [State.loadStart]
  extract_lets slot _ s1 _ s2 s3 _ s4
  rw [if_neg (not_or.mpr ⟨hs1, hs2⟩), if_neg (not_or.mpr ⟨Nat.not_lt.mpr hlen, hsink⟩)]
  have h3 : s3.host = s1.host ∧ s3.pending = t.pending := by
    simp only [s3]
    split_ifs <;> exact ⟨rfl, rfl⟩
  have h4 : s4.host = s1.host ∧ s4.pending = t.pending := by
    simp only [s4]
    split_ifs <;> exact h3
  refine ⟨?_, ?_, ?_, ?_⟩
  · rw [State.get_set_other _ _ _ _ (by decide), State.get_set_other _ _ _ _ (by decide), State.get_set_self]
    rfl
  · rw [State.get_set_other _ _ _ _ (by decide), State.get_set_self]
    rfl
  · rw [State.get_set_self]
    rfl
  · simp only [State.set_host, State.set_pending, h4]
    exact ⟨rfl, rfl, rfl, rfl, trivial⟩

/-- A lone LOAD_START of a known sink that the length fits is the start of that load. -/
theorem Writable.write_load (h : Writable s m 0x60040 r) {w : Word} (hgo : w.getLsbD 4 = true) (hlo : 1 ≤ w.toNat % 16)
    (hhi : w.toNat % 16 ≤ 4) : ∃ t : State, Only (loadFields.map (·.fld)) s t ∧
      t.get F.HOST_LOAD_CTRL_LENGTH = w.toNat / 256 ∧ t.get F.HOST_LOAD_CTRL_SINK = w.toNat % 16 ∧
      s.write m 0x60040 w = t.loadStart.1 := by
  have hsink : bitsOf w.toNat 0 4 = w.toNat % 16 := by simp [bitsOf]
  have hlen : bitsOf w.toNat 8 24 = w.toNat / 256 := by
    have := w.isLt
    simp only [bitsOf]
    omega
  obtain ⟨t, eff, hd, hw⟩ := h.write_decided (h.fields fields_load) (by decide) (by decide) w (by
    intro f hf
    simp only [loadFields, List.mem_cons, List.not_mem_nil, or_false] at hf
    rcases hf with rfl | rfl | rfl
    · rfl
    · rfl
    · simp [Chk.ok, F.HOST_LOAD_CTRL_SINK, hsink, hlo, hhi]) ⟨_, List.mem_cons_of_mem _ List.mem_cons_self, woField_moves_bit rfl hgo⟩
  have hbit : bitOf eff 4 = true :=
    (hd.bit (List.mem_cons_of_mem _ List.mem_cons_self) rfl rfl).trans ((bitOf_toNat w 4).trans hgo)
  refine ⟨t, hd.only, (hd.rw _ List.mem_cons_self rfl).trans hlen,
    (hd.rw ⟨F.HOST_LOAD_CTRL_SINK, .rw, .soft, .range 1 4, false, none⟩ (by simp [loadFields]) rfl).trans hsink, ?_⟩
  rw [hw, State.hook_load, if_pos hbit]

/-! ### COPY_GO and COPY_ABORT (R602–R608) -/

theorem State.hook_copy (ch : Fin 4) : (t.hook old m (0x70010 + 0x40 * ch) w).1 =
    let u := if bitOf w 1 then t.copyAbort ch else t
    if bitOf w 0 then (u.copyGo ch m).1 else u := by
  have hhook : t.hook old m (0x70010 + 0x40 * ch) w = t.hookHost m (0x70010 + 0x40 * ch) w := by
    have h1 : ¬ (0xC0000 ≤ 0x70010 + 0x40 * ch.val) := by omega
    have h2 : ¬ ((0x70010 + 0x40 * ch.val) / 0x10000 ≤ 5) := by omega
    have h3 : (0x70010 + 0x40 * ch.val) / 0x10000 ≤ 9 := by omega
    rw [State.hook, if_neg fun h => h1 h.2, if_neg h2, if_pos h3]
  have hne : ¬ (0x70010 + 0x40 * ch.val = 0x60040) := by omega
  have hin : (0x70010 + 0x40 * ch.val) / 0x10000 = 7 ∧ (0x70010 + 0x40 * ch.val) % 0x40 = 0x10 ∧
      0x70010 + 0x40 * ch.val < 0x70100 := by omega
  have hn : (0x70010 + 0x40 * ch.val - 0x70000) / 0x40 = ch := by omega
  rw [hhook, State.hookHost, if_neg hne, if_pos hin, hn]
  dsimp only
  split <;> rfl

/-- A lone write of a channel's control that names GO or ABORT. -/
theorem Writable.write_copy {ch : Fin 4} (h : Writable s m (0x70010 + 0x40 * ch) r) {w : Word}
    (hany : w.getLsbD 0 = true ∨ w.getLsbD 1 = true) : s.write m (0x70010 + 0x40 * ch) w =
      let u := if w.getLsbD 1 then s.copyAbort ch else s
      if w.getLsbD 0 then (u.copyGo ch m).1 else u := by
  have hmoves : ∃ f ∈ copyFields ch, f.moves s w.toNat = true := by
    rcases hany with h0 | h1
    · exact ⟨_, List.mem_cons_of_mem _ List.mem_cons_self, woField_moves_bit rfl h0⟩
    · exact ⟨_, List.mem_cons_self, woField_moves_bit rfl h1⟩
  obtain ⟨eff, hd, hw⟩ := h.write_rule (h.fields (fields_copy ch)) (plain_copy ch) (open_copy ch) (rule_copy ch).1
    (rule_copy ch).2 w hmoves
  have h1 : bitOf eff 1 = w.getLsbD 1 := (hd.bit List.mem_cons_self rfl rfl).trans (bitOf_toNat w 1)
  have h0 : bitOf eff 0 = w.getLsbD 0 :=
    (hd.bit (List.mem_cons_of_mem _ List.mem_cons_self) rfl rfl).trans (bitOf_toNat w 0)
  rw [hw, State.hook_copy, h0, h1]

/-! ### GPIO_OUT_SET and GPIO_OUT_CLR (R613) -/

/-- The one field of GPIO_OUT_SET. -/
def gpioSetField : FieldRow := ⟨F.GPIO_OUT_SET_SET, .w1s, .soft, .any, false, none⟩

/-- The one field of GPIO_OUT_CLR. -/
def gpioClrField : FieldRow := ⟨F.GPIO_OUT_CLR_CLR, .w1c, .soft, .any, false, none⟩

theorem fields_gpioSet : (regRow 0x80108).map (·.fields) = some [gpioSetField] := by decide

theorem fields_gpioClr : (regRow 0x8010C).map (·.fields) = some [gpioClrField] := by decide

/-- The unit of output `b` in a write of one of the two registers. -/
def gpioUnit (p : PWrite) (rein : Option Nat) (v b : Nat) : UWrite :=
  ⟨0, p.master.code, F.GPIO_OUT_OUT.key, b, 1, v, false, false, p.addr, b, 1, rein⟩

/-- Units of different bits of one field all stand. -/
theorem lastStands_of_apart : ∀ {us : List UWrite}, (us.map (·.lo)).Nodup → lastStands us = us
  | [], _ => rfl
  | u :: us, h => by
    obtain ⟨hu, hus⟩ := List.nodup_cons.mp h
    have hlast : us.any (fun v => v.master == u.master && v.key == u.key && v.lo == u.lo && v.width == u.width) = false := by
      rw [List.any_eq_false]
      intro v hv
      have hlo : ¬ v.lo = u.lo := fun e => hu (List.mem_map.mpr ⟨v, hv, e⟩)
      simp [hlo]
    rw [lastStands, hlast, Bool.and_false, if_neg Bool.false_ne_true, lastStands_of_apart hus]

theorem testBit_foldl_lor_bits (l : List Nat) (n i : Nat) :
    (l.foldl (fun n b => Nat.lor n (2 ^ b)) n).testBit i = (n.testBit i || decide (i ∈ l)) := by
  induction l generalizing n with
  | nil => simp
  | cons b l ih =>
    have hor : (Nat.lor n (2 ^ b)).testBit i = (n.testBit i || (2 ^ b).testBit i) := Nat.testBit_or n (2 ^ b) i
    rw [List.foldl_cons, ih, hor, Nat.testBit_two_pow, Bool.or_assoc]
    by_cases hb : b = i
    · simp [hb]
    · have : ¬ i = b := fun e => hb e.symm
      simp [hb, this]

/-- The units of the bits of a word stand for the word. -/
theorem soleMask_gpio {p : PWrite} {rein : Option Nat} {v : Nat} (w : Word) :
    soleMask (((List.range 32).filter (fun b => w.toNat.testBit b)).map (gpioUnit p rein v)) = w.toNat := by
  have hapart : ((((List.range 32).filter (fun b => w.toNat.testBit b)).map (gpioUnit p rein v)).map (·.lo)).Nodup := by
    rw [List.map_map]
    exact (List.map_id _).symm ▸ List.nodup_range.filter _
  rw [soleMask, lastStands_of_apart hapart, List.filter_eq_self.mpr fun u hu => List.contains_iff_mem.mpr hu, List.foldl_map]
  refine Nat.eq_of_testBit_eq fun i => ?_
  have hbits := testBit_foldl_lor_bits ((List.range 32).filter (fun b => w.toNat.testBit b)) 0 i
  have hunit : ∀ b, (gpioUnit p rein v b).wordMask = 2 ^ b := by
    intro b
    simp [gpioUnit, UWrite.wordMask, Fld.key, F.GPIO_OUT_OUT]
  simp only [hunit]
  rw [hbits, Nat.zero_testBit, Bool.false_or]
  by_cases hi : i < 32
  · simp [hi]
  · have : w.toNat.testBit i = false := Nat.testBit_lt_two_pow (Nat.lt_of_lt_of_le w.isLt (Nat.pow_le_pow_right (by decide) (by omega)))
    simp [hi, this]

/-- The registers GPIO_OUT_SET and GPIO_OUT_CLR with their one field. -/
def gpioRow (a : Nat) (f : FieldRow) : Prop := a = 0x80108 ∧ f = gpioSetField ∨ a = 0x8010C ∧ f = gpioClrField

theorem State.admitField_gpio {a : Nat} {f : FieldRow} (ha : gpioRow a f) (s : State) (w v : Nat) :
    s.admitField m a w f v = .take := by
  rcases ha with ⟨rfl, rfl⟩ | ⟨rfl, rfl⟩
  · exact State.admitField_open (f := gpioSetField) (by decide) rfl (by decide) rfl
  · exact State.admitField_open (f := gpioClrField) (by decide) rfl (by decide) rfl

theorem State.fieldUnits_gpio {f : FieldRow} {p : PWrite} (ha : gpioRow p.addr f) (hw : p.val < 2 ^ 32) (s : State)
    (rein : Option Nat) : s.fieldUnits 0 p rein f = ((List.range 32).filter (fun b => p.val.testBit b)).map
      (gpioUnit p rein (if p.addr = 0x80108 then 1 else 0)) := by
  have haddr : p.addr = 0x80108 ∨ p.addr = 0x8010C := ha.imp And.left And.left
  have hfld : f.fld.lo = 0 ∧ f.fld.width = 32 := by
    rcases ha with ⟨-, rfl⟩ | ⟨-, rfl⟩ <;> exact ⟨rfl, rfl⟩
  unfold State.fieldUnits
  simp only [if_pos haddr, hfld, bitsOf_word hw]
  rfl

/-- What a decided write of the two registers sets is left to their rule. -/
theorem State.setFields_gpio {a : Nat} {f : FieldRow} (ha : gpioRow a f) (hf : r.fields = [f]) (s : State) (w mask : Nat) :
    s.setFields r w mask = s := by
  rw [State.setFields_eq, hf, List.foldl_cons, List.foldl_nil]
  unfold State.setField
  rcases ha with ⟨-, rfl⟩ | ⟨-, rfl⟩
  · exact ite_self _
  · exact ite_self _

/-- A lone write of one of the two registers with some bit follows the register's rule on the word. -/
theorem Writable.write_gpio {a : Nat} {f : FieldRow} (ha : gpioRow a f) (h : Writable s m a r) (hf : r.fields = [f])
    (w : Word) : s.write m a w = if w.toNat ≠ 0 then (s.hook s m a w.toNat).1 else s := by
  have hrange : a = 0x80108 ∨ a = 0x8010C := ha.imp And.left And.left
  have hnow : f.stride = false ∧ journalled f = false := by
    rcases ha with ⟨-, rfl⟩ | ⟨-, rfl⟩ <;> decide
  have hcycle : cycleMask a = 2 ^ 32 - 1 := by
    simp [cycleMask, h.row, strideMask_now (r := r) fun g hg => by rw [hf, List.mem_singleton] at hg; rw [hg]; exact hnow.1]
  have hcover : coveredFields r (2 ^ 32 - 1) = [f] := by
    rw [coveredFields, hf]
    rcases ha with ⟨-, rfl⟩ | ⟨-, rfl⟩ <;> decide
  have hprep := h.prepare w.toNat
  simp only [hcycle, hcover, List.map_cons, List.map_nil, State.admitField_gpio ha, List.zip_cons_cons, List.zip_nil_right,
    List.flatMap_cons, List.flatMap_nil, List.append_nil, if_true,
    State.fieldUnits_gpio (p := ⟨m, a, w.toNat, 2 ^ 32 - 1, .direct⟩) ha w.isLt s r.rein] at hprep
  have hlog : ∀ (t : State) (p : PWrite), t.logRefusals p r [.take] = t := fun t p => by simp [State.logRefusals]
  have hstream : ¬ (0x150000 ≤ a ∧ a < 0x151000) := by omega
  have herr : s.streamErr a w.toNat r = false := by simp [State.streamErr, hstream]
  have hside : s.sidetoneErr m a w.toNat (2 ^ 32 - 1) r = false := by
    rcases hrange with rfl | rfl <;> simp [State.sidetoneErr, F.TG_SIDETONE_IN]
  have hapi : a ≠ 0x1C := by omega
  rw [State.write_sole h w (by omega) (h.waits_none (by simp [hf, hnow.1]) _ _) rfl, hcycle, hprep]
  simp only [soleMask_gpio, hlog, herr, hside, hapi, Bool.false_eq_true, or_false]
  rw [State.applyWrite_of hapi hstream (fun g hg => by rw [hf, List.mem_singleton] at hg; rw [hg]; exact hnow.2),
    State.setFields_gpio ha hf]
  rw [show Nat.land w.toNat w.toNat = w.toNat from Nat.and_self _]

theorem State.hook_gpioSet : (s.hook s m 0x80108 w).1 = s.set F.GPIO_OUT_OUT (Nat.lor (s.get F.GPIO_OUT_OUT) w) := by
  simp [State.hook, State.hookHost]

theorem State.hook_gpioClr : (s.hook s m 0x8010C w).1 =
    s.set F.GPIO_OUT_OUT (s.get F.GPIO_OUT_OUT - Nat.land (s.get F.GPIO_OUT_OUT) w) := by
  simp [State.hook, State.hookHost]

/-- OR with a word sets its bits. -/
theorem State.bit_set_lor (s : State) (w k : Nat) (hw : w < 2 ^ 32) :
    (s.set F.GPIO_OUT_OUT (Nat.lor (s.get F.GPIO_OUT_OUT) w)).bit F.GPIO_OUT_OUT k = (s.bit F.GPIO_OUT_OUT k || w.testBit k) := by
  have hlt : Nat.lor (s.get F.GPIO_OUT_OUT) w < 2 ^ 32 := Nat.or_lt_two_pow (State.get_lt s _) hw
  have hor : (Nat.lor (s.get F.GPIO_OUT_OUT) w).testBit k = ((s.get F.GPIO_OUT_OUT).testBit k || w.testBit k) :=
    Nat.testBit_or _ _ _
  rw [State.bit, State.get_set_self, show F.GPIO_OUT_OUT.width = 32 from rfl, Nat.mod_eq_of_lt hlt, hor]
  rfl

/-- What is left of a number less what it shares with another. -/
theorem testBit_sub_and (x w k : Nat) : (x - (x &&& w)).testBit k = (x.testBit k && !w.testBit k) := by
  induction k generalizing x w with
  | zero =>
    have hbit : (x &&& w).testBit 0 = (x.testBit 0 && w.testBit 0) := Nat.testBit_and x w 0
    have hle : x &&& w ≤ x := Nat.and_le_left
    generalize x &&& w = y at hbit hle ⊢
    simp only [Nat.testBit_zero, ← Bool.decide_and, decide_eq_decide, ← decide_not] at hbit ⊢
    omega
  | succ k ih =>
    have hbit : (x &&& w).testBit 0 = (x.testBit 0 && w.testBit 0) := Nat.testBit_and x w 0
    have hle : x &&& w ≤ x := Nat.and_le_left
    have hhalf : (x &&& w) / 2 = x / 2 &&& w / 2 := Nat.and_div_two
    have hdiv : (x - (x &&& w)) / 2 = x / 2 - (x / 2 &&& w / 2) := by
      rw [← hhalf]
      generalize x &&& w = y at hbit hle ⊢
      simp only [Nat.testBit_zero, ← Bool.decide_and, decide_eq_decide] at hbit
      omega
    rw [Nat.testBit_succ, Nat.testBit_succ, Nat.testBit_succ, hdiv, ih]

/-- Taking away what a word shares with the field clears the word's bits. -/
theorem State.bit_set_clear (s : State) (w k : Nat) :
    (s.set F.GPIO_OUT_OUT (s.get F.GPIO_OUT_OUT - Nat.land (s.get F.GPIO_OUT_OUT) w)).bit F.GPIO_OUT_OUT k =
      (s.bit F.GPIO_OUT_OUT k && !w.testBit k) := by
  have hlt : s.get F.GPIO_OUT_OUT - Nat.land (s.get F.GPIO_OUT_OUT) w < 2 ^ 32 :=
    Nat.lt_of_le_of_lt (Nat.sub_le _ _) (State.get_lt s _)
  rw [State.bit, State.get_set_self, show F.GPIO_OUT_OUT.width = 32 from rfl, Nat.mod_eq_of_lt hlt]
  exact testBit_sub_and _ _ _

/-- Settles O14 (it holds): each is a lone write of its register, and so the rule of that register. -/
theorem loadCopyAndGpioRows : Obligations.LoadCopyAndGpioRows := by
  refine ⟨⟨fun s m w halone hgo hlo hhi hlen hs1 hs2 => ?load, fun s m cell w halone => exec_resultAck_alone halone w,
    fun s m ch w halone h0 h1 _ => ?go, fun s m ch w halone h0 h1 => ?abort⟩, fun s m w halone => ?set,
    fun s m w halone => ?clr⟩
  case load =>
    obtain ⟨r, hr, hexec⟩ := halone.exec_row (c := .loadStart m w) rfl
    obtain ⟨t, honly, htlen, htsink, hw⟩ := hr.write_load hgo hlo hhi
    have hstate : t.get F.HOST_LOAD_STATUS_STATE = s.get F.HOST_LOAD_STATUS_STATE := honly.2 _ (by decide)
    have hlimit : sinkLimit (w.toNat % 16) ≠ 0 := by
      have : ∀ n, 1 ≤ n → n ≤ 4 → sinkLimit n ≠ 0 := by intro n h1 h4; interval_cases n <;> decide
      exact this _ hlo hhi
    obtain ⟨h1, h2, h3, h4, h5, h6, h7, hpending⟩ := State.loadStart_shows (t := t) (hstate ▸ hs1) (hstate ▸ hs2)
      (by rw [htlen, htsink]; exact hlen) (by rw [htsink]; exact hlimit)
    rw [hw] at hexec
    exact State.finish hexec (hpending.trans honly.pending) ⟨h1, h2, h3, h4.trans htlen, h5.trans htsink, h6, h7⟩
  case go =>
    obtain ⟨r, hr, hexec⟩ := halone.exec_row (c := .copyGo m ch w) rfl
    rw [hexec, hr.write_copy (.inl h0), h0, h1]
    rfl
  case abort =>
    obtain ⟨r, hr, hexec⟩ := halone.exec_row (c := .copyAbort m ch w) rfl
    rw [hexec, hr.write_copy (.inr h1), h0, h1]
    rfl
  case set =>
    obtain ⟨r, hr, hexec⟩ := halone.exec_row (c := .gpioOutSet m w) rfl
    rw [hr.write_gpio (.inl ⟨rfl, rfl⟩) (hr.fields fields_gpioSet), State.hook_gpioSet] at hexec
    by_cases hw : w.toNat = 0
    · rw [if_neg (not_not.mpr hw)] at hexec
      refine State.finish hexec rfl ⟨fun k _ => ?_, Only.refl _ _⟩
      rw [BitVec.getLsbD, hw, Nat.zero_testBit, Bool.or_false]
    · rw [if_pos hw] at hexec
      exact State.finish hexec rfl ⟨fun k _ => State.bit_set_lor s _ k w.isLt, (Only.refl _ s).set (by simp) _⟩
  case clr =>
    obtain ⟨r, hr, hexec⟩ := halone.exec_row (c := .gpioOutClr m w) rfl
    rw [hr.write_gpio (.inr ⟨rfl, rfl⟩) (hr.fields fields_gpioClr), State.hook_gpioClr] at hexec
    by_cases hw : w.toNat = 0
    · rw [if_neg (not_not.mpr hw)] at hexec
      refine State.finish hexec rfl ⟨fun k _ => ?_, Only.refl _ _⟩
      rw [BitVec.getLsbD, hw, Nat.zero_testBit, Bool.not_false, Bool.and_true]
    · rw [if_pos hw] at hexec
      exact State.finish hexec rfl ⟨fun k _ => State.bit_set_clear s _ k, (Only.refl _ s).set (by simp) _⟩

end Sys2Proof.Machine
end

section
/-! Commits and trials (R46, R684, R710, R711): a lone write of BOOT_COMMIT and the commit that acts on it, what a commit of a
firmware slot leaves, and the settlement of O60. -/

namespace Sys2Proof.Machine

variable {s t old : State} {m : Master} {w : Nat} {r : RegRow}

/-! ### BOOT_COMMIT (chapter 19) -/

/-- The fields of BOOT_COMMIT. -/
def commitFields : List FieldRow :=
  [woField F.BOOT_COMMIT_KEY, woField F.BOOT_COMMIT_ACTION, woField F.BOOT_COMMIT_TARGET, woField F.BOOT_COMMIT_RESTART,
   woField F.BOOT_COMMIT_GO]

theorem fields_commit : (regRow 0x10020).map (·.fields) = some commitFields := by decide

theorem State.hook_commit : (t.hook old m 0x10020 w).1 = (t.commitGo m w).1 := by
  simp [State.hook, State.hookSys]

/-- A load of target `k` that BOOT_COMMIT names has reached DONE, and nothing keeps its commit waiting. -/
theorem State.commitGo_taken (hkey : bitsOf w 16 16 = 0x434D) (hgo : bitOf w 0 = true) (htarget : bitsOf w 4 2 ≠ 0)
    (hdone : (s.boot.done.find? (fun d => d.1 = commitSink w)).isSome = true)
    (hfree : bitsOf w 4 2 = 1 → s.boot.want = none ∧ s.fab.loaded = false ∧ s.fab.rampDown = none) :
    (s.commitGo m w).1 = { s with boot := { s.boot with commitDue := some (m.code, w) } } := by
  have hnokey : ¬ (bitsOf w 16 16 ≠ 0x434D ∨ (!bitOf w 0) = true ∨ bitsOf w 4 2 = 0) := by simp [hkey, hgo, htarget]
  have hany : ¬ (!s.boot.done.any (fun d => d.1 = commitSink w)) = true := by
    rw [List.find?_isSome] at hdone
    simpa using hdone
  have hbusy : ¬ (bitsOf w 4 2 = 1 ∧ (s.boot.want.isSome ∨ s.fab.loaded ∨ s.fab.rampDown.isSome)) := by
    rintro ⟨h1, h2⟩
    obtain ⟨hwant, hloaded, hramp⟩ := hfree h1
    simp [hwant, hloaded, hramp] at h2
  rw [State.commitGo, if_neg hnokey, if_neg hany, if_neg hbusy]

/-- A lone write of BOOT_COMMIT is its rule on the key and the fields as written. -/
theorem Writable.write_commit (h : Writable s m 0x10020 r) (w : Word) : ∃ eff,
    (∀ f ∈ commitFields, bitsOf eff f.fld.lo f.fld.width = bitsOf w.toNat f.fld.lo f.fld.width) ∧
    s.write m 0x10020 w = (s.commitGo m eff).1 := by
  have hwo : ∀ f ∈ commitFields, f.acc = .wo := by decide
  obtain ⟨eff, hd, hw⟩ := h.write_rule (h.fields fields_commit) (by decide) (by decide) (by decide) (by decide) w
    ⟨_, List.mem_cons_self, woField_moves_wide (by decide)⟩
  exact ⟨eff, fun f hf => hd.stands f hf (.inl (hwo f hf)), by rw [hw, State.hook_commit]⟩

/-! ### The commit of a load -/

/-- The load of the target named `k` is used up. -/
def State.loadUsed (s : State) (k : Nat) : State :=
  { s with boot := { s.boot with done := s.boot.done.filter (fun d => d.1 ≠ k) } }

/-- The steward's action on a commit that has just begun to wait. -/
theorem State.commit_due {c slot : Nat} {sigOk : Bool} (hdue : s.boot.commitDue = none)
    (hdone : s.boot.done.find? (fun d => d.1 = commitSink w) = some (commitSink w, slot)) :
    ({ s with boot := { s.boot with commitDue := some (c, w) } } : State).commit sigOk =
      if commitSink w = 1 then (s.loadUsed (commitSink w)).commitTack c slot (!bitOf w 6) sigOk
      else if commitSink w = 3 then (s.loadUsed (commitSink w)).commitFw c slot (bitOf w 1) sigOk
      else (s.loadUsed (commitSink w)).commitModel c slot sigOk := by
  have hstate : ({ s with boot := { s.boot with commitDue := none, done := s.boot.done.filter (fun d => d.1 ≠ commitSink w) } } :
      State) = s.loadUsed (commitSink w) := by
    rw [State.loadUsed, ← hdue]
  simp only [State.commit, hdone, hstate]

/-- A commit row alone in its cycle, of a word of the row's kind: the commit acts on the load that reached DONE. -/
theorem Alone.commitRow (h : Alone s m 0x10020) {w : Word} {slot : Nat} {kind : Nat → Bool} {sigOk : Bool}
    (hdue : s.boot.commitDue = none) (hkey : bitsOf w.toNat 16 16 = 0x434D) (hgo : bitOf w.toNat 0 = true)
    (hdone : s.boot.done.find? (fun d => d.1 = commitSink w.toNat) = some (commitSink w.toNat, slot))
    (htarget : bitsOf w.toNat 4 2 ≠ 0)
    (hfree : bitsOf w.toNat 4 2 = 1 → s.boot.want = none ∧ s.fab.loaded = false ∧ s.fab.rampDown = none)
    (hkind : kind w.toNat = true) :
    s.commitRow m w kind sigOk =
      if commitSink w.toNat = 1 then (s.loadUsed (commitSink w.toNat)).commitTack m.code slot (!bitOf w.toNat 6) sigOk
      else if commitSink w.toNat = 3 then (s.loadUsed (commitSink w.toNat)).commitFw m.code slot (bitOf w.toNat 1) sigOk
      else (s.loadUsed (commitSink w.toNat)).commitModel m.code slot sigOk := by
  obtain ⟨hhost, r, hr⟩ := h
  obtain ⟨eff, hstands, hw⟩ := hr.write_commit w
  have hekey : bitsOf eff 16 16 = bitsOf w.toNat 16 16 := hstands (woField F.BOOT_COMMIT_KEY) (by simp [commitFields])
  have hetarget : bitsOf eff 4 2 = bitsOf w.toNat 4 2 := hstands (woField F.BOOT_COMMIT_TARGET) (by simp [commitFields])
  have hebit : ∀ f : Fld, woField f ∈ commitFields → f.width = 1 → bitOf eff f.lo = bitOf w.toNat f.lo := by
    intro f hf hwidth
    have := hstands _ hf
    rw [show (woField f).fld = f from rfl, hwidth] at this
    rw [bitOf, bitOf, this]
  have hesink : commitSink eff = commitSink w.toNat := by rw [commitSink, hetarget, commitSink]
  have hetack : bitOf eff 6 = bitOf w.toNat 6 := hebit F.BOOT_COMMIT_ACTION (by simp [commitFields]) rfl
  have herestart : bitOf eff 1 = bitOf w.toNat 1 := hebit F.BOOT_COMMIT_RESTART (by simp [commitFields]) rfl
  have hego : bitOf eff 0 = bitOf w.toNat 0 := hebit F.BOOT_COMMIT_GO (by simp [commitFields]) rfl
  have hedone : s.boot.done.find? (fun d => d.1 = commitSink eff) = some (commitSink eff, slot) := hesink ▸ hdone
  have hidle : s.commitFree = s := by simp [State.commitFree, hdue]
  simp only [State.commitRow, hidle, State.rowWrite_direct hhost, hkind, if_true]
  rw [hw, State.commitGo_taken (hekey.trans hkey) (hego.trans hgo) (hetarget ▸ htarget) (by rw [hedone]; rfl)
    (hetarget ▸ hfree), State.commit_due hdue hedone, hesink, hetack, herestart]

/-! ### A commit of a firmware slot -/

/-- The fields that show the boot record. -/
def bootFields : List Fld :=
  [F.BOOT_SLOTS_FW_A, F.BOOT_SLOTS_FW_B, F.BOOT_SLOTS_TACK_0, F.BOOT_SLOTS_TACK_1, F.BOOT_SLOTS_FW_ACTIVE,
   F.BOOT_SLOTS_TACK_ACTIVE, F.BOOT_STATUS_TRIAL] ++ (List.range 4).map (fun m => ⟨0x10004, 8 + 2 * m, 2, 0⟩)

theorem State.showBoot_only (s : State) : Only bootFields s s.showBoot := by
  unfold State.showBoot
  refine Only.setB ?_ (by decide) _
  refine Only.foldl ?_ fun x n hn => ((Only.refl _ x).set (f := ⟨0x10004, 8 + 2 * n, 2, 0⟩) ?_ _)
  · exact ((((((Only.refl _ s).set (by decide) _).set (by decide) _).set (by decide) _).set (by decide) _).set (by decide)
      _).set (by decide) _
  · exact List.mem_append_right _ (List.mem_map.mpr ⟨n, hn, rfl⟩)

theorem State.showBoot_boot (s : State) : s.showBoot.boot = s.boot := by
  have := congrArg State.boot s.showBoot_only.1
  exact this

/-- A serial above every other of the list. -/
theorem getD_lt_foldl_max (l : List Nat) (k : Nat) : ∀ n, l.getD k 0 ≤ l.foldl Nat.max n ∧ n ≤ l.foldl Nat.max n := by
  induction l generalizing k with
  | nil => intro n; simp
  | cons x l ih =>
    intro n
    rw [List.foldl_cons]
    have hrest := (ih 0 (Nat.max n x)).2
    have hn : n ≤ Nat.max n x := Nat.le_max_left n x
    have hx : x ≤ Nat.max n x := Nat.le_max_right n x
    refine ⟨?_, by omega⟩
    cases k with
    | zero => rw [List.getD_cons_zero]; omega
    | succ k => rw [List.getD_cons_succ]; exact (ih k _).1

/-- The code of R89 for the firmware image of a slot, 0 for one that passes (R697, R710). -/
def fwCommitCode (b : List Host.Cell) (sigOk : Bool) : Nat :=
  if !fwFormatOk b then 1 else if !partsAgree (fwImage b) then 4 else if !sigOk then 3 else 0

theorem fwCommitCode_eq_zero {b : List Host.Cell} {sigOk : Bool} :
    fwCommitCode b sigOk = 0 ↔ fwFormatOk b = true ∧ partsAgree (fwImage b) = true ∧ sigOk = true := by
  unfold fwCommitCode
  cases fwFormatOk b <;> cases partsAgree (fwImage b) <;> cases sigOk <;> decide

theorem State.commitFw_eq {c slot : Nat} {sigOk : Bool} : s.commitFw c slot false sigOk =
    let u : State := { s with boot := { s.boot with fwSig := s.boot.fwSig.set slot sigOk } }
    if fwCommitCode (s.boot.fw.getD slot []) sigOk ≠ 0 then
      u.commitRefused c slot (fwCommitCode (s.boot.fw.getD slot []) sigOk) 0 3
    else u.commitSlot slot := rfl

/-- A firmware slot whose image passes its checks: its serial is above every other, and it is on trial and active. -/
theorem State.commitFw_passes {c slot : Nat} (hslot : slot < 2) (hserials : s.boot.serials.length = 4)
    (hstates : s.boot.states.length = 4) (hformat : fwFormatOk (s.boot.fw.getD slot []) = true)
    (hagree : partsAgree (fwImage (s.boot.fw.getD slot [])) = true) :
    (∀ k < 4, k ≠ slot → (s.commitFw c slot false true).boot.serials.getD k 0 <
        (s.commitFw c slot false true).boot.serials.getD slot 0) ∧
      (s.commitFw c slot false true).boot.states.getD slot 0 = 3 ∧
      (s.commitFw c slot false true).boot.active = (slot, s.boot.active.2) ∧
      (s.commitFw c slot false true).getB F.BOOT_IRQ_COMMIT_DONE = true := by
  have hpass : s.commitFw c slot false true =
      ({ s with boot := { s.boot with fwSig := s.boot.fwSig.set slot true } } : State).commitSlot slot := by
    rw [State.commitFw_eq]
    exact if_neg (not_not.mpr (fwCommitCode_eq_zero.mpr ⟨hformat, hagree, rfl⟩))
  rw [hpass, State.commitSlot]
  simp only [State.showBoot_boot, State.setB, State.set_boot, if_pos hslot]
  refine ⟨fun k hk hne => ?_, ?_, trivial, ?_⟩
  · rw [List.getD_eq_getElem?_getD, List.getD_eq_getElem?_getD, List.getElem?_set_ne (fun e => hne e.symm),
      List.getElem?_set_self (by omega), ← List.getD_eq_getElem?_getD]
    exact Nat.lt_succ_of_le (getD_lt_foldl_max _ k 0).1
  · rw [List.getD_eq_getElem?_getD, List.getElem?_set_self (by omega)]
    rfl
  · rw [State.getB, (State.showBoot_only _).2 _ (by decide), State.get_set_self]
    rfl

/-- A firmware slot whose image fails one is invalid, and the active slots stay. -/
theorem State.commitFw_refused {c slot : Nat} {sigOk : Bool} (hslot : slot < 2) (hstates : s.boot.states.length = 4)
    (hfail : fwCommitCode (s.boot.fw.getD slot []) sigOk ≠ 0) :
    (s.commitFw c slot false sigOk).boot.states.getD slot 0 = 2 ∧
      (s.commitFw c slot false sigOk).boot.active = s.boot.active ∧
      (s.commitFw c slot false sigOk).getB F.BOOT_IRQ_COMMIT_REFUSED = true := by
  have hlt : slot < 4 := by omega
  have hlog : ∀ (x : State) (a b c d e f : Nat), (x.addLog a b c d e f).boot = x.boot := fun x a b c d e f => by
    have := congrArg State.boot (x.addLog_settles a b c d e f).1
    exact this
  rw [State.commitFw_eq, if_pos hfail, State.commitRefused, if_pos hlt, State.setSlot]
  simp only [hlog, State.showBoot_boot, State.setB, State.set_boot]
  refine ⟨?_, trivial, ?_⟩
  · rw [List.getD_eq_getElem?_getD, List.getElem?_set_self (by omega)]
    rfl
  · rw [State.getB, (State.addLog_settles _ _ _ _ _ _ _).2 _ (by decide), State.get_set_self]
    rfl

/-! ### The settings journal (R684) -/

/-- The setting `w` waits no longer. -/
def State.waitDone (s : State) (w : JWait) : State :=
  { s with journal := { s.journal with waits := s.journal.waits.filter (· ≠ w) } }

/-- The only setting of its field that waits is the one that is found. -/
theorem find_journalWait {l : List JWait} {x : JWait} {n : Nat} (hx : x ∈ l) (hdue : x.at_ + 16000 ≤ n)
    (hone : ∀ y ∈ l, y.addr = x.addr → y.mask = x.mask →
      x.addr ≠ F.TG_XP_WRITE_INPUT.addr ∨ y.value / 2 ^ 8 = x.value / 2 ^ 8 → y = x) :
    l.find? (fun y => y.addr = x.addr ∧ y.mask = x.mask ∧
      (x.addr ≠ F.TG_XP_WRITE_INPUT.addr ∨ y.value / 2 ^ 8 = x.value / 2 ^ 8) ∧ y.at_ + 16000 ≤ n) = some x := by
  obtain ⟨y, hy⟩ := Option.isSome_iff_exists.mp (List.find?_isSome (p := fun y : JWait => decide (y.addr = x.addr ∧
    y.mask = x.mask ∧ (x.addr ≠ F.TG_XP_WRITE_INPUT.addr ∨ y.value / 2 ^ 8 = x.value / 2 ^ 8) ∧ y.at_ + 16000 ≤ n)).mpr
      ⟨x, hx, by simp [hdue]⟩)
  have hprop := List.find?_some hy
  simp only [decide_eq_true_eq] at hprop
  obtain ⟨haddr, hmask, hvalue, -⟩ := hprop
  rw [hy, hone y (List.mem_of_find?_eq_some hy) haddr hmask hvalue]

/-- Settles O60 (it holds): a lone write of BOOT_COMMIT waits and is acted on at once; a firmware commit follows its code. -/
theorem commitsAndTrials : Obligations.CommitsAndTrials := by
  refine ⟨fun s m w ev slot halone hdue hkey hgo hdone => ?rows, fun s m slot sigOk hslot hserials hstates => ?slots,
    fun s a ha hrun hhalter hdue => ?trial, fun s w hw hdue hone => ?journal⟩
  case rows =>
    refine ⟨fun htarget hwant hloaded hramp => ?_, fun htarget => ?_, fun htarget => ?_⟩
    · have hsink : commitSink w.toNat = 1 := by rw [commitSink, htarget]; rfl
      have hrow := fun kind => halone.commitRow (kind := kind) (sigOk := ev.sigOk) hdue hkey hgo hdone (by omega)
        fun _ => ⟨hwant, hloaded, hramp⟩
      simp only [hsink, if_true] at hrow
      refine ⟨fun hact => ?_, fun hact => ?_⟩
      · change s.done _ = _
        rw [hrow _ (by simp [htarget, hact]), hact]
        rfl
      · change s.done _ = _
        rw [hrow _ (by simp [htarget, hact]), hact]
        rfl
    · have hsink : commitSink w.toNat = 3 := by rw [commitSink, htarget]; rfl
      have hrow := halone.commitRow (kind := fun n => bitsOf n 4 2 == 2) (sigOk := ev.sigOk) hdue hkey hgo hdone (by omega)
        (fun h => by omega) (by simp [htarget])
      simp only [hsink] at hrow
      change s.done _ = _
      rw [hrow]
      rfl
    · have hsink : commitSink w.toNat = 4 := by rw [commitSink, htarget]; rfl
      have hrow := halone.commitRow (kind := fun n => bitsOf n 4 2 == 3) (sigOk := ev.sigOk) hdue hkey hgo hdone (by omega)
        (fun h => by omega) (by simp [htarget])
      simp only [hsink] at hrow
      change s.done _ = _
      rw [hrow]
      rfl
  case slots =>
    refine ⟨fun hformat hagree hsig => ?_, fun hfail => State.commitFw_refused hslot hstates fun h => ?_⟩
    · subst hsig
      exact State.commitFw_passes hslot hserials hstates hformat hagree
    · obtain ⟨hf, ha, hs⟩ := fwCommitCode_eq_zero.mp h
      rw [hf, ha, hs] at hfail
      exact absurd hfail (by decide)
  case trial =>
    change s.done _ = _
    simp only [ha, hrun, hhalter, hdue, Bool.not_false, Bool.and_self, decide_true, if_true]
    rfl
  case journal =>
    have hfind := find_journalWait hw hdue hone
    have hexec : exec (.journalSettingWrite w.addr w.mask w.value) s = s.done
        (if s.getB F.SYS_PERSONA_HOST_MODE then s.waitDone w else (s.waitDone w).journalWrite
          ⟨0, true, w.master, s.fab.baseDigest, w.addr, w.mask, w.value⟩) := by
      change execJournalSettingWrite _ _ _ s = _
      unfold execJournalSettingWrite
      rw [hfind]
      rfl
    refine ⟨fun hmode => ?_, fun hmode => ?_⟩
    · rw [hexec, hmode]
      rfl
    · rw [hexec, hmode]
      rfl

end Sys2Proof.Machine
end

section
/-! Power entry (chapter 16): inputs, the budget, the rails, the domains and a brown-out, and the settlements of O16, O17, O18
and O19. -/

namespace Sys2Proof.Machine

variable {s t : State}

/-! ### Bits of a field -/

/-- Bit `k` of a field after bit `n`, in the field or not, is set or cleared. -/
theorem State.bit_setBit_low (s : State) (f : Fld) (n k : Nat) (b : Bool) (hk : k < f.width) :
    (s.setBit f n b).bit f k = if k = n then b else s.bit f k := by
  by_cases hn : n < f.width
  · exact s.bit_setBit f n k b hn
  · have hne : k ≠ n := by omega
    have hpow : 2 ^ f.width ≤ 2 ^ n := Nat.pow_le_pow_right (by decide) (by omega)
    have hzero : (s.get f).testBit n = false := Nat.testBit_lt_two_pow (Nat.lt_of_lt_of_le (s.get_lt f) hpow)
    have hput : putBit (s.get f) n b % 2 ^ f.width = s.get f := by
      have hdvd : 2 ^ f.width ∣ 2 ^ n := Nat.pow_dvd_pow 2 (by omega)
      rw [putBit, hzero]
      cases b
      · exact Nat.mod_eq_of_lt (s.get_lt f)
      · rw [if_neg Bool.false_ne_true, if_pos rfl, Nat.add_mod, Nat.mod_eq_zero_of_dvd hdvd, Nat.add_zero, Nat.mod_mod,
          Nat.mod_eq_of_lt (s.get_lt f)]
    rw [if_neg hne, State.bit, State.setBit, State.get_set_self, hput]
    rfl

theorem State.bit_setBit_other (s : State) {f g : Fld} (n : Nat) (b : Bool) (h : g.key ≠ f.key) (k : Nat) :
    (s.setBit f n b).bit g k = s.bit g k := s.bit_set_other _ h k

/-- A field that what follows in power does not touch keeps its bits. -/
theorem State.bit_syncPower (s : State) {f : Fld} (h : f.key ∉ followFields.map Fld.key) (k : Nat) :
    s.syncPower.bit f k = s.bit f k := by
  rw [State.bit, s.syncPower_settles.2 f h]
  rfl

/-! ### Inputs (R715, R723, R724) -/

theorem qual_not_follow : F.PWR_IN_STATUS_QUAL.key ∉ followFields.map Fld.key := by decide

/-- Input `n` stands in the range in which it becomes qualified, for its time (R715). -/
def inputFits (n mv ms : Nat) : Bool :=
  match n with
  | 0 => decide (31000 ≤ mv) && decide (mv ≤ 57500)
  | 3 => decide (9500 < mv) && decide (mv ≤ 61000) && decide (10 ≤ ms)
  | _ => decide (17000 < mv) && decide (mv ≤ 35000) && decide (10 ≤ ms)

/-- Input `n` stands outside the range in which it stays qualified (R715). -/
def inputLeaves (n mv : Nat) : Bool :=
  match n with
  | 0 => decide (mv < 31000) || decide (57500 < mv)
  | 3 => decide (mv < 8000) || decide (61000 < mv)
  | _ => decide (mv < 16000) || decide (35000 < mv)

/-- Input `n` has just become qualified; the PD input's inrush limit begins with it. -/
def State.qualified (s : State) (n : Nat) : State :=
  if n = 0 then { s.setBit F.PWR_IN_STATUS_QUAL n true with power := { s.power with inrush := true } }
  else s.setBit F.PWR_IN_STATUS_QUAL n true

theorem exec_inputQualify (n : Fin 4) (mv ms : Nat) (s : State) : exec (.inputQualify n mv ms) s =
    s.done (if inputFits n mv ms && !s.inputQual n then (s.qualified n).syncPower else s) := rfl

theorem exec_inputDisqualify (n : Fin 4) (mv : Nat) (s : State) : exec (.inputDisqualify n mv) s =
    s.done (if inputLeaves n mv && s.inputQual n then (s.setBit F.PWR_IN_STATUS_QUAL n false).syncPower else s) := rfl

theorem State.qualified_bit (s : State) (n k : Nat) (hk : k < 4) :
    (s.qualified n).bit F.PWR_IN_STATUS_QUAL k = (s.inputQual k || decide (k = n)) := by
  have hset : (s.qualified n).bit F.PWR_IN_STATUS_QUAL k = (s.setBit F.PWR_IN_STATUS_QUAL n true).bit F.PWR_IN_STATUS_QUAL k := by
    unfold State.qualified
    split <;> rfl
  rw [hset, State.bit_setBit_low _ _ _ _ _ hk, State.inputQual]
  by_cases h : k = n <;> simp [h]

/-- Settles O16 (it holds): each command's condition holds, and power follows with QUAL as it set it. -/
theorem inputsQualifyAndPdClasses : Obligations.InputsQualifyAndPdClasses := by
  refine ⟨⟨fun s n mv ms hq hok => ?qualify, fun s n mv hq hout => ?disqualify⟩, fun s req grant => ?classify,
    fun s ms hrush hms => ?inrush⟩
  case qualify =>
    have hfits : inputFits n mv ms = true := by
      revert hok
      obtain ⟨n, hn⟩ := n
      interval_cases n <;> simp +contextual [inputFits]
    have hexec : exec (.inputQualify n mv ms) s = s.done (s.qualified n).syncPower := by
      rw [exec_inputQualify, hfits, hq]
      rfl
    refine ⟨_, hexec, fun k hk => ?_, rfl⟩
    exact (State.bit_syncPower _ qual_not_follow k).trans (s.qualified_bit n k hk)
  case disqualify =>
    have hleaves : inputLeaves n mv = true := by
      revert hout
      obtain ⟨n, hn⟩ := n
      interval_cases n <;> simp [inputLeaves]
    have hexec : exec (.inputDisqualify n mv) s = s.done (s.setBit F.PWR_IN_STATUS_QUAL n false).syncPower := by
      rw [exec_inputDisqualify, hleaves, hq]
      rfl
    refine ⟨_, hexec, fun k hk => (State.bit_syncPower _ qual_not_follow k).trans ?_, rfl⟩
    rw [State.bit_setBit_low _ _ _ _ _ hk, State.inputQual]
    by_cases h : k = n.val <;> simp [h]
  case classify =>
    obtain ⟨v, hv⟩ : ∃ v, v = ({ (s.set F.PWR_PD_REQ_CLASS req).set F.PWR_PD_GRANT_CLASS grant with
        power := { s.power with pdReq := req } } : State).setB F.PWR_PD_DEMOTED
          (decide (pdPower.getD grant 0 < pdPower.getD req 0)) := ⟨_, rfl⟩
    obtain ⟨u, hu⟩ : ∃ u, u = if decide (pdPower.getD grant 0 < pdPower.getD req 0) then v.setB F.PWR_IRQ_PD_CLASS true
        else v := ⟨_, rfl⟩
    have hexec : exec (.pdClassify req grant) s = s.done u.syncPower := by
      rw [hu, hv]
      rfl
    have hother : ∀ f : Fld, f.key ≠ F.PWR_IRQ_PD_CLASS.key → u.get f = v.get f := by
      intro f hf
      rw [hu]
      split
      · exact State.get_setB_other _ _ _ _ hf
      · rfl
    have hclass : ∀ n : Fin 9, n.val % 2 ^ 4 = n.val := fun n => Nat.mod_eq_of_lt (Nat.lt_trans n.isLt (by decide))
    refine ⟨u, _, hexec, rfl, ?_, ?_, ?_, ?_, ?_⟩
    · rw [hother _ (by decide), hv, State.get_setB_other _ _ _ _ (by decide)]
      exact (State.get_set_other _ _ _ _ (by decide)).trans ((State.get_set_self _ _ _).trans (hclass req))
    · rw [hother _ (by decide), hv, State.get_setB_other _ _ _ _ (by decide)]
      exact (State.get_set_self _ _ _).trans (hclass grant)
    · rw [State.getB, hother _ (by decide), hv]
      exact State.getB_setB_self _ _ _ rfl
    · have hirq : v.getB F.PWR_IRQ_PD_CLASS = s.getB F.PWR_IRQ_PD_CLASS := by
        rw [hv, State.getB_setB_other _ _ _ _ (by decide), State.getB]
        exact congrArg (· != 0) ((State.get_set_other _ _ _ _ (by decide)).trans (State.get_set_other _ _ _ _ (by decide)))
      rw [hu]
      cases decide (pdPower.getD grant 0 < pdPower.getD req 0)
      · simpa using hirq
      · simp only [if_true, Bool.or_true]
        exact State.getB_setB_self _ _ _ rfl
    · have hv' : Only [F.PWR_PD_REQ_CLASS, F.PWR_PD_GRANT_CLASS, F.PWR_PD_DEMOTED, F.PWR_IRQ_PD_CLASS]
          { s with power := { s.power with pdReq := req } } v := by
        rw [hv]
        exact (((Only.refl _ ({ s with power := { s.power with pdReq := req } } : State)).set (by simp) req.val).set
          (f := F.PWR_PD_GRANT_CLASS) (by simp) grant.val).setB (by simp) _
      rw [hu]
      split
      · exact hv'.setB (by simp) _
      · exact hv'
  case inrush => exact congrArg s.done (if_pos ⟨hrush, hms⟩)

/-! ### The budget (R730–R733) -/

theorem State.grantOutputs_single (s : State) (o : Nat) : s.grantOutputs [o] =
    if s.reservedSum + s.outRequest o ≤ s.pAvail then s.set (F.PWR_OUT_STATE o) 1
    else ((s.set (F.PWR_OUT_STATE o) 2).setB F.PWR_IRQ_DENIED true).noteRefusal o := rfl

/-- Only the output's own memory of its refusal changes beside the fields. -/
theorem Settles.noteRefusal {fs : List Fld} (h : Settles fs s t) (o : Nat) : Settles fs s (t.noteRefusal o) :=
  h.trans ⟨rfl, fun _ _ => rfl⟩

/-- What a shed output leaves (R731, R733). -/
theorem State.shedOutput_shows (s : State) {o : Nat} {c : Fld} (ho : o < 4)
    (hc : c = F.PWR_CNT_SHEDS ∨ c = F.PWR_CNT_OVERLOADS) :
    (s.shedOutput o c).get (F.PWR_OUT_STATE o) = 3 ∧ (s.shedOutput o c).get c = (s.get c + 1) % 2 ^ c.width ∧
      (s.shedOutput o c).getB F.PWR_IRQ_SHED = true ∧
      Settles (F.PWR_OUT_STATE o :: c :: F.PWR_IRQ_SHED :: logFields) s (s.shedOutput o c) := by
  have hlog : ∀ f ∈ [F.PWR_OUT_STATE o, c, F.PWR_IRQ_SHED], f.key ∉ logFields.map Fld.key := by
    interval_cases o <;> rcases hc with rfl | rfl <;> decide
  have happart : (F.PWR_OUT_STATE o).key ≠ c.key ∧ c.key ≠ F.PWR_IRQ_SHED.key ∧ (F.PWR_OUT_STATE o).key ≠ F.PWR_IRQ_SHED.key := by
    interval_cases o <;> rcases hc with rfl | rfl <;> decide
  obtain ⟨hoc, hci, hoi⟩ := happart
  obtain ⟨u, hu⟩ : ∃ u, u = (((s.noteRefusal o).set (F.PWR_OUT_STATE o) 3).inc c).setB F.PWR_IRQ_SHED true := ⟨_, rfl⟩
  have hframe : Settles (F.PWR_OUT_STATE o :: c :: F.PWR_IRQ_SHED :: logFields) s u := by
    rw [hu]
    exact ((((Settles.refl _ s).noteRefusal o).set (by simp) _).inc (by simp)).setB (by simp) _
  have hshed : s.shedOutput o c = u.ev .shed 1 o ((s.noteRefusal o).set (F.PWR_OUT_STATE o) 3).pAvail 0 := by
    rw [hu]
    rfl
  have hget : ∀ f ∈ [F.PWR_OUT_STATE o, c, F.PWR_IRQ_SHED], (s.shedOutput o c).get f = u.get f := fun f hf => by
    rw [hshed, State.ev]
    exact (State.addLog_settles _ _ _ _ _ _ _).2 f (hlog f hf)
  refine ⟨?_, ?_, ?_, ?_⟩
  · rw [hget _ (by simp), hu, State.get_setB_other _ _ _ _ hoi, State.inc, State.get_set_other _ _ _ _ hoc, State.get_set_self]
    rfl
  · rw [hget _ (by simp), hu, State.get_setB_other _ _ _ _ hci, State.inc, State.get_set_self,
      State.get_set_other _ _ _ _ hoc.symm]
    rfl
  · rw [State.getB, hget _ (by simp), hu]
    exact State.getB_setB_self _ _ _ rfl
  · rw [hshed, State.ev]
    exact hframe.trans ((State.addLog_settles _ _ _ _ _ _ _).mono (by simp +contextual))

/-- Settles O17 (it holds): each command is its condition's branch; one output is granted or denied by the sum. -/
theorem budgetGrantsAndSheds : Obligations.BudgetGrantsAndSheds := by
  refine ⟨⟨fun _ _ => rfl, fun _ => rfl, fun _ _ => rfl⟩, fun s o ho => ⟨fun hfits => ?grant, fun hover => ?deny⟩,
    fun s watts ms hover hms => ⟨fun o hfirst => ?shed, fun hnone => ?none⟩, fun s o c ho hc => s.shedOutput_shows ho hc⟩
  case grant =>
    rw [State.grantOutputs_single, if_pos hfits]
    refine ⟨?_, (Only.refl _ s).set (by simp) _⟩
    rw [State.granted, State.get_set_self]
    rfl
  case deny =>
    rw [State.grantOutputs_single, if_neg (Nat.not_le.mpr hover)]
    refine ⟨?_, ?_, (((Settles.refl _ s).set (by simp) _).setB (by simp) _).noteRefusal o⟩
    · have hne : (F.PWR_OUT_STATE o).key ≠ F.PWR_IRQ_DENIED.key := by interval_cases o <;> decide
      exact (State.get_setB_other (s.set (F.PWR_OUT_STATE o) 2) F.PWR_IRQ_DENIED _ true hne).trans (State.get_set_self _ _ _)
    · exact State.getB_setB_self (s.set (F.PWR_OUT_STATE o) 2) F.PWR_IRQ_DENIED true rfl
  case shed =>
    refine (congrArg s.done (if_pos ⟨hover, hms⟩)).trans ?_
    rw [hfirst]
    rfl
  case none =>
    refine (congrArg s.done (if_pos ⟨hover, hms⟩)).trans ?_
    rw [hnone]
    rfl

/-! ### Rails and the core voltage (R737–R743) -/

/-- With AVS_EN in self-supplied mode the setpoint follows the counts of R740. -/
theorem exec_avsAdjust_on {ms : Nat} (hself : s.getB F.PWR_RAILS_SELF = true) (hen : s.getB F.PWR_CORE_AVS_EN = true)
    (hms : 0 < ms) : exec (.avsAdjust ms) s = s.done
      (if s.power.avsLow.any (fun q => decide (8 ≤ q.2)) then
        s.set F.PWR_CORE_SETPOINT (max (s.get F.PWR_CORE_SETPOINT) (min 850 (s.get F.PWR_CORE_SETPOINT + 10)))
      else if 8000 ≤ s.power.avsGood then
        { s.set F.PWR_CORE_SETPOINT (min (s.get F.PWR_CORE_SETPOINT) (max 650 (s.get F.PWR_CORE_SETPOINT - 10))) with
          power := { s.power with avsGood := 0 } }
      else s) :=
  congrArg s.done (if_neg (by simp [hself, hen, Nat.pos_iff_ne_zero.mp hms]))

/-- Settles O18 (it holds): each command's condition holds, and its branch is the effect stated. -/
theorem railsAndCoreVoltage : Obligations.RailsAndCoreVoltage := by
  refine ⟨⟨fun s mv hmv hact htries => ⟨?valid, ?external⟩, fun s r ms hself hms => ⟨fun htries => ?again, fun htries => ?third⟩,
    fun s ms hstop hms htries => ?retry⟩, fun s r hself hheld => ?violation, fun s hself hheld hbroken => ?legal,
    fun s ms hself hen hms hlo hhi => ⟨fun hslow => ?rise, fun hfast hgood => ?fall⟩⟩
  case valid => exact congrArg s.done (if_pos ⟨hmv, hact, htries⟩)
  case external => exact congrArg s.done (if_pos ⟨hmv, hact, htries⟩)
  case again =>
    have hne : ¬ s.power.railTries + 1 = 3 := by omega
    refine (congrArg s.done (if_pos ⟨hself, hms, by omega⟩)).trans ?_
    exact congrArg s.done (if_neg hne)
  case third =>
    refine (congrArg s.done (if_pos ⟨hself, hms, by omega⟩)).trans ?_
    simp only [htries]
    rfl
  case retry => exact congrArg s.done (if_pos ⟨hstop, hms, htries⟩)
  case violation => exact congrArg s.done (if_neg (by simp [hself, hheld]))
  case legal => exact congrArg s.done (if_pos (by simp [hself, hheld, hbroken]))
  case rise =>
    refine State.finish ((exec_avsAdjust_on hself hen hms).trans (congrArg s.done (if_pos hslow))) rfl ⟨?_, ?_⟩
    · rw [State.get_set_self, show F.PWR_CORE_SETPOINT.width = 10 from rfl]
      omega
    · exact (Only.refl _ s).set (by simp) _
  case fall =>
    have hnot : ¬ s.power.avsLow.any (fun q => decide (8 ≤ q.2)) = true := by simp [hfast]
    refine State.finish ((exec_avsAdjust_on hself hen hms).trans
      (congrArg s.done ((if_neg hnot).trans (if_pos hgood)))) rfl ⟨?_, ?_⟩
    · refine (State.get_set_self s F.PWR_CORE_SETPOINT _).trans ?_
      rw [show F.PWR_CORE_SETPOINT.width = 10 from rfl]
      omega
    · exact (Only.refl _ ({ s with power := { s.power with avsGood := 0 } } : State)).set (by simp) _

/-! ### Domains and a brown-out (R745–R751) -/

/-- The domain or block `d` is on. -/
def State.domainUp (s : State) (d : Nat) : State :=
  if d < 32 then s.setBit F.PWR_DOM_ON_ON d true else s.setBit F.PWR_LINE_ON_ON (d - 32) true

/-- The stall group of domain `d`, if it is one, shows. -/
def State.groupUp (s : State) (d : Nat) : State :=
  if 14 ≤ d ∧ d < 30 then s.setBit F.FAB_GROUP_PWR_ON (d - 14) true else s

theorem State.domainUp_bit_dom (s : State) (d k : Nat) (hk : k < 30) :
    (s.domainUp d).bit F.PWR_DOM_ON_ON k = (s.bit F.PWR_DOM_ON_ON k || decide (k = d)) := by
  unfold State.domainUp
  split
  · rw [State.bit_setBit_low _ _ _ _ _ hk]
    by_cases h : k = d <;> simp [h]
  · have hne : ¬ k = d := by omega
    rw [State.bit_setBit_other _ _ _ (by decide)]
    simp [hne]

theorem State.domainUp_bit_line (s : State) (d k : Nat) (hk : k < 6) :
    (s.domainUp d).bit F.PWR_LINE_ON_ON k = (s.bit F.PWR_LINE_ON_ON k || decide (k + 32 = d)) := by
  unfold State.domainUp
  split
  · have hne : ¬ k + 32 = d := by omega
    rw [State.bit_setBit_other _ _ _ (by decide)]
    simp [hne]
  · rw [State.bit_setBit_low _ _ _ _ _ hk]
    by_cases h : k + 32 = d
    · have : k = d - 32 := by omega
      rw [if_pos this, decide_eq_true h, Bool.or_true]
    · have : ¬ k = d - 32 := by omega
      simp [h, this]

theorem State.groupUp_bit (s : State) (d k : Nat) (hk : k < 16) :
    (s.groupUp d).bit F.FAB_GROUP_PWR_ON k = (s.bit F.FAB_GROUP_PWR_ON k || decide (k + 14 = d)) := by
  unfold State.groupUp
  split
  · rw [State.bit_setBit_low _ _ _ _ _ hk]
    by_cases h : k + 14 = d
    · have : k = d - 14 := by omega
      rw [if_pos this, decide_eq_true h, Bool.or_true]
    · have : ¬ k = d - 14 := by omega
      simp [h, this]
  · have hne : ¬ k + 14 = d := by omega
    simp [hne]

theorem State.domainUp_only (s : State) (d : Nat) : Only [F.PWR_DOM_ON_ON, F.PWR_LINE_ON_ON] s (s.domainUp d) := by
  unfold State.domainUp
  split
  · exact (Only.refl _ s).setBit (by simp) _ _
  · exact (Only.refl _ s).setBit (by simp) _ _

theorem State.groupUp_only (s : State) (d : Nat) : Only [F.FAB_GROUP_PWR_ON] s (s.groupUp d) := by
  unfold State.groupUp
  split
  · exact (Only.refl _ s).setBit (by simp) _ _
  · exact Only.refl _ s

/-- Settles O19 (it holds): the front domain comes up and its group shows; the other commands are their conditions' branches. -/
theorem domainsAndBrownout : Obligations.DomainsAndBrownout := by
  refine ⟨⟨fun s hsleep h5 h6 h7 hpanel => ?sleep, fun s hoff hnot => ?wake, fun s d us rest hq hus => ?up⟩,
    fun s mv us hmv hus hbrown hheld => ?warning, fun s mv ms hbrown hmv hms => ?restored⟩
  case sleep =>
    have hexec : exec .appSleep s = s.done (s.dropDomain 3) := congrArg s.done (if_pos (by simp [hsleep, h5, h6, h7, hpanel]))
    refine State.finish hexec rfl ⟨fun d hd => ?_, ?_⟩
    · refine (State.bit_setBit_low s F.PWR_DOM_ON_ON 3 d false hd).trans ?_
      by_cases h : d = 3 <;> simp [h]
    · exact (Only.refl _ ({ s with power := { s.power with upQueue := s.power.upQueue.filter (fun x => x ≠ 3) } } : State)).setBit
        (by simp) _ _
  case wake => exact congrArg s.done (if_neg (by simp [hoff, hnot]))
  case up =>
    obtain ⟨v, hv⟩ : ∃ v : State, v = { s with power := { s.power with upQueue := rest } } := ⟨_, rfl⟩
    have hexec : exec (.domainPowerUpDone us) s =
        s.done (State.groupUp (if d = 9 then (v.domainUp d).wakeSync else v.domainUp d) d).syncPower := by
      change s.done (match s.power.upQueue with
        | [] => s
        | d :: rest => _) = _
      rw [hq, hv]
      exact congrArg s.done (if_neg (Nat.not_lt.mpr hus))
    have hgroup : State.groupUp (if d = 9 then (v.domainUp d).wakeSync else v.domainUp d) d =
        if d = 9 then ((v.domainUp d).groupUp d).wakeSync else (v.domainUp d).groupUp d := by
      by_cases h : d = 9
      · subst h
        rfl
      · rw [if_neg h, if_neg h]
    have hline : ∀ f : Fld, f.key ≠ F.FAB_GROUP_PWR_ON.key → ∀ k, ((v.domainUp d).groupUp d).bit f k = (v.domainUp d).bit f k :=
      fun f hf k => by
        rw [State.bit, ((v.domainUp d).groupUp_only d).2 f (by simpa using hf)]
        rfl
    have hsame : ∀ (f : Fld) (k : Nat), v.bit f k = s.bit f k := fun f k => by rw [hv]; rfl
    refine ⟨(v.domainUp d).groupUp d, by rw [hexec, hgroup]; rfl, fun k hk => ?_, fun k hk => ?_, fun k hk => ?_, ?_⟩
    · rw [hline _ (by decide), State.domainUp_bit_dom _ _ _ hk, hsame]
    · rw [hline _ (by decide), State.domainUp_bit_line _ _ _ hk, hsame]
    · rw [State.groupUp_bit _ _ _ hk, State.bit, (v.domainUp_only d).2 _ (by decide)]
      exact congrArg (· || _) (hsame _ k)
    · rw [← hv]
      exact ((v.domainUp_only d).mono (by simp +contextual)).trans (((v.domainUp d).groupUp_only d).mono (by simp))
  case warning =>
    obtain ⟨u, hu⟩ : ∃ u, u = ((((s.setB F.PWR_AON_STATUS_BROWNOUT true).setB F.PWR_IRQ_BROWNOUT true).inc
        F.PWR_BROWNOUT_COUNT).set F.PWR_BROWNOUT_VIN_MIN (mv / 10)).set F.PWR_VIN_MV mv := ⟨_, rfl⟩
    have hexec : exec (.brownoutWarning mv us) s =
        s.done ({ u.journalPowerFail mv with power := { (u.journalPowerFail mv).power with brownout := true } } : State).syncPower := by
      rw [hu]
      exact congrArg s.done ((if_pos ⟨hmv, hus, by simp [hbrown]⟩).trans (if_neg (by simp [hheld])))
    refine ⟨u, _, hexec, rfl, ?_, ?_, ?_, ?_, ?_, ?_⟩
    · rw [hu, State.getB, State.get_set_other _ _ _ _ (by decide), State.get_set_other _ _ _ _ (by decide), State.inc,
        State.get_set_other _ _ _ _ (by decide), State.get_setB_other _ _ _ _ (by decide)]
      exact State.getB_setB_self _ _ _ rfl
    · rw [hu, State.getB, State.get_set_other _ _ _ _ (by decide), State.get_set_other _ _ _ _ (by decide), State.inc,
        State.get_set_other _ _ _ _ (by decide)]
      exact State.getB_setB_self _ _ _ rfl
    · rw [hu, State.get_set_other _ _ _ _ (by decide), State.get_set_self]
    · rw [hu, State.get_set_other _ _ _ _ (by decide), State.get_set_other _ _ _ _ (by decide), State.inc, State.get_set_self,
        State.get_setB_other _ _ _ _ (by decide), State.get_setB_other _ _ _ _ (by decide)]
    · rw [hu, State.get_set_self]
      exact Nat.mod_eq_of_lt (Nat.lt_trans hmv (by decide))
    · rw [hu]
      exact (((((Only.refl _ s).setB (by simp) _).setB (by simp) _).inc (by simp)).set (by simp) _).set (by simp) _
  case restored => exact congrArg s.done (if_pos ⟨hbrown, hmv, hms⟩)

end Sys2Proof.Machine
end

section
/-! Line power and temperature (chapter 17): the losses that reset the line die, line faults and shorts, PSE ports and thermal
levels, and the settlements of O20, O22, O23 and O24. -/

namespace Sys2Proof.Machine

variable {s t : State}

/-! ### Losses of the line die (R739, R752–R758, R792) -/

/-- A line die that the tether link, its temperature or VIN holds in reset is not configured again. -/
theorem State.reconfigure_held (h : s.lineHeld = true) : s.reconfigure = s := by
  rw [State.reconfigure, if_pos h]

/-- Settles O20 (it holds): each command's condition holds; a lost tether keeps the line die in reset. -/
theorem lineDieLossAndReturn : Obligations.LineDieLossAndReturn := by
  refine ⟨fun s mv us hmv hus hself => ?vin, fun s us crc hlost hnot => ?tether, fun s hlost hfailed => ?retrain,
    fun s h hhot hnot => ?shutdown, fun s h hcool hdown => ⟨fun hlost => ?held, fun hlost => ?again⟩⟩
  case vin =>
    refine (congrArg s.done (if_pos ⟨hmv, hus⟩)).trans ?_
    simp only [hself, Bool.or_true, if_true]
    rfl
  case tether =>
    obtain ⟨k, hk⟩ : ∃ k, k = s.stride :: s.power.tetherAt.filter (fun k => decide (s.stride < k + 480000)) := ⟨_, rfl⟩
    obtain ⟨v, hv⟩ : ∃ v, v = (({ s with power := { s.power with tetherAt := k } } : State).setB F.PWR_TETHER_LOST true).setB
        F.PWR_IRQ_TETHER true := ⟨_, rfl⟩
    obtain ⟨u, hu⟩ : ∃ u, u = if 8 ≤ k.length then v.setB F.PWR_TETHER_FAILED true else v := ⟨_, rfl⟩
    have hexec : exec (.tetherLoss us crc) s = s.done (u.ev .tetherLost 1 (u.get F.PWR_TETHER_LOSSES) 0 0).lineDieReset := by
      rw [hu, hv, hk]
      exact congrArg s.done (if_pos ⟨hlost, by simp [hnot]⟩)
    have hpower : u.power.tetherAt = k := by
      rw [hu, hv]
      split <;> rfl
    have hother : ∀ f : Fld, f.key ≠ F.PWR_TETHER_FAILED.key → u.get f = v.get f := by
      intro f hf
      rw [hu]
      split
      · exact State.get_setB_other _ _ _ _ hf
      · rfl
    have hlosses : u.get F.PWR_TETHER_LOSSES = s.get F.PWR_TETHER_LOSSES := by
      rw [hother _ (by decide), hv, State.get_setB_other _ _ _ _ (by decide), State.get_setB_other _ _ _ _ (by decide)]
      rfl
    rw [hlosses] at hexec
    refine ⟨u, hexec, ?_, ?_, by rw [hpower, hk], ?_, ?_⟩
    · rw [State.getB, hother _ (by decide), hv, State.get_setB_other _ _ _ _ (by decide)]
      exact State.getB_setB_self _ _ _ rfl
    · rw [State.getB, hother _ (by decide), hv]
      exact State.getB_setB_self _ _ _ rfl
    · have hfailed : v.getB F.PWR_TETHER_FAILED = s.getB F.PWR_TETHER_FAILED := by
        rw [hv, State.getB_setB_other _ _ _ _ (by decide), State.getB_setB_other _ _ _ _ (by decide)]
        rfl
      rw [hpower, hu]
      split
      · rename_i h
        rw [decide_eq_true h, Bool.or_true]
        exact State.getB_setB_self _ _ _ rfl
      · rename_i h
        rw [decide_eq_false h, Bool.or_false, hfailed]
    · rw [hpower]
      have honly : Only [F.PWR_TETHER_LOST, F.PWR_IRQ_TETHER, F.PWR_TETHER_FAILED]
          { s with power := { s.power with tetherAt := k } } v := by
        rw [hv]
        exact ((Only.refl _ _).setB (by simp) _).setB (by simp) _
      rw [hu]
      split
      · exact honly.setB (by simp) _
      · exact honly
  case retrain => exact congrArg s.done (if_pos (by simp [hlost, hfailed]))
  case shutdown => exact congrArg s.done (if_pos ⟨hhot, by simp [hnot]⟩)
  case held =>
    refine (congrArg s.done (if_pos ⟨hcool, hdown⟩)).trans ?_
    have hheld : (s.setB F.THERM_STATUS_SHUTDOWN false).lineHeld = true := by
      rw [State.lineHeld, State.getB_setB_other _ _ _ _ (by decide), hlost]
      rfl
    rw [State.reconfigure_held hheld]
    rfl
  case again => exact congrArg s.done (if_pos ⟨hcool, hdown⟩)

/-! ### Line faults, retries and shorts (R765–R779) -/

theorem State.resolvedAgain_fixed {p : Nat} (h : s.roleCode p ≠ 3) : s.resolvedAgain p = s := if_neg h

/-- The wait that a fault draws. -/
theorem State.drawWait_range (s : State) (p : Nat) :
    5000 ≤ (if p = 0 then (s.drawWait p).power.waitMs.1 else (s.drawWait p).power.waitMs.2) ∧
      (if p = 0 then (s.drawWait p).power.waitMs.1 else (s.drawWait p).power.waitMs.2) ≤ 15000 := by
  have hwait : (if p = 0 then (s.drawWait p).power.waitMs.1 else (s.drawWait p).power.waitMs.2) =
      5000 + s.freeNat.1 % 10001 := by
    unfold State.drawWait
    split <;> rfl
  rw [hwait]
  omega

/-- A wait that is over, of a port that no other supply takes over (R773, R774). -/
theorem exec_retryWaitEnd_over {p : Fin 2} {ms mv : Nat} (hst : s.get (F.LINE_STATUS_STATE p) = 6) (hmay : s.mayLine p = true)
    (hwait : (if p.val = 0 then s.power.waitMs.1 else s.power.waitMs.2) ≤ ms) (hrole : s.roleCode p ≠ 3) (hmv : mv ≤ 8000) :
    exec (.retryWaitEnd p ms mv) s = s.done (if s.granted p then (s.incSat (F.LINE_RETRY_RETRIES p)).softStart p
      else (s.setLine p 1).syncPower) := by
  have hover : ¬ (s.get (F.LINE_STATUS_STATE p) ≠ 6 ∨
      ms < (if p.val = 0 then s.power.waitMs.1 else s.power.waitMs.2) ∨ (!s.mayLine p) = true) := by
    rintro (h | h | h)
    · exact h hst
    · exact absurd h (Nat.not_lt.mpr hwait)
    · simp [hmay] at h
  refine (congrArg s.done ((if_neg hover).trans ((if_neg fun h => hrole h.1).trans (if_neg (Nat.not_lt.mpr hmv))))).trans ?_
  rw [State.resolvedAgain_fixed hrole]

/-- What a short to supply of a pin leaves before its generation stops (R777, R778). -/
def State.shorted (s : State) (pin : Fin 10) : State :=
  ({ ((s.setBit F.LINE_SHORT_NOW pin true).setBit F.LINE_SHORT_SEEN pin true).setB F.LINE_IRQ_SHORT true with
      line := { s.line with
        shortHold := putBit s.line.shortHold pin true, shortDone := putBit s.line.shortDone pin false } } : State).ev
    .shortToSupply (if pin.val < 2 then 32 + pin.val else 13) pin 0 0

theorem State.get_shorted (s : State) (pin : Fin 10) (f : Fld)
    (h : f.key ∉ ([F.LINE_SHORT_NOW, F.LINE_SHORT_SEEN, F.LINE_IRQ_SHORT] ++ logFields).map Fld.key) :
    (s.shorted pin).get f = s.get f := by
  have honly : Only [F.LINE_SHORT_NOW, F.LINE_SHORT_SEEN, F.LINE_IRQ_SHORT] s
      (((s.setBit F.LINE_SHORT_NOW pin true).setBit F.LINE_SHORT_SEEN pin true).setB F.LINE_IRQ_SHORT true) :=
    (((Only.refl _ s).setBit (by simp) _ _).setBit (by simp) _ _).setB (by simp) _
  rw [List.map_append, List.mem_append, not_or] at h
  exact ((State.addLog_settles _ _ _ _ _ _ _).2 f h.2).trans (honly.2 f h.1)

theorem generating_not_shorted : ∀ pin : Fin 10, (F.CALL_CH_STATUS_GENERATING (2 * pin.val + 1)).key ∉
    ([F.LINE_SHORT_NOW, F.LINE_SHORT_SEEN, F.LINE_IRQ_SHORT] ++ logFields).map Fld.key := by decide

theorem exec_shortBegins {pin : Fin 10} {mv ms : Nat} (hon : s.pinOn pin = true) (hmv : 15000 < mv) (hms : 10 ≤ ms)
    (hnow : s.bit F.LINE_SHORT_NOW pin = false) : exec (.shortToSupplyBegin pin mv ms) s = s.done
      (if pin.val < 2 && (s.shorted pin).generating (2 * pin.val + 1) then (s.shorted pin).stopGen (2 * pin.val + 1)
       else s.shorted pin).syncPower :=
  congrArg s.done (if_pos ⟨hon, hmv, hms, by simp [hnow]⟩)

/-- Settles O22 (it holds): each command's condition holds, and its branch is the effect stated. -/
theorem lineFaultsRetriesAndShorts : Obligations.LineFaultsRetriesAndShorts := by
  refine ⟨⟨fun s p mv vin ms hst hlo hhi hms => ?done, fun s p mv ms hst hlo hms => ?timeout,
      fun s p limitMs lowMs hst hover => ?overload, fun s p ma ms hst hma hms => ?contention⟩,
    ⟨fun s p ms mv hst hmay hwait hrole hmv => ⟨fun hgrant => ?retry, fun hgrant => ?ungranted⟩,
      fun s p k hat hst hk => ?reset, fun s p => s.drawWait_range p⟩,
    fun s pin mv ms hon hmv hms hnow hgen => ?begins, fun s pin mv ms hnow hmv hms => ?ends,
    fun s pin ms hhold hnow hms => ?recovers⟩
  case done => exact congrArg s.done (if_pos ⟨hst, hlo, hhi, hms⟩)
  case timeout => exact congrArg s.done (if_pos ⟨hst, hlo, hms⟩)
  case overload => exact congrArg s.done (if_pos ⟨hst, hover⟩)
  case contention => exact congrArg s.done (if_pos ⟨hst, hma, hms⟩)
  case retry =>
    rw [exec_retryWaitEnd_over hst hmay hwait hrole hmv, hgrant]
    rfl
  case ungranted =>
    rw [exec_retryWaitEnd_over hst hmay hwait hrole hmv, hgrant]
    rfl
  case reset =>
    have hexec : exec (.retryReset p) s = s.done (if s.sourcing p ∧ k + 4800000 ≤ s.stride then
        s.set (F.LINE_RETRY_RETRIES p) 0 else s) := by
      change execRetryReset p s = _
      unfold execRetryReset
      rw [hat]
    rw [hexec, if_pos ⟨hst, hk⟩]
    rfl
  case begins =>
    rw [exec_shortBegins hon hmv hms hnow, if_neg]
    · rfl
    · have hsame : (s.shorted pin).generating (2 * pin.val + 1) = s.generating (2 * pin.val + 1) :=
        congrArg (· != 0) (s.get_shorted pin _ (generating_not_shorted pin))
      rw [hsame, hgen]
      decide
  case ends =>
    have hexec : exec (.shortToSupplyEnd pin mv ms) s = s.done (s.setBit F.LINE_SHORT_NOW pin false) :=
      congrArg s.done (if_pos ⟨hnow, hmv, hms⟩)
    refine State.finish hexec rfl ⟨fun k hk => ?_, (Only.refl _ s).setBit (by simp) _ _⟩
    rw [State.bit_setBit_low _ _ _ _ _ hk]
    by_cases h : k = pin.val <;> simp [h]
  case recovers => exact congrArg s.done (if_pos ⟨hhold, by simp [hnow], hms⟩)

/-! ### PSE ports (R781–R786) -/

/-- The class of the smaller allocation. -/
theorem pseClass_min (cls m : Nat) :
    pseAlloc.getD (if pseAlloc.getD cls 0 ≤ pseAlloc.getD m 0 then cls else m) 0 = min (pseAlloc.getD cls 0) (pseAlloc.getD m 0) := by
  split
  · exact (Nat.min_eq_left (by assumption)).symm
  · exact (Nat.min_eq_right (by omega)).symm

/-- Settles O23 (it holds): each command's condition holds, and its branch is the effect stated. -/
theorem psePortsPowerAndFault : Obligations.PsePortsPowerAndFault := by
  refine ⟨⟨fun s n mv sig hst hwait => ?detection, fun s n cls hst => ?classification, fun s n mv vin ms hst =>
      ⟨fun hmv hms => ?powered, fun hmv hms => ?start⟩⟩,
    fun s n value ms hst => ⟨fun hv hms => ?overload, fun hv hms => ?ilim, fun hv => ?short, fun hv hms => ?range⟩,
    fun s n ma ms hst hma hms => ?disconnect, fun s n ms hwait hms hst => ?waited⟩
  case detection =>
    have hready : ¬ (s.pseState n ≠ 2 ∨ (s.psePort n).wait ≠ 0) := by simp [hst, hwait]
    refine ⟨fun hmv => congrArg s.done ((if_neg hready).trans (if_pos hmv)), fun hmv hlo hhi => ?_, fun hmv hsig => ?_⟩
    · have hmin : min 65535 sig = sig := Nat.min_eq_right (by omega)
      refine (congrArg s.done ((if_neg hready).trans ((if_neg (Nat.not_lt.mpr hmv)).trans (if_pos ⟨hlo, hhi⟩)))).trans ?_
      rw [hmin]
      rfl
    · exact congrArg s.done ((if_neg hready).trans ((if_neg (Nat.not_lt.mpr hmv)).trans (if_neg (by omega))))
  case classification =>
    refine ⟨_, _, ?_, pseClass_min _ _, rfl⟩
    refine (congrArg s.done (if_neg (not_not.mpr hst))).trans ?_
    exact congrArg s.done (congrArg State.syncPower (apply_ite (State.setPse _ n) _ 4 1).symm)
  case powered => exact congrArg s.done ((if_neg (not_not.mpr hst)).trans (if_pos ⟨hmv, hms⟩))
  case start => exact congrArg s.done ((if_neg (not_not.mpr hst)).trans ((if_neg (by omega)).trans (if_pos hms)))
  case overload => exact congrArg s.done ((if_neg (not_not.mpr hst)).trans (if_pos ⟨hv, hms⟩))
  case ilim => exact congrArg s.done ((if_neg (not_not.mpr hst)).trans (if_pos ⟨hv, hms⟩))
  case short => exact congrArg s.done ((if_neg (not_not.mpr hst)).trans (if_pos hv))
  case range => exact congrArg s.done ((if_neg (not_not.mpr hst)).trans (if_pos ⟨hv, hms⟩))
  case disconnect => exact congrArg s.done (if_pos ⟨hst, hma, hms⟩)
  case waited =>
    refine (congrArg s.done (if_neg (by omega))).trans ?_
    exact congrArg s.done (congrArg State.syncPower (if_pos hst))

/-! ### Temperature (R787–R791) -/

/-- The level that is due is one step away, or CRITICAL; only CRITICAL comes before the dwell. -/
theorem State.nextLevel_range {d v : Nat} (h : s.nextLevel d = some v) : v ≤ 3 ∧ (v = 3 ∨ 2000 ≤ (s.die d).sinceChange) ∧
    (v = s.get (dieLevel d) + 1 ∨ v + 1 = s.get (dieLevel d) ∨ (v = 3 ∧ s.get (dieLevel d) < 3)) := by
  have hlt : s.get (dieLevel d) < 4 := by
    have hget := s.get_lt (dieLevel d)
    have hwidth : (dieLevel d).width = 2 := by
      unfold dieLevel
      split <;> rfl
    rwa [hwidth] at hget
  unfold State.nextLevel at h
  generalize s.get (dieLevel d) = l at h hlt ⊢
  dsimp only at h
  split_ifs at h <;> simp only [Option.some.injEq] at h <;> omega

/-- The die's new level, with its record, before the node level follows (R788). -/
def State.levelTaken (s : State) (d v : Nat) : State :=
  let u := (s.set (dieLevel d) v).setDie d { s.die d with sinceChange := 0 }
  let u := (u.inc F.THERM_CNT_CHANGES).setB F.THERM_IRQ_LEVEL true
  let u := if v = 3 then u.inc F.THERM_CNT_CRITICAL else u
  u.ev .thermLevel 255 d (s.get (dieLevel d)) v

/-- The node level and what it starts, before power follows (R789–R791). -/
def State.nodeFollows (s : State) (node : Nat) : State :=
  let now := max (s.get F.THERM_STATUS_LOGIC) (s.get F.THERM_STATUS_LINE)
  let s := s.set F.THERM_STATUS_NODE now
  let s := if now = 3 ∧ node ≠ 3 then s.setB F.THERM_IRQ_CRITICAL true else s
  if now < 2 ∧ 2 ≤ node then (List.range 2).foldl (fun s n => if s.pseState n = 9 then s.setPse n 0 else s) s else s

theorem exec_thermLevelChange {d : Fin 2} {v : Nat} (h : s.nextLevel d = some v) :
    exec (.thermLevelChange d) s = s.done ((s.levelTaken d v).nodeFollows s.nodeLevel).syncPower := by
  change execThermLevelChange d s = _
  unfold execThermLevelChange
  rw [h]
  rfl

/-- What a die's change leaves for the node level. -/
theorem State.levelTaken_shows (s : State) (d : Fin 2) {v : Nat} (hv : v ≤ 3) (hd : d.val < s.power.die.length) :
    (s.levelTaken d v).get (dieLevel d) = v ∧ (s.levelTaken d v).getB F.THERM_IRQ_LEVEL = true ∧
      ((s.levelTaken d v).die d).sinceChange = 0 ∧
      (s.levelTaken d v).get F.THERM_CNT_CHANGES = (s.get F.THERM_CNT_CHANGES + 1) % 2 ^ F.THERM_CNT_CHANGES.width := by
  obtain ⟨u, hu⟩ : ∃ u, u = (((s.set (dieLevel d) v).setDie d { s.die d with sinceChange := 0 }).inc
      F.THERM_CNT_CHANGES).setB F.THERM_IRQ_LEVEL true := ⟨_, rfl⟩
  obtain ⟨x, hx⟩ : ∃ x, x = if v = 3 then u.inc F.THERM_CNT_CRITICAL else u := ⟨_, rfl⟩
  have hlevel : s.levelTaken d v = x.addLog Ev.thermLevel.type 15 255 d (s.get (dieLevel d)) v := by
    rw [hx, hu]
    rfl
  have hkeys : ∀ f ∈ [dieLevel d, F.THERM_IRQ_LEVEL, F.THERM_CNT_CHANGES],
      f.key ∉ logFields.map Fld.key ∧ f.key ≠ F.THERM_CNT_CRITICAL.key := by
    rw [dieLevel]
    split <;> decide
  have hdie : (dieLevel d).key ≠ F.THERM_IRQ_LEVEL.key ∧ (dieLevel d).key ≠ F.THERM_CNT_CHANGES.key ∧ (dieLevel d).width = 2 := by
    rw [dieLevel]
    split <;> decide
  obtain ⟨hirq, hcnt, hwidth⟩ := hdie
  have hget : ∀ f ∈ [dieLevel d, F.THERM_IRQ_LEVEL, F.THERM_CNT_CHANGES], (s.levelTaken d v).get f = u.get f := by
    intro f hf
    obtain ⟨hlog, hcrit⟩ := hkeys f hf
    rw [hlevel, (State.addLog_settles _ _ _ _ _ _ _).2 f hlog, hx]
    split
    · exact State.get_set_other _ _ _ _ hcrit
    · rfl
  refine ⟨?_, ?_, ?_, ?_⟩
  · rw [hget _ (by simp), hu, State.get_setB_other _ _ _ _ hirq, State.inc, State.get_set_other _ _ _ _ hcnt]
    refine (State.get_set_self _ _ _).trans ?_
    rw [hwidth]
    exact Nat.mod_eq_of_lt (by omega)
  · rw [State.getB, hget _ (by simp), hu]
    exact State.getB_setB_self _ _ _ rfl
  · have hpower : (s.levelTaken d v).power.die = u.power.die := by
      have := congrArg (fun y : State => y.power.die) (State.addLog_settles x Ev.thermLevel.type 15 255 d (s.get (dieLevel d)) v).1
      rw [hlevel]
      refine this.trans ?_
      rw [hx]
      split <;> rfl
    rw [State.die, hpower, hu]
    change ((s.power.die.set d _).getD d _).sinceChange = 0
    rw [List.getD_eq_getElem?_getD, List.getElem?_set_self hd]
    rfl
  · rw [hget _ (by simp), hu, State.get_setB_other _ _ _ _ (by decide), State.inc, State.get_set_self]
    exact congrArg (fun n => (n + 1) % _) (State.get_set_other _ _ _ _ hcnt.symm)

/-- The fields that the node level's actions write. -/
def nodeFields : List Fld := [F.THERM_IRQ_CRITICAL, F.PSE_STATUS_STATE 0, F.PSE_STATUS_STATE 1]

theorem State.nodeFollows_settles (s : State) (node : Nat) : Settles nodeFields
    (s.set F.THERM_STATUS_NODE (max (s.get F.THERM_STATUS_LOGIC) (s.get F.THERM_STATUS_LINE))) (s.nodeFollows node) := by
  unfold State.nodeFollows
  extract_lets now s1 s2
  have h2 : Settles nodeFields s1 s2 := by
    simp only [s2]
    split
    · exact (Settles.refl _ s1).setB (by simp [nodeFields]) _
    · exact Settles.refl _ s1
  split
  · refine h2.foldl fun x n hn => ?_
    split
    · have hmem : F.PSE_STATUS_STATE n ∈ nodeFields := by
        have hlt := List.mem_range.mp hn
        interval_cases n <;> simp [nodeFields]
      exact ((Settles.refl _ x).set hmem 0).updPse n _
    · exact Settles.refl _ x
  · exact h2

/-- Settles O24 (it holds): the level that is due is taken, and the node level is the higher of the two. -/
theorem thermalLevels : Obligations.ThermalLevels := by
  refine ⟨fun _ _ _ => rfl, fun s d v hdue hd => ?_, fun s d v hdue => State.nextLevel_range hdue⟩
  obtain ⟨hv, -, -⟩ := State.nextLevel_range hdue
  obtain ⟨hlevel, hirq, hsince, hcount⟩ := s.levelTaken_shows d hv hd
  obtain ⟨hframe, hget⟩ := (s.levelTaken d v).nodeFollows_settles s.nodeLevel
  have hkeep : ∀ f : Fld, f.key ∉ nodeFields.map Fld.key → f.key ≠ F.THERM_STATUS_NODE.key →
      ((s.levelTaken d v).nodeFollows s.nodeLevel).get f = (s.levelTaken d v).get f := fun f hf hn =>
    (hget f hf).trans (State.get_set_other _ _ _ _ hn)
  refine ⟨_, _, exec_thermLevelChange hdue, rfl, ?_, ?_, ?_, ?_, ?_⟩
  · have hkeys : (dieLevel d).key ∉ nodeFields.map Fld.key ∧ (dieLevel d).key ≠ F.THERM_STATUS_NODE.key := by
      unfold dieLevel
      split <;> decide
    rw [hkeep _ hkeys.1 hkeys.2, hlevel]
  · rw [State.getB, hkeep _ (by decide) (by decide)]
    exact hirq
  · have hdie := congrArg (fun y : State => y.power.die) hframe
    rw [State.die, show ((s.levelTaken d v).nodeFollows s.nodeLevel).power.die = (s.levelTaken d v).power.die from hdie]
    exact hsince
  · rw [hkeep _ (by decide) (by decide), hcount]
  · have hlogic := State.get_lt (s.levelTaken d v) F.THERM_STATUS_LOGIC
    have hline := State.get_lt (s.levelTaken d v) F.THERM_STATUS_LINE
    rw [hget _ (by decide), State.get_set_self, hkeep _ (by decide) (by decide), hkeep _ (by decide) (by decide)]
    exact Nat.mod_eq_of_lt (Nat.max_lt.mpr ⟨hlogic, hline⟩)

end Sys2Proof.Machine
end

section
/-! Clocks (chapter 18): the media clock and its reference, the real-time clock's crystal, and accesses that time out, and the
settlement of O26. -/

namespace Sys2Proof.Machine

variable {s t : State}

/-- The error bank of a master whose access timed out (R809, R829). -/
def timedOut (b : AccessBank) (domain a : Nat) : AccessBank :=
  { b with count := (b.count + 1) % 256, timeout := true, domain := domain, addr := a }

/-- The error bank of `m` after an access that timed out. -/
def State.bankTimedOut (s : State) (m : Master) (a domain : Nat) : State :=
  { s with banks := s.banks.set m.code (timedOut (s.banks.getD m.code ⟨0, false, false, false, false, 0, 0⟩) domain a) }

/-- What an access of `m` to `a` that timed out leaves before its record. -/
def State.accessTimedOut (s : State) (m : Master) (a domain clock : Nat) : State :=
  ((s.bankTimedOut m a domain).set F.CLK_TIMEOUT_DOMAIN clock).incSat F.CLK_TIMEOUT_COUNT

theorem State.accessTimedOut_eq (s : State) (m : Master) (a domain clock : Nat) :
    ∃ rs, s.accessTimedOut m a domain clock = { s.bankTimedOut m a domain with regs := rs } := by
  unfold State.accessTimedOut State.incSat
  split
  · exact ⟨_, rfl⟩
  · exact ⟨_, rfl⟩

/-- A counter that stops at its largest value. -/
theorem State.get_incSat_self (s : State) (f : Fld) : (s.incSat f).get f = min (2 ^ f.width - 1) (s.get f + 1) := by
  have hlt := s.get_lt f
  unfold State.incSat
  split
  · rw [State.get_set_self, Nat.mod_eq_of_lt (by assumption)]
    omega
  · omega

theorem exec_accessTimeout {m : Master} {a : Nat} {r : RegRow} (hex : s.exists_ m = true) (hreach : s.reach m a false = .reg r) :
    exec (.accessTimeout m a) s = s.done ((s.accessTimedOut m a (s.powerDomain r.dom) (s.clockDomain r.dom)).addLog
      Ev.accessTimeout.type m.code ((s.accessTimedOut m a (s.powerDomain r.dom) (s.clockDomain r.dom)).powerDomain r.dom) a
      (s.clockDomain r.dom) 0) := by
  change execAccessTimeout m a s = _
  unfold execAccessTimeout
  rw [hex, hreach]
  rfl

/-- The power domain of a register does not follow its count of timeouts. -/
theorem State.powerDomain_accessTimedOut (s : State) (m : Master) (a domain clock : Nat) (d : Dom) :
    (s.accessTimedOut m a domain clock).powerDomain d = s.powerDomain d := by
  obtain ⟨rs, h⟩ := s.accessTimedOut_eq m a domain clock
  rw [h]
  cases d <;> rfl

/-- Settles O26 (it holds): each command's condition holds; an access that times out marks its master's bank. -/
theorem clocksFollowTheirReferences : Obligations.ClocksFollowTheirReferences := by
  refine ⟨⟨fun _ => rfl, fun _ _ _ => rfl, fun s us loss hus hlost => ?lost, fun s ms hms hlost => ?restored⟩,
    fun s ms hms => ?xtal, fun s m a r hex hreach hbank => ?timeout⟩
  case lost =>
    have hnot : ¬ (decide (us < 10) || s.getB F.CLK_STATUS_REF_LOST) = true := by
      rw [hlost, decide_eq_false (Nat.not_lt.mpr hus)]
      decide
    exact ⟨_, rfl, congrArg s.done (if_neg hnot)⟩
  case restored =>
    have hnot : ¬ (decide (ms < 10) || !s.getB F.CLK_STATUS_REF_LOST) = true := by
      rw [hlost, decide_eq_false (Nat.not_lt.mpr hms)]
      decide
    exact ⟨s.setB F.CLK_STATUS_REF_LOST false, congrArg s.done (if_neg hnot), State.getB_setB_self _ _ _ rfl,
      (Only.refl _ s).setB (by simp) _⟩
  case xtal =>
    have hexec : exec (.rtcXtalSwitch ms) s = s.done ((s.setB F.CLK_RTC_CFG_XTAL_OK true).setB F.CLK_RTC_CFG_SRC false) :=
      congrArg s.done (if_neg (Nat.not_lt.mpr hms))
    refine State.finish hexec rfl ⟨?_, State.getB_setB_self _ _ _ rfl, ((Only.refl _ s).setB (by simp) _).setB (by simp) _⟩
    rw [State.getB_setB_other _ _ _ _ (by decide)]
    exact State.getB_setB_self _ _ _ rfl
  case timeout =>
    have hexec := exec_accessTimeout hex hreach
    rw [State.powerDomain_accessTimedOut] at hexec
    refine ⟨_, hexec, ⟨timedOut _ _ _, ?_, rfl, rfl, rfl, rfl⟩, ?_, ?_⟩
    · obtain ⟨rs, h⟩ := s.accessTimedOut_eq m a (s.powerDomain r.dom) (s.clockDomain r.dom)
      rw [h]
      rfl
    · rw [State.accessTimedOut, State.incSat]
      split
      · rw [State.get_set_other _ _ _ _ (by decide), State.get_set_self]
      · rw [State.get_set_self]
    · rw [State.accessTimedOut, State.get_incSat_self, State.get_set_other _ _ _ _ (by decide)]
      rfl

end Sys2Proof.Machine
end

section
/-! The page window and loads through it (R571–R576, R582–R584): what a page transaction leaves open, what a released page and
an aborted load show, what arriving bytes do, and the settlement of O34. -/

namespace Sys2Proof.Machine

/-! ### What showing, answering and passing a page leave -/

theorem State.showPage_host (s : State) : s.showPage.host = s.host := by
  unfold State.showPage
  split <;> rfl

theorem State.answerHost_page (s : State) (status : Nat) (t : Txn) (ws : List Word) (bs : List Byte) :
    (s.answerHost status t ws bs).host.page = s.host.page ∧ (s.answerHost status t ws bs).host.ptr = s.host.ptr := by
  simp only [State.answerHost, State.endTxn]
  split <;> exact ⟨rfl, rfl⟩

theorem State.markTorn_regs (s : State) (src n : Nat) : (s.markTorn src n).regs = s.regs := by
  unfold State.markTorn
  split
  · rfl
  · rfl
  · split <;> rfl
  · rfl
  · rfl

theorem State.get_updHost (s : State) (g : HostState → HostState) (f : Fld) : (s.updHost g).get f = s.get f := rfl

/-! ### Sending words of a page (R572, R573) -/

/-- The read pointers once page `p` is consumed: only mode 0 moves its source's (R572). -/
def State.ptrPast (s : State) (p : OpenPage) : List Nat :=
  if p.mode = 0 then s.host.ptr.set (p.source - 1) (p.seq + 1) else s.host.ptr

/-- A page that is not sent to its end is held where it stands. -/
theorem State.sendPage_held {p : OpenPage} {k : Nat} (s : State) (h : p.pos + k < 128) :
    (s.sendPage p k).host.page = some { p with pos := p.pos + k, held := true } ∧ (s.sendPage p k).host.ptr = s.host.ptr := by
  have hpos : Nat.min 128 (p.pos + k) = p.pos + k := Nat.min_eq_right (by omega)
  have hne : ¬ p.pos + k = 128 := by omega
  simp only [State.sendPage, hpos, hne, if_false, State.showPage_host]
  exact ⟨rfl, rfl⟩

/-- A page sent to its end is consumed. -/
theorem State.sendPage_consumed {p : OpenPage} {k : Nat} (s : State) (h : 128 ≤ p.pos + k) :
    (s.sendPage p k).host.page = none ∧ (s.sendPage p k).host.ptr = s.ptrPast p := by
  have hpos : Nat.min 128 (p.pos + k) = 128 := Nat.min_eq_left h
  simp only [State.sendPage, hpos, if_true, State.showPage_host, State.ptrPast]
  split <;> exact ⟨rfl, rfl⟩

/-- A whole page transaction answers the words asked for, and leaves the window as sending them does. -/
theorem State.pageTxn_shows (s : State) (status : Nat) (p : OpenPage) (k : Nat) :
    (s.pageTxn status .whole p k).answer.code = .ok ∧
      (s.pageTxn status .whole p k).answer.bytes = (p.bytes.drop (4 * p.pos)).take (4 * k) ∧
      (p.pos + k < 128 → (s.pageTxn status .whole p k).host.page = some { p with pos := p.pos + k, held := true } ∧
        (s.pageTxn status .whole p k).host.ptr = s.host.ptr) ∧
      (128 ≤ p.pos + k → (s.pageTxn status .whole p k).host.page = none ∧
        (s.pageTxn status .whole p k).host.ptr = s.ptrPast p) := by
  refine ⟨rfl, rfl, fun h => ?_, fun h => ?_⟩
  · obtain ⟨hpage, hptr⟩ := s.newTxn.2.sendPage_held h
    exact ⟨(State.answerHost_page _ _ _ _ _).1.trans hpage, (State.answerHost_page _ _ _ _ _).2.trans hptr⟩
  · obtain ⟨hpage, hptr⟩ := s.newTxn.2.sendPage_consumed h
    exact ⟨(State.answerHost_page _ _ _ _ _).1.trans hpage, (State.answerHost_page _ _ _ _ _).2.trans hptr⟩

/-- With no page held, PAGE_READ opens the page chosen (R571). -/
theorem State.pageRead_of_none {s : State} {q : Nat} (hpage : s.host.page = none)
    (hq : s.choosePage (s.get F.HOST_PAGE_SEL_SOURCE) (s.get F.HOST_PAGE_SEL_MODE) (s.get F.HOST_PAGE_SEL_SEQ) = some q)
    (fr : Framing) (k : Nat) : s.pageRead fr k = s.pageTxn (s.statusSent true) fr
      ⟨s.get F.HOST_PAGE_SEL_SOURCE, s.get F.HOST_PAGE_SEL_MODE, q, s.pageBytes (s.get F.HOST_PAGE_SEL_SOURCE) q, 0, false⟩ k := by
  have hrelease : s.releasePage = s := by
    unfold State.releasePage
    rw [hpage]
  simp only [State.pageRead, hrelease, hq]

theorem exec_pageRead {s : State} {k q : Nat} (hreset : s.power.resetHeld = false) (hpage : s.host.page = none)
    (hq : s.choosePage (s.get F.HOST_PAGE_SEL_SOURCE) (s.get F.HOST_PAGE_SEL_MODE) (s.get F.HOST_PAGE_SEL_SEQ) = some q) :
    exec (.pageRead .whole k) s = s.done (s.pageTxn (s.statusSent true) .whole
      ⟨s.get F.HOST_PAGE_SEL_SOURCE, s.get F.HOST_PAGE_SEL_MODE, q, s.pageBytes (s.get F.HOST_PAGE_SEL_SOURCE) q, 0, false⟩ k) := by
  rw [← State.pageRead_of_none hpage hq]
  exact congrArg s.done (if_neg (by simp [hreset]))

theorem exec_readContinue {s : State} {p : OpenPage} (hreset : s.power.resetHeld = false) (hpage : s.host.page = some p)
    (k : Nat) : exec (.readContinue .whole k) s = s.done (s.pageTxn (s.statusSent true) .whole p k) := by
  change execReadContinue .whole k s = _
  unfold execReadContinue
  rw [hreset, hpage]
  rfl

/-! ### A held page is released (R576) -/

theorem State.releasePage_shows {s : State} {p : OpenPage} (hpage : s.host.page = some p) :
    s.releasePage.host.page = none ∧ s.releasePage.getB F.HOST_PAGE_STATUS_HELD = false ∧
      s.releasePage.getB F.HOST_IRQ_TORN = true ∧ s.releasePage.get F.HOST_PAGE_STATUS_TORN_CNT =
        (s.get F.HOST_PAGE_STATUS_TORN_CNT + 1) % 2 ^ F.HOST_PAGE_STATUS_TORN_CNT.width := by
  obtain ⟨u, hu⟩ : ∃ u, u = ((s.markTorn p.source p.seq).inc F.HOST_PAGE_STATUS_TORN_CNT).setB F.HOST_IRQ_TORN true := ⟨_, rfl⟩
  obtain ⟨v, hv⟩ : ∃ v, v = if p.mode = 0 then u.passPage p.source p.seq else u := ⟨_, rfl⟩
  have hregs : v.regs = u.regs := by
    rw [hv]
    split <;> rfl
  have hrelease : s.releasePage = (v.updHost (fun h => { h with page := none })).showPage := by
    unfold State.releasePage
    rw [hpage, hv, hu]
  have hshow : (v.updHost (fun h => { h with page := none })).showPage =
      (((v.updHost (fun h => { h with page := none })).set F.HOST_PAGE_STATUS_OPEN_SEQ 0).set F.HOST_PAGE_STATUS_POSITION 0).setB
        F.HOST_PAGE_STATUS_HELD false := rfl
  have hkeeps : ∀ f : Fld, f.key ≠ F.HOST_PAGE_STATUS_HELD.key → f.key ≠ F.HOST_PAGE_STATUS_POSITION.key →
      f.key ≠ F.HOST_PAGE_STATUS_OPEN_SEQ.key → s.releasePage.get f = u.get f := by
    intro f hheld hposition hseq
    rw [hrelease, hshow, State.get_setB_other _ _ _ _ hheld, State.get_set_other _ _ _ _ hposition,
      State.get_set_other _ _ _ _ hseq]
    rw [State.get_updHost, State.get_of_regs hregs]
  refine ⟨by rw [hrelease, State.showPage_host]; rfl, ?_, ?_, ?_⟩
  · rw [hrelease, hshow]
    exact getB_setB_self _ _ _ (by decide)
  · rw [State.getB, hkeeps _ (by decide) (by decide) (by decide), hu]
    exact getB_setB_self _ _ _ (by decide)
  · rw [hkeeps _ (by decide) (by decide) (by decide), hu, State.get_setB_other _ _ _ _ (by decide), State.inc,
      State.get_set_self, State.get_of_regs (s.markTorn_regs _ _)]

/-! ### Loads (R582, R583) -/

/-- An aborted load: STATE 0 with its code and its interrupt, and nothing of what had arrived. -/
theorem State.loadAbort_shows (s : State) : s.loadAbort.get F.HOST_LOAD_STATUS_STATE = 0 ∧
    s.loadAbort.get F.HOST_LOAD_STATUS_CODE = Code.aborted.num ∧ s.loadAbort.getB F.HOST_IRQ_LOAD_ABORT = true ∧
    s.loadAbort.host.loadBuf = [] ∧ s.loadAbort.host.loadPos = 0 := by
  obtain ⟨u, hu⟩ : ∃ u, u = ((((s.set F.HOST_LOAD_STATUS_STATE 0).set F.HOST_LOAD_STATUS_CODE Code.aborted.num).setB
      F.HOST_IRQ_LOAD_ABORT true).updHost (fun h => { h with loadBuf := [], loadPos := 0 })) := ⟨_, rfl⟩
  have hstate : u.get F.HOST_LOAD_STATUS_STATE = 0 := by
    rw [hu, State.get_updHost, State.get_setB_other _ _ _ _ (by decide),
      State.get_set_other _ _ _ _ (by decide), State.get_set_self]
    rfl
  have hcode : u.get F.HOST_LOAD_STATUS_CODE = Code.aborted.num := by
    rw [hu, State.get_updHost, State.get_setB_other _ _ _ _ (by decide), State.get_set_self]
    rfl
  have hirq : u.getB F.HOST_IRQ_LOAD_ABORT = true := by
    rw [hu, State.getB, State.get_updHost]
    exact getB_setB_self _ _ _ (by decide)
  have hbuf : u.host.loadBuf = [] ∧ u.host.loadPos = 0 := by
    rw [hu]
    exact ⟨rfl, rfl⟩
  have hsettle : s.loadAbort.host = u.host ∧ ∀ f : Fld, f.key ≠ F.FAB_SWAP_STATUS_STATE.key → s.loadAbort.get f = u.get f := by
    simp only [State.loadAbort, ← hu]
    split_ifs
    · exact ⟨rfl, fun f hf => State.get_set_other _ _ _ _ hf⟩
    · exact ⟨rfl, fun f _ => rfl⟩
    · exact ⟨rfl, fun f _ => rfl⟩
  obtain ⟨hhost, hget⟩ := hsettle
  refine ⟨(hget _ (by decide)).trans hstate, (hget _ (by decide)).trans hcode, ?_, by rw [hhost, hbuf.1], by rw [hhost, hbuf.2]⟩
  rw [State.getB, hget _ (by decide)]
  exact hirq

theorem exec_loadHoldExpiry {s : State} {ms : Nat} (hheld : s.get F.HOST_LOAD_STATUS_STATE = 2)
    (hms : s.get F.HOST_PAGE_SEL_HOLD_MS ≤ ms) : ∃ t, exec (.loadHoldExpiry ms) s = .next t ∧
      t.host = s.loadAbort.host ∧ ∀ f : Fld, f.key ∉ logFields.map Fld.key → t.get f = s.loadAbort.get f := by
  have hexec : exec (.loadHoldExpiry ms) s = s.done (if s.host.loadSink ≤ 2 then
      s.loadAbort.addLog Ev.imageRefused.type s.loadAbort.hostMaster.code 255 15 (u32 s.host.loadBuf 0x10) s.host.loadSink
      else s.loadAbort) := by
    change execLoadHoldExpiry ms s = _
    rw [execLoadHoldExpiry, if_pos ⟨hheld, hms⟩]
  have hlog : ∀ a b c d e g : Nat, (s.loadAbort.addLog a b c d e g).host = s.loadAbort.host := fun a b c d e g => by
    have := congrArg State.host (s.loadAbort.addLog_settles a b c d e g).1
    exact this
  refine ⟨_, hexec, ?_⟩
  split
  · exact ⟨hlog _ _ _ _ _ _, fun f hf => (s.loadAbort.addLog_settles _ _ _ _ _ _).2 f hf⟩
  · exact ⟨rfl, fun _ _ => rfl⟩

/-- Bytes that end neither their page nor the load are kept at its position, and the load is HELD. -/
theorem State.loadBytes_partial {s : State} {data : List Byte} (hpage : data.length ≤ 512 - s.host.loadPos % 512)
    (hlen : s.host.loadPos + data.length < s.host.loadLen) :
    (s.loadBytes data).host.loadPos = s.host.loadPos + data.length ∧
      (s.loadBytes data).host.loadBuf = Memory.writeAll s.host.loadBuf s.host.loadPos data ∧
      (s.loadBytes data).get F.HOST_LOAD_STATUS_STATE = 2 := by
  have hpart : (data.take (512 - s.host.loadPos % 512)).take (s.host.loadLen - s.host.loadPos) = data := by
    rw [List.take_of_length_le hpage, List.take_of_length_le (by omega)]
  have hmore : ¬ s.host.loadLen ≤ s.host.loadPos + data.length := by omega
  simp only [State.loadBytes, hpart, hmore, if_false, State.get_set_self]
  exact ⟨rfl, rfl, rfl⟩

/-- A write transaction of a running load, at a page's start or going on with one, takes its whole words (R584). -/
theorem State.pageWrite_whole {s : State} {cont : Bool} {bytes : List Byte} (hload : s.loadRuns = true)
    (hbytes : bytes.length % 4 = 0) (hpos : (!cont && s.host.loadPos % 512 != 0) = false) :
    s.pageWrite cont .whole bytes =
      (s.newTxn.2.loadBytes bytes).answerHost (s.statusSent false) ⟨s.host.nextTxn, [], 0⟩ [] [] := by
  have htake : bytes.take (4 * (bytes.length / 4)) = bytes := List.take_of_length_le (by omega)
  have hload' : s.newTxn.2.loadRuns = true := hload
  have hpos' : (!cont && s.newTxn.2.host.loadPos % 512 != 0) = false := hpos
  simp only [State.pageWrite, hload', hpos', htake, hbytes, Bool.not_true, Bool.false_eq_true, if_false, ne_eq, not_true_eq_false,
    or_self]
  rfl

theorem exec_pageWrite {s : State} (hreset : s.power.resetHeld = false) (bytes : List Byte) :
    exec (.pageWrite .whole bytes) s = s.done (s.pageWrite false .whole bytes) ∧
      exec (.writeContinue .whole bytes) s = s.done (s.pageWrite true .whole bytes) :=
  ⟨congrArg s.done (if_neg (by simp [hreset])), congrArg s.done (if_neg (by simp [hreset]))⟩

/-! ### O34 -/

/-- Settles O34 (it holds): pages are sent, held, consumed and released, and load bytes arrive, as the lemmas above say. -/
theorem pagesAndLoadsPass : Obligations.PagesAndLoadsPass := by
  refine ⟨⟨?_, ?_⟩, ⟨?_, ?_⟩, ?_, ?_⟩
  · intro s k q hreset hpage hq
    obtain ⟨hcode, hbytes, hheld, hconsumed⟩ := s.pageTxn_shows (s.statusSent true)
      ⟨s.get F.HOST_PAGE_SEL_SOURCE, s.get F.HOST_PAGE_SEL_MODE, q, s.pageBytes (s.get F.HOST_PAGE_SEL_SOURCE) q, 0, false⟩ k
    simp only [Nat.zero_add, Nat.mul_zero, List.drop_zero] at hbytes hheld hconsumed
    exact ⟨_, exec_pageRead hreset hpage hq, hcode, hbytes, hheld, hconsumed⟩
  · intro s k p hreset hpage
    obtain ⟨hcode, hbytes, hheld, hconsumed⟩ := s.pageTxn_shows (s.statusSent true) p k
    exact ⟨_, exec_readContinue hreset hpage k, hcode, hbytes, fun h => (hheld h).1, fun h => (hconsumed h).1⟩
  · intro s ms p hheld hms hpage
    exact ⟨_, congrArg s.done (if_pos (by simp [hheld, hms])), State.releasePage_shows hpage⟩
  · intro s ms hheld hms
    obtain ⟨t, hexec, hhost, hget⟩ := exec_loadHoldExpiry hheld hms
    obtain ⟨hstate, hcode, hirq, hbuf, hpos⟩ := s.loadAbort_shows
    refine ⟨t, hexec, (hget _ (by decide)).trans hstate, (hget _ (by decide)).trans hcode, ?_, by rw [hhost, hbuf],
      by rw [hhost, hpos]⟩
    rw [State.getB, hget _ (by decide)]
    exact hirq
  · intro s bytes hreset hload hbytes
    obtain ⟨hwrite, hcont⟩ := exec_pageWrite hreset bytes
    refine ⟨fun hpos => ?_, ?_⟩
    · rw [hwrite, State.pageWrite_whole hload hbytes (by simp [hpos])]
      rfl
    · rw [hcont, State.pageWrite_whole hload hbytes rfl]
      rfl
  · intro s data hpage hlen
    obtain ⟨hpos, hbuf, hstate⟩ := State.loadBytes_partial hpage hlen
    refine ⟨hpos, hstate, fun i hi => ?_, fun b hb => ?_⟩
    · rw [hbuf, Memory.read_writeAll _ _ _ _ hi]
      simp [List.getD_eq_getElem?_getD, hi]
    · rw [hbuf, Memory.read_writeAll_other _ _ _ _ hb]

end Sys2Proof.Machine
end

section
/-! The quad commands and the host's watchdog (R48–R51, R552, R556, R588): what giving and taking reins does to each group's
holder, and the settlement of O35. -/

namespace Sys2Proof.Machine

/-! ### A record of the event log -/

theorem State.get_addLog (s : State) (a b c d e g : Nat) {f : Fld} (hf : f.key ∉ logFields.map Fld.key) :
    (s.addLog a b c d e g).get f = s.get f := (s.addLog_settles a b c d e g).2 f hf

/-! ### Reins (R586, R588) -/

/-- A walk over different places, each step of which changes its own place alone, changes each place it comes by once. -/
theorem foldl_places {α : Type} {v : α → Nat → Nat} {step : α → Nat → α} {φ : Nat → Nat → Nat}
    (hself : ∀ x g, v (step x g) g = φ g (v x g)) (hother : ∀ x g k, k ≠ g → v (step x g) k = v x k) {l : List Nat}
    (hl : l.Nodup) (x : α) (k : Nat) : v (l.foldl step x) k = if k ∈ l then φ k (v x k) else v x k := by
  induction l generalizing x with
  | nil => rfl
  | cons g l ih =>
    obtain ⟨hg, hl⟩ := List.nodup_cons.mp hl
    rw [List.foldl_cons, ih hl]
    by_cases hk : k = g
    · subst hk
      simp [hg, hself]
    · simp [hk, hother x g k hk]

theorem key_holder_inj {g k : Nat} (h : (F.REINS_HOLDER_HOLDER g).key = (F.REINS_HOLDER_HOLDER k).key) : g = k := by
  simp only [F.REINS_HOLDER_HOLDER, Fld.key] at h
  omega

/-- The holders of the sixteen groups. -/
def holderFields : List Fld := (List.range 16).map F.REINS_HOLDER_HOLDER

theorem State.giveReins_only (s : State) (m : Master) (mask : Nat) : Only holderFields s (s.giveReins m mask) := by
  refine (Only.refl _ s).foldl fun x g hg => ?_
  split
  · exact (Only.refl _ x).set (List.mem_map_of_mem hg) _
  · exact Only.refl _ x

/-- A group given back by its holder is free; every other keeps its holder. -/
theorem State.holder_giveReins (s : State) (m : Master) (mask : Nat) {g : Nat} (hg : g < 16) :
    (s.giveReins m mask).get (F.REINS_HOLDER_HOLDER g) =
      if mask.testBit g && s.get (F.REINS_HOLDER_HOLDER g) == m.code then 15 else s.get (F.REINS_HOLDER_HOLDER g) := by
  have hwalk := foldl_places (v := fun (x : State) k => x.get (F.REINS_HOLDER_HOLDER k))
    (step := fun s g => if mask.testBit g && s.get (F.REINS_HOLDER_HOLDER g) == m.code then s.set (F.REINS_HOLDER_HOLDER g) 15 else s)
    (φ := fun g h => if mask.testBit g && h == m.code then 15 else h)
    (fun x g => by
      split
      · exact State.get_set_self _ _ _
      · rfl)
    (fun x g k hk => by
      split
      · exact State.get_set_other _ _ _ _ fun h => hk (key_holder_inj h)
      · rfl)
    (l := List.range 16) List.nodup_range s g
  rw [if_pos (List.mem_range.mpr hg)] at hwalk
  exact hwalk

/-! ### Quad mode (R552, R556) -/

theorem exec_enterQuad {s : State} (hreset : s.power.resetHeld = false) (hi2c : s.getB F.HOST_STATUS_I2C = false)
    (hquad : s.getB F.HOST_STATUS_QUAD = false) : exec .enterQuad s = s.done ((s.newTxn.2.answerHost (s.statusSent false)
      ⟨s.newTxn.1, [], 0⟩ [] []).setB F.HOST_STATUS_QUAD true) := by
  change execEnterQuad s = _
  simp only [execEnterQuad, hreset, hi2c, hquad, Bool.or_self, Bool.false_eq_true, if_false]

theorem exec_exitQuad {s : State} (hreset : s.power.resetHeld = false) (hi2c : s.getB F.HOST_STATUS_I2C = false)
    (hquad : s.getB F.HOST_STATUS_QUAD = true) : exec .exitQuad s = s.done ((s.newTxn.2.answerHost (s.statusSent false)
      ⟨s.newTxn.1, [], 0⟩ [] []).setB F.HOST_STATUS_QUAD false) := by
  change execExitQuad s = _
  simp only [execExitQuad, hreset, hi2c, hquad, Bool.not_true, Bool.or_self, Bool.false_eq_true, if_false]

/-- A transaction without words ends OK, and changes nothing but the host port and the answer. -/
theorem State.answerHost_empty (s : State) (status : Nat) : ∃ h, s.newTxn.2.answerHost status ⟨s.newTxn.1, [], 0⟩ [] [] =
    { s with answer := ⟨.ok, status, [], []⟩, host := h } := ⟨_, rfl⟩

/-- A quad command switches QUAD and ends OK. -/
theorem State.quad_switched (s : State) (status : Nat) (b : Bool) {o : Host.Outcome State Fault Refusal}
    (ho : o = s.done ((s.newTxn.2.answerHost status ⟨s.newTxn.1, [], 0⟩ [] []).setB F.HOST_STATUS_QUAD b)) :
    ∃ t, o = .next t ∧ t.getB F.HOST_STATUS_QUAD = b ∧ t.answer.code = .ok ∧
      Only [F.HOST_STATUS_QUAD] { s with answer := t.answer, host := t.host } t := by
  obtain ⟨h, hh⟩ := s.answerHost_empty status
  rw [hh] at ho
  exact ⟨_, ho, getB_setB_self _ _ _ (by decide), rfl, (Only.refl _ _).setB (List.mem_singleton_self _) _⟩

/-! ### The watchdog (R49, R50) -/

/-- The host is marked lost, its watchdog stopped. -/
def State.hostLost (s : State) : State :=
  (s.updHost (fun h => { h with wdogRunning := false })).setB F.SYS_PERSONA_HOST_LOST true

/-- The loss is recorded. -/
def State.hostGone (s : State) : State :=
  s.hostLost.addLog Ev.hostLost.type s.hostLost.hostMaster.code 255 (s.heldBy s.hostMaster.code) 0 0

theorem State.hostGone_settles (s : State) : Settles (F.SYS_PERSONA_HOST_LOST :: logFields)
    (s.updHost (fun h => { h with wdogRunning := false })) s.hostGone :=
  ((Settles.refl _ _).setB List.mem_cons_self _).trans
    ((State.addLog_settles _ _ _ _ _ _ _).mono fun _ hf => List.mem_cons_of_mem _ hf)

theorem State.hostGone_shows (s : State) : s.hostGone.getB F.SYS_PERSONA_HOST_LOST = true ∧
    s.hostGone.host.wdogRunning = false ∧ s.hostGone.hostMaster = s.hostMaster ∧
    ∀ g < 16, s.hostGone.get (F.REINS_HOLDER_HOLDER g) = s.get (F.REINS_HOLDER_HOLDER g) := by
  have hkeeps : ∀ f : Fld, f.key ∉ logFields.map Fld.key → f.key ≠ F.SYS_PERSONA_HOST_LOST.key →
      s.hostGone.get f = s.get f := fun f hlog hlost => by
    rw [State.hostGone, State.get_addLog _ _ _ _ _ _ _ hlog, State.hostLost, State.get_setB_other _ _ _ _ hlost, State.get_updHost]
  refine ⟨?_, ?_, ?_, fun g hg => ?_⟩
  · rw [State.hostGone, State.getB, State.get_addLog _ _ _ _ _ _ _ (by decide)]
    exact getB_setB_self _ _ _ (by decide)
  · have hhost := congrArg State.host s.hostGone_settles.1
    exact congrArg HostState.wdogRunning hhost
  · rw [State.hostMaster, State.hostMaster, State.getB, State.getB, hkeeps _ (by decide) (by decide)]
  · have hdiffer : ∀ g < 16, (F.REINS_HOLDER_HOLDER g).key ∉ logFields.map Fld.key ∧
        (F.REINS_HOLDER_HOLDER g).key ≠ F.SYS_PERSONA_HOST_LOST.key := by decide
    exact hkeeps _ (hdiffer g hg).1 (hdiffer g hg).2

/-- Every group is in the mask of all sixteen. -/
theorem testBit_allGroups : ∀ g < 16, (0xFFFF : Nat).testBit g = true := by decide

/-- What is left once the reins are given back and the host's key requests are gone. -/
def State.hostUnheld (s : State) : State := (s.hostGone.giveReins s.hostGone.hostMaster 0xFFFF).set F.TG_KEY_HOST_REQ 0

theorem State.hostUnheld_shows (s : State) : s.hostUnheld.getB F.SYS_PERSONA_HOST_LOST = true ∧
    s.hostUnheld.get F.TG_KEY_HOST_REQ = 0 ∧ s.hostUnheld.host.wdogRunning = false ∧
    s.hostUnheld.hostMaster = s.hostMaster ∧
    ∀ g < 16, s.hostUnheld.get (F.REINS_HOLDER_HOLDER g) =
      if s.get (F.REINS_HOLDER_HOLDER g) = s.hostMaster.code then 15 else s.get (F.REINS_HOLDER_HOLDER g) := by
  obtain ⟨hlost, hrun, hmaster, hholder⟩ := s.hostGone_shows
  have hgiven : ∀ g < 16, (s.hostGone.giveReins s.hostGone.hostMaster 0xFFFF).get (F.REINS_HOLDER_HOLDER g) =
      if s.get (F.REINS_HOLDER_HOLDER g) = s.hostMaster.code then 15 else s.get (F.REINS_HOLDER_HOLDER g) := fun g hg => by
    rw [State.holder_giveReins _ _ _ hg, testBit_allGroups g hg, hmaster, hholder g hg, Bool.true_and]
    simp only [beq_iff_eq]
  rw [State.hostUnheld]
  have honly := s.hostGone.giveReins_only s.hostGone.hostMaster 0xFFFF
  generalize s.hostGone.giveReins s.hostGone.hostMaster 0xFFFF = u at honly hgiven ⊢
  refine ⟨?_, State.get_set_self _ _ _, ?_, ?_, fun g hg => ?_⟩
  · rw [State.getB, State.get_set_other _ _ _ _ (by decide), honly.2 _ (by decide)]
    exact hlost
  · have hhost := congrArg State.host honly.1
    exact (congrArg HostState.wdogRunning hhost).trans hrun
  · rw [← hmaster, State.hostMaster, State.hostMaster, State.getB, State.getB, State.get_set_other _ _ _ _ (by decide),
      honly.2 _ (by decide)]
  · have hdiffer : ∀ g < 16, (F.REINS_HOLDER_HOLDER g).key ≠ F.TG_KEY_HOST_REQ.key := by decide
    rw [State.get_set_other _ _ _ _ (hdiffer g hg), hgiven g hg]

theorem State.pending_hostUnheld (s : State) : s.hostUnheld.pending = s.pending := by
  have hgive := (s.hostGone.giveReins_only s.hostGone.hostMaster 0xFFFF).pending.trans s.hostGone_settles.pending
  rw [State.hostUnheld]
  generalize s.hostGone.giveReins s.hostGone.hostMaster 0xFFFF = u at hgive ⊢
  exact hgive

/-- The host's session and its challenge end. -/
def State.endHost (u : State) : State :=
  { u.set F.SEC_SESSIONS_HOST 0 with
    isle := { u.isle with challenges := u.isle.challenges.filter (· ≠ u.hostMaster.code) } }

theorem State.pending_endHost (u : State) : u.endHost.pending = u.pending := rfl

theorem State.get_endHost (u : State) {f : Fld} (hf : f.key ≠ F.SEC_SESSIONS_HOST.key) : u.endHost.get f = u.get f := by
  change (u.set F.SEC_SESSIONS_HOST 0).get f = u.get f
  rw [State.get_set_other _ _ _ _ hf]

theorem exec_hostWdogExpiry {s : State} {ms : Nat} (hmode : s.getB F.SYS_PERSONA_HOST_MODE = true)
    (hon : s.get F.SYS_HOST_WDOG_TIMEOUT ≠ 0) (hms : s.get F.SYS_HOST_WDOG_TIMEOUT ≤ ms) (hrun : s.host.wdogRunning = true) :
    exec (.hostWdogExpiry ms) s = s.done s.hostUnheld.endHost := by
  have hexpired : (s.getB F.SYS_PERSONA_HOST_MODE && s.get F.SYS_HOST_WDOG_TIMEOUT != 0 &&
      decide (s.get F.SYS_HOST_WDOG_TIMEOUT ≤ ms) && s.host.wdogRunning) = true := by
    simp [hmode, hon, hms, hrun]
  change execHostWdogExpiry ms s = _
  unfold execHostWdogExpiry
  extract_lets timeout held s1 s2 s3 s4 s5
  rw [if_pos hexpired]
  have hgone : s3 = s.hostGone := rfl
  clear_value s3
  subst hgone
  have hunheld : s5 = s.hostUnheld := rfl
  clear_value s5
  subst hunheld
  rfl

/-- What an expired watchdog leaves. -/
theorem State.endHost_shows (s : State) : s.hostUnheld.endHost.getB F.SYS_PERSONA_HOST_LOST = true ∧
    s.hostUnheld.endHost.get F.SEC_SESSIONS_HOST = 0 ∧ s.hostUnheld.endHost.get F.TG_KEY_HOST_REQ = 0 ∧
    s.hostUnheld.endHost.host.wdogRunning = false ∧ s.hostMaster.code ∉ s.hostUnheld.endHost.isle.challenges ∧
    ∀ g < 16, s.hostUnheld.endHost.get (F.REINS_HOLDER_HOLDER g) =
      if s.get (F.REINS_HOLDER_HOLDER g) = s.hostMaster.code then 15 else s.get (F.REINS_HOLDER_HOLDER g) := by
  obtain ⟨hlost, hreq, hrun, hmaster, hholder⟩ := s.hostUnheld_shows
  generalize s.hostUnheld = u at hlost hreq hrun hmaster hholder ⊢
  refine ⟨?_, State.get_set_self u F.SEC_SESSIONS_HOST 0, ?_, hrun, ?_, fun g hg => ?_⟩
  · rw [State.getB, u.get_endHost (by decide)]
    exact hlost
  · rw [u.get_endHost (by decide), hreq]
  · simp [State.endHost, hmaster]
  · have hdiffer : ∀ g < 16, (F.REINS_HOLDER_HOLDER g).key ≠ F.SEC_SESSIONS_HOST.key := by decide
    rw [u.get_endHost (hdiffer g hg), hholder g hg]

/-! ### O35 -/

/-- Settles O35 (it holds): the quad commands switch QUAD, and an expired watchdog ends what the host holds. -/
theorem quadModeAndHostWatchdog : Obligations.QuadModeAndHostWatchdog := by
  refine ⟨fun s hreset hi2c hquad => ?_, fun s hreset hi2c hquad => ?_, fun s ms hmode hon hms hrun => ?_⟩
  · exact s.quad_switched _ true (exec_enterQuad hreset hi2c hquad)
  · exact s.quad_switched _ false (exec_exitQuad hreset hi2c hquad)
  · have hpending := (State.pending_endHost _).trans s.pending_hostUnheld
    have hshows := s.endHost_shows
    rw [exec_hostWdogExpiry hmode hon hms hrun]
    generalize s.hostUnheld.endHost = t at hpending hshows ⊢
    exact State.finish rfl hpending hshows

end Sys2Proof.Machine
end

section
/-! Network control (R596–R600, R633–R636): how a datagram of one operation is taken or turned away, what its operation leaves,
how a session-0 datagram is answered, and the settlement of O37. -/

namespace Sys2Proof.Machine

variable {s : State} {h : NetHdr}

/-! ### A datagram of one operation is taken or turned away (R597, R598) -/

/-- What taking a datagram of one operation leaves before its operation: it is counted, and its session has come so far. -/
def State.datagramTaken (s : State) (h : NetHdr) : State :=
  { s.newTxn.2.inc F.HOST_NET_CNT_ACCEPTED with
    isle := { s.isle with nets := s.isle.nets.map (fun m => if m.id = h.session then { m with lastSeq := h.seq } else m) } }

/-- A datagram of one operation that R597 and R598 take. -/
structure Takes (s : State) (h : NetHdr) : Prop where
  listens : s.netListens = true
  first : h.index = 0
  single : h.opCount = 1
  hdrOk : netHdrOk h = true
  tagOk : h.tagOk = true
  session : h.session ≠ 0
  newer : ∃ n, s.netSession h.session = some n ∧ n.lastSeq < h.seq

theorem Takes.datagramFor (k : Takes s h) : s.datagramFor h true = (s.datagramTaken h,
    some ⟨s.host.nextTxn, h.session, h.seq, 1, [], 0⟩) := by
  obtain ⟨hlisten, hindex, hsingle, hhdr, htag, hsession, n, hn, hseq⟩ := k
  have hgood : (netHdrOk h && true && h.tagOk && decide (n.lastSeq < h.seq) && h.session != 0) = true := by
    simp [hhdr, htag, hsession, hseq]
  simp only [State.datagramFor, hlisten, hindex, State.takeDatagram, hn, hgood, hsingle, Bool.not_true, Bool.false_eq_true,
    if_true, if_false]
  rfl

/-- A datagram that R597 or R598 turns away is counted. -/
theorem State.datagramFor_turnedAway (hlisten : s.netListens = true) (hindex : h.index = 0)
    (hbad : netHdrOk h = false ∨ h.tagOk = false ∨ h.session = 0 ∨ s.netSession h.session = none ∨
      ∃ n, s.netSession h.session = some n ∧ h.seq ≤ n.lastSeq) (opOk : Bool) :
    s.datagramFor h opOk = (s.inc F.HOST_NET_CNT_DISCARDED, none) := by
  simp only [State.datagramFor, hlisten, hindex, State.takeDatagram, Bool.not_true, Bool.false_eq_true, if_false, if_true]
  cases hn : s.netSession h.session with
  | none => rfl
  | some n =>
    have hfails : (netHdrOk h && opOk && h.tagOk && decide (n.lastSeq < h.seq) && h.session != 0) = false := by
      rcases hbad with hhdr | htag | hsession | hnone | ⟨k, hk, hseq⟩
      · simp [hhdr]
      · simp [htag]
      · simp [hsession]
      · rw [hn] at hnone
        exact absurd hnone (by simp)
      · rw [hn, Option.some.injEq] at hk
        subst hk
        simp [Nat.not_lt.mpr hseq]
    simp only [hfails, Bool.false_eq_true, if_false]

/-! ### The operation of a datagram and its answer (R599) -/

/-- The datagram taken from `s` once its one operation `o` has run. -/
def State.gramOf (s : State) (h : NetHdr) (o : NetOp) : NetGram := ⟨s.host.nextTxn, h.session, h.seq, 1, [o], 0⟩

/-- A datagram whose one operation is decided is answered, and is forgotten. -/
theorem State.putGram_gramOf (s t : State) (h : NetHdr) (o : NetOp) : ∃ x a,
    t.putGram (s.gramOf h o) = { t with host := x, answer := a } ∧ a.code = firstBad o.bad ∧ a.words = o.data := by
  refine ⟨(t.updHost (fun h => { h with grams := h.grams.filter (fun x => x.id ≠ s.host.nextTxn) })).host,
    ⟨firstBad (o.bad ++ []), 0, o.data ++ [], netResponse h.session h.seq 1 [o]⟩, ?_, ?_, ?_⟩
  · simp only [State.putGram, State.gramOf, List.length_singleton, and_self, if_true]
    rfl
  · rw [List.append_nil]
  · exact List.append_nil _

/-- One plain operation of a taken datagram: its effect stands, and its code is the answer's. -/
theorem Takes.netPlain (k : Takes s h) (op addr : Nat) (f : State → State × Code) :
    ∃ x a, s.netPlain h op addr f = { (f (s.datagramTaken h)).1 with host := x, answer := a } ∧
      a.code = firstBad (noteBad 0 (f (s.datagramTaken h)).2 []) := by
  obtain ⟨x, a, hx, hcode, -⟩ := s.putGram_gramOf (f (s.datagramTaken h)).1 h
    ⟨op, 1, addr, noteBad 0 (f (s.datagramTaken h)).2 [], []⟩
  simp only [State.netPlain, k.datagramFor, List.nil_append]
  exact ⟨x, a, hx, hcode⟩

theorem noteBad_ok (w : Nat) (l : List (Nat × Code)) : noteBad w .ok l = l := if_pos (.inl rfl)

/-! ### The operations of R599 -/

/-- A key request is the network's. -/
theorem Takes.netKey (k : Takes s h) (a : Word) : ∃ t, exec (.netKey h a) s = .next t ∧
    t.tg = { s.tg with netReq := a.toNat } ∧ t.answer.code = .ok ∧
    t.get F.HOST_NET_CNT_ACCEPTED = (s.get F.HOST_NET_CNT_ACCEPTED + 1) % 2 ^ F.HOST_NET_CNT_ACCEPTED.width ∧
    Only [F.HOST_NET_CNT_ACCEPTED]
      { s with tg := { s.tg with netReq := a.toNat }, answer := t.answer, host := t.host, isle := t.isle } t := by
  obtain ⟨x, ans, hplain, hcode⟩ :=
    k.netPlain 3 a.toNat (fun s => ({ s with tg := { s.tg with netReq := a.toNat } }, .ok))
  rw [noteBad_ok] at hcode
  have hcount : (s.datagramTaken h).get F.HOST_NET_CNT_ACCEPTED =
      (s.get F.HOST_NET_CNT_ACCEPTED + 1) % 2 ^ F.HOST_NET_CNT_ACCEPTED.width :=
    State.get_set_self s F.HOST_NET_CNT_ACCEPTED (s.get F.HOST_NET_CNT_ACCEPTED + 1)
  have hexec : exec (.netKey h a) s = s.done _ := congrArg s.done hplain
  exact ⟨_, hexec, rfl, hcode, hcount, rfl, fun f hf => State.get_set_other s _ _ _ (by simpa using hf)⟩

/-- The holders stand as they did when a datagram has been taken. -/
theorem State.holder_datagramTaken (s : State) (h : NetHdr) {g : Nat} (hg : g < 16) :
    (s.datagramTaken h).get (F.REINS_HOLDER_HOLDER g) = s.get (F.REINS_HOLDER_HOLDER g) := by
  have hdiffer : ∀ g < 16, (F.REINS_HOLDER_HOLDER g).key ≠ F.HOST_NET_CNT_ACCEPTED.key := by decide
  exact State.get_set_other s F.HOST_NET_CNT_ACCEPTED _ _ (hdiffer g hg)

/-- Taking group `g` for a master that is no steward: a free one becomes its own. -/
theorem State.holder_takeReins {m : Master} (hm : m ≠ .steward) (s : State) (mask : Nat) {g : Nat} (hg : g < 16) :
    (s.takeReins m mask).1.get (F.REINS_HOLDER_HOLDER g) =
      if mask.testBit g = true ∧ s.get (F.REINS_HOLDER_HOLDER g) = 15 then m.code else s.get (F.REINS_HOLDER_HOLDER g) := by
  have hcode : m.code % 2 ^ 4 = m.code := by cases m <;> rfl
  obtain ⟨step, hstep⟩ : ∃ step : State × Code → Nat → State × Code, step = fun sc g =>
      if !mask.testBit g then sc
      else if sc.1.get (F.REINS_HOLDER_HOLDER g) = 15 ∨ sc.1.get (F.REINS_HOLDER_HOLDER g) = m.code then
        (sc.1.set (F.REINS_HOLDER_HOLDER g) m.code, sc.2)
      else (sc.1, .noReins) := ⟨_, rfl⟩
  have htake : s.takeReins m mask = (List.range 16).foldl step (s, .ok) := by
    simp only [State.takeReins, hm, if_false, hstep]
  have hself : ∀ (x : State × Code) g, (step x g).1.get (F.REINS_HOLDER_HOLDER g) =
      if mask.testBit g = true ∧ x.1.get (F.REINS_HOLDER_HOLDER g) = 15 then m.code else x.1.get (F.REINS_HOLDER_HOLDER g) := by
    intro x g
    have hset : (x.1.set (F.REINS_HOLDER_HOLDER g) m.code).get (F.REINS_HOLDER_HOLDER g) = m.code :=
      (State.get_set_self _ _ _).trans hcode
    simp only [hstep]
    by_cases hbit : mask.testBit g = true
    · simp only [hbit, Bool.not_true, Bool.false_eq_true, if_false, true_and]
      by_cases hfree : x.1.get (F.REINS_HOLDER_HOLDER g) = 15
      · simp only [hfree, true_or, if_true, hset]
      · by_cases hown : x.1.get (F.REINS_HOLDER_HOLDER g) = m.code
        · simp only [hown, or_true, if_true, hset, ite_self]
        · simp only [hfree, hown, or_self, if_false]
    · simp only [Bool.not_eq_true] at hbit
      simp only [hbit, Bool.not_false, if_true, Bool.false_eq_true, false_and, if_false]
  have hother : ∀ (x : State × Code) g k, k ≠ g →
      (step x g).1.get (F.REINS_HOLDER_HOLDER k) = x.1.get (F.REINS_HOLDER_HOLDER k) := by
    intro x g k hk
    have hset : (x.1.set (F.REINS_HOLDER_HOLDER g) m.code).get (F.REINS_HOLDER_HOLDER k) = x.1.get (F.REINS_HOLDER_HOLDER k) :=
      State.get_set_other _ _ _ _ fun e => hk (key_holder_inj e)
    simp only [hstep]
    split_ifs
    · rfl
    · exact hset
    · rfl
  have hwalk := foldl_places (v := fun (x : State × Code) k => x.1.get (F.REINS_HOLDER_HOLDER k)) (step := step)
    (φ := fun g v => if mask.testBit g = true ∧ v = 15 then m.code else v) hself hother (l := List.range 16) List.nodup_range
    (s, .ok) g
  rw [if_pos (List.mem_range.mpr hg)] at hwalk
  rw [htake]
  exact hwalk

theorem Takes.netReinsTake (k : Takes s h) (a : Word) : ∃ t, exec (.netReinsTake h a) s = .next t ∧
    ∀ g < 16, t.get (F.REINS_HOLDER_HOLDER g) =
      if a.getLsbD g = true ∧ s.get (F.REINS_HOLDER_HOLDER g) = 15 then Master.network.code
      else s.get (F.REINS_HOLDER_HOLDER g) := by
  obtain ⟨x, ans, hplain, -⟩ := k.netPlain 4 a.toNat (fun s => s.takeReins .network a.toNat)
  have hexec : exec (.netReinsTake h a) s = s.done _ := congrArg s.done hplain
  refine ⟨_, hexec, fun g hg => ?_⟩
  have htake := State.holder_takeReins (m := .network) (by decide) (s.datagramTaken h) a.toNat hg
  rw [s.holder_datagramTaken h hg] at htake
  exact htake

theorem Takes.netReinsGive (k : Takes s h) (a : Word) : ∃ t, exec (.netReinsGive h a) s = .next t ∧ t.answer.code = .ok ∧
    ∀ g < 16, t.get (F.REINS_HOLDER_HOLDER g) =
      if a.getLsbD g = true ∧ s.get (F.REINS_HOLDER_HOLDER g) = Master.network.code then 15
      else s.get (F.REINS_HOLDER_HOLDER g) := by
  obtain ⟨x, ans, hplain, hcode⟩ := k.netPlain 5 a.toNat (fun s => (s.giveReins .network a.toNat, .ok))
  rw [noteBad_ok] at hcode
  have hexec : exec (.netReinsGive h a) s = s.done _ := congrArg s.done hplain
  refine ⟨_, hexec, hcode, fun g hg => ?_⟩
  have hgive := State.holder_giveReins (s.datagramTaken h) .network a.toNat hg
  rw [s.holder_datagramTaken h hg] at hgive
  simp only [Bool.and_eq_true, beq_iff_eq] at hgive
  exact hgive

/-- A network read of one word of the copy buffer answers it. -/
theorem Takes.netRead (k : Takes s h) {a : Nat} (ha : inBuffer a) : ∃ t, exec (.netRead h a 1) s = .next t ∧
    t.answer.code = .ok ∧ t.copy = s.copy ∧
    t.answer.words = [BitVec.ofNat 32 (beNat (Memory.readAll s.copy.buf (a - 0x2000000) 4))] := by
  have hread : (s.datagramTaken h).netReadWords a 0 1 =
      ([], [BitVec.ofNat 32 (beNat (Memory.readAll s.copy.buf (a - 0x2000000) 4))], s.datagramTaken h) := by
    simp only [State.netReadWords, State.readWord, Nat.mul_zero, Nat.add_zero, State.reach_buffer ha, if_true]
    rfl
  obtain ⟨x, ans, hx, hcode, hwords⟩ := s.putGram_gramOf (s.datagramTaken h) h
    ⟨1, 1, a, [], [BitVec.ofNat 32 (beNat (Memory.readAll s.copy.buf (a - 0x2000000) 4))]⟩
  have hexec : exec (.netRead h a 1) s = s.done { s.datagramTaken h with host := x, answer := ans } := by
    change execNetRead h a 1 s = _
    simp only [execNetRead, le_refl, Nat.one_le_ofNat, and_self, decide_true, k.datagramFor, hread, List.nil_append]
    exact congrArg s.done hx
  exact ⟨_, hexec, hcode, rfl, hwords⟩

/-- A network write of one word of the copy buffer fills it. -/
theorem Takes.netWrite (k : Takes s h) {a : Nat} (ha : inBuffer a) (w : Word) : ∃ t, exec (.netWrite h a [w]) s = .next t ∧
    t.answer.code = .ok ∧ t.copy = { s.copy with buf := Memory.writeAll s.copy.buf (a - 0x2000000) (beBytes w.toNat 4) } := by
  have hex : (s.datagramTaken h).exists_ .network = true := by
    have hreset : s.power.resetHeld = false := by
      have hlisten := k.listens
      simp only [State.netListens, Bool.and_eq_true, Bool.not_eq_true'] at hlisten
      exact hlisten.1.1.1
    have hreset' : (s.datagramTaken h).power.resetHeld = false := hreset
    simp [State.exists_, hreset', isHost]
  have hwrite : (s.datagramTaken h).netWriteWords ⟨s.host.nextTxn, h.session, h.seq, 1, [], 0⟩ a 0 [] 0 [w] =
      ((s.datagramTaken h).fillBuffer (a - 0x2000000) (beBytes w.toNat 4), [], 0) := by
    simp only [State.netWriteWords, Nat.mul_zero, Nat.add_zero,
      State.accept_buffer hex ha (src := .net s.host.nextTxn 0 0) rfl, List.length_nil, noteBad_ok, bit1, Bool.false_eq_true, if_false]
  obtain ⟨x, ans, hx, hcode, -⟩ := s.putGram_gramOf ((s.datagramTaken h).fillBuffer (a - 0x2000000) (beBytes w.toNat 4)) h
    ⟨2, 1, a, [], []⟩
  have hexec : exec (.netWrite h a [w]) s =
      s.done { (s.datagramTaken h).fillBuffer (a - 0x2000000) (beBytes w.toNat 4) with host := x, answer := ans } := by
    change execNetWrite h a [w] s = _
    simp only [execNetWrite, List.length_singleton, le_refl, Nat.one_le_ofNat, and_self, decide_true, k.datagramFor, hwrite,
      List.nil_append, Nat.add_zero]
    exact congrArg s.done hx
  exact ⟨_, hexec, hcode, rfl⟩

/-- Every operation of a datagram that is turned away only counts it. -/
theorem exec_turnedAway (hlisten : s.netListens = true) (hindex : h.index = 0)
    (hbad : netHdrOk h = false ∨ h.tagOk = false ∨ h.session = 0 ∨ s.netSession h.session = none ∨
      ∃ n, s.netSession h.session = some n ∧ h.seq ≤ n.lastSeq) (a : Word) :
    exec (.netKey h a) s = .next (s.inc F.HOST_NET_CNT_DISCARDED) ∧
      exec (.netReinsTake h a) s = .next (s.inc F.HOST_NET_CNT_DISCARDED) ∧
      exec (.netReinsGive h a) s = .next (s.inc F.HOST_NET_CNT_DISCARDED) ∧
      exec (.netRead h a.toNat 1) s = .next (s.inc F.HOST_NET_CNT_DISCARDED) ∧
      exec (.netWrite h a.toNat [a]) s = .next (s.inc F.HOST_NET_CNT_DISCARDED) := by
  have hturned := State.datagramFor_turnedAway hlisten hindex hbad
  have hplain : ∀ op addr f, s.done (s.netPlain h op addr f) = .next (s.inc F.HOST_NET_CNT_DISCARDED) := fun op addr f => by
    simp only [State.netPlain, hturned]
    rfl
  refine ⟨hplain _ _ _, hplain _ _ _, hplain _ _ _, ?_, ?_⟩
  · change execNetRead h a.toNat 1 s = _
    simp only [execNetRead, hturned]
    rfl
  · change execNetWrite h a.toNat [a] s = _
    simp only [execNetWrite, hturned]
    rfl

/-! ### The DRBG changes itself and the count of conditioned blocks (R645) -/

theorem State.drbgReseed_frame (s : State) : ∃ d b, s.drbgReseed = { s with isle := { s.isle with drbg := d, blocks := b } } := by
  unfold State.drbgReseed
  split <;> exact ⟨_, _, rfl⟩

theorem State.drbgDraw_frame (s : State) : ∃ d b, s.drbgDraw = { s with isle := { s.isle with drbg := d, blocks := b } } := by
  unfold State.drbgDraw
  split
  · exact ⟨_, _, rfl⟩
  · next d _ =>
    obtain ⟨e, b, he⟩ := ({ s with isle := { s.isle with drbg := some ⟨Config.drbgNext d.vKey, d.uses + 1⟩ } } : State).drbgReseed_frame
    simp only [he]
    split <;> exact ⟨_, _, rfl⟩

/-- Three generations, as a challenge takes them (log entry 60). -/
theorem State.drbgDraw_thrice (s : State) :
    ∃ d b, s.drbgDraw.drbgDraw.drbgDraw = { s with isle := { s.isle with drbg := d, blocks := b } } := by
  obtain ⟨d1, b1, h1⟩ := s.drbgDraw_frame
  obtain ⟨d2, b2, h2⟩ := s.drbgDraw.drbgDraw_frame
  obtain ⟨d3, b3, h3⟩ := s.drbgDraw.drbgDraw.drbgDraw_frame
  exact ⟨d3, b3, by rw [h3, h2, h1]⟩

/-! ### Challenges (R633, R634) -/

/-- A master that is not locked out gets its challenge, the DRBG having generated three times; a key pair that fails its test
is a hard error. -/
theorem State.challenge_eq {m : Nat} (hfree : m ∉ s.isle.locked) (out : List Byte) :
    s.challenge m ⟨out, true⟩ = ({ s.drbgDraw.drbgDraw.drbgDraw with isle := { s.drbgDraw.drbgDraw.drbgDraw.isle with
      challenges := m :: s.isle.challenges.filter (· ≠ m) } }, 0, out) ∧
    s.challenge m ⟨out, false⟩ = (s.drbgDraw.drbgDraw.drbgDraw.hardError 11, 7, []) := by
  obtain ⟨d, b, hdraw⟩ := s.drbgDraw_thrice
  have hsame : s.drbgDraw.drbgDraw.drbgDraw.isle.challenges = s.isle.challenges := by rw [hdraw]
  simp only [State.challenge, hfree, if_false, Bool.not_true, Bool.false_eq_true, Bool.not_false, if_true, hsame, and_self]

theorem State.challenge_locked {m : Nat} (hlocked : m ∈ s.isle.locked) (out : Challenge) : s.challenge m out = (s, 8, []) := by
  simp only [State.challenge, hlocked, if_true]

theorem Takes.opens (hopen : s.takeOpening h = true) : s.netListens = true := by
  simp only [State.takeOpening, Bool.and_eq_true] at hopen
  exact hopen.1.1.1.1

/-- A session-0 datagram that asks for a challenge is answered as the island answers it. -/
theorem exec_netGetChallenge (hopen : s.takeOpening h = true) (hserves : s.islandServes = true) (out : Challenge) :
    exec (.netGetChallenge h out) s = s.done (if (s.challenge 4 out).2.1 = 0 then
      (s.challenge 4 out).1.answerOpening h ⟨16, 61, 0, [], packWords 61 (s.challenge 4 out).2.2⟩
      else (s.challenge 4 out).1.answerOpening h ⟨16, 61, 0, [(0, .refused)], []⟩) := by
  change execNetGetChallenge h out s = _
  simp only [execNetGetChallenge, Takes.opens hopen, hopen, hserves, Bool.not_true, Bool.false_eq_true, if_false]

theorem exec_netGetChallenge_unserved (hopen : s.takeOpening h = true) (hserves : s.islandServes = false) (out : Challenge) :
    exec (.netGetChallenge h out) s = s.done (s.answerOpening h ⟨16, 61, 0, [(0, .refused)], []⟩) := by
  change execNetGetChallenge h out s = _
  simp only [execNetGetChallenge, Takes.opens hopen, hopen, hserves, Bool.not_true, Bool.not_false, Bool.false_eq_true, if_false,
    if_true]

/-! ### Sessions open and expire (R600, R635) -/

/-- A good signature over a master's challenge uses it up, and the operator's role is the answer. -/
theorem State.authenticate_good {m : Nat} {body : List Byte} {o : Operator} (hlength : body.length = 195)
    (hasked : m ∈ s.isle.challenges) (ho : s.isle.operators.find? (fun o => o.slot = beAt body 0 1) = some o)
    (hmaster : beAt body 98 1 = m) : s.authenticate m body true =
      ({ s with isle := { s.isle with challenges := s.isle.challenges.filter (· ≠ m) } }, 0, o.role) := by
  simp only [State.authenticate, hlength, hasked, ho, hmaster, ne_eq, not_true_eq_false, if_false, beq_self_eq_true, Bool.and_self,
    if_true]

/-- The fields that show how the island stands. -/
def secShown : List Fld :=
  [F.SEC_STATUS_FUSE, F.SEC_STATUS_STRAP, F.SEC_STATUS_REQ_UNCONFIRMED, F.SEC_SESSIONS_NET, F.SEC_STATUS_APPROVED]

theorem State.showSec_only (s : State) : Only secShown s s.showSec :=
  (((((Only.refl _ _).setB (by simp [secShown]) _).setB (by simp [secShown]) _).setB (by simp [secShown]) _).set
    (by simp [secShown]) _).setB (by simp [secShown]) _

theorem Only.isle {fs : List Fld} {s t : State} (k : Only fs s t) : t.isle = s.isle := by
  have := congrArg State.isle k.1
  exact this

theorem Only.tg {fs : List Fld} {s t : State} (k : Only fs s t) : t.tg = s.tg := by
  have := congrArg State.tg k.1
  exact this

theorem State.showSec_isle (s : State) : s.showSec.isle = s.isle := s.showSec_only.isle

/-- A session that opens is the newest, and there are at most four. -/
theorem State.openNet_nets (s : State) (id role : Nat) :
    (s.openNet id role).isle.nets.getLast? = some ⟨id, role, 0, s.stride⟩ ∧ (s.openNet id role).isle.nets.length ≤ 4 := by
  simp only [State.openNet, State.showSec_isle, List.getLast?_append, List.getLast?_singleton, Option.some_or, List.length_append,
    List.length_singleton, true_and]
  split
  · rw [List.length_drop]
    omega
  · omega

theorem exec_netAuthenticate {body : List Byte} {session : Nat} {o : Operator} (hopen : s.takeOpening h = true)
    (hserves : s.islandServes = true) (hlength : body.length = 195) (hasked : 4 ∈ s.isle.challenges)
    (ho : s.isle.operators.find? (fun o => o.slot = beAt body 0 1) = some o) (hmaster : beAt body 98 1 = 4) :
    exec (.netAuthenticate h body true session) s = s.done
      (((({ s with isle := { s.isle with challenges := s.isle.challenges.filter (· ≠ 4) } } : State).drbgReseed.openNet
        (session % 2 ^ 16) o.role)).answerOpening h
        ⟨17, 1, 0, [], [BitVec.ofNat 32 (session % 2 ^ 16 * 2 ^ 16 + o.role)]⟩) := by
  change execNetAuthenticate h body true session s = _
  simp only [execNetAuthenticate, Takes.opens hopen, hopen, hserves, State.authenticate_good hlength hasked ho hmaster, Bool.not_true,
    Bool.false_eq_true, if_false, if_true]

/-- What reseeding with conditioned block `n` makes of a DRBG (R645). -/
def reseeded (d : Option Drbg) (n : Nat) : Option Drbg :=
  d.map (fun d => ⟨Config.drbgReseed d.vKey (Config.entropyBlock n), 0⟩)

theorem State.drbgReseed_drbg (s : State) : s.drbgReseed.isle.drbg = reseeded s.isle.drbg s.isle.blocks := by
  unfold State.drbgReseed
  split
  · next hnone => rw [hnone]; rfl
  · next d hd => rw [hd]; rfl

theorem Takes.netAuthenticate {body : List Byte} {session : Nat} {o : Operator} (hopen : s.takeOpening h = true)
    (hserves : s.islandServes = true) (hlength : body.length = 195) (hasked : 4 ∈ s.isle.challenges)
    (ho : s.isle.operators.find? (fun o => o.slot = beAt body 0 1) = some o) (hmaster : beAt body 98 1 = 4) :
    ∃ t, exec (.netAuthenticate h body true session) s = .next t ∧
      t.isle.nets.getLast? = some ⟨session % 2 ^ 16, o.role, 0, s.stride⟩ ∧ t.isle.nets.length ≤ 4 ∧
      t.isle.drbg = s.drbgReseed.isle.drbg ∧ 4 ∉ t.isle.challenges ∧
      t.answer.words = [BitVec.ofNat 32 (session % 2 ^ 16 * 2 ^ 16 + o.role)] := by
  refine ⟨_, exec_netAuthenticate hopen hserves hlength hasked ho hmaster, ?_⟩
  obtain ⟨v, hv⟩ : ∃ v : State, v = { s with isle := { s.isle with challenges := s.isle.challenges.filter (· ≠ 4) } } := ⟨_, rfl⟩
  obtain ⟨d, b, hreseed⟩ := v.drbgReseed_frame
  obtain ⟨u, hu⟩ : ∃ u, u = v.drbgReseed := ⟨_, rfl⟩
  have hstride : u.stride = s.stride := by rw [hu, hreseed, hv]
  have hdrbg : u.isle.drbg = s.drbgReseed.isle.drbg := by rw [hu, State.drbgReseed_drbg, State.drbgReseed_drbg, hv]
  have hasks : 4 ∉ u.isle.challenges := by
    rw [hu, hreseed, hv]
    simp
  obtain ⟨hlast, hcount⟩ := u.openNet_nets (session % 2 ^ 16) o.role
  rw [hstride] at hlast
  rw [← hv, ← hu]
  exact ⟨hlast, hcount, hdrbg, hasks, rfl⟩

/-- A session that has been silent for HOLD_S closes, and the network's reins and requests with it. -/
theorem exec_netSessionExpiry {session secs : Nat} {n : NetSession} (hn : s.netSession session = some n)
    (hsecs : s.get F.HOST_NET_CFG_HOLD_S ≤ secs) : exec (.netSessionExpiry session secs) s = s.done
      ((({ s with isle := { s.isle with nets := s.isle.nets.filter (fun n => n.id ≠ session) }
                  tg := { s.tg with netReq := 0 } } : State).giveReins .network 0xFFFF).setB F.HOST_IRQ_NET_EXPIRED true).showSec := by
  change execNetSessionExpiry session secs s = _
  simp only [execNetSessionExpiry, hn, Option.isSome_some, hsecs, decide_true, Bool.and_self, if_true]

/-- What an expired session leaves, the reins being given back in `u`. -/
theorem State.netExpired_shows {session : Nat} (s : State) : ∃ u : State,
    ((s.giveReins .network 0xFFFF).setB F.HOST_IRQ_NET_EXPIRED true).showSec = u ∧
    u.tg = s.tg ∧ u.isle = s.isle ∧ u.netSession session = s.netSession session ∧ u.getB F.HOST_IRQ_NET_EXPIRED = true ∧
    u.pending = s.pending ∧ ∀ g < 16, u.get (F.REINS_HOLDER_HOLDER g) ≠ Master.network.code := by
  have honly := s.giveReins_only .network 0xFFFF
  have hgiven : ∀ g < 16, (s.giveReins .network 0xFFFF).get (F.REINS_HOLDER_HOLDER g) ≠ Master.network.code := fun g hg => by
    rw [State.holder_giveReins _ _ _ hg, testBit_allGroups g hg, Bool.true_and]
    simp only [beq_iff_eq]
    split
    · decide
    · assumption
  generalize s.giveReins .network 0xFFFF = x at honly hgiven ⊢
  have hisle : x.isle = s.isle := honly.isle
  have hshown := (x.setB F.HOST_IRQ_NET_EXPIRED true).showSec_only
  refine ⟨_, rfl, hshown.tg.trans honly.tg, hshown.isle.trans hisle, ?_, ?_, hshown.pending.trans honly.pending, fun g hg => ?_⟩
  · rw [State.netSession, State.netSession, State.showSec_isle, ← hisle]
    rfl
  · rw [State.getB, hshown.2 _ (by decide)]
    exact getB_setB_self _ _ _ (by decide)
  · have hdiffer : ∀ g < 16, (F.REINS_HOLDER_HOLDER g).key ≠ F.HOST_IRQ_NET_EXPIRED.key ∧
        (F.REINS_HOLDER_HOLDER g).key ∉ secShown.map Fld.key := by decide
    rw [hshown.2 _ (hdiffer g hg).2, State.get_setB_other _ _ _ _ (hdiffer g hg).1]
    exact hgiven g hg

/-! ### O37 -/

/-- Settles O37 (it holds): a datagram is taken or counted, a session-0 datagram answered, and a silent session closed. -/
theorem netControlIsTaken : Obligations.NetControlIsTaken := by
  refine ⟨?_, fun s h a hlisten hindex hbad => exec_turnedAway hlisten hindex hbad a, ?_, ?_, ?_, ?_⟩
  · intro s h n hlisten hindex hcount hhdr htag hsession hn hseq
    have k : Takes s h := ⟨hlisten, hindex, hcount, hhdr, htag, hsession, n, hn, hseq⟩
    exact ⟨k.netKey, k.netReinsTake, k.netReinsGive, fun a halign hlo hhi =>
      ⟨k.netRead ⟨halign, hlo, hhi⟩, k.netWrite ⟨halign, hlo, hhi⟩⟩⟩
  · intro s h out hopen hserves hfree
    obtain ⟨hgood, hbad⟩ := State.challenge_eq hfree out
    obtain ⟨d, b, hdraw⟩ := s.drbgDraw_thrice
    refine ⟨_, rfl, ?_, ?_⟩
    · rw [exec_netGetChallenge hopen hserves, hgood, if_pos rfl]
      refine State.done_next ?_
      rw [hdraw]
      rfl
    · rw [exec_netGetChallenge hopen hserves, hbad, if_neg (by simp)]
      rfl
  · rintro s h out ok hopen (hserves | hlocked)
    · rw [exec_netGetChallenge_unserved hopen hserves]
      rfl
    · cases hserves : s.islandServes
      · rw [exec_netGetChallenge_unserved hopen hserves]
        rfl
      · rw [exec_netGetChallenge hopen hserves, State.challenge_locked hlocked, if_neg (by simp)]
        rfl
  · exact fun s h body session o hopen hserves hlength hasked ho hmaster =>
      Takes.netAuthenticate hopen hserves hlength hasked ho hmaster
  · intro s session secs n hn hsecs
    obtain ⟨v, hv⟩ : ∃ v : State, v = { s with isle := { s.isle with nets := s.isle.nets.filter (fun n => n.id ≠ session) }
                                               tg := { s.tg with netReq := 0 } } := ⟨_, rfl⟩
    obtain ⟨u, hu, htg, -, hsession, hirq, hpending, hholders⟩ := v.netExpired_shows (session := session)
    have hexec := exec_netSessionExpiry hn hsecs
    rw [← hv, hu] at hexec
    refine State.finish hexec (by rw [hpending, hv]) ⟨?_, by rw [htg, hv], hirq, hholders⟩
    rw [hsession, hv, State.netSession, List.find?_filter, List.find?_eq_none]
    intro n _
    simp

end Sys2Proof.Machine
end

section
/-! The wake's talk, the catch-up and the hardware mute (R193–R201, R211–R216): which microphones show as muted, what the mute's
three commands leave, and the settlement of O39. -/

namespace Sys2Proof.Machine

/-! ### A number made of bits -/

theorem bitsWhere_succ (n : Nat) (p : Nat → Bool) :
    bitsWhere (n + 1) p = if p n then bitsWhere n p + 2 ^ n else bitsWhere n p := by
  simp only [bitsWhere, List.range_succ, List.foldl_append, List.foldl_cons, List.foldl_nil]

theorem bitsWhere_lt (n : Nat) (p : Nat → Bool) : bitsWhere n p < 2 ^ n := by
  induction n with
  | zero => exact Nat.one_pos
  | succ n ih =>
    rw [bitsWhere_succ, Nat.pow_succ]
    split <;> omega

@[simp] theorem testBit_bitsWhere (n : Nat) (p : Nat → Bool) (i : Nat) :
    (bitsWhere n p).testBit i = (decide (i < n) && p i) := by
  induction n with
  | zero => simp [bitsWhere]
  | succ n ih =>
    rw [bitsWhere_succ]
    by_cases hi : i = n
    · subst hi
      have hlow : (bitsWhere i p).testBit i = false := Nat.testBit_lt_two_pow (bitsWhere_lt i p)
      have htop : (bitsWhere i p + 2 ^ i).testBit i = true := by
        rw [Nat.add_comm, Nat.testBit_two_pow_add_eq, hlow, Bool.not_false]
      cases hp : p i <;> simp [hlow, htop]
    · have hother : (bitsWhere n p + 2 ^ n).testBit i = (bitsWhere n p).testBit i := by
        have hor := Nat.two_pow_add_eq_or_of_lt (bitsWhere_lt n p) 1
        rw [Nat.mul_one] at hor
        rw [Nat.add_comm, hor]
        simp [Ne.symm hi]
      have hlt : i < n + 1 ↔ i < n := by omega
      split
      · rw [hother, ih, decide_eq_decide.mpr hlt]
      · rw [ih, decide_eq_decide.mpr hlt]

theorem bitsWhere_none (n : Nat) (p : Nat → Bool) (h : ∀ i < n, p i = false) : bitsWhere n p = 0 := by
  refine Nat.eq_of_testBit_eq fun i => ?_
  rw [testBit_bitsWhere, Nat.zero_testBit]
  by_cases hi : i < n
  · rw [h i hi, Bool.and_false]
  · simp [hi]

/-! ### The mute shows (R213) -/

/-- MIC_STATUS.MUTED shows each microphone as it is muted, once it follows the mute. -/
theorem State.bit_showMuted (s : State) {n : Nat} (hn : n < 8) :
    s.showMuted.bit F.MIC_STATUS_MUTED n = s.showMuted.micMuted n := by
  have hmuted : s.showMuted.micMuted n = s.micMuted n := by
    simp only [State.micMuted, State.muteOn, State.getB, State.bit, State.showMuted]
    rw [State.get_set_other _ _ _ _ (by decide), State.get_set_other _ _ _ _ (by decide)]
    rfl
  rw [hmuted, State.bit, State.showMuted, State.get_set_self]
  have hlt : bitsWhere 8 s.micMuted % 2 ^ F.MIC_STATUS_MUTED.width = bitsWhere 8 s.micMuted :=
    Nat.mod_eq_of_lt (bitsWhere_lt 8 _)
  rw [hlt, testBit_bitsWhere, decide_eq_true hn, Bool.true_and]

/-- Whether the mute is in force and which pairs it names and keeps silent say which microphones are muted. -/
theorem State.micMuted_congr {x y : State} (hpin : x.get F.MIC_PRIV_STATUS_PIN = y.get F.MIC_PRIV_STATUS_PIN)
    (hmask : x.get F.MIC_PRIV_MUTE = y.get F.MIC_PRIV_MUTE) (hsilent : x.mic.silent = y.mic.silent) : x.micMuted = y.micMuted := by
  funext n
  simp only [State.micMuted, State.muteOn, State.getB, State.bit, hpin, hmask, hsilent]

/-! ### MIC_MUTE_ASSERT (R211, R212, R214, R216) -/

/-- The pin is low and shows, and MIC_STATUS follows. -/
def State.pinLow (s : State) : State :=
  ({ s.setB F.MIC_PRIV_STATUS_PIN true with mic := { s.mic with muteLow := true } } : State).showMuted

theorem State.pinLow_shows (s : State) : s.pinLow.muteOn = true ∧ s.pinLow.mic.muteLow = true ∧ s.pinLow.catching = s.catching ∧
    s.pinLow.get F.MIC_PRIV_MUTE = s.get F.MIC_PRIV_MUTE ∧
    ∀ n < 8, s.pinLow.bit F.MIC_STATUS_MUTED n = s.pinLow.micMuted n := by
  obtain ⟨u, hu⟩ : ∃ u : State, u = { s.setB F.MIC_PRIV_STATUS_PIN true with mic := { s.mic with muteLow := true } } := ⟨_, rfl⟩
  have hget : ∀ f : Fld, f.key ≠ F.MIC_STATUS_MUTED.key → u.showMuted.get f = (s.setB F.MIC_PRIV_STATUS_PIN true).get f :=
    fun f hf => by
      rw [State.showMuted, State.get_set_other _ _ _ _ hf, hu]
      rfl
  rw [State.pinLow, ← hu]
  refine ⟨?_, by rw [hu]; rfl, ?_, ?_, fun n hn => u.bit_showMuted hn⟩
  · rw [State.muteOn, State.getB, hget _ (by decide)]
    exact getB_setB_self _ _ _ (by decide)
  · rw [State.catching, State.catching, hget _ (by decide), State.get_setB_other _ _ _ _ (by decide)]
  · rw [hget _ (by decide), State.get_setB_other _ _ _ _ (by decide)]

/-- The pin is low, and the frame under way is muted where a stage's microphone becomes so. -/
def State.pinTaken (s : State) : State :=
  { s.pinLow with mic := { s.pinLow.mic with
    mutedInFrame := s.pinLow.mic.mutedInFrame || (s.pinLow.stageMics 4).any (fun n => s.pinLow.micMuted n && !s.micMuted n) } }

theorem exec_micMuteAssert (s : State) : exec .micMuteAssert s =
    s.done (if (!s.muteOn && s.pinTaken.catching && s.pinTaken.beamMuted) = true then
      ({ s.pinTaken with mic := { s.pinTaken.mic with liveNext := true } } : State).releaseWake else s.pinTaken) := rfl

theorem State.releaseWake_shows (s : State) : s.releaseWake.getB F.WAKE_STATUS_TALK = false ∧ s.releaseWake.tg.wakeReq = 0 ∧
    s.releaseWake.mic.liveNext = s.mic.liveNext ∧ s.releaseWake.mic.muteLow = s.mic.muteLow ∧
    s.releaseWake.mic.silent = s.mic.silent ∧ s.releaseWake.fab = s.fab ∧
    ∀ f : Fld, f.key ≠ F.WAKE_STATUS_TALK.key → s.releaseWake.get f = s.get f :=
  ⟨getB_setB_self s _ false (by decide), rfl, rfl, rfl, rfl, rfl, fun f hf => State.get_setB_other s F.WAKE_STATUS_TALK f false hf⟩

/-- The pin low mutes at once, and ends the catch-up that a microphone so muted feeds. -/
theorem State.micMuteAssert_shows (s : State) : ∃ t, exec .micMuteAssert s = .next t ∧ t.muteOn = true ∧ t.mic.muteLow = true ∧
    (s.muteOn = false → s.catching = true → t.beamMuted = true →
      t.mic.liveNext = true ∧ t.getB F.WAKE_STATUS_TALK = false ∧ t.tg.wakeReq = 0) ∧
    (∀ n < 8, t.bit F.MIC_STATUS_MUTED n = t.micMuted n) ∧
    (∀ n < 8, s.bit F.MIC_PRIV_MUTE (n / 2) = true → t.micMuted n = true) := by
  obtain ⟨hpin, hlow, hcatching, hmask, hshown⟩ := s.pinLow_shows
  have hnames : ∀ t : State, t.micMuted = s.pinLow.micMuted →
      ∀ n < 8, s.bit F.MIC_PRIV_MUTE (n / 2) = true → t.micMuted n = true := fun t ht n _ hbit => by
    rw [ht, State.micMuted, hpin, State.bit, hmask, ← State.bit, hbit]
    rfl
  rw [exec_micMuteAssert]
  by_cases hends : (!s.muteOn && s.pinTaken.catching && s.pinTaken.beamMuted) = true
  · rw [if_pos hends]
    obtain ⟨htalk, hreq, hlive, hlow', hsilent, -, hget⟩ :=
      ({ s.pinTaken with mic := { s.pinTaken.mic with liveNext := true } } : State).releaseWake_shows
    obtain ⟨t, ht⟩ : ∃ t, t = ({ s.pinTaken with mic := { s.pinTaken.mic with liveNext := true } } : State).releaseWake := ⟨_, rfl⟩
    rw [← ht] at htalk hreq hlive hlow' hsilent hget ⊢
    have hmuted : t.micMuted = s.pinLow.micMuted := State.micMuted_congr (hget _ (by decide)) (hget _ (by decide)) hsilent
    refine State.finish rfl (by rw [ht]; rfl) ⟨?_, hlow'.trans hlow, fun _ _ _ => ⟨hlive, htalk, hreq⟩, fun n hn => ?_,
      hnames t hmuted⟩
    · rw [State.muteOn, State.getB, hget _ (by decide)]
      exact hpin
    · rw [hmuted, State.bit, hget _ (by decide)]
      exact hshown n hn
  · rw [if_neg hends]
    refine State.finish rfl rfl ⟨hpin, hlow, fun hoff hon hbeam => absurd ?_ hends, hshown, hnames _ rfl⟩
    have hcatch : s.pinTaken.catching = true := hcatching.trans hon
    simp [hoff, hcatch, hbeam]

/-! ### The wake's hang time and the catch-up (R193–R201) -/

theorem exec_wakeHangExpiry {s : State} (htalk : s.getB F.WAKE_STATUS_TALK = true)
    (hquiet : s.mic.voiceAt + 8 * s.get F.WAKE_HANG_HANG_MS ≤ s.stride) :
    exec .wakeHangExpiry s = s.done (if s.stage = 4 then s.releaseWake.stageDown else s.releaseWake) := by
  have hstage : s.releaseWake.stage = s.stage := s.releaseWake_shows.2.2.2.2.2.2 _ (by decide)
  rw [← hstage]
  exact congrArg s.done (if_pos (by simp [htalk, hquiet]))

/-- A catch-up starts at its lag, in the ring that the lag says. -/
theorem State.catchupStart_shows {s : State} {lag : Nat} (hstart : s.mic.start = some (s.stride, lag)) :
    ∃ t, exec .catchupStart s = .next t ∧ t.get F.HIST_STATUS_LAG = lag % 2 ^ F.HIST_STATUS_LAG.width ∧
      t.get F.HIST_STATUS_MODE = (if lag = 0 then 0 else if lag ≤ 12000 then 2 else 1) ∧
      Only [F.HIST_STATUS_LAG, F.HIST_STATUS_MODE] { s with mic := { s.mic with start := none, since := s.stride } } t := by
  obtain ⟨mode, hmode⟩ : ∃ mode, mode = if lag = 0 then 0 else if lag ≤ 12000 then 2 else 1 := ⟨_, rfl⟩
  have hexec : exec .catchupStart s = s.done ((({ s with mic := { s.mic with start := none, since := s.stride } } : State).set
      F.HIST_STATUS_LAG lag).set F.HIST_STATUS_MODE mode) := by
    change execCatchupStart s = _
    simp only [execCatchupStart, hstart, ne_eq, not_true_eq_false, if_false, ← hmode]
    rfl
  have hwidth : mode % 2 ^ F.HIST_STATUS_MODE.width = mode := by
    rw [hmode]
    split_ifs <;> rfl
  obtain ⟨u, hu⟩ : ∃ u : State, u = { s with mic := { s.mic with start := none, since := s.stride } } := ⟨_, rfl⟩
  rw [← hu] at hexec ⊢
  refine State.finish hexec (by rw [hu]; rfl) ⟨?_, ?_, ?_⟩
  · rw [State.get_set_other _ _ _ _ (by decide), State.get_set_self]
  · rw [State.get_set_self, hwidth, hmode]
  · exact ((Only.refl _ _).set (by simp) _).set (by simp) _

/-! ### O39 -/

/-- Settles O39 (it holds): a wake talks, catches up and ends, and the mute holds, as the lemmas above say. -/
theorem wakeTalkAndMute : Obligations.WakeTalkAndMute := by
  refine ⟨⟨fun s htalk hquiet => ⟨fun hstage => ?_, fun hstage => ?_⟩, fun s lag hstart => State.catchupStart_shows hstart,
    fun s hgroup hmode hlag => ?_, fun s hgroup hlag => ?_, fun s hon hclosed => ?_⟩, State.micMuteAssert_shows, ?_, ?_⟩
  · rw [exec_wakeHangExpiry htalk hquiet, if_pos hstage]
    rfl
  · rw [exec_wakeHangExpiry htalk hquiet, if_neg hstage]
    rfl
  · exact congrArg s.done (if_pos (by simp [hgroup, hmode, hlag]))
  · exact congrArg s.done (if_pos (by simp [hgroup, hlag]))
  · exact congrArg s.done (if_pos (by simp [hon, hclosed]))
  · intro s us hon hus
    obtain ⟨u, hu⟩ : ∃ u : State, u = { s.setB F.MIC_PRIV_STATUS_PIN false with
        mic := { s.mic with muteLow := false, silent := s.get F.MIC_PRIV_MUTE } } := ⟨_, rfl⟩
    have hexec : exec (.micMuteRelease us) s = s.done u.showMuted := by
      have hmask : (({ s with mic := { s.mic with muteLow := false } } : State).setB F.MIC_PRIV_STATUS_PIN false).get
          F.MIC_PRIV_MUTE = s.get F.MIC_PRIV_MUTE := State.get_setB_other _ _ _ _ (by decide)
      rw [hu, ← hmask]
      exact congrArg s.done (if_pos (by simp [hon, hus]))
    refine State.finish hexec (by rw [hu]; rfl) ⟨?_, by rw [hu]; rfl, by rw [hu]; rfl, fun n hn => u.bit_showMuted hn⟩
    rw [State.muteOn, State.getB, State.showMuted, State.get_set_other _ _ _ _ (by decide), hu]
    exact State.getB_setB_self s F.MIC_PRIV_STATUS_PIN false rfl
  · intro s us hoff hus
    obtain ⟨u, hu⟩ : ∃ u : State, u = { s with mic := { s.mic with silent := 0 } } := ⟨_, rfl⟩
    have hexec : exec (.muteSilenceEnd us) s = s.done u.showMuted := by
      rw [hu]
      exact congrArg s.done (if_pos (by simp [hoff, hus]))
    have hnone : ∀ n < 8, u.micMuted n = false := fun n _ => by
      have hoff' : u.muteOn = false := by
        rw [hu]
        exact hoff
      rw [State.micMuted, hoff', hu]
      simp
    rw [← hu]
    refine State.finish hexec (by rw [hu]; rfl) ⟨by rw [hu]; rfl, ?_, (Only.refl _ _).set (by simp) _⟩
    rw [State.showMuted, State.get_set_self, bitsWhere_none 8 _ hnone]
    rfl

end Sys2Proof.Machine
end

section
/-! Key inputs, GPIO edges, encoder detents and copy rows (R308, R604–R617): what each leaves, and the settlement of O40. -/

namespace Sys2Proof.Machine

/-! ### GPIO edges (R612) -/

theorem key_gpioIn_pin : ∀ g : Fin 32, (F.GPIO_PIN_EDGE g).key ≠ F.GPIO_IN_LEVEL.key ∧
    (F.GPIO_PIN_FUNC g).key ≠ F.GPIO_IN_LEVEL.key := by decide

/-- EDGE selects the edge to `level`: 1 rising, 2 falling, 3 either. -/
def edgeSelected (level : Bool) (e : Nat) : Prop := if level then e % 2 = 1 else e / 2 = 1

theorem edgeSelected_iff {level : Bool} {e : Nat} (he : e < 4) : edgeSelected level e ↔ e = (if level then 1 else 2) ∨ e = 3 := by
  unfold edgeSelected
  split <;> omega

theorem State.pinFields_setLevel (s : State) (g : Fin 32) (level : Bool) :
    (s.setBit F.GPIO_IN_LEVEL g level).get (F.GPIO_PIN_EDGE g) = s.get (F.GPIO_PIN_EDGE g) ∧
    (s.setBit F.GPIO_IN_LEVEL g level).get (F.GPIO_PIN_FUNC g) = s.get (F.GPIO_PIN_FUNC g) ∧
    (s.setBit F.GPIO_IN_LEVEL g level).get F.GPIO_DEBOUNCE_MS = s.get F.GPIO_DEBOUNCE_MS := by
  obtain ⟨hedge, hfunc⟩ := key_gpioIn_pin g
  exact ⟨State.get_set_other _ _ _ _ hedge, State.get_set_other _ _ _ _ hfunc, State.get_set_other _ _ _ _ (by decide)⟩

/-- A selected edge on a plain input, after the debounce time, sets its interrupt bit. -/
theorem exec_gpioEdge_selected {s : State} {g : Fin 32} {level : Bool} {us : Nat} (hfunc : s.get (F.GPIO_PIN_FUNC g) = 0)
    (hedge : edgeSelected level (s.get (F.GPIO_PIN_EDGE g))) (hus : s.get F.GPIO_DEBOUNCE_MS * 1000 ≤ us) :
    exec (.gpioEdge g level us) s = s.done ((s.setBit F.GPIO_IN_LEVEL g level).setBit F.GPIO_IRQ_EDGE g true) := by
  obtain ⟨hedge', hfunc', hms⟩ := s.pinFields_setLevel g level
  refine congrArg s.done (if_pos ⟨hfunc'.trans hfunc, ?_, by rw [hms]; exact hus⟩)
  rw [hedge']
  exact hedge

theorem exec_gpioEdge_other {s : State} {g : Fin 32} {level : Bool} {us : Nat}
    (h : ¬ (s.get (F.GPIO_PIN_FUNC g) = 0 ∧ edgeSelected level (s.get (F.GPIO_PIN_EDGE g)) ∧
      s.get F.GPIO_DEBOUNCE_MS * 1000 ≤ us)) :
    exec (.gpioEdge g level us) s = s.done (s.setBit F.GPIO_IN_LEVEL g level) := by
  obtain ⟨hedge', hfunc', hms⟩ := s.pinFields_setLevel g level
  refine congrArg s.done (if_neg ?_)
  rw [hedge', hfunc', hms]
  exact h

/-! ### Encoders (R615, R616) -/

/-- A detent of an enabled encoder moves its count, wakes the application core and waits for its control. -/
theorem State.encoderDetent_shows {s : State} {k : Fin 4} (cw : Bool) (hon : s.getB (F.GPIO_ENC_CFG_EN k) = true) :
    ∃ t, exec (.encoderDetent k cw) s = .next t ∧ t.gpio.detents = s.gpio.detents ++ [(k.val, cw)] ∧
      t.get (F.GPIO_ENC_COUNT_COUNT k) = unsignedOf (s.getI (F.GPIO_ENC_COUNT_COUNT k) + (if cw then 1 else -1))
        (F.GPIO_ENC_COUNT_COUNT k).width ∧ t.power.panelAt = s.stride := by
  obtain ⟨u, hu⟩ : ∃ u : State, u = { s.setI (F.GPIO_ENC_COUNT_COUNT k) (s.getI (F.GPIO_ENC_COUNT_COUNT k) +
      (if cw then 1 else -1)) with power := { s.power with panelAt := s.stride } } := ⟨_, rfl⟩
  have hexec : exec (.encoderDetent k cw) s = s.done { u.requestDomain 3 with
      gpio := { (u.requestDomain 3).gpio with detents := (u.requestDomain 3).gpio.detents ++ [(k.val, cw)] } } := by
    rw [hu]
    exact congrArg s.done (if_pos hon)
  obtain ⟨q, hq⟩ := u.requestDomain_eq 3
  rw [hq, hu] at hexec
  refine ⟨_, hexec, rfl, ?_, rfl⟩
  have hcount := State.get_set_self s (F.GPIO_ENC_COUNT_COUNT k) (unsignedOf (s.getI (F.GPIO_ENC_COUNT_COUNT k) +
    (if cw then 1 else -1)) (F.GPIO_ENC_COUNT_COUNT k).width)
  have hrange : ∀ i : Int, unsignedOf i 16 % 2 ^ 16 = unsignedOf i 16 := fun i => by
    unfold unsignedOf
    omega
  exact hcount.trans (hrange _)

/-! ### Copy rows (R604, R608, R609) -/

theorem exec_copyRow_some {s : State} {n : Nat} (hn : s.nextChannel = some n) :
    exec .copyRow s = s.done (s.serveRow n) := by
  change execCopyRow s = _
  simp only [execCopyRow, hn]

theorem exec_copyRow_none {s : State} (hn : s.nextChannel = none) : exec .copyRow s = s.done s := by
  change execCopyRow s = _
  simp only [execCopyRow, hn]

/-- An ended channel shows its code and STATE, raises its interrupt and runs no more. -/
theorem State.copyEnd_shows (s : State) {n : Nat} (hn : n < 4) (c : Code) :
    (s.copyEnd n c).get (F.COPY_CH_STATUS_CODE n) = c.num ∧
    (s.copyEnd n c).get (F.COPY_CH_STATUS_STATE n) = (if c = .ok then 2 else 3) ∧
    (s.copyEnd n c).bit (if c = .ok then F.COPY_IRQ_DONE else F.COPY_IRQ_ERR) n = true ∧
    (s.copyEnd n c).copy.run = s.copy.run.set n none := by
  have hkeys : ∀ n < 4, (F.COPY_CH_STATUS_CODE n).key ≠ (F.COPY_CH_STATUS_STATE n).key ∧
      (F.COPY_CH_STATUS_CODE n).key ≠ F.COPY_IRQ_DONE.key ∧ (F.COPY_CH_STATUS_CODE n).key ≠ F.COPY_IRQ_ERR.key ∧
      (F.COPY_CH_STATUS_STATE n).key ≠ F.COPY_IRQ_DONE.key ∧ (F.COPY_CH_STATUS_STATE n).key ≠ F.COPY_IRQ_ERR.key := by decide
  obtain ⟨hstate, hcdone, hcerr, hsdone, hserr⟩ := hkeys n hn
  have hcode : c.num % 2 ^ 4 = c.num := by cases c <;> rfl
  obtain ⟨u, hu⟩ : ∃ u : State, u = ({ s with copy := { s.copy with run := s.copy.run.set n none } } : State).set
      (F.COPY_CH_STATUS_CODE n) c.num := ⟨_, rfl⟩
  have hget : u.get (F.COPY_CH_STATUS_CODE n) = c.num := by
    rw [hu, State.get_set_self]
    exact hcode
  have hrun : u.copy.run = s.copy.run.set n none := by rw [hu]; rfl
  rw [State.copyEnd, ← hu]
  by_cases hok : c = .ok
  · simp only [hok, if_true]
    refine ⟨?_, ?_, ?_, hrun⟩
    · rw [State.setBit, State.get_set_other _ _ _ _ hcdone, State.get_set_other _ _ _ _ hstate, hget, hok]
    · rw [State.setBit, State.get_set_other _ _ _ _ hsdone, State.get_set_self]
      rfl
    · rw [State.bit_setBit _ _ _ _ _ hn, if_pos rfl]
  · simp only [hok, if_false]
    refine ⟨?_, ?_, ?_, hrun⟩
    · rw [State.setBit, State.get_set_other _ _ _ _ hcerr, State.get_set_other _ _ _ _ hstate, hget]
    · rw [State.setBit, State.get_set_other _ _ _ _ hserr, State.get_set_self]
      rfl
    · rw [State.bit_setBit _ _ _ _ _ hn, if_pos rfl]

/-- A channel that is told to abort ends with ABORTED; one with no row left ends OK. -/
theorem State.serveRow_ends {s : State} {n : Nat} {c : CopyRun} (hrun : s.copy.run.getD n none = some c) :
    (c.abort = true → s.serveRow n = ({ s with copy := { s.copy with last := n } } : State).copyEnd n .aborted) ∧
    (c.abort = false → c.rows = [] → s.serveRow n = ({ s with copy := { s.copy with last := n } } : State).copyEnd n .ok) := by
  refine ⟨fun habort => ?_, fun habort hrows => ?_⟩
  · simp only [State.serveRow, hrun, habort, if_true]
  · simp only [State.serveRow, hrun, habort, hrows, Bool.false_eq_true, if_false]

/-! ### O40 -/

/-- Settles O40 (it holds): the panel's inputs act and the copy channels end, as the lemmas above say. -/
theorem panelInputsAndCopyRows : Obligations.PanelInputsAndCopyRows := by
  refine ⟨⟨fun s g level us hus => ?_, fun s g level us => ⟨fun hfunc hedge hus => ?_, fun h => ?_⟩,
    fun s k cw hon => State.encoderDetent_shows cw hon⟩, fun s n hn => ?_, fun s hn => ?_, fun s n c hlt hrun => ?_⟩
  · exact congrArg s.done (if_pos hus)
  · rw [exec_gpioEdge_selected hfunc ((edgeSelected_iff (s.get_lt _)).mpr hedge) hus]
    rfl
  · rw [exec_gpioEdge_other ?_]
    · rfl
    · rw [edgeSelected_iff (s.get_lt _)]
      rintro ⟨hfunc, hedge, hus⟩
      rcases h with h | h | h | h
      · exact h hfunc
      · rw [h] at hedge
        cases level <;> simp at hedge
      · rw [h] at hedge
        cases level <;> simp at hedge
      · omega
  · rw [exec_copyRow_some hn]
    rfl
  · rw [exec_copyRow_none hn]
    rfl
  · have hlen : n < s.copy.run.length := by
      by_contra hn
      rw [List.getD_eq_default _ _ (by omega)] at hrun
      exact absurd hrun (by simp)
    have hnone : (s.copy.run.set n none).getD n none = none := by
      rw [List.getD_eq_getElem _ _ (by simpa using hlen), List.getElem_set_self]
    obtain ⟨habort, hempty⟩ := State.serveRow_ends hrun
    refine ⟨fun h => ?_, fun h hrows => ?_⟩
    · obtain ⟨hcode, hstate, hirq, hset⟩ :=
        ({ s with copy := { s.copy with last := n } } : State).copyEnd_shows hlt .aborted
      rw [habort h]
      exact ⟨hcode, hstate, hirq, by rw [hset]; exact hnone⟩
    · obtain ⟨hcode, hstate, hirq, hset⟩ := ({ s with copy := { s.copy with last := n } } : State).copyEnd_shows hlt .ok
      rw [hempty h hrows]
      exact ⟨hcode, hstate, hirq, by rw [hset]; exact hnone⟩

end Sys2Proof.Machine
end

section
/-! A full load and the start of the stalls (R88–R93, R690, R703): what the load builds, what the start shows, and the settlement
of O41. -/

namespace Sys2Proof.Machine

/-! ### FULL_LOAD -/

/-- The image built, with its PARAM records and the journal applied and MIC_PRIV locked. -/
def State.imageBuilt (s : State) (im : Image) (ev : ImgEv) : State :=
  (((im.params.foldl State.applyParam (s.buildImage im (digest8 ev))).setB F.MIC_PRIV_LOCKED true).checkLayers im).replay

/-- A wanted image that passes its checks is built; one that fails is refused. -/
theorem exec_fullLoad {s : State} {ev : ImgEv} {w : Nat} (hwant : s.boot.want = some w) (hidle : s.fab.running = false)
    (hramp : s.fab.rampDown = none) (hload : s.fab.loaded = false) :
    (∀ im, s.fullCheck w ev = (0, some im) → exec (.fullLoad ev) s = s.done { s.imageBuilt im ev with
      fab := { (s.imageBuilt im ev).fab with hidden := true }, boot := { (s.imageBuilt im ev).boot with want := none } }) ∧
    (∀ code, s.fullCheck w ev = (code, none) → exec (.fullLoad ev) s = s.done (s.loadRefused w code)) := by
  have hfree : ¬ (s.fab.running = true ∨ s.fab.rampDown.isSome = true ∨ s.fab.loaded = true) := by
    simp [hidle, hramp, hload]
  refine ⟨fun im hcheck => ?_, fun code hcheck => ?_⟩
  · change execFullLoad ev s = _
    simp only [execFullLoad, hwant, if_neg hfree, hcheck, State.imageBuilt]
  · change execFullLoad ev s = _
    simp only [execFullLoad, hwant, if_neg hfree, hcheck]

/-! ### What the start of the stalls shows -/

def imageShown : List Fld :=
  [F.FAB_IMAGE_ID_IMAGE_ID, F.FAB_IMAGE_VER_IMAGE_VERSION, F.FAB_IMAGE_DIGEST_HI_DIGEST_0_3, F.FAB_IMAGE_DIGEST_LO_DIGEST_4_7,
   F.FAB_IMAGE_INFO_REGIONS, F.FAB_IMAGE_INFO_ENCRYPTED, F.FAB_IMAGE_INFO_SOURCE, F.FAB_IMAGE_INFO_SLOT]

theorem State.showImage_only (s : State) (im : Image) : Only imageShown s (s.showImage im) := by
  unfold State.showImage
  exact ((((((((Only.refl _ _).set (by simp [imageShown]) _).set (by simp [imageShown]) _).set (by simp [imageShown]) _).set
    (by simp [imageShown]) _).set (by simp [imageShown]) _).setB (by simp [imageShown]) _).set (by simp [imageShown]) _).set
    (by simp [imageShown]) _

/-- The fields that show the image's API and vetting. -/
def vettingShown : List Fld :=
  [F.BOOT_SCHEMA_READS, F.BOOT_API_MIN, F.BOOT_API_MAX, F.BOOT_SCHEMA_RUNNING, F.BOOT_STATUS_UNVETTED, F.BOOT_IRQ_UNVETTED] ++
    logFields

theorem State.showApi_settles (s : State) (v : Option CompatVec) : Settles vettingShown s (s.showApi v) := by
  refine Only.settles ?_
  have hreads : Only vettingShown s (s.set F.BOOT_SCHEMA_READS (Nat.min s.running.steward.schema s.running.app.schema)) :=
    (Only.refl _ _).set (by simp [vettingShown]) _
  unfold State.showApi
  cases v with
  | none => exact ((hreads.set (by simp [vettingShown]) _).set (by simp [vettingShown]) _).set (by simp [vettingShown]) _
  | some v => exact ((hreads.set (by simp [vettingShown]) _).set (by simp [vettingShown]) _).set (by simp [vettingShown]) _

theorem State.markVetted_settles (s : State) (schema : Nat) : Settles vettingShown s (s.markVetted schema) := by
  unfold State.markVetted
  simp only
  split
  · exact (Settles.refl _ _).setB (by simp [vettingShown]) _
  · exact (((Settles.refl _ _).setB (by simp [vettingShown]) _).setB (by simp [vettingShown]) _).trans
      ((State.addLog_settles _ _ _ _ _ _ _).mono fun f hf => List.mem_append_right _ hf)

/-- The inputs that the image lets the node take power from (R717). -/
def State.vinTaken (s : State) (im : Image) : Nat :=
  let r := resolvePorts im (s.get F.SYS_PERSONA_EFFECTIVE)
  if s.getB F.SYS_PERSONA_CAP_PL_SINK then r.vinMask else r.vinMask - Nat.land r.vinMask 6

/-- The fabric runs from here on: nothing is hidden, the outputs ramp in, and every stall starts anew. -/
def State.fabricStarted (s : State) (vin : Nat) : State :=
  { s with
    fab := { s.fab with
      running := true, loaded := false, hidden := false, outRamp := Ramp.silent.aim true 240
      stalls := s.fab.stalls.map (fun (t : Stall) => { t with since := s.stride }) }
    echo := { s.echo with insts := s.echo.insts.map (fun (e : EchoInst) => { e with dueAt := s.stride + 2000, lastResult := s.stride }) }
    boot := { s.boot with audioAt := some s.stride }
    power := { s.power with vinMask := vin } }

/-- Every stall's clock is set to the active cap (R144). -/
def State.clocksSet (s : State) : State :=
  s.fab.stalls.foldl (fun x t => x.set (F.FAB_STALL_CLK_SETPOINT t.n) s.activeCap) s

theorem State.clocksSet_only (s : State) :
    Only (s.fab.stalls.map (fun t => F.FAB_STALL_CLK_SETPOINT t.n)) s s.clocksSet :=
  (Only.refl _ _).foldl fun x _ ht => (Only.refl _ x).set (List.mem_map_of_mem ht) _

/-- The image shows as running, with the boot locked. -/
def State.imageRuns (s : State) (im : Image) : State :=
  ((((s.clocksSet).fabricStarted (s.vinTaken im)).showImage im).setB F.BOOT_STATUS_LOCKED true).set F.BOOT_STATUS_PHASE 3

/-- The boot time, the image's API and vetting, and whether the host's level suits it, show. -/
def State.levelsShown (s : State) (im : Image) (ms : Nat) : State :=
  let s := if s.get F.BOOT_TIME_AUDIO_MS = 0 then s.set F.BOOT_TIME_AUDIO_MS (Nat.min 65535 ms) else s
  let s := ((s.showApi (some im.vec)).markVetted im.vec.schema).showBoot
  if s.getB F.SYS_HOST_API_DECLARED then
    (if s.apiBad then (s.setB F.SYS_HOST_API_MISMATCH true).setB F.BOOT_IRQ_API_MISMATCH true
     else s.setB F.SYS_HOST_API_MISMATCH false)
  else s

/-- The fields that the start of the stalls shows beside the image's own. -/
def levelFields : List Fld :=
  [F.BOOT_TIME_AUDIO_MS, F.SYS_HOST_API_MISMATCH, F.BOOT_IRQ_API_MISMATCH] ++ (vettingShown ++ bootFields)

theorem State.levelsShown_settles (s : State) (im : Image) (ms : Nat) : Settles levelFields s (s.levelsShown im ms) := by
  have hvetting : ∀ f ∈ vettingShown, f ∈ levelFields := fun f hf => List.mem_append_right _ (List.mem_append_left _ hf)
  have hboot : ∀ f ∈ bootFields, f ∈ levelFields := fun f hf => List.mem_append_right _ (List.mem_append_right _ hf)
  unfold State.levelsShown
  extract_lets u v
  have hu : Settles levelFields s u := by
    simp only [u]
    split
    · exact (Settles.refl _ _).set (by simp [levelFields]) _
    · exact Settles.refl _ _
  have hv : Settles levelFields s v :=
    ((hu.trans ((State.showApi_settles _ _).mono hvetting)).trans ((State.markVetted_settles _ _).mono hvetting)).trans
      ((State.showBoot_only _).settles.mono hboot)
  split_ifs
  · exact (hv.setB (by simp [levelFields]) _).setB (by simp [levelFields]) _
  · exact hv.setB (by simp [levelFields]) _
  · exact hv

/-- A boundary after the load starts the stalls, shows the image, and lets power, the mix, the wake models and the wake path
follow in this order. -/
theorem exec_stallsStart {s : State} {im : Image} (himage : s.fab.image = some im) (hload : s.fab.loaded = true)
    (hon : s.strideOn = true) (hramp : s.fab.rampDown = none) (ms : Nat) (models : List Bool) :
    ∃ u v, u = (s.imageRuns im).levelsShown im ms ∧ v = (u.setB F.PWR_IN_STATUS_COLD_START false).syncPower ∧
      exec (.stallsStart ms models) s = s.done ((v.startMix v.remoteClass).verifyModels models).showBoot.wakeSync := by
  have hready : ¬ ((!s.fab.loaded) = true ∨ (!s.strideOn) = true ∨ s.fab.rampDown.isSome = true) := by simp [hload, hon, hramp]
  refine ⟨_, _, rfl, rfl, ?_⟩
  change execStallsStart ms models s = _
  unfold execStallsStart
  rw [himage]
  exact congrArg s.done (if_neg hready)

theorem State.imageRuns_shows (s : State) (im : Image) : (s.imageRuns im).fab = { s.fab with
      running := true, loaded := false, hidden := false, outRamp := Ramp.silent.aim true 240
      stalls := s.fab.stalls.map (fun (t : Stall) => { t with since := s.stride }) } ∧
    (s.imageRuns im).boot.audioAt = some s.stride ∧ (s.imageRuns im).getB F.BOOT_STATUS_LOCKED = true ∧
    (s.imageRuns im).get F.BOOT_STATUS_PHASE = 3 := by
  obtain ⟨c, hc⟩ : ∃ c, c = s.clocksSet := ⟨_, rfl⟩
  have hfab : c.fab = s.fab := by
    have := congrArg State.fab s.clocksSet_only.1
    rw [hc]
    exact this
  have hstride : c.stride = s.stride := by
    have := congrArg State.stride s.clocksSet_only.1
    rw [hc]
    exact this
  obtain ⟨w, hw⟩ : ∃ w, w = (c.fabricStarted (s.vinTaken im)).showImage im := ⟨_, rfl⟩
  have honly := (c.fabricStarted (s.vinTaken im)).showImage_only im
  rw [← hw] at honly
  have hwfab : w.fab = (c.fabricStarted (s.vinTaken im)).fab := by
    have := congrArg State.fab honly.1
    exact this
  have hwboot : w.boot = (c.fabricStarted (s.vinTaken im)).boot := by
    have := congrArg State.boot honly.1
    exact this
  have hruns : s.imageRuns im = (w.setB F.BOOT_STATUS_LOCKED true).set F.BOOT_STATUS_PHASE 3 := by
    rw [State.imageRuns, ← hc, ← hw]
  rw [hruns]
  refine ⟨?_, ?_, ?_, ?_⟩
  · rw [← hfab, ← hstride]
    exact hwfab
  · rw [← hstride]
    exact congrArg BootState.audioAt hwboot
  · rw [State.getB, State.get_set_other _ _ _ _ (by decide)]
    exact getB_setB_self w F.BOOT_STATUS_LOCKED true (by decide)
  · rw [State.get_set_self]
    rfl

/-! ### O41 -/

/-- Settles O41 (it holds): a full load builds its image or is refused, and the stalls start, as the lemmas above say. -/
theorem loadsBuildAndStallsStart : Obligations.LoadsBuildAndStallsStart := by
  refine ⟨fun s ev w hwant hidle hramp hload => ?_, fun s ms models im himage hload hon hramp => ?_⟩
  · obtain ⟨hbuilt, hrefused⟩ := exec_fullLoad (ev := ev) hwant hidle hramp hload
    exact ⟨fun im hcheck => ⟨_, _, rfl, hbuilt im hcheck, rfl, rfl, rfl, rfl⟩, fun code hcheck => hrefused code hcheck⟩
  · obtain ⟨u, v, hu, hv, hexec⟩ := exec_stallsStart himage hload hon hramp ms models
    obtain ⟨hfab, haudio, hlocked, hphase⟩ := s.imageRuns_shows im
    have hsettles := (s.imageRuns im).levelsShown_settles im ms
    rw [← hu] at hsettles
    have hufab : u.fab = (s.imageRuns im).fab := by
      have := congrArg State.fab hsettles.1
      exact this
    have huboot : u.boot = (s.imageRuns im).boot := by
      have := congrArg State.boot hsettles.1
      exact this
    refine ⟨u, v, hv, hexec, hufab.trans hfab, ?_, ?_, ?_⟩
    · rw [huboot, haudio]
    · rw [State.getB, hsettles.2 _ (by decide)]
      exact hlocked
    · rw [hsettles.2 _ (by decide), hphase]

end Sys2Proof.Machine
end

section
/-! STRIDE_BOUNDARY (R137, R336, R800): when there is a boundary and in which order it takes its parts, and the settlement of
O43. -/

namespace Sys2Proof.Machine

theorem exec_strideBoundary_unlocked {s : State} {x : StrideIn} (hon : s.strideOn = false)
    (hlock : s.getB F.CLK_STATUS_MEDIA_LOCK = false) : exec (.strideBoundary x) s = s.done s :=
  congrArg s.done (if_pos (by simp [hon, hlock]))

/-- The boundary's parts in their order: the stride that ends, the waiting writes and the sinks, the network, the mix and the
line die, the TDM ports and the media PLL, and the fabric's next stride. -/
theorem exec_strideBoundary {s : State} {x : StrideIn} (h : s.strideOn = true ∨ s.getB F.CLK_STATUS_MEDIA_LOCK = true) :
    ∃ r a b c : State,
      r = s.finishWork.stepStride.rampEnded ∧
      a = ((((r.stepAdc (sixOf x.adc)).micStride x.mic).rtcTicks x.ticks).decideStride).latchSinks.rampSinks ∧
      b = ((a.netStride x).mixStride x).lineStride x (r.adcOutputs x) ∧
      c = (b.tdmStride.1.stepPause.ringLpi).trackMedia x ∧
      exec (.strideBoundary x) s =
        s.done (c.fabStride (r.adcCaptured (r.adcOutputs x)) b.tdmStride.2).stepPwm.loadModel.commitFree := by
  have hgoes : ¬ (!s.strideOn && !s.getB F.CLK_STATUS_MEDIA_LOCK) = true := by
    rcases h with h | h <;> simp [h]
  exact ⟨_, _, _, _, rfl, rfl, rfl, rfl, congrArg s.done (if_neg hgoes)⟩

/-- Settles O43 (it holds): the boundary takes its parts in the model's order, and the counter steps or starts. -/
theorem strideBoundaryTakesItsParts : Obligations.StrideBoundaryTakesItsParts :=
  ⟨fun _ _ hon hlock => exec_strideBoundary_unlocked hon hlock, fun _ _ h => exec_strideBoundary h,
    fun _ hon => if_pos hon, fun _ hoff => if_neg (by simp [hoff])⟩

end Sys2Proof.Machine
end

section
/-! A stall's stride (R130, R137, R139–R143, R275): what its template's computation leaves of the state, how it starts and how it
commits, and the settlement of O44. -/

namespace Sys2Proof.Machine

variable {s t : State}

/-! ### One stall of the fabric -/

theorem State.n_of_stallAt {n : Nat} {u : Stall} (h : s.stallAt n = some u) : u.n = n := by
  have := List.find?_some h
  simpa using this

/-- A stall changed otherwise than in its number stands where it stood. -/
theorem State.stallAt_updStall {n : Nat} {g : Stall → Stall} (hg : ∀ u, (g u).n = u.n) (s : State) :
    (s.updStall n g).stallAt n = (s.stallAt n).map g := by
  have hpred : ((fun u : Stall => decide (u.n = n)) ∘ fun u => if u.n = n then g u else u) = fun u => decide (u.n = n) := by
    funext u
    simp only [Function.comp]
    split
    · next h => rw [hg, h]
    · rfl
  rw [State.stallAt, State.stallAt, State.updStall, List.find?_map, hpred]
  cases h : s.fab.stalls.find? (fun u => decide (u.n = n)) with
  | none => rfl
  | some u =>
    have hn : u.n = n := by
      have := List.find?_some h
      simpa using this
    simp [hn]

/-- What takes one slice is its stall. -/
theorem State.slices_single {u : Stall} (hlec : u.cfg.template ≠ 3) (haec : u.cfg.template ≠ 4) (s : State) : s.slices u = [u] := by
  simp [State.slices, hlec, haec]

theorem State.slice0_single {u : Stall} (hlec : u.cfg.template ≠ 3) (haec : u.cfg.template ≠ 4) (hslice : u.cfg.slice = 0)
    (s : State) : s.slice0 u = u.n := by
  simp [State.slice0, State.slices_single hlec haec, hslice]

theorem outwardSlice_single {u : Stall} (haec : u.cfg.template ≠ 4) (hslice : u.cfg.slice = 0) : outwardSlice u = true := by
  simp [outwardSlice, haec, hslice]

/-! ### What computing leaves (R140, R275) -/

/-- The fabric and the registers below the interop block are as they were: all that a template's computation leaves otherwise is
the free values drawn, the ramps of the node mix and the interop streams. -/
def Computed (s t : State) : Prop := t.fab = s.fab ∧ ∀ f : Fld, f.addr < 0x150000 → f.lo < 32 → t.get f = s.get f

theorem Computed.refl (s : State) : Computed s s := ⟨rfl, fun _ _ _ => rfl⟩

theorem Computed.trans {u : State} (h : Computed s t) (k : Computed t u) : Computed s u :=
  ⟨k.1.trans h.1, fun f haddr hlo => (k.2 f haddr hlo).trans (h.2 f haddr hlo)⟩

/-- A walk whose steps leave the rest leaves it, whatever is gathered on the way. -/
theorem Computed.foldl {α β : Type} {g : β × State → α → β × State} (h : ∀ a x, Computed a.2 (g a x).2) (l : List α) (a : β × State) :
    Computed a.2 (l.foldl g a).2 := by
  induction l generalizing a with
  | nil => exact Computed.refl _
  | cons x l ih => exact (h a x).trans (ih _)

theorem State.nlpTalk_computed (s : State) (u : Stall) : Computed s (s.nlpTalk u).2 := by
  unfold State.nlpTalk
  split
  · simp only
    split
    · exact Computed.refl _
    · exact Computed.refl _
  · exact ⟨rfl, fun _ _ _ => rfl⟩

theorem State.nlpStep_computed (s : State) (r : StallRec) (cap : Nat) (quiet : Bool) (res est : Nat) (b : NlpBand) :
    Computed s (s.nlpStep r cap quiet res est b).2 := ⟨rfl, fun _ _ _ => rfl⟩

theorem State.nlpNoise_computed (s : State) (bands : List NlpBand) : Computed s (s.nlpNoise bands).2 := by
  refine Computed.foldl (fun a b => ?_) bands ([], s)
  simp only
  split
  · exact Computed.refl _
  · exact ⟨rfl, fun _ _ _ => rfl⟩

theorem State.computeNlp_computed (s : State) (u : Stall) (x : Block) : Computed s (s.computeNlp u x).2.2 := by
  unfold State.computeNlp
  extract_lets m line est c talk quiet cap r n
  split
  · exact Computed.refl _
  · have hr : Computed s r.2 := by
      refine (s.nlpTalk_computed u).trans (Computed.foldl (fun a b => ?_) _ ([], (s.nlpTalk u).2))
      exact State.nlpStep_computed a.2 u.cfg cap quiet _ _ b.1
    refine hr.trans ?_
    simp only [n]
    split
    · exact State.nlpNoise_computed _ _
    · exact Computed.refl _

theorem State.computeTone_computed (s : State) (u : Stall) : Computed s (s.computeTone u).2.2 := by
  unfold State.computeTone
  extract_lets m on ramp
  split
  · exact Computed.refl _
  · exact ⟨rfl, fun _ _ _ => rfl⟩

theorem key_below_rxCount {f : Fld} (haddr : f.addr < 0x150000) (hlo : f.lo < 32) (k : Nat) :
    f.key ≠ (F.IOP_RX_CNT_COUNT k 3).key := by
  simp only [Fld.key, F.IOP_RX_CNT_COUNT]
  omega

theorem State.inc_computed (s : State) {g : Fld} (hg : ∀ f : Fld, f.addr < 0x150000 → f.lo < 32 → f.key ≠ g.key) :
    Computed s (s.inc g) := ⟨State.set_fab _ _ _, fun f haddr hlo => State.get_set_other _ _ _ _ (hg f haddr hlo)⟩

theorem State.updNet_computed (s : State) (g : NetNode → NetNode) : Computed s (s.updNet g) := ⟨rfl, fun _ _ _ => rfl⟩

theorem State.asrcChannel_computed (s : State) (limit ch : Nat) : Computed s (s.asrcChannel limit ch).2 := by
  unfold State.asrcChannel
  split
  · exact Computed.refl _
  · next k _ =>
    extract_lets adv pos step read slots miss u v
    have hu : Computed s u := by
      simp only [u]
      split
      · exact s.inc_computed fun f haddr hlo => key_below_rxCount haddr hlo k
      · exact Computed.refl _
    have hv : Computed s v := hu.trans (State.updNet_computed _ _)
    split <;> exact hv

theorem State.computeAsrc_computed (s : State) (u : Stall) : Computed s (s.computeAsrc u).2 := by
  unfold State.computeAsrc
  extract_lets base r
  refine Computed.foldl (fun a c => ?_) _ ([], s)
  exact State.asrcChannel_computed _ _ _

theorem State.stepRamps_computed (s : State) (u : Stall) : Computed s (s.stepRamps u).2 := by
  unfold State.stepRamps
  split <;> exact ⟨rfl, fun _ _ _ => rfl⟩

/-- Computing leaves the fabric and its registers, whatever the template but LEC and AEC. -/
theorem State.compute_computed {u : Stall} (hlec : u.cfg.template ≠ 3) (haec : u.cfg.template ≠ 4) (s : State) :
    Computed s (s.compute u).2.2.2 := by
  unfold State.compute
  simp only
  split
  · exact s.stepRamps_computed u
  · exact Computed.refl _
  · exact Computed.refl _
  · exact Computed.refl _
  · exact ⟨rfl, fun _ _ _ => rfl⟩
  · next h => exact absurd h hlec
  · next h => exact absurd h haec
  · exact s.computeNlp_computed u _
  · exact Computed.refl _
  · exact s.computeAsrc_computed u
  · split <;> exact ⟨rfl, fun _ _ _ => rfl⟩
  · exact ⟨rfl, fun _ _ _ => rfl⟩
  · exact s.computeTone_computed u
  · exact ⟨rfl, fun _ _ _ => rfl⟩

/-! ### A stall starts its stride (R137, R140) -/

theorem exec_stallStart {n : Fin 128} {u : Stall} (hu : s.stallAt n = some u) (hrun : s.stallRuns n = true)
    (hstart : u.started = false) (howes : u.owes = 0) (hready : s.stallReady u = true) :
    exec (.stallStart n) s = s.done (s.runStall n) := by
  change s.done (s.startStall n) = _
  simp only [State.startStall, hu, hrun, hstart, howes, hready, bne_self_eq_false, Bool.not_true, Bool.or_self, Bool.false_eq_true,
    if_false]

theorem key_stallSat : ∀ n : Fin 128, F.FAB_IRQ_SAT.key ≠ (F.FAB_STALL_STATUS_SAT n).key := by decide

/-- A stall that has started and holds what it has computed. -/
def Stall.computed (v : Stall) (r : List Block × Bool × StallMem × State) : Stall :=
  { v with started := true, outs := r.1.map (fun b => (satBlock b).1), mem := r.2.2.1 }

/-- The state in which stall `n` holds the outputs computed of `u`, and saturation shows. -/
def State.outputsKept (s : State) (n : Nat) (u : Stall) : State :=
  let x := (s.compute u).2.2.2.updStall n (fun v => v.computed (s.compute u))
  if (s.compute u).1.any (fun b => (satBlock b).2) || (s.compute u).2.1 then
    (x.setB (F.FAB_STALL_STATUS_SAT n) true).setB F.FAB_IRQ_SAT true
  else x

/-- What starting a stall of one slice leaves. -/
theorem State.outputsKept_shows {n : Fin 128} {u : Stall} (hu : s.stallAt n = some u) (hlec : u.cfg.template ≠ 3)
    (haec : u.cfg.template ≠ 4) : (s.outputsKept n u).stallAt n = some (u.computed (s.compute u)) ∧
    (s.outputsKept n u).getB (F.FAB_STALL_STATUS_SAT n) = (s.getB (F.FAB_STALL_STATUS_SAT n) ||
      ((s.compute u).1.any (fun b => (satBlock b).2) || (s.compute u).2.1)) ∧ (s.outputsKept n u).fab.links = s.fab.links := by
  obtain ⟨hfab, hget⟩ := State.compute_computed hlec haec s
  have haddr : ∀ n : Fin 128, (F.FAB_STALL_STATUS_SAT n).addr < 0x150000 := by decide
  have hold : (s.compute u).2.2.2.stallAt n = some u := by
    rw [State.stallAt, hfab]
    exact hu
  obtain ⟨x, hx⟩ : ∃ x, x = (s.compute u).2.2.2.updStall n (fun v => v.computed (s.compute u)) := ⟨_, rfl⟩
  have hat : x.stallAt n = some (u.computed (s.compute u)) := by
    rw [hx, State.stallAt_updStall (g := fun v => v.computed (s.compute u)) (fun _ => rfl), hold]
    rfl
  have hlinks : x.fab.links = s.fab.links := by
    rw [hx, ← hfab]
    rfl
  have hsat : x.getB (F.FAB_STALL_STATUS_SAT n) = s.getB (F.FAB_STALL_STATUS_SAT n) := by
    rw [hx, State.getB, State.getB, ← hget _ (haddr n) (by simp [F.FAB_STALL_STATUS_SAT])]
    rfl
  unfold State.outputsKept
  rw [← hx]
  simp only
  split
  · next h =>
    refine ⟨hat, ?_, hlinks⟩
    rw [h, Bool.or_true, State.getB, State.get_setB_other _ _ _ _ (key_stallSat n).symm]
    exact getB_setB_self _ _ _ rfl
  · next h =>
    refine ⟨hat, ?_, hlinks⟩
    rw [hsat, Bool.eq_false_iff.mpr h, Bool.or_false]

/-- A stall whose work does not reach beyond it computes and keeps its outputs. -/
theorem State.runStall_single {n : Fin 128} {u : Stall} (hu : s.stallAt n = some u) (hslice : u.cfg.slice = 0)
    (hlec : u.cfg.template ≠ 3) (haec : u.cfg.template ≠ 4) (hhist : u.cfg.template ≠ 8) :
    s.runStall n = s.outputsKept n u := by
  have hrun : s.runStall n = (s.outputsKept n u).echoWork n := by
    simp only [State.runStall, hu, hslice, hhist, State.outputsKept, Stall.computed, ne_eq, not_true_eq_false, false_and, if_false]
  have hecho : (u.computed (s.compute u)).cfg.template ≠ 3 ∧ (u.computed (s.compute u)).cfg.template ≠ 4 := ⟨hlec, haec⟩
  rw [hrun]
  simp only [State.echoWork, (State.outputsKept_shows hu hlec haec).1, hecho, ne_eq, not_false_eq_true, and_self, true_or, if_true]

/-! ### A stall commits its blocks (R130, R139, R140, R143, R146) -/

/-- A stall that owes the work of an earlier stride ends one stride of that. -/
theorem State.commitStall_owing {n : Nat} {u : Stall} (hu : s.stallAt n = some u) (hrun : s.stallRuns n = true)
    (howes : u.owes ≠ 0) (c mhz2 : Nat) : s.commitStall n c mhz2 =
      (s.set (F.FAB_STALL_CLK_MEASURED n) mhz2).updStall n (fun v => { v with owes := v.owes - 1 }) := by
  simp only [State.commitStall, hu, hrun, howes, Bool.not_true, Bool.false_eq_true, ne_eq, not_false_eq_true, if_false, if_true]

/-- A started stall of one slice that owes nothing, is not late and is not forced. -/
structure Started (u : Stall) : Prop where
  started : u.started = true
  working : u.worked = false
  owes : u.owes = 0
  uncommitted : u.committed = false
  punctual : u.lateNow = false
  own : u.fellBack = false
  lec : u.cfg.template ≠ 3
  aec : u.cfg.template ≠ 4
  slice : u.cfg.slice = 0
  free : u.force = false

/-- A stall as its commit at `c` leaves it, `e` being its layer's end. -/
def Stall.ended (v : Stall) (late : Bool) (e c : Nat) : Stall :=
  { v with worked := true, committed := !late, slackNow := if late || v.force then v.slackNow else some (e - c) }

/-- The state in which a stall's commit and its measured clock are noted. -/
def State.commitNoted (s : State) (n mhz2 : Nat) (late : Bool) (e c : Nat) : State :=
  ((s.set (F.FAB_STALL_CLK_MEASURED n) mhz2).updStall n (fun v => v.ended late e c)).showWindow n

theorem State.commitStall_started {n : Nat} {u : Stall} (hu : s.stallAt n = some u) (hrun : s.stallRuns n = true)
    (k : Started u) (c mhz2 : Nat) : s.commitStall n c mhz2 = (s.commitNoted n mhz2
      (decide (s.get (F.FAB_LAYER_END_END u.layer) < c)) (s.get (F.FAB_LAYER_END_END u.layer)) c).outward n := by
  have hothers : s.othersWorked u = true := by simp [State.othersWorked, State.slices_single k.lec k.aec]
  simp only [State.commitStall, hu, hrun, k.owes, k.started, k.working, hothers, k.punctual, k.own, Bool.not_true, Bool.or_self,
    Bool.and_false, Bool.false_or, Bool.false_eq_true, ne_eq, not_true_eq_false, if_false, State.commitNoted, Stall.ended]

theorem State.showWindow_only (s : State) (n : Nat) :
    Only [F.FAB_STALL_WINDOW_LATE_1S n, F.FAB_STALL_WINDOW_MIN_SLACK n] s (s.showWindow n) := by
  unfold State.showWindow
  split
  · exact Only.refl _ _
  · exact ((Only.refl _ _).set (by simp) _).set (by simp) _

/-- What noting a commit leaves. -/
theorem State.commitNoted_shows {n : Fin 128} {u : Stall} (hu : s.stallAt n = some u) (mhz2 : Nat) (late : Bool) (e c : Nat) :
    (s.commitNoted n mhz2 late e c).stallAt n = some (u.ended late e c) ∧
    (s.commitNoted n mhz2 late e c).fab.links = s.fab.links ∧
    (s.commitNoted n mhz2 late e c).get (F.FAB_STALL_CLK_MEASURED n) = mhz2 % 2 ^ (F.FAB_STALL_CLK_MEASURED n).width ∧
    ∀ f : Fld, f.key ∉ [F.FAB_STALL_CLK_MEASURED n, F.FAB_STALL_WINDOW_LATE_1S n, F.FAB_STALL_WINDOW_MIN_SLACK n].map Fld.key →
      (s.commitNoted n mhz2 late e c).get f = s.get f := by
  obtain ⟨x, hx⟩ : ∃ x, x = (s.set (F.FAB_STALL_CLK_MEASURED n) mhz2).updStall n (fun v => v.ended late e c) := ⟨_, rfl⟩
  have hget : ∀ f, x.get f = (s.set (F.FAB_STALL_CLK_MEASURED n) mhz2).get f := fun f => by
    rw [hx]
    rfl
  have hwindow := x.showWindow_only n
  have hfab : (x.showWindow n).fab = x.fab := by
    have := congrArg State.fab hwindow.1
    exact this
  rw [State.commitNoted, ← hx]
  refine ⟨?_, ?_, ?_, fun f hf => ?_⟩
  · rw [State.stallAt, hfab, ← State.stallAt, hx, State.stallAt_updStall (g := fun v => v.ended late e c) (fun _ => rfl)]
    exact congrArg (Option.map _) hu
  · rw [hfab, hx]
    rfl
  · rw [hwindow.2 _ (by simp [F.FAB_STALL_CLK_MEASURED, F.FAB_STALL_WINDOW_LATE_1S, F.FAB_STALL_WINDOW_MIN_SLACK, Fld.key]; omega),
      hget, State.get_set_self]
  · simp only [List.map_cons, List.map_nil, List.mem_cons, List.not_mem_nil, or_false, not_or] at hf
    rw [hwindow.2 f (by simp [hf]), hget, State.get_set_other _ _ _ _ hf.1]

/-- A commit in time carries the stall's blocks to its outward links; a late one leaves them. -/
theorem State.outward_single {n : Nat} {u : Stall} (hu : s.stallAt n = some u) (hlec : u.cfg.template ≠ 3)
    (haec : u.cfg.template ≠ 4) (hslice : u.cfg.slice = 0) (hfree : u.force = false) (hlate : u.lateNow = false) :
    (u.committed = false → s.outward n = s) ∧
    (u.committed = true → s.outward n = s.pushOut u (fun l => u.outs.getD l.cfg.srcPort (silence l.cfg.channels))) := by
  have hn := State.n_of_stallAt hu
  refine ⟨fun hc => ?_, fun hc => ?_⟩
  · simp only [State.outward, hu, hc, Bool.not_false, Bool.true_or, if_true]
  · simp only [State.outward, hu, hc, outwardSlice_single haec hslice, hfree, State.slices_single hlec haec, hlate, List.any_cons,
      List.any_nil, Bool.not_true, Bool.or_self, Bool.false_eq_true, if_false, State.slice0_single hlec haec hslice, hn, Option.map_some,
      Option.getD_some]

/-! ### O44 -/

/-- Settles O44 (it holds): a stall starts, computes and commits, as the lemmas above say. -/
theorem stallsComputeAndCommit : Obligations.StallsComputeAndCommit := by
  refine ⟨fun s n u hu hrun hstart howes hready => ?_, fun s n u hu hrun hstart howes hready hslice htemplate => ?_,
    fun s n u c mhz2 hu hrun howes => ?_,
    fun s n u c mhz2 hu hrun hstart hwork howes hopen hlate hown hlec haec hslice hfree => ?_⟩
  · rw [exec_stallStart hu hrun hstart howes hready]
    rfl
  · simp only [List.mem_cons, List.not_mem_nil, or_false, not_or] at htemplate
    obtain ⟨hlec, haec, hhist⟩ := htemplate
    have hstall : s.stallReady u = true := by
      rw [State.stallReady, if_pos hslice, State.n_of_stallAt hu]
      exact hready
    obtain ⟨hat, hsat, hlinks⟩ := State.outputsKept_shows hu hlec haec
    have hexec := exec_stallStart hu hrun hstart howes hstall
    rw [State.runStall_single hu hslice hlec haec hhist] at hexec
    exact ⟨_, hexec, hat, hsat, hlinks⟩
  · change s.done (s.commitStall n c mhz2) = _
    rw [State.commitStall_owing hu hrun howes]
    rfl
  · have k : Started u := ⟨hstart, hwork, howes, hopen, hlate, hown, hlec, haec, hslice, hfree⟩
    obtain ⟨e, he⟩ : ∃ e, e = s.get (F.FAB_LAYER_END_END u.layer) := ⟨_, rfl⟩
    have hexec : exec (.blockCommit n c mhz2) s = s.done ((s.commitNoted n mhz2 (decide (e < c)) e c).outward n) := by
      rw [he]
      exact congrArg s.done (State.commitStall_started hu hrun k c mhz2)
    obtain ⟨hat, hlinks, hclock, hframe⟩ := State.commitNoted_shows hu mhz2 (decide (e < c)) e c
    obtain ⟨hstays, hgoes⟩ := State.outward_single hat hlec haec hslice hfree hlate
    rw [← he]
    by_cases hin : e < c
    · rw [hstays (by simp [Stall.ended, hin])] at hexec
      refine ⟨_, hexec, hclock, hframe, fun h => absurd h (by omega), fun _ => ⟨hat.trans ?_, hlinks⟩⟩
      simp [Stall.ended, hin, hopen]
    · rw [hgoes (by simp [Stall.ended, hin])] at hexec
      refine ⟨_, hexec, hclock, hframe, fun _ => ⟨hat.trans ?_, ?_⟩, fun h => absurd h hin⟩
      · simp [Stall.ended, hin, hfree]
      · have hz := State.slice0_single (u := u.ended (decide (e < c)) e c) hlec haec hslice
          (s.commitNoted n mhz2 (decide (e < c)) e c)
        have hn : (u.ended (decide (e < c)) e c).n = n := State.n_of_stallAt hat
        rw [← hlinks]
        simp only [State.pushOut, hz, hn]
        rfl

end Sys2Proof.Machine
end

section
/-! Late stalls, their fallbacks and the clocks that follow the slack (R137 step 4, R139–R141, R146, R150, R157), and the
settlement of O45. -/

namespace Sys2Proof.Machine

variable {s : State} {u : Stall}

/-! ### The end of a layer -/

/-- What the end of its layer brings a stall of one slice that has no fallback yet (R139, R141, R157). -/
def State.judged (s : State) (u : Stall) : State :=
  if s.lame u.n = true ∨ u.force = true then s.writeFallback u
  else if u.committed = true ∧ u.lateNow = false then s
  else s.lateInstance u

theorem State.layerEnd_single {k : Nat} (hstalls : s.fab.stalls = [u]) (hlayer : u.layer = k) (hown : u.fellBack = false)
    (hlec : u.cfg.template ≠ 3) (haec : u.cfg.template ≠ 4) (hslice : u.cfg.slice = 0) : s.layerEnd k = s.judged u := by
  have hat : s.stallAt u.n = some u := by simp [State.stallAt, hstalls]
  have hnow : ¬ (u.layer ≠ k ∨ u.fellBack = true) := by simp [hlayer, hown]
  simp only [State.layerEnd, hstalls, List.foldl_cons, List.foldl_nil, hat, if_neg hnow, outwardSlice_single haec hslice, if_true,
    State.slices_single hlec haec, List.all_cons, List.all_nil, Bool.and_true, State.judged]
  cases s.lame u.n <;> cases u.force <;> cases u.committed <;> cases u.lateNow <;> rfl

theorem exec_layerEnd_stopped (hstop : s.fab.running = false) (k : Fin 8) : exec (.layerEnd k) s = s.done s :=
  congrArg s.done (if_neg (by simp [hstop]))

theorem exec_layerEnd (hrun : s.fab.running = true) (k : Fin 8) : exec (.layerEnd k) s = s.done (s.layerEnd k) :=
  congrArg s.done (if_pos hrun)

/-- The fallback of a stall of one slice (R141). -/
theorem State.fallbackBlock_single (hlec : u.cfg.template ≠ 3) (haec : u.cfg.template ≠ 4) (s : State) (l : Link) :
    (u.cfg.fallback = 0 →
      s.fallbackBlock u l = (l.slots.headD (silence l.cfg.channels)).map (fun c => c.map (fun x => truncDiv x 2))) ∧
    (u.cfg.fallback = 1 → s.fallbackBlock u l =
      (List.range l.cfg.channels).map (fun c => channel ((s.inBlock u.n l.cfg.srcPort).getD []) c)) ∧
    (u.cfg.fallback = 2 → s.fallbackBlock u l = silence l.cfg.channels) := by
  refine ⟨fun h => ?_, fun h => ?_, fun h => ?_⟩
  · simp only [State.fallbackBlock, h]
  · have hz : s.slice0 u = u.n := by
      simp only [State.slice0, State.slices_single hlec haec]
      split
      · next v hv =>
        have := List.mem_of_find?_eq_some hv
        rw [List.mem_singleton.mp this]
      · rfl
    simp only [State.fallbackBlock, h, hlec, haec, or_self, false_and, if_false, hz]
  · simp only [State.fallbackBlock, h]

/-! ### Clocks (R146) -/

/-- A stall with slack to spare over 8,000 strides is to run slower. -/
theorem exec_clockSlackCheck1S {n : Fin 128} {m cur : Nat} (hu : s.stallAt n = some u) (hrun : s.stallRuns n = true)
    (hsince : u.since < s.stride) (hcur : cur = u.nextSet.getD (s.get (F.FAB_STALL_CLK_SETPOINT n)))
    (hdue : (s.stride - u.since) % 8000 = 0) (hm : minSlack s.stride 8000 u.slacks = some m)
    (hspare : s.layerLength u.layer ≤ 5 * m) (hlate : lateBefore s.stride u.lateAt = []) (hmin : u.cfg.clockMin < cur) :
    exec (.clockSlackCheck1S n) s = s.done (s.updStall n (fun v => { v with nextSet := some (cur - 1) })) := by
  change execClockSlackCheck1S n s = _
  simp only [execClockSlackCheck1S, hu, hrun, hsince, hdue, hm, hspare, hlate, ← hcur, hmin, decide_true, beq_self_eq_true,
    List.isEmpty_nil, Bool.and_self, if_true]

/-- A stall short of slack over 64 strides is to run faster. -/
theorem exec_clockSlackCheck64 {n : Fin 128} {m cur : Nat} (hu : s.stallAt n = some u) (hrun : s.stallRuns n = true)
    (hsince : u.since < s.stride) (hcur : cur = u.nextSet.getD (s.get (F.FAB_STALL_CLK_SETPOINT n)))
    (hdue : (s.stride - u.since) % 64 = 0) (hm : minSlack s.stride 64 u.slacks = some m)
    (hshort : 20 * m < s.layerLength u.layer) (hcap : cur < s.get F.FAB_CLK_CAP_ACTIVE_CAP) :
    exec (.clockSlackCheck64 n) s = s.done (s.updStall n (fun v => { v with nextSet := some (cur + 1) })) := by
  change execClockSlackCheck64 n s = _
  simp only [execClockSlackCheck64, hu, hrun, hsince, hdue, hm, hshort, ← hcur, hcap, decide_true, beq_self_eq_true, Bool.and_self,
    if_true]

/-! ### O45 -/

/-- Settles O45 (it holds): a layer's end judges a lone stall, and the clocks follow the slack, as the lemmas above say. -/
theorem lateStallsAndTheirClocks : Obligations.LateStallsAndTheirClocks := by
  refine ⟨⟨fun s k hstop => ?_, fun s k u hrun hstalls hlayer hown hlec haec hslice => ?_,
    fun s u l hlec haec => State.fallbackBlock_single hlec haec s l⟩, fun s n u m cur hu hrun hsince hcur =>
    ⟨fun hdue hm hspare hlate hmin => ?_, fun hdue hm hshort hcap => ?_⟩⟩
  · rw [exec_layerEnd_stopped hstop]
    rfl
  · have hexec := exec_layerEnd hrun k
    rw [State.layerEnd_single hstalls hlayer hown hlec haec hslice] at hexec
    refine ⟨fun h => ?_, fun hlame hforce => ⟨fun hcommitted hpunctual => ?_, fun hopen => ?_⟩⟩
    · rw [hexec, State.judged, if_pos h]
      rfl
    · rw [hexec, State.judged, if_neg (by simp [hlame, hforce]), if_pos ⟨hcommitted, hpunctual⟩]
      rfl
    · rw [hexec, State.judged, if_neg (by simp [hlame, hforce]), if_neg (by simp [hopen])]
      rfl
  · rw [exec_clockSlackCheck1S hu hrun hsince hcur hdue hm hspare hlate hmin]
    rfl
  · rw [exec_clockSlackCheck64 hu hrun hsince hcur hdue hm hshort hcap]
    rfl

end Sys2Proof.Machine
end

section
/-! Line balances (R233, R237, R240, R241, R243): the steps of a balance, the trims nearest to a line, the result, and the
settlement of O46. -/

namespace Sys2Proof.Machine

variable {s : State}

/-! ### The steps (R240, R241) -/

theorem State.balDue_iff {c k strides : Nat} (hbusy : s.getB (F.HYB_BAL_STATUS_BUSY c) = true)
    (hstep : s.get (F.HYB_BAL_STATUS_STEP c) = k) (hat : (s.bal c).at_ + strides ≤ s.stride) : s.balDue c k strides = true := by
  simp [State.balDue, hbusy, hstep, hat]

theorem exec_balanceSilence {c : Fin 4} (hbusy : s.getB (F.HYB_BAL_STATUS_BUSY c) = true)
    (hstep : s.get (F.HYB_BAL_STATUS_STEP c) = 0) : exec (.balanceSilence c) s =
      s.done (((s.set (F.HYB_BAL_STATUS_STEP c) 2).updBal c (fun b => { b with
        at_ := s.stride, savedR := s.get (F.HYB_CH_TRIM_R_TRIM c), savedC := s.get (F.HYB_CH_TRIM_C_TRIM c)
        savedClear := s.line.tapsClear.testBit c, silent := true, restore := false, fitR := 0, fitC := 0 })).muteDac c) :=
  congrArg s.done (if_pos (by simp [hbusy, hstep]))

theorem exec_balanceNoiseCheck {c : Fin 4} (hdue : s.balDue c 2 160 = true) (level : Int) :
    exec (.balanceNoiseCheck c level) s =
      s.done (if -300 < level then s.balAbort c 1 else s.set (F.HYB_BAL_STATUS_STEP c) 4) :=
  congrArg s.done (if_pos hdue)

theorem exec_balanceMeasure {c : Fin 4} (hdue : s.balDue c 6 4160 = true) :
    exec (.balanceMeasure c) s = s.done (s.set (F.HYB_BAL_STATUS_STEP c) 7) := congrArg s.done (if_pos hdue)

/-! ### The fit (R237, R240) -/

theorem State.nearest_eq (s : State) {n d : Nat} (hd : 2 * (n % d) ≠ d) : s.nearest n d = ((2 * n + d) / (2 * d), s) :=
  if_neg hd

/-- Where no code lies exactly between two, the trim of a line is the nearest code, and nothing is drawn. -/
theorem State.nearest_only (s : State) (n d : Nat) : ∃ k, (s.nearest n d).2 = { s with freeCtr := k } := by
  unfold State.nearest
  split <;> exact ⟨_, rfl⟩

/-- What a fit within the range leaves, the trims being `r` and `k` in a state that has drawn its free values. -/
def State.fitted (s : State) (c lineR lineC r k : Nat) : State :=
  let u := (((s.set (F.HYB_CH_TRIM_R_TRIM c) (min 31 r)).set (F.HYB_CH_TRIM_C_TRIM c) (min 31 k)).set (F.HYB_BAL_STATUS_STEP c)
    6).updBal c (fun b => { b with fitR := lineR, fitC := lineC })
  { u with line := { u.line with tapsClear := putBit u.line.tapsClear c true } }

theorem exec_balanceFit_outside {c : Fin 4} (hdue : s.balDue c 4 1760 = true) {lineR lineC : Nat}
    (hout : lineR < 190 ∨ 830 < lineR ∨ 3150 < lineC) : exec (.balanceFit c lineR lineC) s = s.done (s.balAbort c 2) := by
  change execBalanceFit c lineR lineC s = _
  simp only [execBalanceFit, hdue, hout, if_true]

theorem exec_balanceFit {c : Fin 4} (hdue : s.balDue c 4 1760 = true) {lineR lineC : Nat} (hlow : 190 ≤ lineR)
    (hhigh : lineR ≤ 830) (hcap : lineC ≤ 3150) : exec (.balanceFit c lineR lineC) s =
      s.done (((s.nearest (lineR - 200) 20).2.nearest lineC 100).2.fitted c lineR lineC (s.nearest (lineR - 200) 20).1
        ((s.nearest (lineR - 200) 20).2.nearest lineC 100).1) := by
  have hin : ¬ (lineR < 190 ∨ 830 < lineR ∨ 3150 < lineC) := by omega
  change execBalanceFit c lineR lineC s = _
  simp only [execBalanceFit, hdue, if_neg hin, if_true]
  rfl

theorem key_trims : ∀ c : Fin 4, (F.HYB_CH_TRIM_R_TRIM c).key ≠ (F.HYB_CH_TRIM_C_TRIM c).key ∧
    (F.HYB_CH_TRIM_R_TRIM c).key ≠ (F.HYB_BAL_STATUS_STEP c).key ∧ (F.HYB_CH_TRIM_C_TRIM c).key ≠ (F.HYB_BAL_STATUS_STEP c).key := by
  decide

theorem State.get_fitted (s : State) (c lineR lineC r k : Nat) (f : Fld) : (s.fitted c lineR lineC r k).get f =
    (((s.set (F.HYB_CH_TRIM_R_TRIM c) (min 31 r)).set (F.HYB_CH_TRIM_C_TRIM c) (min 31 k)).set (F.HYB_BAL_STATUS_STEP c) 6).get f := rfl

theorem State.pending_fitted (s : State) (c lineR lineC r k : Nat) : (s.fitted c lineR lineC r k).pending = s.pending := rfl

theorem State.fitted_trims (s : State) (c : Fin 4) (lineR lineC r k : Nat) :
    (s.fitted c lineR lineC r k).get (F.HYB_BAL_STATUS_STEP c) = 6 ∧
    (s.fitted c lineR lineC r k).get (F.HYB_CH_TRIM_R_TRIM c) = min 31 r ∧
    (s.fitted c lineR lineC r k).get (F.HYB_CH_TRIM_C_TRIM c) = min 31 k := by
  obtain ⟨hrc, hrs, hcs⟩ := key_trims c
  have hmod : ∀ n, min 31 n % 2 ^ 5 = min 31 n := fun n => Nat.mod_eq_of_lt (by omega)
  simp only [State.get_fitted]
  refine ⟨State.get_set_self _ _ _, ?_, ?_⟩
  · rw [State.get_set_other _ _ _ _ hrs, State.get_set_other _ _ _ _ hrc, State.get_set_self]
    exact hmod r
  · rw [State.get_set_other _ _ _ _ hcs, State.get_set_self]
    exact hmod k

theorem testBit_putBit_same (v n : Nat) : (putBit v n true).testBit n = true := by rw [testBit_putBit, if_pos rfl]

/-- A fit is held for the result, and the filter is cleared. -/
theorem State.fitted_holds {c : Fin 4} (hlen : s.line.bal.length = 4) (lineR lineC r k : Nat) :
    ((s.fitted c lineR lineC r k).bal c).fitR = lineR ∧ ((s.fitted c lineR lineC r k).bal c).fitC = lineC ∧
    (s.fitted c lineR lineC r k).line.tapsClear.testBit c = true := by
  have hlt : c.val < s.line.bal.length := by omega
  have hbal : (s.fitted c lineR lineC r k).bal c = { s.bal c with fitR := lineR, fitC := lineC } := by
    rw [State.bal]
    change (s.line.bal.set c { s.bal c with fitR := lineR, fitC := lineC }).getD c Bal.none_ = _
    rw [List.getD_eq_getElem _ _ (by simpa using hlt), List.getElem_set_self]
  rw [hbal]
  exact ⟨rfl, rfl, testBit_putBit_same _ _⟩

/-! ### The result (R233, R240, R565) -/

/-- The data of a balance's result. -/
def State.balData (s : State) (c thl : Nat) : List (Fld × Nat) :=
  [(F.HYB_BAL_RESULT_ERR_CODE c, 0), (F.HYB_BAL_RESULT_THL c, thl), (F.HYB_BAL_RESULT_LINE_R c, (s.bal c).fitR),
   (F.HYB_BAL_RESULT_LINE_C c, (s.bal c).fitC),
   (F.HYB_BAL_RESULT_DRIVE_PK c, drivePeak (s.get (F.HYB_CH_CFG_LEVEL c)) (s.bal c).fitR),
   (F.HYB_BAL_RESULT_C_TRIM c, s.get (F.HYB_CH_TRIM_C_TRIM c)), (F.HYB_BAL_RESULT_R_TRIM c, s.get (F.HYB_CH_TRIM_R_TRIM c))]

/-- The fields that the end of a balance writes beside its result. -/
def balEndFields (c : Nat) : List Fld := [F.HYB_CH_STATUS_STALE c, F.HYB_BAL_STATUS_STEP c, F.HYB_BAL_STATUS_BUSY c]

/-- The channel is free, its balance no longer stale. -/
def State.balFree (s : State) (c : Nat) : State :=
  ((s.setB (F.HYB_CH_STATUS_STALE c) false).set (F.HYB_BAL_STATUS_STEP c) 0).setB (F.HYB_BAL_STATUS_BUSY c) false

/-- The drive takes the line's resistance, and what the balance held back returns at the boundary. -/
def State.balRestored (s : State) (c r : Nat) : State :=
  (({ s with line := { s.line with driveR := s.line.driveR.set c r } } : State).clearBound c).updBal c (fun b => { b with restore := true })

theorem exec_balanceResult {c : Fin 4} (hdue : s.balDue c 7 4960 = true) (thl : Nat) : exec (.balanceResult c thl) s =
    s.done (((s.writeCell (0xC0020 + 0x100 * c) false (s.balData c thl)).balFree c).balRestored c (s.bal c).fitR) :=
  congrArg s.done (if_pos hdue)

theorem State.clearBound_frame (s : State) (c : Nat) : ∃ e, s.clearBound c = { s with echo := e } := by
  have hwalk : ∀ (l : List Nat) (x : State), ∃ e, l.foldl (fun s i =>
      if s.echoBind i = some c then s.updEcho i (fun e => { e with resetNext := true }) else s) x = { x with echo := e } := by
    intro l
    induction l with
    | nil => exact fun x => ⟨x.echo, rfl⟩
    | cons i l ih =>
      intro x
      have hstep : ∃ e, (if x.echoBind i = some c then x.updEcho i (fun e => { e with resetNext := true }) else x) =
          { x with echo := e } := by
        split
        · exact ⟨_, rfl⟩
        · exact ⟨x.echo, rfl⟩
      obtain ⟨e, he⟩ := hstep
      obtain ⟨e', he'⟩ := ih ({ x with echo := e })
      exact ⟨e', by rw [List.foldl_cons, he, he']⟩
  exact hwalk _ _

/-- Returning what was held back writes no field, and the drive stands at the line's resistance. -/
theorem State.balRestored_shows {c : Fin 4} (hlen : s.line.driveR.length = 4) (r : Nat) :
    (s.balRestored c r).regs = s.regs ∧ (s.balRestored c r).pending = s.pending ∧
    (s.balRestored c r).line.driveR.getD c 0 = r := by
  obtain ⟨e, he⟩ := ({ s with line := { s.line with driveR := s.line.driveR.set c r } } : State).clearBound_frame c
  rw [State.balRestored, he]
  refine ⟨rfl, rfl, ?_⟩
  change (s.line.driveR.set c r).getD c 0 = r
  rw [List.getD_eq_getElem _ _ (by simp only [List.length_set]; omega), List.getElem_set_self]

/-- The fields of a balance's result. -/
def balDataFields (c : Nat) : List Fld :=
  [F.HYB_BAL_RESULT_ERR_CODE c, F.HYB_BAL_RESULT_THL c, F.HYB_BAL_RESULT_LINE_R c, F.HYB_BAL_RESULT_LINE_C c,
   F.HYB_BAL_RESULT_DRIVE_PK c, F.HYB_BAL_RESULT_C_TRIM c, F.HYB_BAL_RESULT_R_TRIM c]

theorem State.keys_balData (s : State) (c thl : Nat) :
    (s.balData c thl).map (fun d => d.1.key) = (balDataFields c).map Fld.key := rfl

theorem balResult_keys : ∀ c : Fin 4, (∀ f ∈ cellFields (0xC0020 + 0x100 * c), f.key ∉ (balDataFields c).map Fld.key) ∧
    ((balDataFields c).map Fld.key).Nodup ∧
    (∀ f ∈ cellFields (0xC0020 + 0x100 * c) ++ balDataFields c, f.key ∉ (balEndFields c).map Fld.key) := by decide

theorem key_balEnd : ∀ c : Fin 4, (F.HYB_CH_STATUS_STALE c).key ≠ (F.HYB_BAL_STATUS_STEP c).key ∧
    (F.HYB_CH_STATUS_STALE c).key ≠ (F.HYB_BAL_STATUS_BUSY c).key ∧
    (F.HYB_BAL_STATUS_STEP c).key ≠ (F.HYB_BAL_STATUS_BUSY c).key := by decide

theorem State.balFree_only (s : State) (c : Nat) : Only (balEndFields c) s (s.balFree c) :=
  (((Only.refl _ _).setB (by simp [balEndFields]) _).set (by simp [balEndFields]) _).setB (by simp [balEndFields]) _

theorem State.balFree_shows (s : State) (c : Fin 4) : (s.balFree c).getB (F.HYB_CH_STATUS_STALE c) = false ∧
    (s.balFree c).get (F.HYB_BAL_STATUS_STEP c) = 0 ∧ (s.balFree c).getB (F.HYB_BAL_STATUS_BUSY c) = false := by
  obtain ⟨hstep, hbusy, hfree⟩ := key_balEnd c
  refine ⟨?_, ?_, getB_setB_self _ _ _ rfl⟩
  · rw [State.balFree, getB_setB_other _ _ _ _ hbusy, State.getB, State.get_set_other _ _ _ _ hstep]
    exact getB_setB_self _ _ _ rfl
  · rw [State.balFree, State.get_setB_other _ _ _ _ hfree, State.get_set_self]
    rfl

/-- A balance that ends well shows its result, and its channel is free. -/
theorem State.balanceResult_shows {c : Fin 4} (hdue : s.balDue c 7 4960 = true) (hlen : s.line.driveR.length = 4) (thl : Nat) :
    ∃ t, exec (.balanceResult c thl) s = .next t ∧ t.get (F.HYB_BAL_RESULT_ERR_CODE c) = 0 ∧
      t.get (F.HYB_BAL_RESULT_THL c) = thl % 2 ^ (F.HYB_BAL_RESULT_THL c).width ∧
      t.get (F.HYB_BAL_RESULT_LINE_R c) = (s.bal c).fitR % 2 ^ (F.HYB_BAL_RESULT_LINE_R c).width ∧
      t.get (F.HYB_BAL_RESULT_LINE_C c) = (s.bal c).fitC % 2 ^ (F.HYB_BAL_RESULT_LINE_C c).width ∧
      t.get (F.HYB_BAL_RESULT_R_TRIM c) = s.get (F.HYB_CH_TRIM_R_TRIM c) ∧
      t.get (F.HYB_BAL_RESULT_C_TRIM c) = s.get (F.HYB_CH_TRIM_C_TRIM c) ∧
      t.getB (cellReady (0xC0020 + 0x100 * c)) = true ∧ t.getB (cellFresh (0xC0020 + 0x100 * c)) = true ∧
      t.getB (cellErr (0xC0020 + 0x100 * c)) = false ∧ t.getB (F.HYB_CH_STATUS_STALE c) = false ∧
      t.get (F.HYB_BAL_STATUS_STEP c) = 0 ∧ t.getB (F.HYB_BAL_STATUS_BUSY c) = false ∧
      t.line.driveR.getD c 0 = (s.bal c).fitR := by
  obtain ⟨hstatus, hnodup, hapart⟩ := balResult_keys c
  have hstatus' : ∀ f ∈ cellFields (0xC0020 + 0x100 * c), f.key ∉ (s.balData c thl).map (fun d => d.1.key) := by
    rw [State.keys_balData]
    exact hstatus
  have hnodup' : ((s.balData c thl).map (fun d => d.1.key)).Nodup := by
    rw [State.keys_balData]
    exact hnodup
  obtain ⟨-, hready, hfresh, herr, -, hdata, honly⟩ :=
    resultsCompleteInTheirCell s (0xC0020 + 0x100 * c) false (s.balData c thl) hstatus' hnodup'
  have hexec := exec_balanceResult hdue thl
  obtain ⟨w, hw⟩ : ∃ w, w = s.writeCell (0xC0020 + 0x100 * c) false (s.balData c thl) := ⟨_, rfl⟩
  rw [← hw] at hexec hready hfresh herr hdata honly
  have hline : w.line = s.line := by
    have := congrArg State.line honly.1
    exact this
  have hfreeOnly := w.balFree_only c
  have hfreeLine : (w.balFree c).line = s.line := by
    have := congrArg State.line hfreeOnly.1
    exact Eq.trans this hline
  obtain ⟨hstale, hstep, hbusy⟩ := w.balFree_shows c
  obtain ⟨hregs, hpending, hdrive⟩ := (w.balFree c).balRestored_shows (c := c) (by rw [hfreeLine, hlen]) (s.bal c).fitR
  have hget : ∀ f, ((w.balFree c).balRestored c (s.bal c).fitR).get f = (w.balFree c).get f := State.get_of_regs hregs
  have hcell : ∀ f ∈ cellFields (0xC0020 + 0x100 * c) ++ balDataFields c,
      ((w.balFree c).balRestored c (s.bal c).fitR).get f = w.get f := fun f hf => by
    rw [hget, hfreeOnly.2 f (hapart f hf)]
  have hdatum : ∀ d ∈ s.balData c thl, d.1 ∈ balDataFields c →
      ((w.balFree c).balRestored c (s.bal c).fitR).get d.1 = d.2 % 2 ^ d.1.width := fun d hd hf => by
    rw [hcell _ (List.mem_append_right _ hf), hdata d hd]
  have hflag : ∀ f ∈ cellFields (0xC0020 + 0x100 * c),
      ((w.balFree c).balRestored c (s.bal c).fitR).getB f = w.getB f := fun f hf => by
    rw [State.getB, hcell f (List.mem_append_left _ hf), ← State.getB]
  have hfield : ∀ f, ((w.balFree c).balRestored c (s.bal c).fitR).getB f = (w.balFree c).getB f := fun f => by
    rw [State.getB, hget, ← State.getB]
  refine State.finish hexec ((hpending.trans hfreeOnly.pending).trans honly.pending) ⟨?_, ?_, ?_, ?_, ?_, ?_, ?_, ?_, ?_, ?_, ?_, ?_,
    hdrive⟩
  · exact (hdatum (F.HYB_BAL_RESULT_ERR_CODE c, 0) (by simp [State.balData]) (by simp [balDataFields])).trans rfl
  · exact hdatum (F.HYB_BAL_RESULT_THL c, thl) (by simp [State.balData]) (by simp [balDataFields])
  · exact hdatum (F.HYB_BAL_RESULT_LINE_R c, (s.bal c).fitR) (by simp [State.balData]) (by simp [balDataFields])
  · exact hdatum (F.HYB_BAL_RESULT_LINE_C c, (s.bal c).fitC) (by simp [State.balData]) (by simp [balDataFields])
  · exact (hdatum (F.HYB_BAL_RESULT_R_TRIM c, s.get (F.HYB_CH_TRIM_R_TRIM c)) (by simp [State.balData])
      (by simp [balDataFields])).trans (Nat.mod_eq_of_lt (s.get_lt (F.HYB_CH_TRIM_R_TRIM c)))
  · exact (hdatum (F.HYB_BAL_RESULT_C_TRIM c, s.get (F.HYB_CH_TRIM_C_TRIM c)) (by simp [State.balData])
      (by simp [balDataFields])).trans (Nat.mod_eq_of_lt (s.get_lt (F.HYB_CH_TRIM_C_TRIM c)))
  · rw [hflag _ (by simp [cellFields]), hready]
  · rw [hflag _ (by simp [cellFields]), hfresh]
  · rw [hflag _ (by simp [cellFields]), herr]
  · rw [hfield, hstale]
  · rw [hget, hstep]
  · rw [hfield, hbusy]

/-! ### O46 -/

theorem exec_autoBalance {c : Fin 4} {k : Nat} (hresolved : s.line.resolvedAt.getD c none = some k)
    (hauto : s.getB (F.HYB_CH_CFG_AUTO_BAL c) = true) (hdue : k + 8000 ≤ s.stride) : exec (.autoBalance c) s =
      s.done (({ s with line := { s.line with resolvedAt := s.line.resolvedAt.set c none } } : State).balRequest c) := by
  change execAutoBalance c s = _
  simp only [execAutoBalance, hresolved, hauto, hdue, decide_true, Bool.and_self, if_true]

/-- Settles O46 (it holds): a balance takes its steps, its nearest trims and its result, as the lemmas above say. -/
theorem balanceRunsAndEnds : Obligations.BalanceRunsAndEnds := by
  refine ⟨fun s c hbusy => ⟨fun hstep => ?_, fun level hstep hat => ?_, fun lineR lineC hstep hat hlen => ?_, fun hstep hat => ?_⟩,
    fun s c lineR lineC hbusy hstep hat hlow hhigh hcap hr hc => ?_,
    fun s c thl hbusy hstep hat hlen => State.balanceResult_shows (State.balDue_iff hbusy hstep hat) hlen thl,
    fun s c k hresolved hauto hdue => ?_⟩
  · rw [exec_balanceSilence hbusy hstep]
    rfl
  · have hexec := exec_balanceNoiseCheck (State.balDue_iff hbusy hstep hat) level
    refine ⟨fun h => ?_, fun h => ?_⟩
    · rw [hexec, if_pos h]
      rfl
    · rw [hexec, if_neg (by omega)]
      rfl
  · have hdue := State.balDue_iff hbusy hstep hat
    refine ⟨fun hout => ?_, fun hlow hhigh hcap => ?_⟩
    · rw [exec_balanceFit_outside hdue hout]
      rfl
    · obtain ⟨k1, h1⟩ := s.nearest_only (lineR - 200) 20
      obtain ⟨k2, h2⟩ := (s.nearest (lineR - 200) 20).2.nearest_only lineC 100
      obtain ⟨u, hu⟩ : ∃ u, u = ((s.nearest (lineR - 200) 20).2.nearest lineC 100).2 := ⟨_, rfl⟩
      have hul : u.line.bal.length = 4 := by rw [hu, h2, h1, hlen]
      have hexec := exec_balanceFit hdue hlow hhigh hcap
      rw [← hu] at hexec
      obtain ⟨hr, hc, hclear⟩ := u.fitted_holds (c := c) hul lineR lineC (s.nearest (lineR - 200) 20).1
        ((s.nearest (lineR - 200) 20).2.nearest lineC 100).1
      have hpending : u.pending = s.pending := by rw [hu, h2, h1]
      exact State.finish hexec ((u.pending_fitted _ _ _ _ _).trans hpending) ⟨(u.fitted_trims c _ _ _ _).1, hr, hc, hclear⟩
  · rw [exec_balanceMeasure (State.balDue_iff hbusy hstep hat)]
    rfl
  · have hexec := exec_balanceFit (State.balDue_iff hbusy hstep hat) (by omega) hhigh hcap
    rw [s.nearest_eq (n := lineR - 200) (d := 20) (by omega), s.nearest_eq (n := lineC) (d := 100) (by omega)] at hexec
    obtain ⟨-, hrt, hct⟩ := s.fitted_trims c lineR lineC ((2 * (lineR - 200) + 20) / (2 * 20)) ((2 * lineC + 100) / (2 * 100))
    refine State.finish hexec (s.pending_fitted _ _ _ _ _) ⟨hrt.trans ?_, hct.trans ?_⟩
    · have : (2 * (lineR - 200) + 20) / (2 * 20) = (lineR - 190) / 20 := by omega
      rw [this]
    · have : (2 * lineC + 100) / (2 * 100) = (lineC + 50) / 100 := by omega
      rw [this]
  · rw [exec_autoBalance hresolved hauto hdue]
    rfl

end Sys2Proof.Machine
end

section
/-! Headset, speaker and ducks (R249, R250, R253, R254, R258, R325): the gain's step, the speaker barred by a trip, the duck that
ends, and the settlement of O47. -/

namespace Sys2Proof.Machine

variable {s t : State}

/-! ### The headset (R249, R250) -/

/-- The headset gain `g` one step nearer to `aim`. -/
def gainStep (g aim : Nat) : Nat := if g < aim then g + 1 else if aim < g then g - 1 else aim

theorem exec_hsmicGainStep {zc : Bool} {ms : Nat} (hdue : zc = true ∨ 10 ≤ ms) : exec (.hsmicGainStep zc ms) s =
    s.done { s with line := { s.line with hsGain := gainStep s.line.hsGain (s.get F.CONV_HSMIC_GAIN) } } :=
  congrArg s.done (if_pos (by simpa using hdue))

/-! ### The speaker (R258, R330) -/

/-- What a trip, a latch and the speaker's own domain rest on: the reasons that keep the speaker off. -/
theorem State.speakerBarred_congr (hnode : t.get F.THERM_STATUS_NODE = s.get F.THERM_STATUS_NODE)
    (hlatched : t.getB F.CONV_SPK_LATCHED = s.getB F.CONV_SPK_LATCHED) (htether : t.getB F.PWR_TETHER_LOST = s.getB F.PWR_TETHER_LOST)
    (hline : t.line = s.line) (hbrown : t.power.brownout = s.power.brownout) (hreset : t.power.lineReset = s.power.lineReset) :
    t.speakerBarred = s.speakerBarred := by
  simp only [State.speakerBarred, State.lineUp, hnode, hlatched, htether, hline, hbrown, hreset]

theorem State.wantSpeaker_of_barred (h : s.speakerBarred = true) : s.wantSpeaker = false := by
  simp [State.wantSpeaker, h]

/-- A speaker not called for loses its domain, and nothing else of what bars it. -/
theorem State.speakerBarred_dropDomain (s : State) : (s.dropDomain 37).speakerBarred = s.speakerBarred :=
  State.speakerBarred_congr (State.get_set_other _ _ _ _ (by decide)) (congrArg (· != 0) (State.get_set_other _ _ _ _ (by decide)))
    (congrArg (· != 0) (State.get_set_other _ _ _ _ (by decide))) rfl rfl rfl

/-- A barred speaker loses its domain, is muted and does not run. -/
theorem State.syncSpeaker_barred (h : s.speakerBarred = true) :
    s.syncSpeaker = ((s.dropDomain 37).muteDac 10).setB F.CONV_SPK_RUNNING false := by
  have hwant : s.wantSpeaker = false := s.wantSpeaker_of_barred h
  have hwant' : (s.dropDomain 37).wantSpeaker = false :=
    State.wantSpeaker_of_barred (s.speakerBarred_dropDomain.trans h)
  simp [State.syncSpeaker, State.needDomain, hwant, hwant']

theorem State.syncSpeaker_barred_shows (h : s.speakerBarred = true) :
    s.syncSpeaker.getB F.CONV_SPK_RUNNING = false ∧ s.syncSpeaker.line.spkTrips = s.line.spkTrips ∧
    s.syncSpeaker.line.spkTripped = s.line.spkTripped ∧ s.syncSpeaker.getB F.CONV_SPK_LATCHED = s.getB F.CONV_SPK_LATCHED := by
  rw [State.syncSpeaker_barred h]
  refine ⟨State.getB_setB_self _ _ _ rfl, rfl, rfl, ?_⟩
  exact (State.getB_setB_other _ _ _ _ (by decide)).trans (congrArg (· != 0) (State.get_set_other s _ _ _ (by decide)))

/-- The trips of the last second, the one of this stride first. -/
def State.spkTripsNow (s : State) : List Nat := s.stride :: s.line.spkTrips.filter (fun k => decide (s.stride < k + 8000))

/-- The speaker tripped: noted, and latched by the third trip within 1 s. -/
def State.spkTrip (s : State) : State :=
  if 3 ≤ s.spkTripsNow.length then
    let s := ({ s with line := { s.line with spkTripped := true, spkTrips := s.spkTripsNow } } : State).setB F.CONV_SPK_LATCHED true
    { s with line := { s.line with spkTripped := false } }
  else { s with line := { s.line with spkTripped := true, spkTrips := s.spkTripsNow } }

theorem exec_spkOvercurrent {ma : Nat} (hrun : s.getB F.CONV_SPK_RUNNING = true) (hma : 5000 < ma) :
    exec (.spkOvercurrent ma) s = s.done s.spkTrip.syncSpeaker :=
  congrArg s.done (if_pos (by simp [hrun, hma]))

theorem State.spkTrip_trips (s : State) : s.spkTrip.line.spkTrips = s.spkTripsNow := by
  unfold State.spkTrip
  split <;> rfl

theorem State.spkTrip_first (h : s.spkTripsNow.length < 3) :
    s.spkTrip.line.spkTripped = true ∧ s.spkTrip.getB F.CONV_SPK_LATCHED = s.getB F.CONV_SPK_LATCHED := by
  rw [State.spkTrip, if_neg (by omega)]
  exact ⟨rfl, rfl⟩

theorem State.spkTrip_third (h : 3 ≤ s.spkTripsNow.length) :
    s.spkTrip.line.spkTripped = false ∧ s.spkTrip.getB F.CONV_SPK_LATCHED = true := by
  rw [State.spkTrip, if_pos h]
  generalize ({ s with line := { s.line with spkTripped := true, spkTrips := s.spkTripsNow } } : State) = u
  have hlatched := State.getB_setB_self u F.CONV_SPK_LATCHED true rfl
  generalize u.setB F.CONV_SPK_LATCHED true = v at hlatched ⊢
  exact ⟨rfl, hlatched⟩

theorem State.speakerBarred_spkTrip (s : State) : s.spkTrip.speakerBarred = true := by
  rcases Nat.lt_or_ge s.spkTripsNow.length 3 with h | h
  · simp [State.speakerBarred, (State.spkTrip_first h).1]
  · simp [State.speakerBarred, (State.spkTrip_third h).2]

theorem State.syncSpeaker_pending (s : State) : s.syncSpeaker.pending = s.pending := s.syncSpeaker_settles.pending

theorem State.spkTrip_pending (s : State) : s.spkTrip.pending = s.pending := by
  unfold State.spkTrip
  split <;> rfl

theorem exec_spkRestart {ms : Nat} (htripped : s.line.spkTripped = true) (hms : 100 ≤ ms) : exec (.spkRestart ms) s =
    s.done ({ s with line := { s.line with spkTripped := false } } : State).syncSpeaker :=
  congrArg s.done (if_pos (by simp [htripped, hms]))

/-! ### Ducks (R325) -/

/-- The duck `d` is an interrupt of output `o` that ends. -/
def State.duckEnds (s : State) (o : Nat) (d : Duck) : Bool :=
  d.kind == .interrupt && (d.kind == .foghorn || d.output == o) &&
    (match d.absent with
     | some a => decide (a + 8 * s.get F.TG_PRIO_HANG_MS < s.stride)
     | none => false)

theorem exec_duckHangExpiry_interrupt {o : Fin 256} (h : s.tg.ducks.any (s.duckEnds o) = true) :
    exec (.duckHangExpiry 0 o) s =
      s.done ({ s with tg := { s.tg with ducks := s.tg.ducks.filter (fun d => !s.duckEnds o d) } } : State).stepTargets :=
  (if_pos h).trans rfl

theorem State.duckEnds_of {o a : Nat} {d : Duck} (hkind : d.kind = .interrupt) (hout : d.output = o) (habsent : d.absent = some a)
    (hhang : a + 8 * s.get F.TG_PRIO_HANG_MS < s.stride) : s.duckEnds o d = true := by
  simp [State.duckEnds, hkind, hout, habsent, hhang]

theorem State.duckEnds_other {o : Nat} {d : Duck} (h : d.kind ≠ .interrupt ∨ d.output ≠ o) : s.duckEnds o d = false := by
  cases hkind : d.kind with
  | interrupt =>
    have hout : d.output ≠ o := h.resolve_left (· hkind)
    simp [State.duckEnds, hkind, hout]
  | allCall => simp [State.duckEnds, hkind]
  | foghorn => simp [State.duckEnds, hkind]

/-! ### The settlement -/

/-- Settles O47 (it holds): a trip bars the speaker, so its domain goes and it does not run; the ducks that end are the
interrupts of the output whose hang is over. -/
theorem convertersAndDucks : Obligations.ConvertersAndDucks := by
  refine ⟨⟨?gain, ?load, ?short⟩, ⟨?trip, ?restart⟩, ?duck⟩
  case gain =>
    intro s zc ms hdue
    refine State.finish (exec_hsmicGainStep hdue) rfl ⟨rfl, fun h => ?_, fun h => ?_, fun h => ?_⟩
    · exact if_pos h
    · have hstep : gainStep s.line.hsGain (s.get F.CONV_HSMIC_GAIN) = s.line.hsGain - 1 := by
        rw [gainStep, if_neg (by omega), if_pos h]
      change gainStep s.line.hsGain (s.get F.CONV_HSMIC_GAIN) + 1 = _
      omega
    · have hstep : gainStep s.line.hsGain (s.get F.CONV_HSMIC_GAIN) = s.line.hsGain := by
        rw [gainStep, h]; simp
      rw [hstep]
  case load =>
    intro s l r
    have hexec : exec (.hpLoadSense l r) s = s.done _ := rfl
    refine State.finish hexec rfl ⟨?_, State.getB_setB_self _ _ _ rfl,
      ((Only.refl _ s).setB (by simp) _).setB (by simp) _⟩
    exact (State.getB_setB_other _ _ _ _ (by decide)).trans (State.getB_setB_self _ _ _ rfl)
  case short => exact fun s right => ⟨rfl, rfl⟩
  case trip =>
    intro s ma hrun hma
    obtain ⟨hstop, htrips, htripped, hlatched⟩ := State.syncSpeaker_barred_shows s.speakerBarred_spkTrip
    refine State.finish (exec_spkOvercurrent hrun hma) (s.spkTrip.syncSpeaker_pending.trans s.spkTrip_pending)
      ⟨hstop, htrips.trans s.spkTrip_trips, ?_, ?_⟩
    all_goals
      rw [htrips, htripped, hlatched, s.spkTrip_trips]
    · exact State.spkTrip_first
    · exact State.spkTrip_third
  case restart => exact fun s ms htripped hms => exec_spkRestart htripped hms
  case duck =>
    intro s o d a hmem hkind hout habsent hhang
    have hends : s.duckEnds o d = true := State.duckEnds_of hkind hout habsent hhang
    refine ⟨_, exec_duckHangExpiry_interrupt (List.any_eq_true.2 ⟨d, hmem, hends⟩), ?_, ?_⟩
    · simp [hends]
    · intro x hx hother
      simp [hx, State.duckEnds_other hother]

end Sys2Proof.Machine
end

section
/-! TDM frames (R260–R264): what a frame marks of its port's status, what it leaves in its queue, and the settlement of O48. -/

namespace Sys2Proof.Machine

variable {s t : State}

/-! ### A frame's marks and its queue -/

/-- A frame of `bclks` BCLK periods is a framing error of port `p`, which is no master (R262). -/
def State.tdmBad (s : State) (p bclks : Nat) : Bool :=
  !s.getB (F.TDM_CFG_MASTER p) &&
    (decide (bclks < s.tdmNeeds p) || ((s.tdm p).lastBclk != 0 && (s.tdm p).lastBclk != bclks))

/-- The good frames in a row with the one that arrives. -/
def State.tdmGood (s : State) (p bclks : Nat) : Nat := if s.tdmBad p bclks then 0 else (s.tdm p).good + 1

/-- A framing error marked and counted. -/
def State.tdmFrameErr (s : State) (p : Nat) : State :=
  ((s.setB (F.TDM_STATUS_FRAME_ERR p) true).inc (F.TDM_CNT_FRAME_ERRS p)).setB (F.TDM_STATUS_SYNC p) false

/-- What a frame marks: an error, the sync of the eighth good frame, and a slip. -/
def State.tdmMarked (s : State) (p bclks : Nat) : State :=
  let slave := !s.getB (F.TDM_CFG_MASTER p)
  let x := if s.tdmBad p bclks then s.tdmFrameErr p else s
  let x := if slave && decide (8 ≤ s.tdmGood p bclks) then x.setB (F.TDM_STATUS_SYNC p) true else x
  if decide (12 ≤ (s.tdm p).rx.length) && slave then x.tdmSlip p else x

/-- The port having taken a frame. -/
def tdmTake (full bad : Bool) (bclks good : Nat) (slots : List Nat) (q : TdmPort) : TdmPort :=
  { q with
    rx := if full then q.rx else q.rx ++ [(List.range 16).map (fun k => if bad then 0 else slots.getD k 0)]
    tx := if full then q.tx else q.tx.drop 1
    sent := if full then q.sent else q.tx.headD []
    lastBclk := bclks
    good := min 8 good }

theorem exec_tdmFrame_closed {p : Fin 4} {bclks : Nat} {slots : List Nat}
    (h : s.tdmClaimed p = false ∨ s.getB (F.TDM_CFG_EN p) = false) : exec (.tdmFrame p bclks slots) s = s.done s :=
  congrArg s.done (if_pos (by simpa using h))

theorem exec_tdmFrame {p : Fin 4} {bclks : Nat} {slots : List Nat} (hclaimed : s.tdmClaimed p = true)
    (hen : s.getB (F.TDM_CFG_EN p) = true) : exec (.tdmFrame p bclks slots) s =
      s.done ((s.tdmMarked p bclks).updTdm p
        (fun q => tdmTake (decide (12 ≤ (s.tdm p).rx.length)) (s.tdmBad p bclks) bclks (s.tdmGood p bclks) slots q)) :=
  congrArg s.done (if_neg (by simp [hclaimed, hen]))

/-! ### The queue -/

theorem State.tdm_of {p : Nat} {q : TdmPort} (h : s.line.tdm[p]? = some q) : s.tdm p = q := by
  simp [State.tdm, h]

theorem State.tdm_updTdm {p : Nat} {q : TdmPort} {f : TdmPort → TdmPort} (h : s.line.tdm[p]? = some q) :
    (s.updTdm p f).line.tdm[p]? = some (f q) := by
  obtain ⟨hlt, -⟩ := List.getElem?_eq_some_iff.1 h
  simp [State.updTdm, State.tdm_of h, hlt]

/-! ### The marks -/

/-- The fields that a frame's marks may change. -/
def tdmFields (p : Nat) : List Fld :=
  [F.TDM_STATUS_SYNC p, F.TDM_STATUS_FRAME_ERR p, F.TDM_CNT_FRAME_ERRS p, F.TDM_STATUS_SLIP p, F.TDM_CNT_SLIPS p]

theorem State.tdmFrameErr_only (s : State) (p : Nat) : Only (tdmFields p) s (s.tdmFrameErr p) :=
  (((Only.refl _ s).setB (by simp [tdmFields]) _).inc (by simp [tdmFields])).setB (by simp [tdmFields]) _

theorem State.tdmMarked_only (s : State) (p bclks : Nat) : Only (tdmFields p) s (s.tdmMarked p bclks) := by
  unfold State.tdmMarked
  extract_lets slave x y
  have hx : Only (tdmFields p) s x := by
    unfold x; split
    · exact s.tdmFrameErr_only p
    · exact Only.refl _ s
  have hy : Only (tdmFields p) s y := by
    unfold y; split
    · exact hx.setB (by simp [tdmFields]) _
    · exact hx
  split
  · exact (hy.setB (by simp [tdmFields]) _).inc (by simp [tdmFields])
  · exact hy

theorem Only.line {fs : List Fld} (h : Only fs s t) : t.line = s.line := by
  have := congrArg State.line h.1
  exact this

theorem State.tdmMarked_line (s : State) (p bclks : Nat) : (s.tdmMarked p bclks).line = s.line := (s.tdmMarked_only p bclks).line

/-- The keys of a port's status and count fields differ. -/
theorem key_tdmStatus : ∀ p : Fin 4, (F.TDM_STATUS_FRAME_ERR p).key ≠ (F.TDM_STATUS_SYNC p).key ∧
    (F.TDM_CNT_FRAME_ERRS p).key ≠ (F.TDM_STATUS_SYNC p).key ∧ (F.TDM_CNT_FRAME_ERRS p).key ≠ (F.TDM_STATUS_FRAME_ERR p).key ∧
    (F.TDM_STATUS_SLIP p).key ≠ (F.TDM_CNT_SLIPS p).key ∧ (F.TDM_CNT_SLIPS p).key ≠ (F.TDM_STATUS_SYNC p).key := by decide

/-- A good frame that finds room marks nothing but the sync. -/
theorem State.tdmMarked_good {p bclks : Nat} (hbad : s.tdmBad p bclks = false) (hroom : (s.tdm p).rx.length < 12) :
    s.tdmMarked p bclks =
      if !s.getB (F.TDM_CFG_MASTER p) && decide (8 ≤ (s.tdm p).good + 1) then s.setB (F.TDM_STATUS_SYNC p) true else s := by
  have hgood : s.tdmGood p bclks = (s.tdm p).good + 1 := by simp [State.tdmGood, hbad]
  simp [State.tdmMarked, hbad, hgood, show ¬ 12 ≤ (s.tdm p).rx.length by omega]

/-- A framing error that finds room is marked as such alone. -/
theorem State.tdmMarked_bad {p bclks : Nat} (hbad : s.tdmBad p bclks = true) (hroom : (s.tdm p).rx.length < 12) :
    s.tdmMarked p bclks = s.tdmFrameErr p := by
  simp [State.tdmMarked, State.tdmGood, hbad, show ¬ 12 ≤ (s.tdm p).rx.length by omega]

/-- A good frame of a slave that meets a full queue is marked as a slip. -/
theorem State.tdmMarked_slip {p bclks : Nat} (hbad : s.tdmBad p bclks = false) (hslave : s.getB (F.TDM_CFG_MASTER p) = false)
    (hfull : 12 ≤ (s.tdm p).rx.length) : s.tdmMarked p bclks =
      (if decide (8 ≤ (s.tdm p).good + 1) then s.setB (F.TDM_STATUS_SYNC p) true else s).tdmSlip p := by
  have hgood : s.tdmGood p bclks = (s.tdm p).good + 1 := by simp [State.tdmGood, hbad]
  simp [State.tdmMarked, hbad, hgood, hslave, hfull]

theorem State.tdmBad_false {p bclks : Nat} {q : TdmPort} (hq : s.tdm p = q) (h : s.getB (F.TDM_CFG_MASTER p) = true ∨
    (s.tdmNeeds p ≤ bclks ∧ (q.lastBclk = 0 ∨ q.lastBclk = bclks))) : s.tdmBad p bclks = false := by
  subst hq
  rcases h with h | ⟨hneeds, hlast⟩
  · simp [State.tdmBad, h]
  · simp only [State.tdmBad, Bool.and_eq_false_iff, Bool.or_eq_false_iff, decide_eq_false_iff_not, Nat.not_lt]
    exact .inr ⟨hneeds, by simpa using hlast⟩

theorem State.tdmBad_true {p bclks : Nat} {q : TdmPort} (hq : s.tdm p = q) (hslave : s.getB (F.TDM_CFG_MASTER p) = false)
    (h : bclks < s.tdmNeeds p ∨ (q.lastBclk ≠ 0 ∧ q.lastBclk ≠ bclks)) : s.tdmBad p bclks = true := by
  subst hq
  simpa [State.tdmBad, hslave] using h

/-! ### The settlement -/

/-- Settles O48 (it holds): the marks are the status's alone, and the port's queue takes the frame. -/
theorem tdmFramesAreTaken : Obligations.TdmFramesAreTaken := by
  refine ⟨fun s p bclks slots h => exec_tdmFrame_closed h, fun s p bclks slots q hclaimed hen hq => ?_⟩
  have hport : s.tdm p = q := State.tdm_of hq
  have hexec := exec_tdmFrame (bclks := bclks) (slots := slots) hclaimed hen
  have hpending := (s.tdmMarked_only p bclks).pending
  have hq' : (s.tdmMarked p bclks).line.tdm[p.val]? = some q := by rw [s.tdmMarked_line]; exact hq
  have htake := fun f : TdmPort → TdmPort => State.tdm_updTdm (f := f) hq'
  refine ⟨fun hroom hgood => ?_, fun hroom hslave hwrong => ?_, fun hfull hslave hneeds hlast => ?_⟩
  · have hbad := State.tdmBad_false hport hgood
    have hmarked := State.tdmMarked_good hbad (by rw [hport]; exact hroom)
    refine State.finish hexec hpending ⟨?_, ?_, ?_⟩
    · rw [htake, hbad, hport]
      simp [tdmTake, State.tdmGood, hbad, hport, show ¬ 12 ≤ q.rx.length by omega]
    · change (s.tdmMarked p bclks).getB _ = _
      rw [hmarked, hport]
      split
      · next h => rw [h, Bool.or_true]; exact State.getB_setB_self _ _ _ rfl
      · next h => rw [Bool.eq_false_iff.2 h, Bool.or_false]
    · refine ⟨?_, fun f hf => ?_⟩
      · have hfields := (s.tdmMarked_only p bclks).1
        generalize s.tdmMarked p bclks = u at hfields ⊢
        rw [← hfields]
        rfl
      · change (s.tdmMarked p bclks).get f = s.get f
        rw [hmarked]
        split
        · exact State.get_setB_other _ _ _ _ (by simpa using hf)
        · rfl
  · have hbad := State.tdmBad_true hport hslave hwrong
    have hmarked := State.tdmMarked_bad hbad (by rw [hport]; exact hroom)
    obtain ⟨herr, hcount, hcount', -⟩ := key_tdmStatus p
    refine State.finish hexec hpending ⟨?_, ?_, ?_, ?_, ?_⟩
    · change (s.tdmMarked p bclks).getB _ = _
      rw [hmarked]
      exact State.getB_setB_self _ _ _ rfl
    · change (s.tdmMarked p bclks).getB _ = _
      rw [hmarked]
      exact (State.getB_setB_other _ _ _ _ herr).trans ((congrArg (· != 0) (State.get_set_other _ _ _ _ hcount'.symm)).trans
        (State.getB_setB_self _ _ _ rfl))
    · change (s.tdmMarked p bclks).get _ = _
      rw [hmarked]
      refine (State.get_setB_other _ _ _ _ hcount).trans ((State.get_set_self _ _ _).trans ?_)
      rw [State.get_setB_other _ _ _ _ hcount']
    all_goals
      rw [List.getD_eq_getElem?_getD, htake]
      simp [tdmTake, State.tdmGood, hbad, hport, show ¬ 12 ≤ q.rx.length by omega]
  · have hbad := State.tdmBad_false hport (.inr ⟨hneeds, hlast⟩)
    have hmarked := State.tdmMarked_slip hbad hslave (by rw [hport]; exact hfull)
    obtain ⟨-, -, -, hslip, hcount⟩ := key_tdmStatus p
    refine State.finish hexec hpending ⟨?_, ?_, ?_, ?_⟩
    · change (s.tdmMarked p bclks).getB _ = _
      rw [hmarked]
      exact (congrArg (· != 0) (State.get_set_other _ _ _ _ hslip)).trans (State.getB_setB_self _ _ _ rfl)
    · change (s.tdmMarked p bclks).get _ = _
      rw [hmarked]
      refine (State.get_set_self _ _ _).trans ?_
      rw [State.get_setB_other _ _ _ _ hslip.symm]
      split
      · rw [State.get_setB_other _ _ _ _ hcount]
      · rfl
    all_goals
      rw [List.getD_eq_getElem?_getD, htake]
      simp [tdmTake, hport, hfull]

end Sys2Proof.Machine
end

section
/-! Echo instances (R284, R285, R290, R292): the end of double talk, divergence, convergence and the result of a period, and the
settlement of O49. -/

namespace Sys2Proof.Machine

variable {s t : State}

/-! ### One echo canceller -/

/-- A canceller changed otherwise than in its number stands where it stood. -/
theorem State.echoInst_updEcho {i : Nat} {g : EchoInst → EchoInst} (hg : ∀ e, (g e).i = e.i) (s : State) :
    (s.updEcho i g).echoInst i = (s.echoInst i).map g := by
  have hpred : ((fun e : EchoInst => decide (e.i = i)) ∘ fun e => if e.i = i then g e else e) = fun e => decide (e.i = i) := by
    funext e
    simp only [Function.comp]
    split
    · next h => rw [hg, h]
    · rfl
  rw [State.echoInst, State.echoInst, State.updEcho, List.find?_map, hpred]
  cases h : s.echo.insts.find? (fun e => decide (e.i = i)) with
  | none => rfl
  | some e =>
    have hi : e.i = i := by
      have := List.find?_some h
      simpa using this
    simp [hi]

theorem State.echoInst_of_echo (h : t.echo = s.echo) (i : Nat) : t.echoInst i = s.echoInst i := by
  simp only [State.echoInst, h]

/-- A state that differs in the echo instances alone from one of a frame lies in the frame too. -/
theorem Only.updEcho {fs : List Fld} (h : Only fs s t) (i : Nat) (g : EchoInst → EchoInst) :
    Only fs { s with echo := (t.updEcho i g).echo } (t.updEcho i g) := by
  obtain ⟨hs, hget⟩ := h
  refine ⟨?_, hget⟩
  have := congrArg (fun x : State => { x with echo := (t.updEcho i g).echo }) hs
  exact this

theorem Only.echo {fs : List Fld} (h : Only fs s t) : t.echo = s.echo := by
  have := congrArg State.echo h.1
  exact this

theorem key_echo : ∀ i : Fin 20, (F.ECHO_STATUS_DIVERGED i).key ≠ (F.ECHO_DIVERGE_COUNT_COUNT i).key := by decide

/-! ### Double talk, divergence, convergence (R284, R285, R290) -/

theorem exec_dtdHangExpiry {i : Fin 20} {e : EchoInst} {k : Nat} (hinst : s.echoInst i = some e) (hdtd : e.dtdAt = some k)
    (hhang : k + 8 * s.get (F.ECHO_DTD_HANG i) ≤ s.stride) : exec (.dtdHangExpiry i) s =
      s.done ((s.setB (F.ECHO_STATUS_DTD i) false).updEcho i (fun e => { e with dtdAt := none })) := by
  change execDtdHangExpiry i s = _
  simp only [execDtdHangExpiry, hinst, hdtd, if_pos hhang]

/-- The mark and the count of a divergence. -/
def State.diverged (s : State) (i : Nat) : State :=
  (s.setB (F.ECHO_STATUS_DIVERGED i) true).inc (F.ECHO_DIVERGE_COUNT_COUNT i)

theorem State.diverged_only (s : State) (i : Nat) :
    Only [F.ECHO_STATUS_DIVERGED i, F.ECHO_DIVERGE_COUNT_COUNT i] s (s.diverged i) :=
  ((Only.refl _ s).setB (by simp) _).inc (by simp)

theorem State.diverged_shows (s : State) (i : Fin 20) : (s.diverged i).getB (F.ECHO_STATUS_DIVERGED i) = true ∧
    (s.diverged i).get (F.ECHO_DIVERGE_COUNT_COUNT i) =
      (s.get (F.ECHO_DIVERGE_COUNT_COUNT i) + 1) % 2 ^ (F.ECHO_DIVERGE_COUNT_COUNT i).width := by
  have hkey := key_echo i
  refine ⟨(congrArg (· != 0) (State.get_set_other _ _ _ _ hkey)).trans (State.getB_setB_self _ _ _ rfl),
    (State.get_set_self _ _ _).trans ?_⟩
  rw [State.get_setB_other _ _ _ _ hkey.symm]

/-- The domain of an echo canceller is its stall's, which the registers and the instances do not decide. -/
theorem State.echoDomain_congr (h : t.fab = s.fab) (i : Nat) : t.powerDomain (.echo i) = s.powerDomain (.echo i) := by
  simp only [State.powerDomain, State.echoStall, State.instStalls, h]

/-- The canceller diverged: marked, counted, and its taps to be cleared. -/
def State.divergedInst (s : State) (i : Nat) : State :=
  (s.diverged i).updEcho i (fun e => { e with clearNext := true, divSince := none })

theorem State.divergedInst_fab (s : State) (i : Nat) : (s.divergedInst i).fab = s.fab := by
  have := congrArg State.fab (s.diverged_only i).1
  exact this

theorem exec_echoDiverge {i : Fin 20} {e : EchoInst} {k : Nat} (hinst : s.echoInst i = some e) (hdiv : e.divSince = some k)
    (hlong : k + 800 ≤ s.stride + 1) : exec (.echoDiverge i) s =
      s.done ((s.divergedInst i).ev .echoDiverged ((s.divergedInst i).powerDomain (.echo i)) (if i.val < 16 then 0 else 1) (i.val % 16) 0) := by
  change execEchoDiverge i s = _
  simp only [execEchoDiverge, hinst, hdiv, if_pos hlong]
  rfl

theorem exec_echoConverged {i : Fin 20} {e : EchoInst} {k : Nat} (hinst : s.echoInst i = some e) (herle : e.erleSince = some k)
    (hlong : k + 4000 ≤ s.stride + 1) (hstate : s.get (F.ECHO_STATUS_STATE i) = 1) :
    exec (.echoConverged i) s = s.done (s.set (F.ECHO_STATUS_STATE i) 2) := by
  change execEchoConverged i s = _
  simp only [execEchoConverged, hinst, herle, if_pos (And.intro hlong hstate)]

/-! ### Results (R292) -/

/-- The state having drawn free values up to counter `k`. -/
def State.drawn (s : State) (k : Nat) : State := { s with freeCtr := k }

theorem State.perMille_drawn (s : State) (k n total : Nat) : ∃ m, ((s.drawn k).perMille n total).2 = s.drawn m := by
  unfold State.perMille
  split <;> exact ⟨_, rfl⟩

/-- A share that divides evenly is exact. -/
theorem State.perMille_even {n total : Nat} (h : n * 1000 % total = 0) (s : State) :
    (s.perMille n total).1 = n * 1000 / total := by
  rw [State.perMille, if_pos h]

/-- The fields of a canceller's result. -/
def echoDataFields (i : Nat) : List Fld :=
  [F.ECHO_RESULT_ERL i, F.ECHO_RESULT_ERLE i, F.ECHO_RESULT_NLP_ATTEN i, F.ECHO_RESULT_PEAK_DELAY i, F.ECHO_RESULT_ADAPT_PM i,
   F.ECHO_RESULT_DTD_PM i]

/-- The values that a result writes. -/
def echoData (i erl erle atten peak adapt dtd : Nat) : List (Fld × Nat) :=
  [(F.ECHO_RESULT_ERL i, erl), (F.ECHO_RESULT_ERLE i, erle), (F.ECHO_RESULT_NLP_ATTEN i, atten),
   (F.ECHO_RESULT_PEAK_DELAY i, peak), (F.ECHO_RESULT_ADAPT_PM i, adapt), (F.ECHO_RESULT_DTD_PM i, dtd)]

theorem echoResult_keys : ∀ i : Fin 20, (∀ f ∈ cellFields (0xD0020 + 0x100 * i), f.key ∉ (echoDataFields i).map Fld.key) ∧
    ((echoDataFields i).map Fld.key).Nodup := by decide

/-- The canceller having written its result in stride `now`. -/
def echoWrote (now : Nat) (e : EchoInst) : EchoInst :=
  { e with dueAt := e.dueAt + 2000 * ((now - e.dueAt) / 2000 + 1), lastResult := now, adapted := 0, talked := 0 }

theorem echoWrote_due {now : Nat} {e : EchoInst} (h : e.dueAt ≤ now) :
    now < (echoWrote now e).dueAt ∧ (echoWrote now e).dueAt ≤ now + 2000 := by
  simp only [echoWrote]
  omega

theorem State.stride_writeCell (s : State) (a : Nat) (err : Bool) (data : List (Fld × Nat)) :
    (s.writeCell a err data).stride = s.stride := by
  have := congrArg State.stride (s.writeCell_only a err data).1
  exact this

/-- A result is written from a state that has only drawn free values: measured values, and the shares of the period. -/
theorem exec_echoResult {i : Fin 20} {e : EchoInst} {u : Stall} (hinst : s.echoInst i = some e) (hstall : s.echoStall i = some u)
    (hdue : e.dueAt ≤ s.stride) (hcommitted : (s.slices u).any (fun v => v.lateNow || !v.committed) = false) :
    ∃ k m erl erle atten peak, exec (.echoResult i) s =
      s.done (((s.drawn k).writeCell (0xD0020 + 0x100 * i) false (echoData i erl erle atten peak
        ((s.drawn (s.freeCtr + 4)).perMille e.adapted (s.stride - e.lastResult)).1
        ((s.drawn m).perMille e.talked (s.stride - e.lastResult)).1)).updEcho i (echoWrote s.stride)) := by
  have hgo : ¬ (s.stride < e.dueAt ∨ (s.slices u).any (fun v => v.lateNow || !v.committed) = true) := by
    rw [hcommitted]; simp; exact hdue
  obtain ⟨m, hm⟩ := s.perMille_drawn (s.freeCtr + 4) e.adapted (s.stride - e.lastResult)
  obtain ⟨k, hk⟩ := s.perMille_drawn m e.talked (s.stride - e.lastResult)
  refine ⟨k, m, ?_⟩
  change ∃ erl erle atten peak, execEchoResult i s = _
  have hfour : s.freeNat.2.freeNat.2.freeNat.2.freeNat.2 = s.drawn (s.freeCtr + 4) := rfl
  simp only [execEchoResult, hinst, hstall, if_neg hgo, hfour, hm, hk, State.stride_writeCell]
  exact ⟨_, _, _, _, rfl⟩

/-- The result of a canceller as it stands after its measurements. -/
theorem State.echoResult_shows {i : Fin 20} {e : EchoInst} {u : Stall} (hinst : s.echoInst i = some e)
    (hstall : s.echoStall i = some u) (hdue : e.dueAt ≤ s.stride)
    (hcommitted : (s.slices u).any (fun v => v.lateNow || !v.committed) = false) :
    ∃ t, exec (.echoResult i) s = .next t ∧ t.getB (cellReady (0xD0020 + 0x100 * i)) = true ∧
      t.getB (cellFresh (0xD0020 + 0x100 * i)) = true ∧ t.getB (cellErr (0xD0020 + 0x100 * i)) = false ∧
      t.get (cellSeq (0xD0020 + 0x100 * i)) = nextSeq (s.get (cellSeq (0xD0020 + 0x100 * i))) ∧
      t.getB (cellLost (0xD0020 + 0x100 * i)) = s.getB (cellFresh (0xD0020 + 0x100 * i)) ∧
      (e.adapted * 1000 % (s.stride - e.lastResult) = 0 → t.get (F.ECHO_RESULT_ADAPT_PM i) =
        e.adapted * 1000 / (s.stride - e.lastResult) % 2 ^ (F.ECHO_RESULT_ADAPT_PM i).width) ∧
      (e.talked * 1000 % (s.stride - e.lastResult) = 0 → t.get (F.ECHO_RESULT_DTD_PM i) =
        e.talked * 1000 / (s.stride - e.lastResult) % 2 ^ (F.ECHO_RESULT_DTD_PM i).width) ∧
      t.echoInst i = some (echoWrote s.stride e) := by
  obtain ⟨k, m, erl, erle, atten, peak, hexec⟩ := exec_echoResult hinst hstall hdue hcommitted
  generalize hadapt : ((s.drawn (s.freeCtr + 4)).perMille e.adapted (s.stride - e.lastResult)).1 = adapt at hexec
  generalize hdtd : ((s.drawn m).perMille e.talked (s.stride - e.lastResult)).1 = dtd at hexec
  obtain ⟨hstatus, hnodup⟩ := echoResult_keys i
  obtain ⟨hseq, hready, hfresh, herr, hlost, hdata, honly⟩ := resultsCompleteInTheirCell (s.drawn k) (0xD0020 + 0x100 * i) false
    (echoData i erl erle atten peak adapt dtd) hstatus hnodup
  generalize (s.drawn k).writeCell (0xD0020 + 0x100 * i) false (echoData i erl erle atten peak adapt dtd) = w at *
  have hadaptData := hdata (F.ECHO_RESULT_ADAPT_PM i, adapt) (by simp [echoData])
  have hdtdData := hdata (F.ECHO_RESULT_DTD_PM i, dtd) (by simp [echoData])
  refine State.finish hexec honly.pending ⟨hready, hfresh, herr, hseq, hlost, fun heven => ?_, fun heven => ?_, ?_⟩
  · rw [← State.perMille_even heven (s.drawn (s.freeCtr + 4)), hadapt]
    exact hadaptData
  · rw [← State.perMille_even heven (s.drawn m), hdtd]
    exact hdtdData
  · have hw : w.echoInst i = some e := (State.echoInst_of_echo honly.echo i).trans hinst
    rw [State.echoInst_updEcho (by exact fun _ => rfl), hw]
    rfl

/-! ### The settlement -/

/-- Settles O49 (it holds): a canceller's entry changes in place, the fields of its status alone follow, and its result stands
in its cell. -/
theorem echoStatesAndResults : Obligations.EchoStatesAndResults := by
  refine ⟨⟨?hang, ?diverge, ?converged⟩, ?result⟩
  case hang =>
    intro s i e k hinst hdtd hhang
    have honly : Only [F.ECHO_STATUS_DTD i] s (s.setB (F.ECHO_STATUS_DTD i) false) := (Only.refl _ s).setB (by simp) _
    refine State.finish (exec_dtdHangExpiry hinst hdtd hhang) rfl ⟨State.getB_setB_self s (F.ECHO_STATUS_DTD i) false rfl, ?_, honly.updEcho _ _⟩
    rw [State.echoInst_updEcho (by exact fun _ => rfl), State.echoInst_of_echo honly.echo, hinst]
    rfl
  case diverge =>
    intro s i e k hinst hdiv hlong
    have hexec := exec_echoDiverge hinst hdiv hlong
    rw [State.echoDomain_congr (s.divergedInst_fab i)] at hexec
    obtain ⟨hmark, hcount⟩ := s.diverged_shows i
    have honly := s.diverged_only i
    refine ⟨s.divergedInst i, hexec.trans (State.done_next ?_), hmark, hcount, ?_, honly.updEcho _ _⟩
    · exact (State.addLog_settles _ _ _ _ _ _ _).pending.trans honly.pending
    · rw [State.divergedInst, State.echoInst_updEcho (by exact fun _ => rfl), State.echoInst_of_echo honly.echo, hinst]
      rfl
  case converged => exact fun s i e k hinst herle hlong hstate => exec_echoConverged hinst herle hlong hstate
  case result =>
    intro s i e u hinst hstall hdue _ hcommitted
    obtain ⟨t, hexec, hready, hfresh, herr, hseq, hlost, hadapt, hdtd, hwrote⟩ :=
      State.echoResult_shows hinst hstall hdue hcommitted
    obtain ⟨hafter, hwithin⟩ := echoWrote_due hdue
    exact ⟨t, hexec, hready, hfresh, herr, hseq, hlost, hadapt, hdtd, _, hwrote, hafter, hwithin, rfl, rfl, rfl⟩

end Sys2Proof.Machine
end

section
/-! Wilnan frames (R346, R347, R352, R353): which command a frame is, what a control frame does first, and the settlement of
O51. -/

namespace Sys2Proof.Machine

variable {s : State}

/-- A frame of the named types on a port that carries frames is received; any other changes nothing. -/
theorem State.done_wilnanOf (s : State) (p : Nat) (f : RxFrame) (at_ : Nat) (types : List Nat) :
    s.done (s.wilnanOf p f at_ types) =
      .next (if s.carries p && s.isWilnan f types then { s.receiveWilnan p f at_ with pending := s.pending } else s) := by
  unfold State.wilnanOf
  split
  · rfl
  · rfl

/-! ### What a control frame does first (R352, R353) -/

theorem State.useCtl_expired {c : Ctl} (hhops : c.hops = 255) (p : Nat) (h : EthHdr) (raw : List Byte) : s.useCtl p h raw c = s :=
  if_pos hhops

theorem State.useCtl_own {h : EthHdr} {c : Ctl} (hhops : c.hops ≠ 255) (hown : h.sa = s.macAddr 0 ∨ h.sa = s.macAddr 1) (p : Nat)
    (raw : List Byte) : s.useCtl p h raw c = if h.da % 256 = s.ring.number then s.ownCtlBack p h c else s := by
  rw [State.useCtl, if_neg hhops, if_pos hown]

theorem State.ownCtlBack_net (s : State) (p : Nat) (h : EthHdr) (c : Ctl) : (s.ownCtlBack p h c).net = s.net := by
  unfold State.ownCtlBack
  split
  · rfl
  · split
    · rfl
    · split <;> rfl

theorem State.useCtl_foreign {h : EthHdr} {c : Ctl} (hhops : c.hops ≠ 255) (hother : ¬ (h.sa = s.macAddr 0 ∨ h.sa = s.macAddr 1))
    (hring : h.da % 256 ≠ s.ring.number) (p : Nat) (raw : List Byte) : s.useCtl p h raw c =
      if s.ctlOk (1 - p) || (c.typ == 6 && s.ringLink (1 - p)) then
        s.sawForeign.sendCtlBytes (1 - p) (s.ringFrame h.da h.sa raw)
      else s.sawForeign.forwardCtl p h c := by
  rw [State.useCtl, if_neg hhops, if_neg hother, if_pos hring]

theorem State.useCtl_known {h : EthHdr} {c : Ctl} (hhops : c.hops ≠ 255) (hother : ¬ (h.sa = s.macAddr 0 ∨ h.sa = s.macAddr 1))
    (hring : h.da % 256 = s.ring.number) (p : Nat) (raw : List Byte) : s.useCtl p h raw c =
      if c.typ = 6 then s.fogIn p h c
      else if c.typ = 4 then s.gateIn p h c
      else if bitOf (beAt c.body 3 1) 0 then s.claimIn p h c
      else s.musterIn p h c := by
  rw [State.useCtl, if_neg hhops, if_neg hother, if_neg (not_not.2 hring)]

/-- Settles O51 (it holds): a frame is dispatched by its type, and a control frame is dropped, its node's own, another ring's or
the ring's. -/
theorem wilnanFramesAreDispatched : Obligations.WilnanFramesAreDispatched := by
  refine ⟨fun s p f at_ => ?_, fun s p h raw c => ⟨?expired, ?own, ?other⟩⟩
  · exact ⟨s.done_wilnanOf p f at_ [1], s.done_wilnanOf p f at_ [2], s.done_wilnanOf p f at_ [3], s.done_wilnanOf p f 0 [4],
      s.done_wilnanOf p f 0 [5], s.done_wilnanOf p f 0 [6]⟩
  case expired => exact fun hhops => State.useCtl_expired hhops p h raw
  case own =>
    intro hhops hown
    refine ⟨State.useCtl_own hhops hown p raw, ?_⟩
    rw [State.useCtl_own hhops hown]
    split
    · exact s.ownCtlBack_net p h c
    · rfl
  case other =>
    intro hhops hsa0 hsa1
    have hother : ¬ (h.sa = s.macAddr 0 ∨ h.sa = s.macAddr 1) := by simp [hsa0, hsa1]
    refine ⟨fun hring => ⟨State.getB_setB_self s F.RING_STATE_RING_MISMATCH true rfl, fun hok => ?_, fun hbad htyp => ?_⟩,
      fun hring => ⟨?_, ?_, ?_⟩⟩
    · rw [State.useCtl_foreign hhops hother hring, hok]
      rfl
    · rw [State.useCtl_foreign hhops hother hring, hbad]
      simp [htyp]
    all_goals
      intro htyp
      rw [State.useCtl_known hhops hother hring, htyp]
      rfl

end Sys2Proof.Machine
end

section
/-! Claims, slack and foghorn announcements (R377, R378, R392, R393, R434, R438), and the settlement of O54. -/

namespace Sys2Proof.Machine

variable {s : State}

/-! ### Sending control frames -/

theorem State.updMac_net (s : State) (p : Nat) (f : MacPort → MacPort) : ∃ n, s.updMac p f = { s with net := n } := ⟨_, rfl⟩

/-- A control frame goes to a queue of a port, and nothing else changes. -/
theorem State.sendCtlBytes_net (s : State) (p : Nat) (bytes : List Byte) : ∃ n, s.sendCtlBytes p bytes = { s with net := n } := by
  unfold State.sendCtlBytes
  split
  · exact ⟨s.net, rfl⟩
  · split
    · exact s.updMac_net p _
    · exact s.updMac_net p _

theorem State.sendOwnCtl_net (s : State) (ports : List Nat) (c : Ctl) : ∃ n, s.sendOwnCtl ports c = { s with net := n } := by
  unfold State.sendOwnCtl
  induction ports generalizing s with
  | nil => exact ⟨s.net, rfl⟩
  | cons p ports ih =>
    obtain ⟨n, hn⟩ := s.sendCtlBytes_net p (s.ringFrame s.ringDa (s.macAddr p) (encodeCtl c))
    obtain ⟨m, hm⟩ := ih (s.sendCtlBytes p (s.ringFrame s.ringDa (s.macAddr p) (encodeCtl c)))
    exact ⟨m, by rw [List.foldl_cons, hm, hn]⟩

theorem State.sendClaim_lastClaim (s : State) : s.sendClaim.ring.lastClaim = s.stride := by
  unfold State.sendClaim
  extract_lets ports r u x three
  have hx : x.ring.lastClaim = s.stride := by
    obtain ⟨n, hn⟩ := u.sendOwnCtl_net ports r.2
    rw [show x = u.sendOwnCtl ports r.2 from rfl, hn]
    rfl
  split
  · exact hx
  · exact hx

/-! ### The settlement -/

/-- Settles O54 (it holds): each command's conditions are the model's own, and an expiry drops the announcements of one node that
were not repeated. -/
theorem claimsSlackAndFoghorns : Obligations.ClaimsSlackAndFoghorns := by
  refine ⟨⟨?claim, ?send, ?enter, ?leave⟩, ⟨?repeats, ?release, ?expiry⟩⟩
  case claim =>
    intro s hon hheld hstate hcand hknown hclaiming hwinning hforeign hat
    exact congrArg s.done (if_pos (by simp [hon, hheld, hstate, hcand, hknown, hclaiming, hwinning, hforeign, hat]))
  case send =>
    intro s hon hclaiming hcand hat
    exact ⟨congrArg s.done (if_pos (by simp [hon, hclaiming, hcand, hat])), s.sendClaim_lastClaim⟩
  case enter =>
    intro s hon hstate hen hslack hgates hzero
    exact congrArg s.done (if_pos (by simp [hon, hstate, hen, hslack, hgates, hzero]))
  case leave =>
    intro s k hstate hslack hwake hk
    exact congrArg s.done (if_pos (by simp [hstate, hslack, hwake, hk]))
  case repeats => exact fun s hopen hat => congrArg s.done (if_pos ⟨hopen, hat⟩)
  case release => exact fun s hleft hat => congrArg s.done (if_pos ⟨hleft, hat⟩)
  case expiry =>
    intro s origin
    have hexec : exec (.foghornExpiry origin) s = s.done (s.updRing (fun r => { r with
      live := r.live.filter (fun a => ¬ (a.origin = origin ∧ a.at_ + 192 ≤ s.stride)) })).showFogLive := rfl
    refine State.finish hexec rfl ⟨fun a => ?_, ?_, ?_⟩
    · change a ∈ s.ring.live.filter _ ↔ _
      rw [List.mem_filter, decide_eq_true_iff]
    · exact State.getB_setB_self (s.updRing _) F.RING_FOGHORN_LIVE _ rfl
    · exact (Only.refl _ (s.updRing _)).setB (by simp) _

end Sys2Proof.Machine
end

section
/-! CALL_END of a call-detector stall that was late: a late stride writes no result (R142), so the call's cell stays stale; and the
refutation of O56. -/

namespace Sys2Proof.Machine

/-- The call detector of inputs 4 to 7, as stall 0. -/
def lateDetector : Stall :=
  { n := 0, layer := 0, cfg := ⟨0, 9, 0, 0, 0, 1, 0, [0], [], 0⟩, started := false, worked := false, owes := 0, committed := false
    fellBack := false, lateNow := false, force := false, lateAt := [], since := 0, slacks := [], slackNow := none
    nextSet := none, outs := [], mem := .plain, entering := false, retiring := false }

/-- A node whose call detector was late in the stride that ended, with a call in progress on input 4 that ends. -/
def lateCallNode : State :=
  ({ State.reset with
      fab := { FabState.reset with stalls := [lateDetector] }
      call := { State.reset.call with dets := [⟨4, false, 0, 320, some 0, 0⟩] } } : State).setB (F.FAB_STALL_STATUS_LATE_LAST 0) true

/-- The end of the call leaves the detector's result as it was. -/
theorem callEnd_late_stale :
    (match exec (.callEnd 4 false) lateCallNode with
      | .next t => some (t.getB (cellFresh (callCell 4)))
      | _ => none) = some false := by decide +kernel

/-- Refutes O56: a call that ends on an input of a call detector whose stall was late writes no result (R142), so the input's
cell is not fresh. -/
theorem not_callsStartAndEnd : ¬ Obligations.CallsStartAndEnd := by
  rintro ⟨-, hend, -⟩
  obtain ⟨t, ht, -, -, hfresh, -⟩ := hend lateCallNode 4 false 0 (by decide) (by decide) (by decide)
  have hstale := callEnd_late_stale
  rw [ht] at hstale
  exact Bool.false_ne_true ((Option.some.inj hstale).symm.trans hfresh)

end Sys2Proof.Machine
end

section
/-! Admission and phases (R360, R373–R376, R386): the node's state and its phases as they change, and the settlement of O53. -/

namespace Sys2Proof.Machine

variable {s t : State}

/-! ### The node's state -/

/-- The fields of a change of the ring state. -/
def stateFields : List Fld := [F.RING_STATE_STATE, F.RING_STATE_STABLE_REASON, F.RING_IRQ_STABLED, F.RING_IRQ_STATE]

/-- Ring states other than stabled are shown as they are; a change of state clears what the musters counted. -/
theorem State.setRingState_shows {st : Nat} (hst : st < 3) (s : State) :
    (s.setRingState st 0).ringState = st ∧
    (s.ringState ≠ st → (s.setRingState st 0).getB F.RING_IRQ_STATE = true) ∧
    (∀ f : Fld, f.key ∉ stateFields.map Fld.key → (s.setRingState st 0).get f = s.get f) ∧
    ∃ n, (s.setRingState st 0).ring = { s.ring with musters := n } := by
  have h3 : st ≠ 3 := by omega
  have hwidth : st % 2 ^ F.RING_STATE_STATE.width = st := Nat.mod_eq_of_lt (Nat.lt_trans hst (by decide))
  have hstate : ((s.set F.RING_STATE_STATE st).set F.RING_STATE_STABLE_REASON 0).get F.RING_STATE_STATE = st := by
    rw [State.get_set_other _ _ _ _ (by decide), State.get_set_self, hwidth]
  have honly : Only stateFields s ((s.set F.RING_STATE_STATE st).set F.RING_STATE_STABLE_REASON 0) :=
    ((Only.refl _ s).set (by simp [stateFields]) _).set (by simp [stateFields]) _
  simp only [State.setRingState, h3, if_false]
  generalize ((s.set F.RING_STATE_STATE st).set F.RING_STATE_STABLE_REASON 0) = u at hstate honly ⊢
  have hring : u.ring = s.ring := by
    have := congrArg State.ring honly.1
    exact this
  by_cases hchanged : s.ringState = st
  · simp only [hchanged, bne_self_eq_false, Bool.false_eq_true, if_false]
    exact ⟨hstate, fun h => absurd rfl h, honly.2, s.ring.musters, hring⟩
  · simp only [bne_iff_ne, ne_eq, hchanged, not_false_eq_true, if_true]
    refine ⟨?_, fun _ => State.getB_setB_self u F.RING_IRQ_STATE true rfl,
      (honly.setB (f := F.RING_IRQ_STATE) (by simp [stateFields]) true).2, 0, ?_⟩
    · exact (State.get_setB_other u F.RING_IRQ_STATE F.RING_STATE_STATE true (by decide)).trans hstate
    · rw [← hring]
      rfl

/-- What a return to gate leaves of the node: no admission, and the muster stride checked last. -/
theorem State.toGate_shows (s : State) :
    s.toGate.ringState = 0 ∧ s.toGate.ring.admission = none ∧ s.toGate.ring.checkedAt = s.ring.checkedAt := by
  unfold State.toGate
  extract_lets a b c was d
  obtain ⟨hstate, -, -, n, hring⟩ := State.setRingState_shows (by decide : 0 < 3) d
  have hadmission : d.ring.admission = none := rfl
  have hchecked : d.ring.checkedAt = s.ring.checkedAt := by
    simp only [d, c, b, a, State.updRing, State.hideLighthouse, State.set_ring, State.setB_ring]
  exact ⟨hstate, by rw [hring]; exact hadmission, by rw [hring]; exact hchecked⟩

/-- A change of the ring state leaves the queue of commands. -/
theorem State.setRingState_pending (s : State) (st reason : Nat) : (s.setRingState st reason).pending = s.pending := by
  unfold State.setRingState
  extract_lets changed a b
  have ha : a.pending = s.pending := rfl
  have hb : b.pending = s.pending := by
    unfold b
    split
    · exact ha
    · exact ha
  split
  · exact hb
  · exact hb

theorem State.toGate_pending (s : State) : s.toGate.pending = s.pending := by
  unfold State.toGate
  extract_lets a b c was d
  exact (State.setRingState_pending d 0 0).trans (by
    simp only [d, c, b, a, State.updRing, State.hideLighthouse, State.set_pending, State.setB_pending])

/-! ### Admission (R374, R386) -/

/-- The node as member: its phases, its ID, the answer used up. -/
def State.joined (s : State) (k id : Nat) : State :=
  let s := ((s.set F.RING_PHASE_P (phaseP (s.get F.RING_ARRIVAL_A))).set F.RING_PHASE_Q (phaseQ s.ring.lastE)).ringCnt 5
  let s := (s.set F.RING_NODE_NODE id).setB F.RING_NODE_ASSIGNED true
  s.updRing (fun r => { r with admission := none, lastId := some id, firstBeam := s.beamAt k, pFixed := false, qFixed := false })

/-- The ring's record of an admission from beam `k` on. -/
def admittedRing (r : RingNode) (id first : Nat) : RingNode :=
  { r with admission := none, lastId := some id, firstBeam := first, pFixed := false, qFixed := false }

/-- The fields of an admission. -/
def admissionFields : List Fld :=
  [F.RING_PHASE_P, F.RING_PHASE_Q, F.RING_CNT_COUNT 5, F.RING_NODE_NODE, F.RING_NODE_ASSIGNED]

theorem State.get_updRing (s : State) (g : RingNode → RingNode) (f : Fld) : (s.updRing g).get f = s.get f := rfl

theorem State.getB_updRing (s : State) (g : RingNode → RingNode) (f : Fld) : (s.updRing g).getB f = s.getB f := rfl

theorem State.beamAt_congr (hstride : t.stride = s.stride) (hadj : t.countAdj = s.countAdj) (k : Nat) :
    t.beamAt k = s.beamAt k := by
  unfold State.beamAt State.count
  rw [hstride, hadj]

theorem State.joined_shows (s : State) (k id : Nat) :
    (s.joined k id).ring = admittedRing s.ring id (s.beamAt k) ∧ (s.joined k id).pending = s.pending ∧
    (∀ f : Fld, f.key ∉ admissionFields.map Fld.key → (s.joined k id).get f = s.get f) ∧
    (s.joined k id).get F.RING_NODE_NODE = id % 2 ^ F.RING_NODE_NODE.width ∧
    (s.joined k id).getB F.RING_NODE_ASSIGNED = true ∧
    (s.joined k id).get F.RING_PHASE_P = phaseP (s.get F.RING_ARRIVAL_A) % 2 ^ F.RING_PHASE_P.width ∧
    (s.joined k id).get F.RING_PHASE_Q = phaseQ s.ring.lastE % 2 ^ F.RING_PHASE_Q.width := by
  unfold State.joined
  extract_lets a b
  have ha : Only admissionFields s a :=
    (((Only.refl _ s).set (f := F.RING_PHASE_P) (by simp [admissionFields]) _).set (f := F.RING_PHASE_Q)
      (by simp [admissionFields]) _).inc (f := F.RING_CNT_COUNT 5) (by simp [admissionFields])
  have hp : a.get F.RING_PHASE_P = phaseP (s.get F.RING_ARRIVAL_A) % 2 ^ F.RING_PHASE_P.width :=
    (State.get_set_other _ _ _ _ (by decide)).trans ((State.get_set_other _ _ _ _ (by decide)).trans (State.get_set_self _ _ _))
  have hq : a.get F.RING_PHASE_Q = phaseQ s.ring.lastE % 2 ^ F.RING_PHASE_Q.width :=
    (State.get_set_other _ _ _ _ (by decide)).trans (State.get_set_self _ _ _)
  clear_value a
  have hb : Only admissionFields s b := (ha.set (by simp [admissionFields]) _).setB (by simp [admissionFields]) _
  have hnode : b.get F.RING_NODE_NODE = id % 2 ^ F.RING_NODE_NODE.width :=
    (State.get_setB_other _ _ _ _ (by decide)).trans (State.get_set_self _ _ _)
  have hassigned : b.getB F.RING_NODE_ASSIGNED = true := State.getB_setB_self _ _ _ rfl
  have hp' : b.get F.RING_PHASE_P = a.get F.RING_PHASE_P :=
    (State.get_setB_other _ _ _ _ (by decide)).trans (State.get_set_other _ _ _ _ (by decide))
  have hq' : b.get F.RING_PHASE_Q = a.get F.RING_PHASE_Q :=
    (State.get_setB_other _ _ _ _ (by decide)).trans (State.get_set_other _ _ _ _ (by decide))
  clear_value b
  have hring : b.ring = s.ring := by
    have := congrArg State.ring hb.1
    exact this
  have hstride : b.stride = s.stride := by
    have := congrArg State.stride hb.1
    exact this
  have hadj : b.countAdj = s.countAdj := by
    have := congrArg State.countAdj hb.1
    exact this
  have hbeam : b.beamAt k = s.beamAt k := State.beamAt_congr hstride hadj k
  refine ⟨?_, (State.updRing_pending _ _).trans hb.pending, fun f hf => (State.get_updRing _ _ f).trans (hb.2 f hf),
    (State.get_updRing _ _ _).trans hnode, (State.getB_updRing _ _ _).trans hassigned,
    (State.get_updRing _ _ _).trans (hp'.trans hp), (State.get_updRing _ _ _).trans (hq'.trans hq)⟩
  rw [← hring, ← hbeam]
  rfl

theorem State.joinRing_eq {k id : Nat} (hforeign : s.ring.foreign = false) (s' : State) (hs' : s' = (s.joined k id).setRingState 1 0) :
    s.joinRing k id = if 16 < phaseQ s'.ring.lastE then s'.toGate else s' := by
  subst hs'
  unfold State.joinRing
  rw [if_neg (by simp [hforeign])]
  rfl

theorem exec_admissionEffect {k id : Nat} (hadmission : s.ring.admission = some (k, id)) (hon : s.ringOn = true)
    (hout : s.ringState = 0 ∨ s.ringState = 3) (hat : s.beamAt k ≤ s.stride) :
    exec .admissionEffect s = s.done (s.joinRing k id) := by
  change execAdmissionEffect s = _
  simp only [execAdmissionEffect, hadmission, if_pos (And.intro hon (And.intro hout hat))]

/-! ### Phases at musters (R375, R376) -/

/-- The fields of a step of the phases. -/
def slipFields : List Fld := [F.RING_CNT_COUNT 1, F.RING_IRQ_PHASE_SLIP] ++ logFields

/-- The phase that a step moves: P (0) or Q (1). -/
def phaseFld (which : Nat) : Fld := if which = 0 then F.RING_PHASE_P else F.RING_PHASE_Q

theorem State.phaseSlip_settles (s : State) (which old new : Nat) :
    Settles (phaseFld which :: slipFields) s (s.phaseSlip which old new) := by
  have hmarks : Settles (phaseFld which :: slipFields) s
      (((s.set (phaseFld which) new).ringCnt 1).setB F.RING_IRQ_PHASE_SLIP true) :=
    (((Settles.refl _ s).set (by simp) _).inc (by simp [slipFields])).setB (by simp [slipFields]) _
  exact hmarks.trans ((State.addLog_settles _ _ _ _ _ _ _).mono (by simp [slipFields]; tauto))

theorem State.phaseSlip_get {which : Nat} (hwhich : (phaseFld which).key ∉ slipFields.map Fld.key) (s : State) (old new : Nat) :
    (s.phaseSlip which old new).get (phaseFld which) = new % 2 ^ (phaseFld which).width := by
  have hmarks : Settles slipFields (s.set (phaseFld which) new) (s.phaseSlip which old new) :=
    (((Settles.refl _ (s.set (phaseFld which) new)).inc (by simp [slipFields])).setB (by simp [slipFields]) _).trans
      ((State.addLog_settles _ _ _ _ _ _ _).mono (by simp [slipFields]; tauto))
  exact (hmarks.2 _ hwhich).trans (State.get_set_self _ _ _)

/-- The phase that a step takes `v` to, given where in its slot what it times arrived. -/
def steppedP (v a : Nat) : Nat :=
  if a < 125000 * v + 1000 ∧ 0 < v then v - 1 else if 125000 * v + 126000 < a then v + 1 else v

/-- The phase of the return that a step takes `v` to, given its end `e`. -/
def steppedQ (v e : Nat) : Nat :=
  if 125000 * v < e + 1000 then v + 1 else if e + 126000 < 125000 * v then v - 1 else v

/-- P one step. -/
def State.stepP (s : State) : State :=
  let a := s.get F.RING_ARRIVAL_A
  let p := s.get F.RING_PHASE_P
  if a < 125000 * p + 1000 ∧ 0 < p then s.phaseSlip 0 p (p - 1)
  else if 125000 * p + 126000 < a then s.phaseSlip 0 p (p + 1) else s

/-- Q one step. -/
def State.stepQ (s : State) : State :=
  let e := s.ring.lastE
  let q := s.get F.RING_PHASE_Q
  if 125000 * q < e + 1000 then s.phaseSlip 1 q (q + 1)
  else if e + 126000 < 125000 * q then s.phaseSlip 1 q (q - 1) else s

theorem State.checkPhases_eq (s : State) (u : State) (hu : u = s.stepP.stepQ) :
    s.checkPhases = if 16 < u.get F.RING_PHASE_Q then u.toGate else u := by
  subst hu
  rfl

theorem State.stepP_shows (s : State) : Settles (F.RING_PHASE_P :: slipFields) s s.stepP ∧
    s.stepP.get F.RING_PHASE_P = steppedP (s.get F.RING_PHASE_P) (s.get F.RING_ARRIVAL_A) % 2 ^ F.RING_PHASE_P.width := by
  unfold State.stepP steppedP
  extract_lets a p
  split
  · exact ⟨s.phaseSlip_settles 0 p (p - 1), State.phaseSlip_get (which := 0) (by decide) s p (p - 1)⟩
  · split
    · exact ⟨s.phaseSlip_settles 0 p (p + 1), State.phaseSlip_get (which := 0) (by decide) s p (p + 1)⟩
    · exact ⟨Settles.refl _ s, (Nat.mod_eq_of_lt (s.get_lt _)).symm⟩

theorem State.stepQ_shows (s : State) : Settles (F.RING_PHASE_Q :: slipFields) s s.stepQ ∧
    s.stepQ.get F.RING_PHASE_Q = steppedQ (s.get F.RING_PHASE_Q) s.ring.lastE % 2 ^ F.RING_PHASE_Q.width := by
  unfold State.stepQ steppedQ
  extract_lets e q
  split
  · exact ⟨s.phaseSlip_settles 1 q (q + 1), State.phaseSlip_get (which := 1) (by decide) s q (q + 1)⟩
  · split
    · exact ⟨s.phaseSlip_settles 1 q (q - 1), State.phaseSlip_get (which := 1) (by decide) s q (q - 1)⟩
    · exact ⟨Settles.refl _ s, (Nat.mod_eq_of_lt (s.get_lt _)).symm⟩

theorem Settles.ring {fs : List Fld} (h : Settles fs s t) : t.ring = s.ring := by
  have := congrArg State.ring h.1
  exact this

/-- Both phases of a member have made their step. -/
theorem State.stepPQ_shows (s : State) : s.stepP.stepQ.ring = s.ring ∧ s.stepP.stepQ.pending = s.pending ∧
    s.stepP.stepQ.ringState = s.ringState ∧
    s.stepP.stepQ.get F.RING_PHASE_P = steppedP (s.get F.RING_PHASE_P) (s.get F.RING_ARRIVAL_A) % 2 ^ F.RING_PHASE_P.width ∧
    s.stepP.stepQ.get F.RING_PHASE_Q = steppedQ (s.get F.RING_PHASE_Q) s.ring.lastE % 2 ^ F.RING_PHASE_Q.width := by
  obtain ⟨hp, hpget⟩ := s.stepP_shows
  obtain ⟨hq, hqget⟩ := s.stepP.stepQ_shows
  rw [hp.ring, hp.2 F.RING_PHASE_Q (by decide)] at hqget
  exact ⟨hq.ring.trans hp.ring, hq.pending.trans hp.pending,
    (hq.2 F.RING_STATE_STATE (by decide)).trans (hp.2 F.RING_STATE_STATE (by decide)),
    (hq.2 F.RING_PHASE_P (by decide)).trans hpget, hqget⟩

theorem exec_musterPhaseCheck (hon : s.ringOn = true) (hstate : s.ringState = 1) (hmuster : s.musterStride = true)
    (hchecked : s.ring.checkedAt ≠ some s.stride) : exec .musterPhaseCheck s =
      s.done (s.updRing (fun r => { r with checkedAt := some s.stride })).checkPhases :=
  congrArg s.done (if_pos (by simp [hon, hstate, hmuster, hchecked]))

/-- A check of a Q that stays within 16: the member keeps its place, and both phases have made their step. -/
theorem State.checkPhases_stays (hstate : s.ringState = 1) (hq : steppedQ (s.get F.RING_PHASE_Q) s.ring.lastE ≤ 16) :
    s.checkPhases.pending = s.pending ∧ s.checkPhases.ring = s.ring ∧ s.checkPhases.ringState = 1 ∧
    s.checkPhases.get F.RING_PHASE_P = steppedP (s.get F.RING_PHASE_P) (s.get F.RING_ARRIVAL_A) % 2 ^ F.RING_PHASE_P.width ∧
    s.checkPhases.get F.RING_PHASE_Q = steppedQ (s.get F.RING_PHASE_Q) s.ring.lastE := by
  obtain ⟨hring, hpending, hkeeps, hpget, hqget⟩ := s.stepPQ_shows
  rw [Nat.mod_eq_of_lt (Nat.lt_of_le_of_lt hq (by decide))] at hqget
  rw [s.checkPhases_eq _ rfl, if_neg (by omega)]
  exact ⟨hpending, hring, hkeeps.trans hstate, hpget, hqget⟩

/-- A check of a Q that would pass 16: the node goes to gate. -/
theorem State.checkPhases_leaves (hq : steppedQ (s.get F.RING_PHASE_Q) s.ring.lastE = 17) :
    s.checkPhases.pending = s.pending ∧ s.checkPhases.ring.checkedAt = s.ring.checkedAt ∧ s.checkPhases.ringState = 0 := by
  obtain ⟨hring, hpending, -, -, hqget⟩ := s.stepPQ_shows
  rw [hq] at hqget
  rw [s.checkPhases_eq _ rfl, if_pos (by rw [hqget]; decide)]
  obtain ⟨hstate, -, hchecked⟩ := State.toGate_shows s.stepP.stepQ
  exact ⟨(State.toGate_pending _).trans hpending, hchecked.trans (by rw [hring]), hstate⟩

/-! ### The settlement -/

/-- Settles O53 (it holds): an admission takes the measured phases, and a check moves each phase by at most one step. -/
theorem membersAdmittedAndPhased : Obligations.MembersAdmittedAndPhased := by
  refine ⟨⟨?admission, ?delay, ?locked⟩, ?phases⟩
  case admission =>
    intro s k id hadmission hon hout hat hforeign
    have hexec := exec_admissionEffect hadmission hon hout hat
    obtain ⟨hring, hpending, hkeeps, hnode, hassigned, hp, hq⟩ := s.joined_shows k id
    obtain ⟨hstate, hirq, hothers, n, hring'⟩ := State.setRingState_shows (by decide : 1 < 3) (s.joined k id)
    obtain ⟨u, hu⟩ : ∃ u, u = (s.joined k id).setRingState 1 0 := ⟨_, rfl⟩
    have hupending : u.pending = s.pending := by rw [hu, State.setRingState_pending, hpending]
    rw [State.joinRing_eq hforeign u hu] at hexec
    rw [← hu] at hstate hirq hothers hring'
    rw [hring] at hring'
    have hlast : u.ring.lastE = s.ring.lastE := by rw [hring']; rfl
    rw [hlast] at hexec
    refine ⟨fun hlate => ?_, fun hfits => ?_⟩
    · rw [if_pos hlate] at hexec
      obtain ⟨hgate, hnone, -⟩ := u.toGate_shows
      exact State.finish hexec (u.toGate_pending.trans hupending) ⟨hgate, hnone⟩
    · rw [if_neg (by omega)] at hexec
      have hwas : (s.joined k id).ringState ≠ 1 := by
        rw [State.ringState, hkeeps _ (by decide)]
        rcases hout with h | h <;> rw [State.ringState] at h <;> omega
      refine State.finish hexec hupending ⟨?_, ?_, ?_, ?_, hstate, hirq hwas, ?_, ?_, ?_⟩
      · rw [hothers _ (by decide), hnode]
      · exact (congrArg (· != 0) (hothers _ (by decide))).trans hassigned
      · rw [hothers _ (by decide), hp]
      · rw [hothers _ (by decide), hq]
        exact Nat.mod_eq_of_lt (Nat.lt_of_le_of_lt hfits (by decide))
      all_goals
        rw [hring']
        rfl
  case delay =>
    exact fun s p ns hon hlink halive => congrArg s.done (if_pos (by simp [hon, hlink, halive]))
  case locked =>
    intro s maxNs nowNs ms hon hstate
    have hgo : ¬ ((!s.ringOn) = true ∨ s.ringState = 2) := by simp [hon, hstate]
    have hexec : exec (.ringLocked maxNs nowNs ms) s =
        s.done (if 1000 < nowNs then s.setB F.RING_STATE_LOCKED false
          else if maxNs ≤ 200 ∧ 2000 ≤ ms then s.setB F.RING_STATE_LOCKED true else s) := congrArg s.done (if_neg hgo)
    refine ⟨fun hfar => ?_, fun hnear hmax hms => ?_, fun hnear hshort => ?_⟩
    · rw [hexec, if_pos hfar]
      rfl
    · rw [hexec, if_neg (by omega), if_pos ⟨hmax, hms⟩]
      rfl
    · rw [hexec, if_neg (by omega), if_neg (by omega)]
      rfl
  case phases =>
    intro s hon hstate hmuster hchecked hq16
    have hexec := exec_musterPhaseCheck hon hstate hmuster hchecked
    obtain ⟨u, hu⟩ : ∃ u, u = s.updRing (fun r => { r with checkedAt := some s.stride }) := ⟨_, rfl⟩
    have hget : ∀ f, u.get f = s.get f := fun f => by rw [hu, State.get_updRing]
    have hlast : u.ring.lastE = s.ring.lastE := by rw [hu]; rfl
    have hnow : u.ring.checkedAt = some s.stride := by rw [hu]; rfl
    have hpend : u.pending = s.pending := by rw [hu]; rfl
    have hmember : u.ringState = 1 := by rw [State.ringState, hget]; exact hstate
    rw [← hu] at hexec
    have hleaves := State.checkPhases_leaves (s := u)
    have hstays := State.checkPhases_stays (s := u) hmember
    rw [hget, hlast] at hleaves hstays
    rw [hget, hget] at hstays
    have hwidth := s.get_lt F.RING_PHASE_P
    by_cases hover : s.get F.RING_PHASE_Q = 16 ∧ 125000 * 16 < s.ring.lastE + 1000
    · obtain ⟨hfull, hlate⟩ := hover
      obtain ⟨hpending, hchecked', hgate⟩ := hleaves (by rw [hfull, steppedQ, if_pos hlate])
      refine State.finish hexec (hpending.trans hpend) ⟨hchecked'.trans hnow, fun _ _ => hgate, fun h => ?_⟩
      omega
    · obtain ⟨hpending, hring, hstate', hp, hq⟩ := hstays (by unfold steppedQ; split <;> [omega; (split <;> omega)])
      refine State.finish hexec (hpending.trans hpend)
        ⟨(congrArg RingNode.checkedAt hring).trans hnow, fun h h' => absurd ⟨h, h'⟩ hover, fun _ => ⟨hstate', ?_, ?_, ?_, ?_, ?_, ?_⟩⟩
      · intro hearly hpos
        exact hp.trans (by rw [steppedP, if_pos ⟨hearly, hpos⟩]; exact Nat.mod_eq_of_lt (by omega))
      · intro hlate
        exact hp.trans (by rw [steppedP, if_neg (by omega), if_pos hlate])
      · intro hlow hhigh
        exact hp.trans (by rw [steppedP, if_neg (by omega), if_neg (by omega)]; exact Nat.mod_eq_of_lt hwidth)
      · intro hlate
        exact hq.trans (if_pos hlate)
      · intro hearly
        exact hq.trans (by rw [steppedQ, if_neg (by omega), if_pos hearly])
      · intro hlow hhigh
        exact hq.trans (by rw [steppedQ, if_neg (by omega), if_neg (by omega)])

end Sys2Proof.Machine
end

section
/-! The vault of a state: what most operations of the node leave alone. Each operation that does has its lemma here, in the
order of the model's chapters; chapters 02 to 07, 10, 16 and 17. -/

namespace Sys2Proof.Machine

/-- What few operations touch: the node's memories, the island beside its entropy source and generator, and the writes that wait
for the boundary. -/
structure Vault where
  fw : List (List Host.Cell)
  tack : List (List Host.Cell)
  wake : List (List Host.Cell)
  flash : List Host.Cell
  copyBuf : List Host.Cell
  sram : List Host.Cell
  swapBuf : List Host.Cell
  loadBuf : List Host.Cell
  isle : SecState
  queued : List QWrite

/-- The vault of a state. -/
def State.vault (s : State) : Vault :=
  ⟨s.boot.fw, s.boot.tack, s.boot.wake, s.boot.flash, s.copy.buf, s.copy.sram, s.swap.buf, s.host.loadBuf,
   { s.isle with drbg := none, blocks := 0 }, s.queued⟩

/-! ### Records of a state that keep the vault -/

/-- A state that differs from `t` in what the vault leaves out. -/
theorem vault_mk (t : State) (regs stride countAdj strideOn freeCtr pending answer log logTorn logOverrun banks fab mic
    line echo tg call ring net journal power gpio clk) :
    (State.mk regs stride countAdj strideOn freeCtr pending answer t.queued log logTorn logOverrun banks fab t.swap mic
      line echo tg call t.host ring net t.isle t.boot journal power t.copy gpio clk).vault = t.vault := rfl

/-- The boot record changed beside its memories. -/
theorem vault_boot (t : State) (regs stride countAdj strideOn freeCtr pending answer log logTorn logOverrun banks fab mic
    line echo tg call ring net fwSig' flashBad' states' models' serials' active' fresh' trialResets' fwImg' rest' want'
    wantSink' done' modelDue' recovery' audioAt' softDue' commitDue' journal power gpio clk) :
    (State.mk regs stride countAdj strideOn freeCtr pending answer t.queued log logTorn logOverrun banks fab t.swap mic
      line echo tg call t.host ring net t.isle (BootState.mk t.boot.fw fwSig' t.boot.tack t.boot.wake t.boot.flash
      flashBad' states' models' serials' active' fresh' trialResets' fwImg' rest' want' wantSink' done' modelDue' recovery'
      audioAt' softDue' commitDue') journal power t.copy gpio clk).vault = t.vault := rfl

/-- The host port changed beside its load buffer. -/
theorem vault_host (t : State) (regs stride countAdj strideOn freeCtr pending answer log logTorn logOverrun banks fab mic
    line echo tg call decided' open_' nextTxn' ptr' page' capture' captureSeq' loadPos' loadLen' loadSink' loadSlot'
    wdogRunning' grams' ring net journal power gpio clk) :
    (State.mk regs stride countAdj strideOn freeCtr pending answer t.queued log logTorn logOverrun banks fab t.swap mic
      line echo tg call (HostState.mk decided' open_' nextTxn' ptr' page' capture' captureSeq' loadPos' loadLen' loadSink'
      loadSlot' t.host.loadBuf wdogRunning' grams') ring net t.isle t.boot journal power t.copy gpio clk).vault = t.vault
      := rfl

/-- The swap changed beside its buffer. -/
theorem vault_swap (t : State) (regs stride countAdj strideOn freeCtr pending answer log logTorn logOverrun banks fab len'
    fresh' cur' img' at_' k' atStride' passed' mic line echo tg call ring net journal power gpio clk) :
    (State.mk regs stride countAdj strideOn freeCtr pending answer t.queued log logTorn logOverrun banks fab (SwapState.mk
      t.swap.buf len' fresh' cur' img' at_' k' atStride' passed') mic line echo tg call t.host ring net t.isle t.boot
      journal power t.copy gpio clk).vault = t.vault := rfl

/-- The copy engine changed beside its memories. -/
theorem vault_copy (t : State) (regs stride countAdj strideOn freeCtr pending answer log logTorn logOverrun banks fab mic
    line echo tg call ring net journal power run' last' gpio clk) :
    (State.mk regs stride countAdj strideOn freeCtr pending answer t.queued log logTorn logOverrun banks fab t.swap mic
      line echo tg call t.host ring net t.isle t.boot journal power (CopyState.mk t.copy.buf t.copy.sram run' last') gpio
      clk).vault = t.vault := rfl

/-- The entropy source and the generator of the island changed. -/
theorem vault_isle (t : State) (regs stride countAdj strideOn freeCtr pending answer log logTorn logOverrun banks fab mic
    line echo tg call ring net drbg' blocks' journal power gpio clk) :
    (State.mk regs stride countAdj strideOn freeCtr pending answer t.queued log logTorn logOverrun banks fab t.swap mic
      line echo tg call t.host ring net (SecState.mk t.isle.fuse t.isle.tested t.isle.osc t.isle.operators t.isle.imageKeys
      t.isle.tackKey t.isle.caks t.isle.identity t.isle.cakOf t.isle.challenges t.isle.locked t.isle.nets t.isle.mbox
      t.isle.zeroing t.isle.wdtDue t.isle.pwk drbg' blocks') t.boot journal power t.copy gpio clk).vault = t.vault := rfl

/-! ### Walks that keep the vault -/

theorem foldl_vault {α : Type} {g : State → α → State} (h : ∀ s a, (g s a).vault = s.vault) (l : List α) (s : State) :
    (l.foldl g s).vault = s.vault := by
  induction l generalizing s with
  | nil => rfl
  | cons a l ih => exact (ih (g s a)).trans (h s a)

theorem foldl_vault_fst {α β : Type} {g : State × β → α → State × β} (h : ∀ p a, (g p a).1.vault = p.1.vault) (l : List α)
    (p : State × β) : (l.foldl g p).1.vault = p.1.vault := by
  induction l generalizing p with
  | nil => rfl
  | cons a l ih => exact (ih (g p a)).trans (h p a)

theorem foldl_vault_snd {α β : Type} {g : β × State → α → β × State} (h : ∀ p a, (g p a).2.vault = p.2.vault) (l : List α)
    (p : β × State) : (l.foldl g p).2.vault = p.2.vault := by
  induction l generalizing p with
  | nil => rfl
  | cons a l ih => exact (ih (g p a)).trans (h p a)

theorem State.vault_countAdj (s : State) (k : Nat) : ({ s with countAdj := k } : State).vault = s.vault := rfl

/-! ### Shared operations -/

theorem State.set_vault (s : State) (f : Fld) (v : Nat) : (s.set f v).vault = s.vault := by
  simp only [State.set, vault_mk]

theorem State.setB_vault (s : State) (f : Fld) (b : Bool) : (s.setB f b).vault = s.vault := by
  simp only [State.setB, State.set_vault]

theorem State.inc_vault (s : State) (f : Fld) : (s.inc f).vault = s.vault := by
  simp only [State.inc, State.set_vault]

theorem State.incSat_vault (s : State) (f : Fld) : (s.incSat f).vault = s.vault := by
  simp only [State.incSat, apply_ite State.vault, ite_self, State.set_vault]

theorem State.setBit_vault (s : State) (f : Fld) (n : Nat) (b : Bool) : (s.setBit f n b).vault = s.vault := by
  simp only [State.setBit, State.set_vault]

theorem State.setI_vault (s : State) (f : Fld) (i : Int) : (s.setI f i).vault = s.vault := by
  simp only [State.setI, State.set_vault]

theorem State.freeBool_vault (s : State) : s.freeBool.2.vault = s.vault := by
  simp only [State.freeBool, vault_mk]

theorem State.freeNat_vault (s : State) : s.freeNat.2.vault = s.vault := by
  simp only [State.freeNat, vault_mk]

theorem State.freeBlock_vault (s : State) (ch : Nat) : (s.freeBlock ch).2.vault = s.vault := by
  simp only [State.freeBlock, vault_mk]

theorem State.addLog_vault (s : State) (type master domain a0 a1 a2 : Nat) :
    (s.addLog type master domain a0 a1 a2).vault = s.vault := by
  simp only [State.addLog, vault_mk, apply_ite State.vault, ite_self, State.inc_vault, State.setB_vault]

theorem State.ev_vault (s : State) (e : Ev) (domain a0 a1 a2 : Nat) : (s.ev e domain a0 a1 a2).vault = s.vault := by
  simp only [State.ev, State.addLog_vault]

theorem State.writeCell_vault (s : State) (a : Nat) (err : Bool) (data : List (Fld × Nat)) :
    (s.writeCell a err data).vault = s.vault := by
  simp only [State.writeCell, foldl_vault, implies_true, State.set_vault, State.setB_vault]

theorem State.cellBusy_vault (s : State) (a : Nat) : (s.cellBusy a).vault = s.vault := by
  simp only [State.cellBusy, State.setB_vault]

theorem State.ackCell_vault (s : State) (a seq : Nat) : (s.ackCell a seq).vault = s.vault := by
  simp only [State.ackCell, apply_ite State.vault, ite_self, State.setB_vault]

/-! ### The stall fabric -/

theorem State.updStall_vault (s : State) (n : Nat) (f : Stall → Stall) : (s.updStall n f).vault = s.vault := by
  simp only [State.updStall, vault_mk]

theorem State.stepRamps_vault (s : State) (t : Stall) : (s.stepRamps t).2.vault = s.vault := by
  unfold State.stepRamps
  split <;> simp only [vault_mk]

theorem State.pushOut_vault (s : State) (t : Stall) (f : Link → Block) : (s.pushOut t f).vault = s.vault := by
  simp only [State.pushOut, vault_mk]

theorem State.writeFallback_vault (s : State) (t : Stall) : (s.writeFallback t).vault = s.vault := by
  simp only [State.writeFallback, foldl_vault, implies_true, State.pushOut_vault, State.setB_vault, State.updStall_vault]

theorem State.showWindow_vault (s : State) (n : Nat) : (s.showWindow n).vault = s.vault := by
  unfold State.showWindow
  split <;> simp only [State.set_vault]

theorem State.lameStall_vault (s : State) (u : Stall) : (s.lameStall u).vault = s.vault := by
  simp only [State.lameStall, State.setBit_vault, State.set_vault, State.ev_vault, State.setB_vault]

theorem State.declareLame_vault (s : State) (t : Stall) : (s.declareLame t).vault = s.vault := by
  simp only [State.declareLame, foldl_vault, implies_true, State.lameStall_vault]

theorem State.lateStall_vault (s : State) (u : Stall) : (s.lateStall u).vault = s.vault := by
  simp only [State.lateStall, State.updStall_vault, State.setB_vault, State.inc_vault, State.showWindow_vault]

theorem State.lateInstance_vault (s : State) (t : Stall) : (s.lateInstance t).vault = s.vault := by
  simp only [State.lateInstance, apply_ite State.vault, ite_self, foldl_vault, implies_true, State.lateStall_vault,
    State.inc_vault, State.writeFallback_vault, State.declareLame_vault]

theorem State.layerEnd_vault (s : State) (k : Nat) : (s.layerEnd k).vault = s.vault := by
  unfold State.layerEnd
  refine foldl_vault (fun x u => ?_) _ s
  split
  · rfl
  · simp only [apply_ite State.vault, State.writeFallback_vault, State.lateInstance_vault, State.updStall_vault, ite_self]

theorem State.outward_vault (s : State) (n : Nat) : (s.outward n).vault = s.vault := by
  unfold State.outward
  split <;> simp only [apply_ite State.vault, ite_self, State.pushOut_vault]

theorem State.commitStall_vault (s : State) (n at_ mhz2 : Nat) : (s.commitStall n at_ mhz2).vault = s.vault := by
  unfold State.commitStall
  split <;> simp only [apply_ite State.vault, ite_self, State.updStall_vault, State.set_vault, State.outward_vault,
    State.showWindow_vault]

theorem State.applyClocks_vault (s : State) : s.applyClocks.vault = s.vault := by
  simp only [State.applyClocks, foldl_vault, implies_true, State.set_vault, State.updStall_vault]

theorem State.latchSinks_vault (s : State) : s.latchSinks.vault = s.vault := by
  simp only [State.latchSinks, vault_mk]

theorem State.beginStride_vault (s : State) : s.beginStride.vault = s.vault := by
  simp only [State.beginStride, vault_mk, foldl_vault, implies_true, State.setB_vault]

theorem State.commitSources_vault (s : State) (src : Nat → Nat → List Sample) : (s.commitSources src).vault = s.vault := by
  simp only [State.commitSources, vault_mk]

theorem State.showStall_vault (s : State) (t : Stall) (phase : Nat) : (s.showStall t phase).vault = s.vault := by
  simp only [State.showStall, State.set_vault, State.setB_vault, State.setBit_vault]

theorem State.installFabric_vault (s : State) (im : Image) : (s.installFabric im).vault = s.vault := by
  simp only [State.installFabric, vault_mk]

theorem State.showFabric_vault (s : State) (im : Image) : (s.showFabric im).vault = s.vault := by
  simp only [State.showFabric, foldl_vault, implies_true, State.set_vault, State.showStall_vault]

theorem State.powerGroups_vault (s : State) (groups : Nat) : (s.powerGroups groups).vault = s.vault := by
  simp only [State.powerGroups, vault_mk, State.set_vault]

theorem State.requestDomain_vault (s : State) (d : Nat) : (s.requestDomain d).vault = s.vault := by
  simp only [State.requestDomain, vault_mk, apply_ite State.vault, ite_self]

theorem State.requestGroups_vault (s : State) (mask : Nat) : (s.requestGroups mask).vault = s.vault := by
  simp only [State.requestGroups, apply_ite State.vault, ite_self, foldl_vault, implies_true, State.requestDomain_vault]

theorem State.dropDomain_vault (s : State) (d : Nat) : (s.dropDomain d).vault = s.vault := by
  simp only [State.dropDomain, vault_mk, apply_ite State.vault, ite_self, State.setBit_vault]

theorem State.needDomain_vault (s : State) (d : Nat) (b : Bool) : (s.needDomain d b).vault = s.vault := by
  simp only [State.needDomain, apply_ite State.vault, ite_self, State.requestDomain_vault, State.dropDomain_vault]

theorem State.dropEntering_vault (s : State) : s.dropEntering.vault = s.vault := by
  simp only [State.dropEntering, vault_mk, apply_ite State.vault, ite_self, foldl_vault, implies_true, State.set_vault,
    State.setBit_vault, State.powerGroups_vault]

/-! ### Keys, gates and the mix -/

theorem State.syncKeys_vault (s : State) : s.syncKeys.vault = s.vault := by
  simp only [State.syncKeys, vault_mk]

theorem State.stepKeys_vault (s : State) : s.stepKeys.vault = s.vault := by
  simp only [State.stepKeys, vault_mk, State.set_vault]

theorem State.stepGates_vault (s : State) (remote : Nat → Option Nat) : (s.stepGates remote).vault = s.vault := by
  simp only [State.stepGates, vault_mk, apply_ite State.vault, ite_self, foldl_vault, implies_true, State.set_vault,
    State.setB_vault]

theorem State.stepDucks_vault (s : State) : s.stepDucks.vault = s.vault := by
  simp only [State.stepDucks, vault_mk]

theorem State.stepTargets_vault (s : State) : s.stepTargets.vault = s.vault := by
  simp only [State.stepTargets, vault_mk]

theorem State.mixEvaluate_vault (s : State) (remote : Nat → Option Nat) : (s.mixEvaluate remote).vault = s.vault := by
  simp only [State.mixEvaluate, State.stepTargets_vault, State.stepDucks_vault, State.stepGates_vault, State.stepKeys_vault]

theorem State.startMix_vault (s : State) (remote : Nat → Option Nat) : (s.startMix remote).vault = s.vault := by
  simp only [State.startMix, vault_mk, State.mixEvaluate_vault]

theorem State.setStored_vault (s : State) (i o g : Nat) : (s.setStored i o g).vault = s.vault := by
  unfold State.setStored
  split <;> simp only [vault_mk]

theorem State.xpWrite_vault (s : State) (i o g : Nat) : (s.xpWrite i o g).vault = s.vault := by
  simp only [State.xpWrite, apply_ite State.vault, ite_self, State.setB_vault, State.setStored_vault]

theorem State.foghornAcked_vault (s : State) : s.foghornAcked.vault = s.vault := by
  simp only [State.foghornAcked, apply_ite State.vault, ite_self, State.setB_vault]

theorem State.keyInput_vault (s : State) (gpio : Nat) (level : Bool) : (s.keyInput gpio level).vault = s.vault := by
  simp only [State.keyInput, vault_mk, State.syncKeys_vault]

theorem State.panelChange_vault (s : State) (gpio : Nat) : (s.panelChange gpio).vault = s.vault := by
  simp only [State.panelChange, vault_mk, apply_ite State.vault, ite_self, State.requestDomain_vault]

/-! ### Microphones and wake -/

theorem State.showMuted_vault (s : State) : s.showMuted.vault = s.vault := by
  simp only [State.showMuted, State.set_vault]

theorem State.micStride_vault (s : State) (pdm : List Nat) : (s.micStride pdm).vault = s.vault := by
  simp only [State.micStride, vault_mk]

theorem State.countOverrun_vault (s : State) (src : Nat) : (s.countOverrun src).vault = s.vault := by
  simp only [State.countOverrun, State.setB_vault, State.inc_vault]

theorem State.histFull_vault (s : State) (idx : Nat) (x : Int) : (s.histFull idx x).vault = s.vault := by
  simp only [State.histFull, vault_mk, apply_ite State.vault, ite_self, State.countOverrun_vault]

theorem State.histComp_vault (s : State) (idx : Nat) (y : List Int) : (s.histComp idx y).vault = s.vault := by
  simp only [State.histComp, vault_mk, apply_ite State.vault, ite_self, State.countOverrun_vault]

theorem State.recordHistory_vault (s : State) (n : Nat) : (s.recordHistory n).vault = s.vault := by
  simp only [State.recordHistory, vault_mk, foldl_vault, implies_true, State.histFull_vault, State.histComp_vault]

theorem State.clearHistory_vault (s : State) : s.clearHistory.vault = s.vault := by
  simp only [State.clearHistory, vault_mk, State.set_vault, State.setB_vault]

theorem State.stageUp_vault (s : State) (k : Nat) : (s.stageUp k).vault = s.vault := by
  simp only [State.stageUp, vault_mk, State.set_vault]

theorem State.setConf_vault (s : State) (k v : Nat) : (s.setConf k v).vault = s.vault := by
  simp only [State.setConf, State.set_vault]

theorem State.showStageMuted_vault (s : State) : s.showStageMuted.vault = s.vault := by
  simp only [State.showStageMuted, State.setB_vault]

theorem State.stageDown_vault (s : State) : s.stageDown.vault = s.vault := by
  simp only [State.stageDown, vault_mk, apply_ite State.vault, ite_self, State.set_vault, State.setConf_vault,
    State.setBit_vault, State.showStageMuted_vault]

theorem State.stagesOff_vault (s : State) : s.stagesOff.vault = s.vault := by
  simp only [State.stagesOff, apply_ite State.vault, ite_self, foldl_vault, implies_true, State.stageDown_vault]

theorem State.wakeSync_vault (s : State) : s.wakeSync.vault = s.vault := by
  simp only [State.wakeSync, apply_ite State.vault, ite_self, State.stageUp_vault, State.stagesOff_vault]

theorem State.latchWake_vault (s : State) (forced : Bool) (onset model conf : Nat) :
    (s.latchWake forced onset model conf).vault = s.vault := by
  simp only [State.latchWake, vault_mk, apply_ite State.vault, ite_self, State.writeCell_vault, State.setB_vault,
    State.inc_vault, State.requestDomain_vault]

theorem State.releaseWake_vault (s : State) : s.releaseWake.vault = s.vault := by
  simp only [State.releaseWake, vault_mk, State.setB_vault]

theorem State.moveFloor_vault (s : State) (energy : Nat) : (s.moveFloor energy).vault = s.vault := by
  simp only [State.moveFloor, vault_mk, State.freeBool_vault]

theorem State.stageFrame_vault (s : State) (f : WakeFrame) (k : Nat) : (s.stageFrame f k).vault = s.vault := by
  simp only [State.stageFrame, vault_mk, apply_ite State.vault, ite_self, State.setConf_vault]

theorem State.winner_vault (s : State) (f : WakeFrame) : (s.winner f).2.vault = s.vault := by
  simp only [State.winner, State.freeNat_vault]

theorem State.promote_vault (s : State) (f : WakeFrame) : (s.promote f).vault = s.vault := by
  simp only [State.promote, vault_mk, apply_ite State.vault, ite_self, State.winner_vault, State.latchWake_vault,
    State.stageUp_vault]

theorem State.forceWake_vault (s : State) : s.forceWake.vault = s.vault := by
  simp only [State.forceWake, apply_ite State.vault, ite_self, State.freeNat_vault, State.latchWake_vault]

theorem State.goLive_vault (s : State) : s.goLive.vault = s.vault := by
  simp only [State.goLive, vault_mk, State.set_vault]

theorem State.stepCatchup_vault (s : State) : s.stepCatchup.vault = s.vault := by
  simp only [State.stepCatchup, apply_ite State.vault, ite_self, State.goLive_vault, State.set_vault]

/-! ### Echo cancellers -/

theorem State.updEcho_vault (s : State) (i : Nat) (f : EchoInst → EchoInst) : (s.updEcho i f).vault = s.vault := by
  simp only [State.updEcho, vault_mk]

theorem State.startEcho_vault (s : State) (t : Stall) : (s.startEcho t).vault = s.vault := by
  simp only [State.startEcho, vault_mk]
  repeat' split
  all_goals simp only [State.set_vault, State.setB_vault]

theorem State.startAllEchoes_vault (s : State) : s.startAllEchoes.vault = s.vault := by
  simp only [State.startAllEchoes, vault_mk, apply_ite State.vault, ite_self, foldl_vault, implies_true,
    State.startEcho_vault]

theorem State.showEchoState_vault (s : State) (i : Nat) : (s.showEchoState i).vault = s.vault := by
  unfold State.showEchoState
  split <;> simp only [State.setB_vault, State.set_vault]

theorem State.clearEcho_vault (s : State) (i : Nat) : (s.clearEcho i).vault = s.vault := by
  simp only [State.clearEcho, State.set_vault, State.setB_vault, State.updEcho_vault]

theorem State.clearBound_vault (s : State) (c : Nat) : (s.clearBound c).vault = s.vault := by
  simp only [State.clearBound, apply_ite State.vault, ite_self, foldl_vault, implies_true, State.updEcho_vault]

theorem State.freezeWritten_vault (s : State) (i v : Nat) : (s.freezeWritten i v).vault = s.vault := by
  simp only [State.freezeWritten, apply_ite State.vault, ite_self, State.updEcho_vault]

theorem State.echoStride_vault (s : State) (i : Nat) (near : List Sample) (refs : List (List Sample)) (residual estimate : List Sample)
    (adapt : Nat → Nat) :
    (s.echoStride i near refs residual estimate adapt).vault = s.vault := by
  unfold State.echoStride
  split <;> simp only [State.freeNat_vault, State.set_vault, State.setB_vault, State.updEcho_vault,
    State.showEchoState_vault]

theorem State.echoBoundary_vault (s : State) : s.echoBoundary.vault = s.vault := by
  simp only [State.echoBoundary, apply_ite State.vault, ite_self, foldl_vault, implies_true, State.updEcho_vault,
    State.clearEcho_vault, State.showEchoState_vault]

theorem State.perMille_vault (s : State) (n total : Nat) : (s.perMille n total).2.vault = s.vault := by
  unfold State.perMille
  split <;> simp only [State.freeBool_vault]

/-! ### Lines, converters and TDM -/

theorem State.muteDac_vault (s : State) (n : Nat) : (s.muteDac n).vault = s.vault := by
  simp only [State.muteDac, vault_mk]

theorem State.updBal_vault (s : State) (c : Nat) (f : Bal → Bal) : (s.updBal c f).vault = s.vault := by
  simp only [State.updBal, vault_mk]

theorem State.balWords_vault (s : State) (c : Nat) : (s.balWords c).2.vault = s.vault := by
  simp only [State.balWords, vault_mk]

theorem State.balError_vault (s : State) (c code : Nat) : (s.balError c code).vault = s.vault := by
  simp only [State.balError, State.balWords_vault, State.writeCell_vault]

theorem State.balAbort_vault (s : State) (c code : Nat) : (s.balAbort c code).vault = s.vault := by
  simp only [State.balAbort, vault_mk, apply_ite State.vault, ite_self, State.set_vault, State.setB_vault,
    State.updBal_vault, State.balError_vault]

theorem State.balRequest_vault (s : State) (c : Nat) : (s.balRequest c).vault = s.vault := by
  simp only [State.balRequest, apply_ite State.vault, ite_self, State.balError_vault, State.cellBusy_vault, State.setB_vault]

theorem State.clearFilter_vault (s : State) (c : Nat) : (s.clearFilter c).vault = s.vault := by
  simp only [State.clearFilter, vault_mk, State.clearBound_vault]

theorem State.resetDrive_vault (s : State) (c : Nat) : (s.resetDrive c).vault = s.vault := by
  simp only [State.resetDrive, vault_mk]

theorem State.termChanged_vault (s : State) (c : Nat) : (s.termChanged c).vault = s.vault := by
  simp only [State.termChanged, State.resetDrive_vault, State.clearFilter_vault, State.setB_vault]

theorem State.trimChanged_vault (s : State) (c : Nat) : (s.trimChanged c).vault = s.vault := by
  simp only [State.trimChanged, State.setB_vault]

theorem State.nearest_vault (s : State) (n d : Nat) : (s.nearest n d).2.vault = s.vault := by
  unfold State.nearest
  split <;> simp only [State.freeBool_vault]

theorem State.openSwitch_vault (s : State) (c : Nat) : (s.openSwitch c).vault = s.vault := by
  simp only [State.openSwitch, apply_ite State.vault, ite_self, State.setB_vault, State.muteDac_vault, State.balAbort_vault]

theorem State.syncSwitches_vault (s : State) : s.syncSwitches.vault = s.vault := by
  simp only [State.syncSwitches, vault_mk, apply_ite State.vault, ite_self, foldl_vault, implies_true,
    State.openSwitch_vault, State.muteDac_vault]

theorem State.closeSwitches_vault (s : State) : s.closeSwitches.vault = s.vault := by
  simp only [State.closeSwitches, vault_mk, apply_ite State.vault, ite_self, foldl_vault, implies_true, State.muteDac_vault,
    State.setB_vault]

theorem State.syncSpeaker_vault (s : State) : s.syncSpeaker.vault = s.vault := by
  simp only [State.syncSpeaker, apply_ite State.vault, ite_self, State.needDomain_vault, State.muteDac_vault,
    State.setB_vault]

theorem State.spkWritten_vault (s : State) : s.spkWritten.vault = s.vault := by
  simp only [State.spkWritten, vault_mk, apply_ite State.vault, ite_self, State.setB_vault, State.syncSpeaker_vault]

theorem State.stepAdc_vault (s : State) (x : Nat → List Sample) : (s.stepAdc x).vault = s.vault := by
  simp only [State.stepAdc, vault_mk, State.set_vault]

theorem State.adaptStride_vault (s : State) (hyb : Nat → List Sample) (c : Nat) : (s.adaptStride hyb c).vault = s.vault := by
  simp only [State.adaptStride, vault_mk, apply_ite State.vault, ite_self, State.setB_vault]

theorem State.converterStride_vault (s : State) (hyb : Nat → List Sample) : (s.converterStride hyb).vault = s.vault := by
  simp only [State.converterStride, vault_mk, apply_ite State.vault, ite_self, foldl_vault, implies_true,
    State.adaptStride_vault, State.setB_vault]

theorem State.restoreBalances_vault (s : State) : s.restoreBalances.vault = s.vault := by
  simp only [State.restoreBalances, apply_ite State.vault, ite_self, foldl_vault, implies_true, State.muteDac_vault,
    State.updBal_vault]

theorem State.markTalks_vault (s : State) (was : List Xp) : (s.markTalks was).vault = s.vault := by
  simp only [State.markTalks, apply_ite State.vault, ite_self, foldl_vault, implies_true, State.updBal_vault]

theorem State.endTalkBalances_vault (s : State) : s.endTalkBalances.vault = s.vault := by
  unfold State.endTalkBalances
  refine foldl_vault (fun x c => ?_) _ s
  split
  · rfl
  · simp only [apply_ite State.vault, State.updBal_vault, State.balAbort_vault, ite_self]

theorem State.updTdm_vault (s : State) (t : Nat) (f : TdmPort → TdmPort) : (s.updTdm t f).vault = s.vault := by
  simp only [State.updTdm, vault_mk]

theorem State.tdmSlip_vault (s : State) (t : Nat) : (s.tdmSlip t).vault = s.vault := by
  simp only [State.tdmSlip, State.inc_vault, State.setB_vault]

theorem State.tdmWritten_vault (s : State) (t : Nat) : (s.tdmWritten t).vault = s.vault := by
  simp only [State.tdmWritten, apply_ite State.vault, ite_self, State.setB_vault, State.updTdm_vault]

theorem State.tdmBoundary_vault (s : State) (t : Nat) : (s.tdmBoundary t).1.vault = s.vault := by
  unfold State.tdmBoundary
  split <;> simp only [apply_ite State.vault, ite_self, foldl_vault, implies_true, State.tdmSlip_vault, State.updTdm_vault]

/-! ### Calls and lamps -/

theorem State.putDet_vault (s : State) (d : Det) : (s.putDet d).vault = s.vault := by
  simp only [State.putDet, vault_mk]

theorem State.detStride_vault (s : State) (input : Nat) (dc : Bool) (m : CallMeas) :
    (s.detStride input dc m).vault = s.vault := by
  simp only [State.detStride, apply_ite State.vault, ite_self, State.putDet_vault]

theorem State.overWindow_vault (s : State) (c : Nat) (m : CallMeas) : (s.overWindow c m).vault = s.vault := by
  simp only [State.overWindow, State.setB_vault]

theorem State.callResult_vault (s : State) (d : Det) (event : Nat) : (s.callResult d event).vault = s.vault := by
  simp only [State.callResult, apply_ite State.vault, ite_self, State.writeCell_vault]

theorem State.showCall_vault (s : State) (n : Nat) : (s.showCall n).vault = s.vault := by
  simp only [State.showCall, apply_ite State.vault, ite_self, State.setB_vault]

theorem State.endCall_vault (s : State) (input : Nat) (dc : Bool) : (s.endCall input dc).vault = s.vault := by
  simp only [State.endCall, apply_ite State.vault, ite_self, State.putDet_vault, State.callResult_vault, State.setB_vault,
    State.showCall_vault]

theorem State.endCalls_vault (s : State) (c : Nat) : (s.endCalls c).vault = s.vault := by
  simp only [State.endCalls, State.endCall_vault]

theorem State.syncSuspend_vault (s : State) : s.syncSuspend.vault = s.vault := by
  simp only [State.syncSuspend, apply_ite State.vault, ite_self, foldl_vault, implies_true, State.endCalls_vault,
    State.setB_vault]

theorem State.stepRaised_vault (s : State) : s.stepRaised.vault = s.vault := by
  simp only [State.stepRaised, vault_mk, State.set_vault]

theorem State.stepSends_vault (s : State) : s.stepSends.vault = s.vault := by
  simp only [State.stepSends, vault_mk]

theorem State.startGen_vault (s : State) (c : Nat) : (s.startGen c).vault = s.vault := by
  simp only [State.startGen, vault_mk, State.setB_vault, State.endCalls_vault]

theorem State.stopGen_vault (s : State) (c : Nat) : (s.stopGen c).vault = s.vault := by
  simp only [State.stopGen, vault_mk, State.setB_vault]

theorem State.genBoundary_vault (s : State) (c : Nat) : (s.genBoundary c).vault = s.vault := by
  simp only [State.genBoundary, apply_ite State.vault, ite_self, State.setB_vault, State.stopGen_vault, State.startGen_vault]
  repeat' split
  all_goals simp only [State.setB_vault, State.stopGen_vault]

theorem State.portCallsEnd_vault (s : State) (p : Nat) : (s.portCallsEnd p).vault = s.vault := by
  simp only [State.portCallsEnd, apply_ite State.vault, ite_self, foldl_vault, implies_true, State.endCalls_vault,
    State.stopGen_vault]

theorem State.stepLamps_vault (s : State) : s.stepLamps.vault = s.vault := by
  simp only [State.stepLamps, State.set_vault]

theorem State.showCalls_vault (s : State) : s.showCalls.vault = s.vault := by
  simp only [State.showCalls, State.stepLamps_vault, State.stepRaised_vault]

theorem State.callBoundary_vault (s : State) (meas : Nat → CallMeas) : (s.callBoundary meas).vault = s.vault := by
  simp only [State.callBoundary, foldl_vault, implies_true, State.detStride_vault, State.overWindow_vault,
    State.genBoundary_vault, State.stepLamps_vault, State.stepRaised_vault, State.stepSends_vault]

/-! ### The journal -/

theorem State.journalWrite_vault (s : State) (r : JRec) : (s.journalWrite r).vault = s.vault := by
  simp only [State.journalWrite, vault_mk]

theorem State.journalPowerFail_vault (s : State) (mv : Nat) : (s.journalPowerFail mv).vault = s.vault := by
  simp only [State.journalPowerFail, State.journalWrite_vault]

theorem State.journalChanged_vault (s : State) (master addr mask value : Nat) :
    (s.journalChanged master addr mask value).vault = s.vault := by
  simp only [State.journalChanged, vault_mk]

/-! ### Power entry and line power -/

theorem State.syncInputs_vault (s : State) : s.syncInputs.vault = s.vault := by
  simp only [State.syncInputs, apply_ite State.vault, ite_self, State.set_vault, State.setB_vault, State.needDomain_vault]

theorem State.updPse_vault (s : State) (n : Nat) (f : PsePort → PsePort) : (s.updPse n f).vault = s.vault := by
  simp only [State.updPse, vault_mk]

theorem State.noteRefusal_vault (s : State) (o : Nat) : (s.noteRefusal o).vault = s.vault := by
  simp only [State.noteRefusal, vault_mk]

theorem State.grantOutputs_vault (s : State) (os : List Nat) : (s.grantOutputs os).vault = s.vault := by
  simp only [State.grantOutputs, apply_ite State.vault, ite_self, foldl_vault, implies_true, State.set_vault,
    State.noteRefusal_vault, State.setB_vault]

theorem State.shedOutput_vault (s : State) (o : Nat) (counter : Fld) : (s.shedOutput o counter).vault = s.vault := by
  simp only [State.shedOutput, State.set_vault, State.noteRefusal_vault, State.ev_vault, State.setB_vault, State.inc_vault]

theorem State.shedLoop_vault (s : State) (k : Nat) : (s.shedLoop k).vault = s.vault := by
  induction k generalizing s with
  | zero => rfl
  | succ k ih =>
    rw [State.shedLoop]
    split
    · rfl
    · split
      · rfl
      · rw [ih, State.shedOutput_vault]

theorem State.setLine_vault (s : State) (p v : Nat) : (s.setLine p v).vault = s.vault := by
  simp only [State.setLine, vault_mk, State.set_vault]

theorem State.syncLine_vault (s : State) (p : Nat) : (s.syncLine p).vault = s.vault := by
  simp only [State.syncLine, apply_ite State.vault, ite_self, State.setLine_vault]

theorem State.showLine_vault (s : State) (p : Nat) : (s.showLine p).vault = s.vault := by
  simp only [State.showLine, State.setB_vault]

theorem State.setPse_vault (s : State) (n v : Nat) : (s.setPse n v).vault = s.vault := by
  simp only [State.setPse, State.updPse_vault, State.set_vault]

theorem State.syncPse_vault (s : State) (n : Nat) : (s.syncPse n).vault = s.vault := by
  simp only [State.syncPse, apply_ite State.vault, ite_self, State.setPse_vault, State.updPse_vault]

theorem State.pseFit_vault (s : State) (k : Nat) : (s.pseFit k).vault = s.vault := by
  induction k generalizing s with
  | zero => rfl
  | succ k ih =>
    rw [State.pseFit]
    extract_lets on
    split
    · rfl
    · split
      · rfl
      · rw [ih, State.set_vault, State.setPse_vault]

theorem State.releaseGrants_vault (s : State) : s.releaseGrants.vault = s.vault := by
  simp only [State.releaseGrants, apply_ite State.vault, ite_self, foldl_vault, implies_true, State.set_vault]

theorem State.settlePower_vault (s : State) : s.settlePower.vault = s.vault := by
  simp only [State.settlePower, State.pseFit_vault, State.syncPse_vault, State.syncLine_vault, State.releaseGrants_vault]

theorem State.syncPower_vault (s : State) : s.syncPower.vault = s.vault := by
  simp only [State.syncPower, State.syncSpeaker_vault, State.syncSuspend_vault, State.syncSwitches_vault, State.set_vault,
    State.needDomain_vault, foldl_vault, implies_true, State.showLine_vault, State.syncInputs_vault, State.settlePower_vault,
    State.shedLoop_vault]

theorem State.setRole_vault (s : State) (p r : Nat) : (s.setRole p r).vault = s.vault := by
  simp only [State.setRole, vault_mk, apply_ite State.vault, ite_self, foldl_vault, implies_true, State.set_vault,
    State.portCallsEnd_vault, State.balAbort_vault, State.resetDrive_vault, State.clearBound_vault, State.syncPower_vault]

theorem State.clearLatch_vault (s : State) (p : Nat) : (s.clearLatch p).vault = s.vault := by
  simp only [State.clearLatch, State.set_vault, State.setB_vault]

theorem State.listen_vault (s : State) (p : Nat) : (s.listen p).vault = s.vault := by
  simp only [State.listen, State.setRole_vault, State.portCallsEnd_vault]

theorem State.setRoleCode_vault (s : State) (p c : Nat) (first : Bool) : (s.setRoleCode p c first).vault = s.vault := by
  simp only [State.setRoleCode, vault_mk, apply_ite State.vault, ite_self, State.clearLatch_vault, State.setBit_vault,
    State.listen_vault, State.setRole_vault]

theorem State.alreadyPowered_vault (s : State) (p mv : Nat) : (s.alreadyPowered p mv).vault = s.vault := by
  simp only [State.alreadyPowered, State.ev_vault, State.setB_vault]

theorem State.softStart_vault (s : State) (p : Nat) : (s.softStart p).vault = s.vault := by
  simp only [State.softStart, State.syncPower_vault, State.setLine_vault]

theorem State.avsStride_vault (s : State) : s.avsStride.vault = s.vault := by
  simp only [State.avsStride, vault_mk]

theorem State.avsWritten_vault (s : State) : s.avsWritten.vault = s.vault := by
  simp only [State.avsWritten, apply_ite State.vault, ite_self, State.set_vault]

theorem State.hostWakes_vault (s : State) : s.hostWakes.vault = s.vault := by
  simp only [State.hostWakes, State.requestDomain_vault]

theorem State.lineDieReset_vault (s : State) : s.lineDieReset.vault = s.vault := by
  simp only [State.lineDieReset, vault_mk, apply_ite State.vault, ite_self, foldl_vault, implies_true, State.set_vault,
    State.stopGen_vault, State.stepLamps_vault, State.syncPower_vault]

theorem State.reconfigure_vault (s : State) : s.reconfigure.vault = s.vault := by
  simp only [State.reconfigure, vault_mk, apply_ite State.vault, ite_self, foldl_vault, implies_true, State.set_vault,
    State.listen_vault, State.stepLamps_vault, State.syncPower_vault]

theorem State.listenEnd_vault (s : State) (p maxMv : Nat) : (s.listenEnd p maxMv).vault = s.vault := by
  simp only [State.listenEnd, apply_ite State.vault, ite_self, State.softStart_vault, State.setRole_vault,
    State.syncPower_vault, State.setLine_vault, State.alreadyPowered_vault]

theorem State.drawWait_vault (s : State) (p : Nat) : (s.drawWait p).vault = s.vault := by
  simp only [State.drawWait, vault_mk, State.freeNat_vault]

theorem State.lineFault_vault (s : State) (p : Nat) (contention : Bool) : (s.lineFault p contention).vault = s.vault := by
  simp only [State.lineFault, apply_ite State.vault, ite_self, State.ev_vault, State.inc_vault, State.setB_vault,
    State.syncPower_vault, State.drawWait_vault, State.setLine_vault]

theorem State.resolvedAgain_vault (s : State) (p : Nat) : (s.resolvedAgain p).vault = s.vault := by
  simp only [State.resolvedAgain, vault_mk, apply_ite State.vault, ite_self]

theorem State.lineLatchCleared_vault (s : State) (p : Nat) : (s.lineLatchCleared p).vault = s.vault := by
  simp only [State.lineLatchCleared, apply_ite State.vault, ite_self, State.syncPower_vault, State.clearLatch_vault]

theorem State.releaseShorts_vault (s : State) : s.releaseShorts.vault = s.vault := by
  simp only [State.releaseShorts, vault_mk, apply_ite State.vault, ite_self, State.syncSuspend_vault]

theorem State.pseWait_vault (s : State) (n v ms : Nat) : (s.pseWait n v ms).vault = s.vault := by
  simp only [State.pseWait, State.updPse_vault, State.setPse_vault]

theorem State.pseFaulted_vault (s : State) (n : Nat) (f : Fld) : (s.pseFaulted n f).vault = s.vault := by
  simp only [State.pseFaulted, apply_ite State.vault, ite_self, State.setB_vault, State.set_vault, State.syncPower_vault,
    State.updPse_vault, State.ev_vault, State.pseWait_vault]

theorem State.pseLatchCleared_vault (s : State) (n : Nat) : (s.pseLatchCleared n).vault = s.vault := by
  simp only [State.pseLatchCleared, apply_ite State.vault, ite_self, State.syncPower_vault, State.updPse_vault,
    State.set_vault, State.setB_vault]

theorem State.pseEnWritten_vault (s : State) (n : Nat) : (s.pseEnWritten n).vault = s.vault := by
  simp only [State.pseEnWritten, apply_ite State.vault, ite_self, State.syncPower_vault, State.pseLatchCleared_vault,
    State.updPse_vault]

theorem State.setDie_vault (s : State) (d : Nat) (t : DieTherm) : (s.setDie d t).vault = s.vault := by
  simp only [State.setDie, vault_mk]

theorem State.threshWritten_vault (s : State) (d : Nat) : (s.threshWritten d).vault = s.vault := by
  simp only [State.threshWritten, State.setDie_vault]

theorem State.thermDie_vault (s : State) (d : Nat) (sensors : List Int) : (s.thermDie d sensors).vault = s.vault := by
  unfold State.thermDie
  split <;> simp only [apply_ite State.vault, ite_self, State.freeBool_vault, State.setDie_vault, State.setI_vault]

theorem State.applyMeas_vault (s : State) (m : PowerMeas) : (s.applyMeas m).vault = s.vault := by
  simp only [State.applyMeas, apply_ite State.vault, ite_self, foldl_vault, implies_true, State.set_vault, State.setI_vault,
    State.syncPower_vault]

end Sys2Proof.Machine
end

section
/-! The operations of the network and the ring that leave the vault of a state alone (chapters 08, 09, 11 and 12). -/

namespace Sys2Proof.Machine

/-! ### The MAC ports and MACsec -/

theorem State.updMac_vault (s : State) (p : Nat) (f : MacPort → MacPort) : (s.updMac p f).vault = s.vault := by
  simp only [State.updMac, vault_mk]

theorem State.updSec_vault (s : State) (p : Nat) (f : SecPort → SecPort) : (s.updSec p f).vault = s.vault := by
  simp only [State.updSec, vault_mk]

theorem State.stat_vault (s : State) (p k n : Nat) : (s.stat p k n).vault = s.vault := by
  simp only [State.stat, apply_ite State.vault, ite_self, State.set_vault, State.setBit_vault]

theorem State.countAccepted_vault (s : State) (p : Nat) (h : EthHdr) (n : Nat) :
    (s.countAccepted p h n).vault = s.vault := by
  simp only [State.countAccepted, apply_ite State.vault, ite_self, State.stat_vault]

theorem State.wakeFrame_vault (s : State) (p : Nat) (l : List Byte) : (s.wakeFrame p l).vault = s.vault := by
  simp only [State.wakeFrame, apply_ite State.vault, ite_self, State.set_vault, State.requestDomain_vault, State.setB_vault,
    State.stat_vault]

theorem State.acceptFrame_vault (s : State) (p : Nat) (f : RxFrame) : (s.acceptFrame p f).1.vault = s.vault := by
  simp only [State.acceptFrame]
  repeat' split
  all_goals simp only [State.stat_vault, State.wakeFrame_vault, State.countAccepted_vault]

theorem State.advancePn_vault (s : State) (p : Nat) (x : Option (Nat × Nat)) : (s.advancePn p x).vault = s.vault := by
  unfold State.advancePn
  split <;> simp only [State.updSec_vault]

theorem State.macsecCheck_vault (s : State) (p : Nat) (f : RxFrame) : (s.macsecCheck p f).1.vault = s.vault := by
  simp only [State.macsecCheck, apply_ite Prod.fst, apply_ite State.vault, ite_self, State.stat_vault, State.advancePn_vault]

theorem State.takeBlock_vault (s : State) : s.takeBlock.2.vault = s.vault := by
  simp only [State.takeBlock, vault_isle]

theorem State.drbgStart_vault (s : State) : s.drbgStart.vault = s.vault := by
  simp only [State.drbgStart, vault_isle, State.takeBlock_vault]

theorem State.drbgReseed_vault (s : State) : s.drbgReseed.vault = s.vault := by
  unfold State.drbgReseed
  split
  · rfl
  · rfl

theorem State.drbgDraw_vault (s : State) : s.drbgDraw.vault = s.vault := by
  unfold State.drbgDraw
  split
  · rfl
  · split
    · exact (State.drbgReseed_vault _).trans rfl
    · rfl

theorem State.setSecured_vault (s : State) (p : Nat) (rx tx : Bool) : (s.setSecured p rx tx).vault = s.vault := by
  simp only [State.setSecured, apply_ite State.vault, ite_self, State.setB_vault]

theorem State.installSak_vault (s : State) (p an : Nat) : (s.installSak p an).vault = s.vault := by
  simp only [State.installSak, State.updSec_vault, State.setSecured_vault, State.inc_vault]

theorem State.distributeSak_vault (s : State) (p : Nat) : (s.distributeSak p).vault = s.vault := by
  simp only [State.distributeSak, State.installSak_vault, State.drbgDraw_vault]

theorem State.endSecure_vault (s : State) (p : Nat) : (s.endSecure p).vault = s.vault := by
  simp only [State.endSecure, State.updSec_vault, State.setSecured_vault, State.setB_vault]

theorem State.sendFrame_vault (s : State) (p : Nat) (bytes : List Byte) (poisoned wilnan : Bool) :
    (s.sendFrame p bytes poisoned wilnan).vault = s.vault := by
  simp only [State.sendFrame, vault_mk, apply_ite State.vault, ite_self, State.stat_vault, State.updSec_vault,
    State.distributeSak_vault]

theorem State.unstat_vault (s : State) (p k n : Nat) : (s.unstat p k n).vault = s.vault := by
  simp only [State.unstat, State.set_vault]

theorem State.unsend_vault (s : State) (x : Sent) : (s.unsend x).vault = s.vault := by
  simp only [State.unsend, apply_ite State.vault, ite_self, State.unstat_vault]

theorem State.abandonFrame_vault (s : State) (p : Nat) : (s.abandonFrame p).vault = s.vault := by
  unfold State.abandonFrame
  split <;> simp only [vault_mk, apply_ite State.vault, ite_self, State.stat_vault, State.unsend_vault, State.unstat_vault]

theorem State.spoilFrame_vault (s : State) (p : Nat) : (s.spoilFrame p).vault = s.vault := by
  unfold State.spoilFrame
  split <;> simp only [vault_mk, apply_ite State.vault, ite_self, State.stat_vault, State.unsend_vault]

theorem State.spoilFrames_vault (s : State) : s.spoilFrames.vault = s.vault := by
  simp only [State.spoilFrames, apply_ite State.vault, ite_self, foldl_vault, implies_true, State.freeBool_vault,
    State.spoilFrame_vault]

theorem State.enterLpi_vault (s : State) (p : Nat) : (s.enterLpi p).vault = s.vault := by
  simp only [State.enterLpi, apply_ite State.vault, ite_self, State.updMac_vault, State.stat_vault, State.setB_vault]

theorem State.leaveLpi_vault (s : State) (p at_ us : Nat) : (s.leaveLpi p at_ us).vault = s.vault := by
  simp only [State.leaveLpi, apply_ite State.vault, ite_self, State.stat_vault, State.setB_vault, State.updMac_vault,
    State.set_vault]

theorem State.enqueue_vault (s : State) (p q : Nat) (bytes : List Byte) : (s.enqueue p q bytes).vault = s.vault := by
  simp only [State.enqueue, State.updMac_vault]

theorem State.showQueues_vault (s : State) (p : Nat) : (s.showQueues p).vault = s.vault := by
  simp only [State.showQueues, foldl_vault, implies_true, State.set_vault]

theorem State.storeFrame_vault (s : State) (p q size : Nat) (bytes : List Byte) :
    (s.storeFrame p q size bytes).1.vault = s.vault := by
  simp only [State.storeFrame, apply_ite Prod.fst, apply_ite State.vault, ite_self, State.showQueues_vault,
    State.updMac_vault]

/-! ### Interop streams -/

theorem State.updNet_vault (s : State) (f : NetNode → NetNode) : (s.updNet f).vault = s.vault := by
  simp only [State.updNet, vault_mk]

theorem State.storeMedia_vault (s : State) (k ts n : Nat) (payload : List Byte) :
    (s.storeMedia k ts n payload).vault = s.vault := by
  simp only [State.storeMedia, State.updNet_vault]

theorem State.mediaIn_vault (s : State) (k : Nat) (rtp payload : List Byte) : (s.mediaIn k rtp payload).vault = s.vault := by
  simp only [State.mediaIn, apply_ite State.vault, ite_self, State.inc_vault, State.updNet_vault, State.setB_vault,
    State.set_vault, State.storeMedia_vault]

theorem State.setMediaO_vault (s : State) : s.setMediaO.vault = s.vault := by
  simp only [State.setMediaO, State.updNet_vault, State.set_vault]

theorem State.streamEnabled_vault (s : State) (tx : Bool) (k : Nat) : (s.streamEnabled tx k).vault = s.vault := by
  simp only [State.streamEnabled, apply_ite State.vault, ite_self, State.setMediaO_vault, State.freeNat_vault,
    State.updNet_vault, State.setB_vault]

theorem State.streamDisabled_vault (s : State) (tx : Bool) (k : Nat) : (s.streamDisabled tx k).vault = s.vault := by
  simp only [State.streamDisabled, apply_ite State.vault, ite_self, State.setB_vault]

theorem State.writeStreamEn_vault (s : State) (tx : Bool) (k : Nat) (was on : Bool) :
    (s.writeStreamEn tx k was on).vault = s.vault := by
  simp only [State.writeStreamEn, apply_ite State.vault, ite_self, State.setB_vault, State.streamEnabled_vault,
    State.streamDisabled_vault]

theorem State.sendPacket_vault (s : State) (k mac first : Nat) (frames : List (List Sample)) :
    (s.sendPacket k mac first frames).vault = s.vault := by
  simp only [State.sendPacket]
  repeat' split
  all_goals simp only [State.updNet_vault, State.inc_vault, State.enqueue_vault]

theorem State.txStream_vault (s : State) (k : Nat) : (s.txStream k).vault = s.vault := by
  simp only [State.txStream, apply_ite State.vault, State.setB_vault, State.updNet_vault]
  repeat' split
  all_goals simp only [State.setB_vault, State.updNet_vault, State.sendPacket_vault]

theorem State.resolveMac_vault (s : State) (v6 : Bool) (ip : List Byte) (mac : Nat) :
    (s.resolveMac v6 ip mac).vault = s.vault := by
  simp only [State.resolveMac, apply_ite State.vault, ite_self, foldl_vault, implies_true, State.updNet_vault]

theorem State.checkSlip_vault (s : State) : s.checkSlip.vault = s.vault := by
  simp only [State.checkSlip, apply_ite State.vault, ite_self, State.setB_vault, State.inc_vault, State.setMediaO_vault]

theorem State.watchD_vault (s : State) : s.watchD.vault = s.vault := by
  simp only [State.watchD, apply_ite State.vault, ite_self, State.updNet_vault, State.setB_vault]

theorem State.rxBoundary_vault (s : State) (k : Nat) : (s.rxBoundary k).vault = s.vault := by
  unfold State.rxBoundary
  split <;> simp only [apply_ite State.vault, ite_self, State.setB_vault]

theorem State.iopBoundary_vault (s : State) (time : Nat × Nat) (adv : Nat) : (s.iopBoundary time adv).vault = s.vault := by
  simp only [State.iopBoundary, apply_ite State.vault, ite_self, foldl_vault, implies_true, State.setB_vault,
    State.updNet_vault, State.watchD_vault, State.checkSlip_vault, State.rxBoundary_vault, State.setI_vault,
    State.txStream_vault]

/-! ### The ring: states and ports -/

theorem State.updRing_vault (s : State) (f : RingNode → RingNode) : (s.updRing f).vault = s.vault := by
  simp only [State.updRing, vault_mk]

theorem State.ringCnt_vault (s : State) (k : Nat) : (s.ringCnt k).vault = s.vault := by
  simp only [State.ringCnt, State.inc_vault]

theorem State.faultCnt_vault (s : State) (k : Nat) : (s.faultCnt k).vault = s.vault := by
  simp only [State.faultCnt, State.inc_vault]

theorem State.takeRingId_vault (s : State) : s.takeRingId.vault = s.vault := by
  simp only [State.takeRingId, State.updRing_vault]

theorem State.sawForeign_vault (s : State) : s.sawForeign.vault = s.vault := by
  simp only [State.sawForeign, State.updRing_vault, State.setB_vault]

theorem State.setRingState_vault (s : State) (st reason : Nat) : (s.setRingState st reason).vault = s.vault := by
  simp only [State.setRingState, apply_ite State.vault, ite_self, State.set_vault, State.setB_vault, State.updRing_vault]

theorem State.hideLighthouse_vault (s : State) : s.hideLighthouse.vault = s.vault := by
  simp only [State.hideLighthouse, State.set_vault]

theorem State.toGate_vault (s : State) : s.toGate.vault = s.vault := by
  simp only [State.toGate, State.hideLighthouse_vault, State.setB_vault, State.set_vault, State.updRing_vault,
    State.setRingState_vault]

theorem State.phaseSlip_vault (s : State) (which old new : Nat) : (s.phaseSlip which old new).vault = s.vault := by
  simp only [State.phaseSlip, State.ev_vault, State.setB_vault, State.ringCnt_vault, State.set_vault]

theorem State.setProbes_vault (s : State) (p n : Nat) : (s.setProbes p n).vault = s.vault := by
  simp only [State.setProbes, State.updRing_vault]

theorem State.setDead_vault (s : State) (p : Nat) (dead : Bool) : (s.setDead p dead).vault = s.vault := by
  simp only [State.setDead, State.setB_vault]

theorem State.evalPort_vault (s : State) (p : Nat) : (s.evalPort p).vault = s.vault := by
  simp only [State.evalPort, apply_ite State.vault, ite_self, State.setProbes_vault, State.setB_vault, State.set_vault,
    State.setDead_vault, State.updRing_vault]

theorem State.addCause_vault (s : State) (p bit : Nat) : (s.addCause p bit).vault = s.vault := by
  simp only [State.addCause, State.evalPort_vault, State.setBit_vault, State.setB_vault]

theorem State.revivePort_vault (s : State) (p : Nat) : (s.revivePort p).vault = s.vault := by
  simp only [State.revivePort, apply_ite State.vault, ite_self, State.setProbes_vault, State.setB_vault, State.setDead_vault]

theorem State.setPortState_vault (s : State) (p new : Nat) : (s.setPortState p new).vault = s.vault := by
  simp only [State.setPortState, apply_ite State.vault, ite_self, State.set_vault, State.ev_vault, State.setB_vault]

theorem State.setScore_vault (s : State) (p score : Nat) : (s.setScore p score).vault = s.vault := by
  simp only [State.setScore, State.evalPort_vault, State.setPortState_vault, State.set_vault]

theorem State.scoreBeam_vault (s : State) (p : Nat) (bad good : Bool) : (s.scoreBeam p bad good).vault = s.vault := by
  simp only [State.scoreBeam, apply_ite State.vault, ite_self, State.setScore_vault, State.faultCnt_vault]

theorem State.beamOut_vault (s : State) (p at_ : Nat) (bytes : List Byte) : (s.beamOut p at_ bytes).1.vault = s.vault := by
  simp only [State.beamOut, apply_ite State.vault, ite_self, foldl_vault, implies_true, State.stat_vault]

theorem State.emit_vault (s : State) (out : List (Nat × List Byte)) (poisoned : Bool) :
    (s.emit out poisoned).vault = s.vault := by
  simp only [State.emit, foldl_vault, implies_true, State.sendFrame_vault]

theorem State.sendBeam_vault (s : State) (p at_ : Nat) (bytes : List Byte) : (s.sendBeam p at_ bytes).vault = s.vault := by
  simp only [State.sendBeam, State.beamOut_vault, State.emit_vault]

theorem State.sendCtlBytes_vault (s : State) (p : Nat) (bytes : List Byte) : (s.sendCtlBytes p bytes).vault = s.vault := by
  simp only [State.sendCtlBytes, apply_ite State.vault, ite_self, State.updMac_vault, State.enqueue_vault]

theorem State.sendOwnCtl_vault (s : State) (ports : List Nat) (c : Ctl) : (s.sendOwnCtl ports c).vault = s.vault := by
  simp only [State.sendOwnCtl, foldl_vault, implies_true, State.sendCtlBytes_vault]

theorem State.newCtl_vault (s : State) (typ : Nat) (body : List Byte) : (s.newCtl typ body).1.vault = s.vault := by
  simp only [State.newCtl, State.updRing_vault]

theorem State.loseLighthouse_vault (s : State) : s.loseLighthouse.vault = s.vault := by
  simp only [State.loseLighthouse, State.setB_vault, State.faultCnt_vault, State.toGate_vault, State.updRing_vault]

theorem State.follow_vault (s : State) (id ep : Nat) : (s.follow id ep).vault = s.vault := by
  simp only [State.follow, apply_ite State.vault, ite_self, State.set_vault, State.setB_vault, State.updRing_vault]

theorem State.seeLighthouse_vault (s : State) (b : Beam) : (s.seeLighthouse b).vault = s.vault := by
  simp only [State.seeLighthouse, apply_ite State.vault, ite_self, State.updRing_vault, State.loseLighthouse_vault,
    State.follow_vault, State.setB_vault]

theorem State.setMap_vault (s : State) (m : Nat) : (s.setMap m).vault = s.vault := by
  simp only [State.setMap, foldl_vault, implies_true, State.set_vault, State.setB_vault]

/-! ### The ring: beams -/

theorem State.latchTalk_vault (s : State) : s.latchTalk.vault = s.vault := by
  simp only [State.latchTalk, State.updRing_vault]

theorem State.storeBeam_vault (s : State) (b : Beam) (words : List (Nat × List Nat)) :
    (s.storeBeam b words).vault = s.vault := by
  simp only [State.storeBeam, State.updRing_vault]

theorem State.rememberOut_vault (s : State) (b : Beam) (p : Nat) : (s.rememberOut b p).vault = s.vault := by
  simp only [State.rememberOut, State.updRing_vault]

theorem State.keepBusy_vault (s : State) (p sfd n : Nat) : (s.keepBusy p sfd n).vault = s.vault := by
  simp only [State.keepBusy, State.updRing_vault]

theorem State.launchHalf_vault (s : State) (ports : List Nat) (beamB wrapped : Bool) :
    (s.launchHalf ports beamB wrapped).vault = s.vault := by
  simp only [State.launchHalf, foldl_vault, implies_true, State.storeBeam_vault, State.keepBusy_vault, State.sendBeam_vault,
    State.rememberOut_vault]

theorem State.launch_vault (s : State) : s.launch.vault = s.vault := by
  simp only [State.launch, apply_ite State.vault, ite_self, State.updRing_vault, State.launchHalf_vault]

theorem State.takeRet_vault (s : State) (b : Beam) : (s.takeRet b).vault = s.vault := by
  simp only [State.takeRet, apply_ite State.vault]
  repeat' split
  all_goals simp only [State.ringCnt_vault, State.updRing_vault]

theorem State.retEnd_vault (s : State) (b : Beam) (ends : Nat) (valid : Bool) : (s.retEnd b ends valid).vault = s.vault := by
  simp only [State.retEnd]
  repeat' split
  all_goals simp only [State.updRing_vault, State.toGate_vault, State.set_vault, State.phaseSlip_vault]

theorem State.joinRing_vault (s : State) (k id : Nat) : (s.joinRing k id).vault = s.vault := by
  simp only [State.joinRing, apply_ite State.vault, ite_self, State.ringCnt_vault, State.set_vault, State.setB_vault,
    State.updRing_vault, State.setRingState_vault, State.toGate_vault]

theorem State.admitAt_vault (s : State) (b : Beam) : (s.admitAt b).vault = s.vault := by
  unfold State.admitAt
  split <;> simp only [apply_ite State.vault, ite_self, State.joinRing_vault]

theorem State.measureOut_vault (s : State) (p : Nat) (b : Beam) (sfd hdr : Nat) :
    (s.measureOut p b sfd hdr).vault = s.vault := by
  simp only [State.measureOut, apply_ite State.vault, ite_self, State.updRing_vault, State.set_vault, State.phaseSlip_vault]

theorem State.contribute_vault (s : State) (b : Beam) (ok : Bool) : (s.contribute b ok).1.vault = s.vault := by
  simp only [State.contribute, apply_ite Prod.fst, apply_ite State.vault, ite_self, State.storeBeam_vault,
    State.ringCnt_vault]

theorem State.startOut_vault (s : State) (p : Nat) (h : EthHdr) (raw : List Byte) (b : Beam) (ok : Bool) (sfd at_ hdr : Nat) :
    (s.startOut p h raw b ok sfd at_ hdr).1.vault = s.vault := by
  simp only [State.startOut, apply_ite Prod.fst, apply_ite State.vault, State.revivePort_vault, State.contribute_vault,
    State.measureOut_vault, State.admitAt_vault, State.rememberOut_vault, State.beamOut_vault, ite_self]

theorem State.sendRet_vault (s : State) (p q : Nat) (h : EthHdr) (raw : List Byte) (ok : Bool) (b : Beam) (at_ : Nat) :
    (s.sendRet p q h raw ok b at_).1.vault = s.vault := by
  simp only [State.sendRet, State.beamOut_vault, State.keepBusy_vault]

theorem State.startReturn_vault (s : State) (p : Nat) (h : EthHdr) (raw : List Byte) (b : Beam) (ok : Bool) (sfd at_ : Nat) :
    (s.startReturn p h raw b ok sfd at_).1.vault = s.vault := by
  simp only [State.startReturn, apply_ite Prod.fst, apply_ite State.vault, State.sendRet_vault, State.updRing_vault,
    State.set_vault, ite_self]

theorem State.startRet_vault (s : State) (p : Nat) (h : EthHdr) (raw : List Byte) (b : Beam) (ok : Bool) (at_ : Nat) :
    (s.startRet p h raw b ok at_).1.vault = s.vault := by
  simp only [State.startRet, apply_ite Prod.fst, apply_ite State.vault, State.beamOut_vault, ite_self]

theorem State.startTurn_vault (s : State) (p : Nat) (h : EthHdr) (raw : List Byte) (b : Beam) (ok : Bool) (at_ : Nat) :
    (s.startTurn p h raw b ok at_).1.vault = s.vault := by
  simp only [State.startTurn, apply_ite Prod.fst, apply_ite State.vault, State.sendRet_vault, State.updRing_vault,
    State.beamOut_vault, State.faultCnt_vault, ite_self]

theorem State.probeEnd_vault (s : State) (p : Nat) (bad good : Bool) : (s.probeEnd p bad good).vault = s.vault := by
  simp only [State.probeEnd, apply_ite State.vault, ite_self, State.evalPort_vault, State.setProbes_vault, State.setB_vault]

theorem State.updLaunch_vault (s : State) (k : Nat) (f : Launch → Launch) : (s.updLaunch k f).vault = s.vault := by
  simp only [State.updLaunch, State.updRing_vault]

theorem State.noRet_vault (s : State) (k : Nat) : (s.noRet k).vault = s.vault := by
  simp only [State.noRet, apply_ite State.vault, ite_self, State.updLaunch_vault, State.faultCnt_vault]

theorem State.talkBack_vault (s : State) (b : Beam) : (s.talkBack b).vault = s.vault := by
  simp only [State.talkBack, apply_ite State.vault, ite_self, State.updRing_vault]

theorem State.turnEnd_vault (s : State) (p : Nat) (b : Beam) (at_ : Nat) (lost : Bool) :
    (s.turnEnd p b at_ lost).vault = s.vault := by
  simp only [State.turnEnd]
  repeat' split
  all_goals simp only [foldl_vault, implies_true, State.talkBack_vault, State.updLaunch_vault, State.noRet_vault,
    State.takeRet_vault, State.keepBusy_vault, State.sendBeam_vault]

theorem State.compareRet_vault (s : State) (b : Beam) : (s.compareRet b).vault = s.vault := by
  unfold State.compareRet
  split <;> simp only [apply_ite State.vault, ite_self, State.updRing_vault, State.ringCnt_vault]

theorem State.beamUse_vault (s : State) (e : PendRx) (lost : Bool) : (s.beamUse e lost).vault = s.vault := by
  simp only [State.beamUse, apply_ite State.vault, ite_self, State.takeRet_vault, State.retEnd_vault,
    State.seeLighthouse_vault, State.setB_vault]
  repeat' split
  all_goals simp only [State.updRing_vault, State.talkBack_vault, State.takeRet_vault, State.compareRet_vault,
    State.retEnd_vault, State.turnEnd_vault]

theorem State.beamEnd_vault (s : State) (e : PendRx) (ok : Bool) : (s.beamEnd e ok).vault = s.vault := by
  simp only [State.beamEnd, apply_ite State.vault, ite_self, State.stat_vault, State.advancePn_vault, State.emit_vault,
    State.faultCnt_vault, State.scoreBeam_vault, State.seeLighthouse_vault, State.probeEnd_vault, State.beamUse_vault]

theorem State.beamStart_vault (s : State) (p : Nat) (f : RxFrame) (b : Beam) (at_ : Nat) (bad poisoned : Bool) :
    (s.beamStart p f b at_ bad poisoned).1.vault = s.vault := by
  simp only [State.beamStart, apply_ite Prod.fst, apply_ite State.vault, State.beamOut_vault, State.startReturn_vault,
    State.startTurn_vault, State.startOut_vault, State.startRet_vault, State.stat_vault, State.revivePort_vault,
    State.sawForeign_vault, ite_self]

theorem State.receiveBeam_vault (s : State) (p : Nat) (f : RxFrame) (b : Beam) (at_ : Nat) :
    (s.receiveBeam p f b at_).vault = s.vault := by
  simp only [State.receiveBeam, apply_ite State.vault, ite_self, State.acceptFrame_vault, State.stat_vault,
    State.scoreBeam_vault, State.beamStart_vault, State.updRing_vault, State.beamEnd_vault]

theorem State.cutBeams_vault (s : State) : s.cutBeams.vault = s.vault := by
  simp only [State.cutBeams, foldl_vault, implies_true, State.spoilFrame_vault, State.emit_vault, State.updRing_vault]

theorem State.deliverGroup_vault (s : State) (r : RetHave) (g i : Nat) : (s.deliverGroup r g i).vault = s.vault := by
  simp only [State.deliverGroup, apply_ite State.vault, ite_self, State.updRing_vault, State.ringCnt_vault]

theorem State.clearHalf_vault (s : State) (h : Nat) : (s.clearHalf h).vault = s.vault := by
  simp only [State.clearHalf, State.updRing_vault]

theorem State.setConcealed_vault (s : State) (h n : Nat) : (s.setConcealed h n).vault = s.vault := by
  simp only [State.setConcealed, State.updRing_vault]

theorem State.deliverHalf_vault (s : State) (h : Nat) (r : RetHave) : (s.deliverHalf h r).vault = s.vault := by
  simp only [State.deliverHalf, apply_ite State.vault, ite_self, foldl_vault, implies_true, State.setConcealed_vault,
    State.clearHalf_vault, State.deliverGroup_vault, State.updRing_vault, State.set_vault, State.setB_vault]

theorem State.concealHalf_vault (s : State) (h : Nat) : (s.concealHalf h).vault = s.vault := by
  simp only [State.concealHalf, apply_ite State.vault, ite_self, State.setConcealed_vault, State.updRing_vault,
    State.set_vault]

theorem State.stepHalf_vault (s : State) (h : Nat) : (s.stepHalf h).1.vault = s.vault := by
  simp only [State.stepHalf, apply_ite Prod.fst, apply_ite State.vault, ite_self, State.concealHalf_vault,
    State.clearHalf_vault]
  repeat' split
  all_goals simp only [State.concealHalf_vault, State.deliverHalf_vault]

theorem State.deliverRing_vault (s : State) : s.deliverRing.vault = s.vault := by
  simp only [State.deliverRing, apply_ite State.vault, ite_self, State.updRing_vault, State.stepHalf_vault,
    State.faultCnt_vault]

/-! ### The ring: control frames -/

theorem State.sendGate_vault (s : State) (member leave : Bool) : (s.sendGate member leave).vault = s.vault := by
  simp only [State.sendGate, apply_ite State.vault, ite_self, State.takeRingId_vault, State.newCtl_vault,
    State.sendOwnCtl_vault]

theorem State.enableRing_vault (s : State) : s.enableRing.vault = s.vault := by
  simp only [State.enableRing, foldl_vault, implies_true, State.setProbes_vault, State.setDead_vault, State.setB_vault,
    State.set_vault, State.setPortState_vault, State.updRing_vault, State.takeRingId_vault, State.toGate_vault]

theorem State.leaveRing_vault (s : State) : s.leaveRing.vault = s.vault := by
  simp only [State.leaveRing, foldl_vault, implies_true, State.updMac_vault, State.updRing_vault, State.toGate_vault]

theorem State.ringCtrlWritten_vault (s : State) (was : Bool) : (s.ringCtrlWritten was).vault = s.vault := by
  simp only [State.ringCtrlWritten, apply_ite State.vault, ite_self, State.updRing_vault, State.enableRing_vault,
    State.sendGate_vault, State.leaveRing_vault]

theorem State.ringIdWritten_vault (s : State) : s.ringIdWritten.vault = s.vault := by
  simp only [State.ringIdWritten, State.updRing_vault]

theorem State.answerGates_vault (s : State) (k : Nat) (before : List GateReq) (acc : List (Nat × Nat × Nat)) :
    (s.answerGates k before acc).1.vault = s.vault := by
  induction k generalizing s before acc with
  | zero => rfl
  | succ k ih =>
    rw [State.answerGates]
    split
    · rfl
    · split
      · rfl
      · rw [ih, State.updRing_vault]

theorem State.sendMuster_vault (s : State) : s.sendMuster.vault = s.vault := by
  simp only [State.sendMuster, apply_ite State.vault, State.sendOwnCtl_vault, State.updRing_vault, State.newCtl_vault,
    State.set_vault, State.setMap_vault, State.answerGates_vault, ite_self]

theorem State.forwardCtl_vault (s : State) (p : Nat) (h : EthHdr) (c : Ctl) : (s.forwardCtl p h c).vault = s.vault := by
  simp only [State.forwardCtl, State.sendCtlBytes_vault]

theorem State.lighthouseGate_vault (s : State) (c : Ctl) : (s.lighthouseGate c).vault = s.vault := by
  simp only [State.lighthouseGate, apply_ite State.vault, ite_self, State.updRing_vault, State.set_vault]

theorem State.leaveSeen_vault (s : State) (p : Nat) (c : Ctl) : (s.leaveSeen p c).vault = s.vault := by
  simp only [State.leaveSeen, apply_ite State.vault, ite_self, State.updRing_vault]

theorem State.gateIn_vault (s : State) (p : Nat) (h : EthHdr) (c : Ctl) : (s.gateIn p h c).vault = s.vault := by
  simp only [State.gateIn, apply_ite State.vault, ite_self, State.leaveSeen_vault, State.lighthouseGate_vault,
    State.forwardCtl_vault]

theorem State.claimIn_vault (s : State) (p : Nat) (h : EthHdr) (c : Ctl) : (s.claimIn p h c).vault = s.vault := by
  simp only [State.claimIn, apply_ite State.vault, ite_self, State.forwardCtl_vault, State.updRing_vault]

theorem State.musterAnswer_vault (s : State) (c : Ctl) : (s.musterAnswer c).vault = s.vault := by
  unfold State.musterAnswer
  split <;> simp only [apply_ite State.vault, ite_self, State.updRing_vault, State.toGate_vault, State.setRingState_vault]

theorem State.musterReply_vault (s : State) (c : Ctl) : (s.musterReply c).vault = s.vault := by
  simp only [State.musterReply, apply_ite State.vault, ite_self, State.sendGate_vault]

theorem State.adoptCount_vault (s : State) (c : Ctl) : (s.adoptCount c).vault = s.vault := by
  unfold State.adoptCount
  split <;> simp only [apply_ite State.vault, ite_self, State.updRing_vault]

theorem State.musterIn_vault (s : State) (p : Nat) (h : EthHdr) (c : Ctl) : (s.musterIn p h c).vault = s.vault := by
  simp only [State.musterIn, apply_ite State.vault, ite_self, State.forwardCtl_vault, State.updRing_vault,
    State.loseLighthouse_vault, State.adoptCount_vault, State.set_vault, State.setMap_vault, State.musterReply_vault,
    State.musterAnswer_vault]

theorem State.ownCtlBack_vault (s : State) (p : Nat) (h : EthHdr) (c : Ctl) : (s.ownCtlBack p h c).vault = s.vault := by
  simp only [State.ownCtlBack, apply_ite State.vault, ite_self, State.updRing_vault]

theorem State.sendFoghorn_vault (s : State) (kind origin fseq : Nat) : (s.sendFoghorn kind origin fseq).vault = s.vault := by
  simp only [State.sendFoghorn, apply_ite State.vault, ite_self, foldl_vault, implies_true, State.newCtl_vault,
    State.sendOwnCtl_vault, State.faultCnt_vault]

theorem State.showFogLive_vault (s : State) : s.showFogLive.vault = s.vault := by
  simp only [State.showFogLive, State.setB_vault]

theorem State.fogBoundary_vault (s : State) : s.fogBoundary.vault = s.vault := by
  simp only [State.fogBoundary, apply_ite State.vault, ite_self, State.set_vault, State.updRing_vault,
    State.sendFoghorn_vault]

theorem State.ackFoghorns_vault (s : State) : s.ackFoghorns.vault = s.vault := by
  simp only [State.ackFoghorns, foldl_vault, implies_true, State.sendFoghorn_vault]

theorem State.fogAct_vault (s : State) (c : Ctl) : (s.fogAct c).vault = s.vault := by
  simp only [State.fogAct, apply_ite State.vault, ite_self, State.setB_vault, State.showFogLive_vault, State.updRing_vault,
    State.incSat_vault]

theorem State.fogIn_vault (s : State) (p : Nat) (h : EthHdr) (c : Ctl) : (s.fogIn p h c).vault = s.vault := by
  simp only [State.fogIn, apply_ite State.vault, ite_self, State.updRing_vault, State.fogAct_vault, State.faultCnt_vault,
    State.sendCtlBytes_vault]

theorem State.useCtl_vault (s : State) (p : Nat) (h : EthHdr) (raw : List Byte) (c : Ctl) :
    (s.useCtl p h raw c).vault = s.vault := by
  simp only [State.useCtl, apply_ite State.vault, ite_self, State.ownCtlBack_vault, State.sendCtlBytes_vault,
    State.sawForeign_vault, State.forwardCtl_vault, State.fogIn_vault, State.gateIn_vault, State.claimIn_vault,
    State.musterIn_vault]

theorem State.receiveCtl_vault (s : State) (p : Nat) (f : RxFrame) (c : Ctl) : (s.receiveCtl p f c).vault = s.vault := by
  simp only [State.receiveCtl, apply_ite Prod.fst, apply_ite Prod.snd, apply_ite State.vault, ite_self,
    State.acceptFrame_vault, State.macsecCheck_vault, State.stat_vault, State.advancePn_vault, State.faultCnt_vault,
    State.useCtl_vault]

theorem State.receiveWilnan_vault (s : State) (p : Nat) (f : RxFrame) (at_ : Nat) :
    (s.receiveWilnan p f at_).vault = s.vault := by
  simp only [State.receiveWilnan, apply_ite State.vault, ite_self, State.acceptFrame_vault, State.macsecCheck_vault,
    State.stat_vault]
  repeat' split
  all_goals simp only [State.acceptFrame_vault, State.macsecCheck_vault, State.stat_vault, State.receiveBeam_vault,
    State.receiveCtl_vault, State.scoreBeam_vault, State.faultCnt_vault]

theorem State.wilnanOf_vault (s : State) (p : Nat) (f : RxFrame) (at_ : Nat) (types : List Nat) :
    (s.wilnanOf p f at_ types).vault = s.vault := by
  simp only [State.wilnanOf, apply_ite State.vault, ite_self, State.receiveWilnan_vault]

theorem State.checkPhases_vault (s : State) : s.checkPhases.vault = s.vault := by
  simp only [State.checkPhases, apply_ite State.vault, ite_self, State.phaseSlip_vault, State.toGate_vault]

theorem State.sendClaim_vault (s : State) : s.sendClaim.vault = s.vault := by
  simp only [State.sendClaim, apply_ite State.vault, ite_self, State.newCtl_vault, State.updRing_vault,
    State.sendOwnCtl_vault]

theorem State.becomeLighthouse_vault (s : State) : s.becomeLighthouse.vault = s.vault := by
  simp only [State.becomeLighthouse, State.setB_vault, State.set_vault, State.follow_vault, State.updRing_vault,
    State.setRingState_vault]

theorem State.linkDrop_vault (s : State) (p : Nat) (cut : Cut) : (s.linkDrop p cut).vault = s.vault := by
  simp only [State.linkDrop, apply_ite State.vault, ite_self, State.stat_vault, State.abandonFrame_vault, State.updMac_vault,
    State.setB_vault, State.evalPort_vault]

theorem State.wrapRing_vault (s : State) : s.wrapRing.vault = s.vault := by
  simp only [State.wrapRing, State.setB_vault, State.faultCnt_vault, State.updRing_vault, State.ev_vault]

theorem State.closeRing_vault (s : State) : s.closeRing.vault = s.vault := by
  simp only [State.closeRing, apply_ite State.vault, ite_self, State.revivePort_vault, State.updRing_vault, State.setB_vault,
    State.faultCnt_vault, State.ev_vault]

theorem State.adoptBoundary_vault (s : State) : s.adoptBoundary.vault = s.vault := by
  unfold State.adoptBoundary
  split
  · rfl
  · rw [State.clearHistory_vault, State.ev_vault, State.inc_vault, State.updRing_vault]
    exact s.vault_countAdj _

theorem State.ringBoundary_vault (s : State) : s.ringBoundary.vault = s.vault := by
  unfold State.ringBoundary
  split <;> simp only [apply_ite State.vault, ite_self, foldl_vault, implies_true, State.leaveRing_vault,
    State.updRing_vault, State.addCause_vault, State.evalPort_vault, State.toGate_vault, State.becomeLighthouse_vault,
    State.closeRing_vault, State.deliverRing_vault]

/-! ### Frames -/

theorem State.afterSec_vault (s : State) (p : Nat) : (s.afterSec p).vault = s.vault := by
  simp only [State.afterSec, apply_ite State.vault, ite_self, State.evalPort_vault]

theorem State.mkaIn_vault (s : State) (p : Nat) (m : MkaSeen) : (s.mkaIn p m).vault = s.vault := by
  simp only [State.mkaIn, apply_ite State.vault, ite_self, State.setB_vault, State.distributeSak_vault, State.afterSec_vault,
    State.updSec_vault]
  repeat' split
  all_goals simp only [State.setB_vault, State.installSak_vault]

theorem State.controlFrame_vault (s : State) (p : Nat) (l : List Byte) (h : EthHdr) :
    (s.controlFrame p l h).vault = s.vault := by
  simp only [State.controlFrame, apply_ite State.vault, ite_self, State.stat_vault, State.updMac_vault, State.set_vault,
    State.setB_vault]

theorem State.learnMac_vault (s : State) (p : Nat) (l : List Byte) (h : EthHdr) : (s.learnMac p l h).vault = s.vault := by
  simp only [State.learnMac, apply_ite State.vault, ite_self, State.resolveMac_vault]

theorem State.queueFrame_vault (s : State) (p : Nat) (l : List Byte) (h : EthHdr) (mka : Option MkaSeen) :
    (s.queueFrame p l h mka).vault = s.vault := by
  simp only [State.queueFrame]
  repeat' split
  all_goals simp only [State.stat_vault, State.setB_vault, State.mediaIn_vault, State.storeFrame_vault, State.learnMac_vault,
    State.mkaIn_vault]

theorem State.parseAndQueue_vault (s : State) (p : Nat) (l : List Byte) (h : EthHdr) (mka : Option MkaSeen) :
    (s.parseAndQueue p l h mka).vault = s.vault := by
  simp only [State.parseAndQueue, apply_ite State.vault, ite_self, State.setB_vault, State.stat_vault,
    State.storeFrame_vault]
  repeat' split
  all_goals simp only [State.stat_vault, State.queueFrame_vault]

theorem State.stampPtp_vault (s : State) (p : Nat) (sent : Bool) (l : List Byte) (h : EthHdr) (at_ : Nat) :
    (s.stampPtp p sent l h at_).vault = s.vault := by
  simp only [State.stampPtp, apply_ite State.vault, ite_self, State.updNet_vault]

theorem State.receiveFrame_vault (s : State) (p : Nat) (f : RxFrame) (at_ : Nat) (mka : Option MkaSeen) :
    (s.receiveFrame p f at_ mka).vault = s.vault := by
  simp only [State.receiveFrame, apply_ite State.vault, ite_self, State.receiveWilnan_vault, State.acceptFrame_vault,
    State.controlFrame_vault, State.macsecCheck_vault, State.parseAndQueue_vault, State.stampPtp_vault]

theorem State.stepPause_vault (s : State) : s.stepPause.vault = s.vault := by
  simp only [State.stepPause, apply_ite State.vault, ite_self, State.set_vault]

theorem State.ringLpi_vault (s : State) : s.ringLpi.vault = s.vault := by
  simp only [State.ringLpi, apply_ite State.vault, ite_self, foldl_vault, implies_true, State.enterLpi_vault,
    State.leaveLpi_vault]

theorem State.takeSnapshot_vault (s : State) (mask : Nat) : (s.takeSnapshot mask).vault = s.vault := by
  simp only [State.takeSnapshot, apply_ite State.vault, ite_self, foldl_vault, implies_true, State.setBit_vault,
    State.updNet_vault, State.setB_vault]

end Sys2Proof.Machine
end

section
/-! The operations of boot, register access, the copy engine, loads and the stride that leave the vault of a state alone
(chapters 02, 03, 13, 15, 18 and 19). -/

namespace Sys2Proof.Machine

/-! ### Resets -/

theorem State.dimReset_vault (s : State) (im : Option Image) : (s.dimReset im).vault = s.vault := by
  unfold State.dimReset
  split <;> simp only [State.set_vault]

theorem State.restore_vault (s : State) (rs : List Rst) : (s.restore rs).vault = s.vault := by
  simp only [State.restore, vault_mk, State.dimReset_vault]

theorem State.loadLost_vault (s : State) : s.loadLost.vault = s.vault := by
  simp only [State.loadLost, apply_ite State.vault, ite_self, State.addLog_vault]

theorem State.showSec_vault (s : State) : s.showSec.vault = s.vault := by
  simp only [State.showSec, State.setB_vault, State.set_vault]

theorem State.endChannels_vault (s : State) : s.endChannels.vault = s.vault := by
  simp only [State.endChannels, foldl_vault, implies_true, State.afterSec_vault, State.endSecure_vault]

theorem State.showBoot_vault (s : State) : s.showBoot.vault = s.vault := by
  simp only [State.showBoot, foldl_vault, implies_true, State.set_vault, State.setB_vault]

theorem State.setCaps_vault (s : State) (caps : Nat) : (s.setCaps caps).vault = s.vault := by
  simp only [State.setCaps, State.setB_vault]

theorem State.loadPanel_vault (s : State) (im : Image) : (s.loadPanel im).vault = s.vault := by
  unfold State.loadPanel
  extract_lets _ a b encs
  have hb : b.vault = s.vault :=
    (foldl_vault (fun x n => by split <;> simp only [State.set_vault, State.setBit_vault]) _ a).trans rfl
  exact (foldl_vault (fun x n => by split <;> simp only [State.set_vault, State.setB_vault]) _ b).trans hb

theorem State.recordReset_vault (s : State) (last : Nat) : (s.recordReset last).vault = s.vault := by
  simp only [State.recordReset, State.set_vault, State.ev_vault]

theorem State.stopStride_vault (s : State) : s.stopStride.vault = s.vault := by
  simp only [State.stopStride, vault_mk, State.setB_vault]

/-! ### Boot and slots -/

theorem State.showApi_vault (s : State) (t : Option CompatVec) : (s.showApi t).vault = s.vault := by
  unfold State.showApi
  split <;> simp only [State.set_vault]

theorem State.showFw_vault (s : State) : s.showFw.vault = s.vault := by
  simp only [State.showFw, State.set_vault, State.showApi_vault]

theorem State.setSlot_vault (s : State) (n v : Nat) : (s.setSlot n v).vault = s.vault := by
  simp only [State.setSlot, vault_boot, State.showBoot_vault]

theorem State.badTack_vault (s : State) (t : Nat) : (s.badTack t).vault = s.vault := by
  simp only [State.badTack, vault_boot, apply_ite State.vault, ite_self, State.setSlot_vault]

theorem State.trialFailed_vault (s : State) (n v : Nat) : (s.trialFailed n v).vault = s.vault := by
  simp only [State.trialFailed, vault_boot, State.setSlot_vault, State.setB_vault, State.ev_vault]

theorem State.firstBoot_vault (s : State) (f t : Nat) : (s.firstBoot f t).vault = s.vault := by
  unfold State.firstBoot
  extract_lets fresh _ a
  refine (foldl_vault (fun x n => ?_) fresh a).trans rfl
  simp only [apply_ite State.vault, State.trialFailed_vault, vault_boot, ite_self]

theorem State.startPair_vault (s : State) (f t : Nat) (rest : List (Nat × Nat)) (first : Bool) :
    (s.startPair f t rest first).vault = s.vault := by
  simp only [State.startPair, vault_boot, apply_ite State.vault, ite_self, State.firstBoot_vault, State.set_vault,
    State.setB_vault, State.showBoot_vault, State.showFw_vault]

theorem State.markVetted_vault (s : State) (schema : Nat) : (s.markVetted schema).vault = s.vault := by
  simp only [State.markVetted, apply_ite State.vault, ite_self, State.setB_vault, State.ev_vault]

theorem State.nextPair_vault (s : State) (l : List (Nat × Nat)) : (s.nextPair l).1.vault = s.vault := by
  induction l generalizing s with
  | nil => rfl
  | cons q rest ih =>
    rw [State.nextPair]
    simp only [apply_ite Prod.fst, apply_ite State.vault, ih, State.setSlot_vault, State.badTack_vault, State.ev_vault,
      ite_self]

theorem State.latchStraps_vault (s : State) (t : Straps) : (s.latchStraps t).vault = s.vault := by
  simp only [State.latchStraps, vault_mk, apply_ite State.vault, ite_self, State.set_vault, State.setB_vault,
    State.setCaps_vault]

theorem State.countTrial_vault (s : State) : s.countTrial.vault = s.vault := by
  simp only [State.countTrial, vault_boot, apply_ite State.vault, ite_self, State.trialFailed_vault]

theorem State.syncCaks_vault (s : State) : s.syncCaks.vault = s.vault := by
  simp only [State.syncCaks, foldl_vault, implies_true, State.updSec_vault]

/-! ### The island -/

theorem State.showOsc_vault (s : State) : s.showOsc.vault = s.vault := by
  simp only [State.showOsc, State.set_vault]

theorem State.showKeys_vault (s : State) : s.showKeys.vault = s.vault := by
  simp only [State.showKeys, State.set_vault, State.setB_vault]

/-! ### GPIO -/

theorem State.stepPwm_vault (s : State) : s.stepPwm.vault = s.vault := by
  unfold State.stepPwm
  split <;> simp only [vault_mk]

/-! ### Register access -/

theorem State.accessError_vault (s : State) (m : Master) (a : Nat) (c : Code) (domain : Nat) :
    (s.accessError m a c domain).vault = s.vault := by
  simp only [State.accessError, vault_mk]

theorem State.readWord_vault (s : State) (m : Master) (a : Nat) (viaCopy : Bool) :
    (s.readWord m a viaCopy).2.2.vault = s.vault := by
  unfold State.readWord
  split <;> simp only [State.accessError_vault]

theorem State.conflict_vault (s : State) (u : UWrite) (winner : Nat) : (s.conflict u winner).vault = s.vault := by
  simp only [State.conflict, State.addLog_vault, State.setB_vault, State.inc_vault]

/-! ### Decided writes -/

theorem State.takeReins_vault (s : State) (m : Master) (mask : Nat) : (s.takeReins m mask).1.vault = s.vault := by
  unfold State.takeReins
  refine foldl_vault_fst (fun sc g => ?_) _ (s, Code.ok)
  simp only [apply_ite Prod.fst, apply_ite State.vault, State.set_vault, State.setB_vault, State.addLog_vault, ite_self]

theorem State.giveReins_vault (s : State) (m : Master) (mask : Nat) : (s.giveReins m mask).vault = s.vault := by
  simp only [State.giveReins, apply_ite State.vault, ite_self, foldl_vault, implies_true, State.set_vault]

theorem State.apiDeclared_vault (s : State) : s.apiDeclared.vault = s.vault := by
  simp only [State.apiDeclared, apply_ite State.vault, ite_self, State.setB_vault, State.addLog_vault]

theorem State.swapGo_vault (s : State) : s.swapGo.vault = s.vault := by
  simp only [State.swapGo, vault_swap, apply_ite State.vault, ite_self, State.ev_vault, State.set_vault,
    State.requestGroups_vault]

theorem State.confirmTrials_vault (s : State) : s.confirmTrials.vault = s.vault := by
  simp only [State.confirmTrials, vault_boot, apply_ite State.vault, ite_self, State.setSlot_vault]

theorem State.copyEnd_vault (s : State) (n : Nat) (c : Code) : (s.copyEnd n c).vault = s.vault := by
  simp only [State.copyEnd, vault_copy, apply_ite State.vault, ite_self, State.set_vault, State.setBit_vault]

theorem State.copyGo_vault (s : State) (n : Nat) (m : Master) : (s.copyGo n m).1.vault = s.vault := by
  simp only [State.copyGo, vault_copy, apply_ite Prod.fst, apply_ite State.vault, ite_self, State.setB_vault,
    State.set_vault, State.copyEnd_vault]

theorem State.copyAbort_vault (s : State) (n : Nat) : (s.copyAbort n).vault = s.vault := by
  simp only [State.copyAbort, vault_copy]

theorem State.noteChanges_vault (s old : State) (m : Master) (r : RegRow) : (s.noteChanges old m r).vault = s.vault := by
  simp only [State.noteChanges, apply_ite State.vault, ite_self, foldl_vault, implies_true, State.journalChanged_vault]

theorem State.commitGo_vault (s : State) (m : Master) (w : Nat) : (s.commitGo m w).1.vault = s.vault := by
  simp only [State.commitGo, vault_boot, apply_ite Prod.fst, apply_ite State.vault, ite_self]

theorem State.hookLine_vault (s old : State) (a w : Nat) : (s.hookLine old a w).vault = s.vault := by
  simp only [State.hookLine, apply_ite State.vault, ite_self, State.lineLatchCleared_vault, State.pseEnWritten_vault,
    State.pseLatchCleared_vault, State.syncPower_vault, State.spkWritten_vault, State.termChanged_vault,
    State.trimChanged_vault, State.balRequest_vault]

theorem State.hookAudio_vault (s : State) (a w : Nat) : (s.hookAudio a w).vault = s.vault := by
  simp only [State.hookAudio, apply_ite State.vault, ite_self, State.freezeWritten_vault, State.clearEcho_vault,
    State.showMuted_vault, State.wakeSync_vault, State.forceWake_vault, State.swapGo_vault]

theorem State.hookTg_vault {s old : State} (hold : old.vault = s.vault) (m : Master) (a w : Nat) :
    (s.hookTg old m a w).vault = s.vault := by
  simp only [State.hookTg, apply_ite State.vault, vault_mk, State.xpWrite_vault, State.journalChanged_vault,
    State.setB_vault,
    State.ackFoghorns_vault, State.foghornAcked_vault, hold, ite_self]

theorem State.capturePtp_vault (s : State) (sec ns : Nat) : (s.capturePtp sec ns).vault = s.vault := by
  simp only [State.capturePtp, State.set_vault, State.inc_vault]

theorem State.hookNet_vault (s old : State) (a w : Nat) : (s.hookNet old a w).vault = s.vault := by
  simp only [State.hookNet, vault_mk, apply_ite State.vault, ite_self, State.ringCtrlWritten_vault,
    State.ringIdWritten_vault, State.afterSec_vault, State.tdmWritten_vault, State.takeSnapshot_vault, State.setB_vault,
    State.freeNat_vault, State.capturePtp_vault, State.writeStreamEn_vault]

theorem State.setFields_vault (s : State) (r : RegRow) (w mask : Nat) : (s.setFields r w mask).vault = s.vault := by
  unfold State.setFields
  refine foldl_vault (fun x f => ?_) _ s
  extract_lets fm v cur
  split
  · rfl
  · split
    case h_4 => split <;> simp only [State.set_vault]
    all_goals simp only [State.set_vault]

theorem State.clearBank_vault (s : State) (m : Master) (w : Nat) : (s.clearBank m w).vault = s.vault := by
  simp only [State.clearBank, vault_mk]

theorem State.logRefusals_vault (s : State) (p : PWrite) (r : RegRow) (as : List Admit) :
    (s.logRefusals p r as).vault = s.vault := by
  simp only [State.logRefusals, apply_ite State.vault, ite_self, State.addLog_vault]

/-! ### The host port -/

theorem State.readWords_vault (s : State) (a i k : Nat) : (s.readWords a i k).2.2.vault = s.vault := by
  induction k generalizing s i with
  | zero => rfl
  | succ k ih => exact (ih _ _).trans (s.readWord_vault _ _ _)

theorem State.showPage_vault (s : State) : s.showPage.vault = s.vault := by
  unfold State.showPage
  split <;> simp only [State.setB_vault, State.set_vault]

/-! ### Network control -/

theorem State.netReadWords_vault (s : State) (a i k : Nat) : (s.netReadWords a i k).2.2.vault = s.vault := by
  induction k generalizing s i with
  | zero => rfl
  | succ k ih => exact (ih _ _).trans (s.readWord_vault _ _ _)

theorem State.answerOpening_vault (s : State) (h : NetHdr) (o : NetOp) : (s.answerOpening h o).vault = s.vault := by
  simp only [State.answerOpening, vault_mk, State.inc_vault]

/-! ### The copy engine -/

theorem State.syncInit_vault (s : State) (n : Nat) : (s.syncInit n).vault = s.vault := by
  simp only [State.syncInit, State.updStall_vault]

theorem State.copyRead_vault (s : State) (m : Master) (a : Nat) : (s.copyRead m a).2.2.vault = s.vault := by
  simp only [State.copyRead]
  repeat' split
  all_goals simp only [State.readWord_vault]

theorem State.copyReadRow_vault (s : State) (m : Master) (a k : Nat) : (s.copyReadRow m a k).2.2.vault = s.vault := by
  induction k generalizing s a with
  | zero => rfl
  | succ k ih =>
    rw [State.copyReadRow]
    split
    · exact s.copyRead_vault m a
    · exact (ih _ _).trans (s.copyRead_vault m a)

theorem State.updRun_vault (s : State) (n : Nat) (f : CopyRun → CopyRun) : (s.updRun n f).vault = s.vault := by
  simp only [State.updRun, vault_copy]

theorem State.rowDone_vault (s : State) (n : Nat) : (s.rowDone n).vault = s.vault := by
  simp only [State.rowDone]
  repeat' split
  all_goals simp only [State.inc_vault, State.copyEnd_vault]

theorem State.settleCopy_vault (s : State) (n : Nat) (c : Code) : (s.settleCopy n c).vault = s.vault := by
  unfold State.settleCopy
  split <;> simp only [apply_ite State.vault, ite_self, State.copyEnd_vault, State.updRun_vault, State.rowDone_vault]

/-! ### Clocks -/

theorem State.steer_vault (s : State) (mode : Nat) (phaseNs ppm : Int) : (s.steer mode phaseNs ppm).vault = s.vault := by
  simp only [State.steer, vault_mk, apply_ite State.vault, ite_self, State.set_vault, State.setI_vault, State.setB_vault]

theorem State.rtcTicks_vault (s : State) (n : Nat) : (s.rtcTicks n).vault = s.vault := by
  simp only [State.rtcTicks, vault_mk, apply_ite State.vault, ite_self, State.set_vault]

/-! ### Stall filters -/

theorem State.freeIn_vault (s : State) (lo hi : Nat) : (s.freeIn lo hi).2.vault = s.vault := by
  simp only [State.freeIn, State.freeNat_vault]

theorem State.computeDyn_vault (s : State) (t : Stall) (x : Block) : (s.computeDyn t x).2.2.vault = s.vault := by
  simp only [State.computeDyn, vault_mk]

theorem State.echoTapsOf_vault (s : State) (t : Stall) : (s.echoTapsOf t).2.vault = s.vault := by
  unfold State.echoTapsOf
  split <;> simp only [State.freeNat_vault]

theorem State.computeEcho_vault (s : State) (t : Stall) (x : Block) : (s.computeEcho t x).2.2.vault = s.vault := by
  simp only [State.computeEcho, apply_ite Prod.snd, ite_self, State.echoTapsOf_vault]

theorem State.nlpTalk_vault (s : State) (t : Stall) : (s.nlpTalk t).2.vault = s.vault := by
  simp only [State.nlpTalk]
  repeat' split
  all_goals simp only [State.freeBool_vault]

theorem State.nlpStep_vault (s : State) (t : StallRec) (cap : Nat) (quiet : Bool) (res est : Nat) (b : NlpBand) :
    (s.nlpStep t cap quiet res est b).2.vault = s.vault := by
  simp only [State.nlpStep, State.freeIn_vault]

theorem State.nlpNoise_vault (s : State) (bands : List NlpBand) : (s.nlpNoise bands).2.vault = s.vault := by
  unfold State.nlpNoise
  refine foldl_vault_snd (fun a b => ?_) bands ([], s)
  split
  · rfl
  · exact a.2.freeIn_vault ((b.background * 1000 + 1994) / 1995) (b.background * 1995 / 1000)

theorem State.computeNlp_vault (s : State) (t : Stall) (x : Block) : (s.computeNlp t x).2.2.vault = s.vault := by
  unfold State.computeNlp
  extract_lets m line est c talk quiet cap r n
  split
  · rfl
  · have hr : r.2.vault = s.vault := by
      refine Eq.trans (b := talk.2.vault) (foldl_vault_snd (fun a b => ?_) _ _) (s.nlpTalk_vault t)
      exact a.2.nlpStep_vault t.cfg cap quiet (Config.bandPower b.2 (line.drop 6)).toNat (Config.bandPower b.2 est).toNat b.1
    change n.2.vault = s.vault
    unfold n
    split
    · exact (State.nlpNoise_vault _ _).trans hr
    · exact hr

/-! ### Stall templates -/

theorem State.computeTone_vault (s : State) (t : Stall) : (s.computeTone t).2.2.vault = s.vault := by
  simp only [State.computeTone, apply_ite Prod.snd, apply_ite State.vault, ite_self, State.freeBlock_vault]

theorem State.asrcChannel_vault (s : State) (limit ch : Nat) : (s.asrcChannel limit ch).2.vault = s.vault := by
  simp only [State.asrcChannel]
  repeat' split
  all_goals simp only [State.inc_vault, State.updNet_vault]

theorem State.computeAsrc_vault (s : State) (t : Stall) : (s.computeAsrc t).2.vault = s.vault := by
  unfold State.computeAsrc
  extract_lets base r
  exact foldl_vault_snd (g := fun (a : Block × State) c => (a.1 ++ [(a.2.asrcChannel (t.cfg.w 1) (base + c)).1],
    (a.2.asrcChannel (t.cfg.w 1) (base + c)).2)) (fun a c => a.2.asrcChannel_vault _ _) _ ([], s)

theorem State.compute_vault (s : State) (t : Stall) : (s.compute t).2.2.2.vault = s.vault := by
  simp only [State.compute]
  repeat' split
  all_goals simp only [State.stepRamps_vault, State.computeDyn_vault, State.computeEcho_vault, State.computeNlp_vault,
    State.computeAsrc_vault, State.freeBlock_vault, State.computeTone_vault]

theorem State.echoWork_vault (s : State) (n : Nat) : (s.echoWork n).vault = s.vault := by
  unfold State.echoWork
  split <;> simp only [apply_ite State.vault, ite_self, State.echoStride_vault]

theorem State.runStall_vault (s : State) (n : Nat) : (s.runStall n).vault = s.vault := by
  unfold State.runStall
  split <;> simp only [apply_ite State.vault, ite_self, State.echoWork_vault, State.updStall_vault, State.compute_vault,
    State.setB_vault, State.recordHistory_vault]

theorem State.startStall_vault (s : State) (n : Nat) : (s.startStall n).vault = s.vault := by
  unfold State.startStall
  split <;> simp only [apply_ite State.vault, ite_self, State.runStall_vault]

theorem State.finishWork_vault (s : State) : s.finishWork.vault = s.vault := by
  simp only [State.finishWork, apply_ite State.vault, ite_self, foldl_vault, implies_true, State.runStall_vault]

/-! ### Full loads -/

theorem State.logImageRefused_vault (s : State) (code iid sink : Nat) :
    (s.logImageRefused code iid sink).vault = s.vault := by
  simp only [State.logImageRefused, apply_ite State.vault, ite_self, State.ev_vault]

theorem State.macOff_vault (s : State) (p : Nat) : (s.macOff p).vault = s.vault := by
  simp only [State.macOff, foldl_vault, implies_true, State.showQueues_vault, State.updMac_vault, State.set_vault]

theorem State.loadDomains_vault (s : State) (im : Image) (r : PortsRec) : (s.loadDomains im r).vault = s.vault := by
  simp only [State.loadDomains, vault_mk, apply_ite State.vault, ite_self, foldl_vault, implies_true, State.setBit_vault,
    State.dropDomain_vault, State.macOff_vault, State.powerGroups_vault]

theorem State.loadTg_vault (s : State) (im : Image) : (s.loadTg im).vault = s.vault := by
  unfold State.loadTg
  simp only [foldl_vault, State.set_vault, State.setB_vault, implies_true]
  refine (foldl_vault (fun x g => ?_) _ _).trans ?_
  · split
    · rfl
    · split
      · split <;> simp only [State.set_vault, State.setB_vault]
      · split <;> simp only [State.set_vault, State.setB_vault]
  · simp only [State.set_vault, State.dimReset_vault, vault_mk]

theorem State.loadTdm_vault (s : State) (im : Image) : (s.loadTdm im).vault = s.vault := by
  simp only [State.loadTdm, vault_mk, foldl_vault, implies_true, State.setB_vault]

theorem State.loadQueues_vault (s : State) : s.loadQueues.vault = s.vault := by
  simp only [State.loadQueues, foldl_vault, implies_true, State.showQueues_vault, State.updMac_vault, State.set_vault]

theorem State.loadRing_vault (s : State) (r : PortsRec) : (s.loadRing r).vault = s.vault := by
  simp only [State.loadRing, apply_ite State.vault, ite_self, State.setB_vault, State.set_vault, State.ringCtrlWritten_vault,
    State.ringIdWritten_vault]

theorem State.loadLine_vault (s : State) (r : PortsRec) : (s.loadLine r).vault = s.vault := by
  simp only [State.loadLine, vault_mk, apply_ite State.vault, ite_self, foldl_vault, implies_true, State.spkWritten_vault,
    State.setB_vault, State.set_vault, State.pseEnWritten_vault, State.termChanged_vault, State.setRoleCode_vault,
    State.setBit_vault, State.stepLamps_vault, State.syncPower_vault]

theorem State.checkLayers_vault (s : State) (im : Image) : (s.checkLayers im).vault = s.vault := by
  simp only [State.checkLayers, apply_ite State.vault, ite_self, foldl_vault, implies_true, State.ev_vault, State.set_vault]

theorem State.verifyModels_vault (s : State) (verdicts : List Bool) : (s.verifyModels verdicts).vault = s.vault := by
  unfold State.verifyModels
  refine foldl_vault (fun x k => ?_) _ s
  split
  · rfl
  · simp only [apply_ite State.vault, State.ev_vault, vault_boot, ite_self]

theorem State.showImage_vault (s : State) (im : Image) : (s.showImage im).vault = s.vault := by
  simp only [State.showImage, State.set_vault, State.setB_vault]

theorem State.stopStalls_vault (s : State) : s.stopStalls.vault = s.vault := by
  unfold State.stopStalls
  rw [State.powerGroups_vault]
  simp only [vault_boot, State.clearHistory_vault, State.stagesOff_vault]

/-! ### Swaps -/

theorem State.swapXps_vault (s : State) (im : Image) : (s.swapXps im).vault = s.vault := by
  simp only [State.swapXps, vault_mk, State.stepTargets_vault]

theorem State.enterInstances_vault (s : State) (im : Image) : (s.enterInstances im).vault = s.vault := by
  unfold State.enterInstances
  extract_lets a gone
  refine Eq.trans (b := a.vault) rfl ?_
  refine foldl_vault (fun x t => ?_) _ s
  split
  · split <;> simp only [State.cellBusy_vault, State.startEcho_vault]
  · split <;> simp only [State.cellBusy_vault]

/-! ### Commits -/

theorem State.commitRefused_vault (s : State) (m n code iid sink : Nat) :
    (s.commitRefused m n code iid sink).vault = s.vault := by
  simp only [State.commitRefused, vault_boot, apply_ite State.vault, ite_self, State.setSlot_vault, State.showBoot_vault,
    State.addLog_vault, State.setB_vault]

theorem State.commitSlot_vault (s : State) (n : Nat) : (s.commitSlot n).vault = s.vault := by
  simp only [State.commitSlot, vault_boot, State.showBoot_vault, State.setB_vault]

theorem State.commitModel_vault (s : State) (m slot : Nat) (sigOk : Bool) :
    (s.commitModel m slot sigOk).vault = s.vault := by
  simp only [State.commitModel, vault_boot, apply_ite State.vault, ite_self, State.commitRefused_vault, State.showBoot_vault,
    State.setB_vault]

/-! ### The stride -/

theorem State.stepStride_vault (s : State) : s.stepStride.vault = s.vault := by
  simp only [State.stepStride, vault_mk, apply_ite State.vault, ite_self]

theorem State.rampSinks_vault (s : State) : s.rampSinks.vault = s.vault := by
  simp only [State.rampSinks, vault_mk]

theorem State.readFrames_vault (s : State) (p q n : Nat) : (s.readFrames p q n).vault = s.vault := by
  simp only [State.readFrames, State.showQueues_vault, State.updMac_vault]

theorem State.sendFrom_vault (s : State) (p q : Nat) (bytes : List Byte) : (s.sendFrom p q bytes).vault = s.vault := by
  unfold State.sendFrom
  split <;> simp only [apply_ite State.vault, ite_self, State.enqueue_vault]

theorem State.tdmStride_vault (s : State) : s.tdmStride.1.vault = s.vault := by
  unfold State.tdmStride
  exact foldl_vault_fst (g := fun (a : State × List (List (List Sample))) t =>
    ((a.1.tdmBoundary t).1, a.2 ++ [(a.1.tdmBoundary t).2])) (fun a t => a.1.tdmBoundary_vault t) _ (s, [])

theorem State.openBypass_vault (s : State) : s.openBypass.vault = s.vault := by
  simp only [State.openBypass, apply_ite State.vault, ite_self, State.updRing_vault]

theorem State.loadModel_vault (s : State) : s.loadModel.vault = s.vault := by
  unfold State.loadModel
  split
  · rfl
  · simp only [vault_boot]

theorem State.trackMedia_vault (s : State) (x : StrideIn) : (s.trackMedia x).vault = s.vault := by
  simp only [State.trackMedia, apply_ite State.vault, ite_self, State.steer_vault]

theorem State.stepSwap_vault (s : State) : s.stepSwap.vault = s.vault := by
  simp only [State.stepSwap, vault_swap, apply_ite State.vault, ite_self]

theorem State.mixStride_vault (s : State) (x : StrideIn) : (s.mixStride x).vault = s.vault := by
  simp only [State.mixStride, State.fogBoundary_vault, State.markTalks_vault, State.mixEvaluate_vault,
    State.iopBoundary_vault, State.callBoundary_vault]

theorem State.lineStride_vault (s : State) (x : StrideIn) (hyb : List (List Sample)) :
    (s.lineStride x hyb).vault = s.vault := by
  simp only [State.lineStride, State.avsStride_vault, State.applyMeas_vault, State.echoBoundary_vault,
    State.endTalkBalances_vault, State.restoreBalances_vault, State.closeSwitches_vault, State.releaseShorts_vault,
    State.converterStride_vault]

end Sys2Proof.Machine
end

section KeptMemories
/-!
# Every operation keeps the memories in canonical form (log entry 3)

What a vault's canonical form is, and that each operation that may write one of the node's memories leaves all of them in it.
Operations that write none have a lemma about the vault itself, and need none here.
-/

namespace Sys2Proof.Machine

/-- The node's memories, each in canonical form (log entry 3). -/
structure Canonical (fw tack wake : List (List Host.Cell)) (flash copyBuf sram swapBuf loadBuf : List Host.Cell) : Prop where
  fw : ∀ m ∈ fw, Memory.wf m = true
  tack : ∀ m ∈ tack, Memory.wf m = true
  wake : ∀ m ∈ wake, Memory.wf m = true
  flash : Memory.wf flash = true
  copyBuf : Memory.wf copyBuf = true
  sram : Memory.wf sram = true
  swapBuf : Memory.wf swapBuf = true
  loadBuf : Memory.wf loadBuf = true

/-- Every memory of the vault is in canonical form. -/
def Vault.kept (v : Vault) : Prop := Canonical v.fw v.tack v.wake v.flash v.copyBuf v.sram v.swapBuf v.loadBuf

theorem State.memoriesKept_iff (s : State) : s.memoriesKept ↔ s.vault.kept := by
  simp only [State.memoriesKept, State.vault, Vault.kept, List.mem_append, or_imp, forall_and, List.mem_cons, List.not_mem_nil,
    or_false, forall_eq, and_assoc]
  exact ⟨fun ⟨a, b, c, d, e, f, g, k⟩ => ⟨a, b, c, d, e, f, g, k⟩, fun ⟨a, b, c, d, e, f, g, k⟩ => ⟨a, b, c, d, e, f, g, k⟩⟩

theorem Memory.wf_foldlWrite (l : List (Nat × Byte)) {m : List Host.Cell} (h : Memory.wf m = true) :
    Memory.wf (l.foldl (fun m (c : Nat × Byte) => Memory.write m c.1 c.2) m) = true :=
  List.foldlRecOn (motive := fun m => Memory.wf m = true) l _ h (fun _ hm _ _ => Memory.wf_write _ _ _ hm)

theorem Sparse.rising_filter {α : Type} (p : Nat × α → Bool) {l : List (Nat × α)} (h : Sparse.rising l = true) :
    Sparse.rising (l.filter p) = true := by
  induction l with
  | nil => rfl
  | cons q t ih =>
    rw [List.filter_cons]
    split
    · exact Sparse.rising_cons (fun r hr => Sparse.rising_all h r (List.mem_of_mem_filter hr)) (ih (Sparse.rising_tail h))
    · exact ih (Sparse.rising_tail h)

theorem Memory.wf_filter (p : Host.Cell → Bool) {m : List Host.Cell} (h : Memory.wf m = true) : Memory.wf (m.filter p) = true := by
  obtain ⟨hr, hne⟩ := (Memory.wf_iff m).1 h
  exact (Memory.wf_iff _).2 ⟨Sparse.rising_filter p hr, fun q hq => hne q (List.mem_of_mem_filter hq)⟩

theorem wf_mem_set {l : List (List Host.Cell)} (hl : ∀ m ∈ l, Memory.wf m = true) {b : List Host.Cell} (hb : Memory.wf b = true)
    (i : Nat) : ∀ m ∈ l.set i b, Memory.wf m = true :=
  fun m hm => (List.mem_or_eq_of_mem_set hm).elim (hl m) (fun e => e ▸ hb)

theorem foldl_kept {α : Type} {g : State → α → State} (hg : ∀ (s : State) a, s.vault.kept → (g s a).vault.kept) (l : List α) {s : State}
    (h : s.vault.kept) : (l.foldl g s).vault.kept :=
  List.foldlRecOn (motive := fun s : State => s.vault.kept) l _ h (fun _ ht a _ => hg _ a ht)

theorem foldl_kept_fst {α β : Type} {g : State × β → α → State × β} (hg : ∀ p a, p.1.vault.kept → (g p a).1.vault.kept) (l : List α)
    {p : State × β} (h : p.1.vault.kept) : (l.foldl g p).1.vault.kept :=
  List.foldlRecOn (motive := fun p : State × β => p.1.vault.kept) l _ h (fun _ ht a _ => hg _ a ht)

theorem kept_mk (t : State) (regs stride countAdj strideOn freeCtr pending answer queued log logTorn logOverrun banks fab mic
    line echo tg call ring net isle journal power gpio clk) :
    (State.mk regs stride countAdj strideOn freeCtr pending answer queued log logTorn logOverrun banks fab t.swap mic line echo
      tg call t.host ring net isle t.boot journal power t.copy gpio clk).vault.kept = t.vault.kept := rfl

theorem kept_boot (t : State) (regs stride countAdj strideOn freeCtr pending answer queued log logTorn logOverrun banks fab mic
    line echo tg call ring net isle fwSig' flashBad' states' models' serials' active' fresh' trialResets' fwImg' rest' want'
      wantSink' done' modelDue' recovery' audioAt' softDue' commitDue' journal power gpio clk) :
    (State.mk regs stride countAdj strideOn freeCtr pending answer queued log logTorn logOverrun banks fab t.swap mic line echo
      tg call t.host ring net isle (BootState.mk t.boot.fw fwSig' t.boot.tack t.boot.wake t.boot.flash flashBad' states'
        models' serials' active' fresh' trialResets' fwImg' rest' want' wantSink' done' modelDue' recovery' audioAt' softDue'
          commitDue') journal power t.copy gpio clk).vault.kept = t.vault.kept := rfl

theorem kept_host (t : State) (regs stride countAdj strideOn freeCtr pending answer queued log logTorn logOverrun banks fab mic
    line echo tg call decided' open_' nextTxn' ptr' page' capture' captureSeq' loadPos' loadLen' loadSink' loadSlot'
      wdogRunning' grams' ring net isle journal power gpio clk) :
    (State.mk regs stride countAdj strideOn freeCtr pending answer queued log logTorn logOverrun banks fab t.swap mic line echo
      tg call (HostState.mk decided' open_' nextTxn' ptr' page' capture' captureSeq' loadPos' loadLen' loadSink' loadSlot'
        t.host.loadBuf wdogRunning' grams') ring net isle t.boot journal power t.copy gpio clk).vault.kept = t.vault.kept := rfl

theorem kept_swap (t : State) (regs stride countAdj strideOn freeCtr pending answer queued log logTorn logOverrun banks fab
    len' fresh' cur' img' at_' k' atStride' passed' mic line echo tg call ring net isle journal power gpio clk) :
    (State.mk regs stride countAdj strideOn freeCtr pending answer queued log logTorn logOverrun banks fab (SwapState.mk
      t.swap.buf len' fresh' cur' img' at_' k' atStride' passed') mic line echo tg call t.host ring net isle t.boot journal
        power t.copy gpio clk).vault.kept = t.vault.kept := rfl

theorem kept_swapReset {t : State} (h : t.vault.kept) {regs stride countAdj strideOn freeCtr pending answer queued log logTorn
    logOverrun banks fab mic line echo tg call ring net isle fwSig' flashBad' states' models' serials' active' fresh'
      trialResets' fwImg' rest' want' wantSink' done' modelDue' recovery' audioAt' softDue' commitDue' journal power gpio clk} :
    (State.mk regs stride countAdj strideOn freeCtr pending answer queued log logTorn logOverrun banks fab SwapState.reset mic
      line echo tg call t.host ring net isle (BootState.mk t.boot.fw fwSig' t.boot.tack t.boot.wake t.boot.flash flashBad'
        states' models' serials' active' fresh' trialResets' fwImg' rest' want' wantSink' done' modelDue' recovery' audioAt'
          softDue' commitDue') journal power t.copy gpio clk).vault.kept := by
  obtain ⟨hfw, htack, hwake, hflash, hbuf, hsram, -, hload⟩ := h
  exact ⟨hfw, htack, hwake, hflash, hbuf, hsram, rfl, hload⟩

theorem State.clearRun_kept {s : State} (h : s.vault.kept) : s.clearRun.vault.kept := by
  obtain ⟨hfw, htack, hwake, hflash, hbuf, hsram, hswap, hload⟩ := h
  exact ⟨hfw, htack, hwake, hflash, rfl, rfl, rfl, rfl⟩

theorem State.closeSessions_kept {s : State} (h : s.vault.kept) : s.closeSessions.vault.kept := by
  simp only [State.closeSessions, kept_mk, State.showSec_vault, State.set_vault, h]

theorem State.islandStart_kept {s : State} (h : s.vault.kept) : s.islandStart.vault.kept := by
  simp only [State.islandStart, kept_mk, State.showSec_vault, State.set_vault, h]

theorem State.enterHalter_kept {s : State} (h : s.vault.kept) (cause : Nat) : (s.enterHalter cause).vault.kept := by
  unfold State.enterHalter
  simp only [State.showBoot_vault, State.showSec_vault, State.reconfigure_vault, State.setRoleCode_vault, vault_mk, foldl_vault,
    implies_true, State.setB_vault, State.dropDomain_vault, State.set_vault, apply_ite State.vault, ite_self,
      State.dimReset_vault,
    State.powerGroups_vault, State.showFabric_vault, State.installFabric_vault, State.loadPanel_vault]
  refine kept_swapReset ?_
  simp only [State.set_vault, State.setB_vault, State.setCaps_vault, h]

theorem State.hardError_kept {s : State} (h : s.vault.kept) (t : Nat) : (s.hardError t).vault.kept := by
  unfold State.hardError
  refine State.enterHalter_kept ?_ 2
  split <;> simp only [kept_mk, State.endChannels_vault, State.closeSessions_kept, State.set_vault, State.setB_vault, h]

theorem State.tryPairs_kept {s : State} (h : s.vault.kept) (ps : List (Nat × Nat)) : (s.tryPairs ps).vault.kept := by
  have hn : (s.nextPair ps).1.vault.kept := by rwa [State.nextPair_vault]
  unfold State.tryPairs
  dsimp only
  split
  · exact State.enterHalter_kept hn 1
  · rwa [State.startPair_vault]

theorem State.chooseImages_kept {s : State} (h : s.vault.kept) : s.chooseImages.vault.kept := by
  unfold State.chooseImages
  dsimp only
  split
  · exact State.enterHalter_kept (by simp only [vault_boot, State.set_vault, h]) 4
  · split
    · split
      · exact State.enterHalter_kept (by simp only [vault_boot, State.set_vault, h]) 1
      · simp only [State.showBoot_vault, State.showFw_vault, State.set_vault, State.firstBoot_vault, vault_boot, h]
    · exact State.tryPairs_kept (by simp only [vault_boot, State.set_vault, h]) _

theorem State.wdtBase_kept {s : State} (h : s.vault.kept) : s.wdtBase.vault.kept := by
  simp only [State.wdtBase, State.lineDieReset_vault, State.loadLost_vault, State.stopStride_vault, State.clearRun_kept,
    State.restore_vault, State.set_vault, State.syncPower_vault, State.showBoot_vault, State.islandStart_kept,
      State.setB_vault, State.recordReset_vault, h]

theorem State.wdtReset_kept {s : State} (h : s.vault.kept) : s.wdtReset.vault.kept := by
  simp only [State.wdtReset, State.chooseImages_kept, State.countTrial_vault, State.wdtBase_kept, h]

theorem State.enterRecovery_kept {s : State} (h : s.vault.kept) : s.enterRecovery.vault.kept := by
  simp only [State.enterRecovery, vault_mk, State.set_vault, State.setB_vault, State.enterHalter_kept, State.syncPower_vault, h]

theorem State.recoveryBoot_kept {s : State} (h : s.vault.kept) : s.recoveryBoot.vault.kept := by
  simp only [State.recoveryBoot, vault_boot, State.wdtBase_kept, State.set_vault, State.showBoot_vault, State.showFw_vault,
    State.enterRecovery_kept, h]

theorem State.eraseCsps_kept {s : State} (h : s.vault.kept) : s.eraseCsps.vault.kept := by
  simp only [State.eraseCsps, kept_mk, h]

theorem State.zeroReset_kept {s : State} (h : s.vault.kept) (cause : Nat) : (s.zeroReset cause).vault.kept := by
  unfold State.zeroReset
  simp only [State.showFw_vault]
  refine State.enterHalter_kept ?_ 3
  simp only [vault_boot, State.recordReset_vault, State.syncPower_vault, State.showBoot_vault, State.syncCaks_vault]
  refine State.islandStart_kept ?_
  simp only [apply_ite State.vault, State.set_vault, State.stopStride_vault, ite_self]
  refine State.clearRun_kept ?_
  simp only [State.restore_vault, State.ev_vault, State.set_vault, State.setB_vault, kept_mk]
  refine State.eraseCsps_kept ?_
  rw [State.loadLost_vault]
  exact h

theorem State.coldBase_kept {s : State} (h : s.vault.kept) (straps : Straps) (flash : List (Nat × Byte)) (last : Nat) :
    (s.coldBase straps flash last).vault.kept := by
  unfold State.coldBase
  simp only [State.recordReset_vault, State.showBoot_vault, State.lineDieReset_vault]
  refine State.islandStart_kept ?_
  rw [State.latchStraps_vault]
  have hc : s.clearRun.stopStride.vault.kept := by simp only [State.stopStride_vault, State.clearRun_kept h]
  obtain ⟨hfw, htack, hwake, -, hbuf, hsram, hswap, hload⟩ := hc
  exact ⟨hfw, htack, hwake, Memory.wf_foldlWrite flash rfl, hbuf, hsram, hswap, hload⟩

theorem State.mboxGo_kept {s : State} (h : s.vault.kept) : s.mboxGo.vault.kept := by
  unfold State.mboxGo
  split
  · rwa [State.set_vault]
  · rw [State.setB_vault]
    exact h

theorem State.service_kept {s : State} (h : s.vault.kept) (sv : Nat) {f : State → State × Nat × List Byte}
    (hf : ∀ t : State, t.vault.kept → (f t).1.vault.kept) : (s.service sv f).vault.kept := by
  unfold State.service
  split
  · exact h
  · split
    · exact h
    · dsimp only
      split
      · exact hf s h
      · split
        · exact hf s h
        · exact hf s h

theorem State.endService_kept {s : State} (h : s.vault.kept) (code : Nat) (out : List Byte) :
    (s.endService code out).vault.kept := by
  simp only [State.endService, kept_mk, foldl_vault, implies_true, State.set_vault, State.setB_vault, h]

theorem State.challenge_kept {s : State} (h : s.vault.kept) (m : Nat) (out : Challenge) : (s.challenge m out).1.vault.kept := by
  simp only [State.challenge, kept_mk, apply_ite Prod.fst, apply_ite State.vault, apply_ite Vault.kept, ite_self,
    State.drbgDraw_vault, State.hardError_kept, h]

theorem State.authenticate_kept {s : State} (h : s.vault.kept) (m : Nat) (body : List Byte) (sigOk : Bool) :
    (s.authenticate m body sigOk).1.vault.kept := by
  unfold State.authenticate
  split
  · exact h
  · split
    · exact h
    · dsimp only
      split
      · exact h
      · split
        · exact h
        · exact h

theorem State.dropLoads_kept {s : State} (h : s.vault.kept) : s.dropLoads.vault.kept :=
  { h with swapBuf := rfl }

theorem State.endLoads_kept {s : State} (h : s.vault.kept) : s.endLoads.vault.kept := by
  simp only [State.endLoads, apply_ite State.vault, ite_self, State.dropEntering_vault, State.set_vault, State.dropLoads_kept,
    h]

theorem State.startZero_kept {s : State} (h : s.vault.kept) (cause : Nat) : (s.startZero cause).vault.kept := by
  unfold State.startZero
  split
  · exact h
  · dsimp only
    refine State.endLoads_kept ?_
    have hc : ((({ s.spoilFrames.cutBeams with
        isle := { s.spoilFrames.cutBeams.isle with zeroing := some cause } } : State).set F.SEC_STATUS_STATE
          3).closeSessions.endChannels).vault.kept := by
      rw [State.endChannels_vault]
      refine State.closeSessions_kept ?_
      simp only [State.set_vault, kept_mk, State.cutBeams_vault, State.spoilFrames_vault, h]
    split
    · exact hc
    · exact State.endService_kept hc 11 []

theorem State.startRamp_kept {s : State} (h : s.vault.kept) : s.startRamp.vault.kept := by
  unfold State.startRamp
  simp only [foldl_vault, State.showQueues_vault, State.updMac_vault, implies_true, apply_ite State.vault, State.toGate_vault,
    ite_self]
  refine kept_swapReset ?_
  simp only [apply_ite State.vault, State.set_vault, State.dropEntering_vault, vault_mk, ite_self, h]

theorem State.softReset_kept {s : State} (h : s.vault.kept) : s.softReset.vault.kept := by
  unfold State.softReset
  extract_lets running hidden halter cause slot u _ v w _ x y z zz
  have hu : u.vault.kept := State.clearRun_kept (by
    simp only [State.restore_vault, State.closeSessions_kept, State.loadLost_vault, h])
  have hw : w.vault.kept := by
    simp only [w, State.setB_vault]
    exact hu
  have hzz : zz.vault.kept := by
    simp only [zz, z, y, State.recordReset_vault, State.syncPower_vault, State.showSec_vault, State.syncCaks_vault,
      apply_ite State.vault, State.set_vault, ite_self]
    exact hw
  split
  · exact State.enterHalter_kept hzz cause
  · split
    · exact State.enterRecovery_kept hzz
    · exact hzz

theorem State.startSoft_kept {s : State} (h : s.vault.kept) : s.startSoft.vault.kept := by
  unfold State.startSoft
  split
  · exact h
  · split
    · dsimp only
      split
      · exact h
      · exact State.startRamp_kept h
    · exact State.softReset_kept h

theorem State.resetWritten_kept {s : State} (h : s.vault.kept) (m : Master) (w : Nat) : (s.resetWritten m w).1.vault.kept := by
  simp only [State.resetWritten, apply_ite Prod.fst, apply_ite State.vault, apply_ite Vault.kept, ite_self,
    State.recoveryBoot_kept, State.startSoft_kept, h]

theorem State.loadStart_kept {s : State} (h : s.vault.kept) : s.loadStart.1.vault.kept := by
  unfold State.loadStart
  extract_lets sink len slot _ s1 _ s2 s3 _ s4
  have h3 : s3.vault.kept := by
    simp only [s3, apply_ite State.vault, State.setSlot_vault, ite_self]
    exact { h with loadBuf := rfl }
  split
  · exact h
  · split
    · exact h
    · simp only [s4, State.set_vault]
      split
      · rw [State.set_vault]
        exact { h3 with swapBuf := rfl }
      · split
        · exact { h3 with swapBuf := rfl }
        · exact h3

theorem State.hookSys_kept {s : State} (h : s.vault.kept) (old : State) (m : Master) (a w : Nat) :
    (s.hookSys old m a w).1.vault.kept := by
  simp only [State.hookSys, vault_mk, vault_host, apply_ite Prod.fst, apply_ite State.vault, apply_ite Vault.kept, ite_self,
    State.resetWritten_kept, State.apiDeclared_vault, State.setB_vault, State.commitGo_vault, State.confirmTrials_vault,
      State.avsWritten_vault, State.threshWritten_vault, State.syncPower_vault, State.set_vault, State.inc_vault,
        State.takeReins_vault, State.giveReins_vault, h]

theorem State.hookHost_kept {s : State} (h : s.vault.kept) (m : Master) (a w : Nat) : (s.hookHost m a w).1.vault.kept := by
  simp only [State.hookHost, apply_ite Prod.fst, apply_ite State.vault, apply_ite Vault.kept, ite_self, State.loadStart_kept,
    State.copyAbort_vault, State.copyGo_vault, State.set_vault, State.mboxGo_kept, h]

theorem State.hook_kept {s old : State} (hold : old.vault = s.vault) (h : s.vault.kept) (m : Master) (a w : Nat) :
    (s.hook old m a w).1.vault.kept := by
  unfold State.hook
  split
  · rwa [State.ackCell_vault]
  · split
    · exact State.hookSys_kept h old m a w
    · split
      · exact State.hookHost_kept h m a w
      · split
        · rwa [State.hookLine_vault]
        · split
          · simp only [State.hookTg_vault hold, h]
          · split
            · rwa [State.hookAudio_vault]
            · rwa [State.hookNet_vault]

theorem State.applyWrite_kept {s : State} (h : s.vault.kept) (m : Master) (a w mask : Nat) (r : RegRow) :
    (s.applyWrite m a w mask r).1.vault.kept := by
  simp only [State.applyWrite, apply_ite State.vault, ite_self, State.setFields_vault, State.setB_vault, State.hook_kept,
    State.noteChanges_vault, h]

theorem State.carry_kept {s : State} (h : s.vault.kept) (s0 : State) (us : List UWrite) (x : Prepared) :
    (s.carry s0 us x).1.vault.kept := by
  unfold State.carry
  split
  · split
    · rwa [State.accessError_vault]
    · exact { h with copyBuf := Memory.wf_writeAll _ _ _ h.copyBuf }
    · exact h
  · extract_lets s1 mine lost kept mask s2 s3 d
    have h1 : s1.vault.kept := by rwa [State.logRefusals_vault]
    have h2 : s2.vault.kept := by
      refine foldl_kept_fst (fun p u hp => ?_) _ h1
      split
      · exact hp
      · rwa [State.conflict_vault]
    have h3 : s3.vault.kept := by
      simp only [s3, apply_ite State.vault, State.clearBank_vault, ite_self, h2]
    show d.1.vault.kept
    simp only [d, apply_ite Prod.fst]
    split
    · exact State.applyWrite_kept h3 ..
    · exact h3

theorem State.decideWrites_kept {s : State} (h : s.vault.kept) (ps : List PWrite) : (s.decideWrites ps).1.vault.kept := by
  unfold State.decideWrites
  exact List.foldlRecOn (motive := fun r : State × List Code => r.1.vault.kept) _ _ h (fun _ hr _ _ => State.carry_kept hr ..)

theorem State.accept_kept {s : State} (h : s.vault.kept) (m : Master) (a w : Nat) (rivals : List (Master × Nat × Nat)) (src :
    WSrc) :
    (s.accept m a w rivals src).1.vault.kept := by
  unfold State.accept
  split
  · exact h
  · exact State.decideWrites_kept (by exact h) _

theorem State.write_kept {s : State} (h : s.vault.kept) (m : Master) (a : Nat) (w : Word) : (s.write m a w).vault.kept := by
  simp only [State.write, State.accept_kept, h]

theorem State.endTxn_kept {s : State} (h : s.vault.kept) (t : Txn) : (s.endTxn t).vault.kept := by
  simp only [State.endTxn, vault_host, apply_ite State.vault, ite_self, State.updHost, h]

theorem State.settleHost_kept {s : State} (h : s.vault.kept) (id word : Nat) (c : Code) :
    (s.settleHost id word c).vault.kept := by
  unfold State.settleHost
  split
  · exact h
  · dsimp only
    split
    · exact State.endTxn_kept (by exact h) _
    · exact h

theorem State.newTxn_kept {s : State} (h : s.vault.kept) : s.newTxn.2.vault.kept := by
  simp only [State.newTxn, vault_host, State.updHost, h]

theorem State.answerHost_kept {s : State} (h : s.vault.kept) (status : Nat) (t : Txn) (words : List Word) (bytes : List Byte) :
    (s.answerHost status t words bytes).vault.kept :=
  State.endTxn_kept h t

theorem State.writeWords_kept {s : State} (h : s.vault.kept) (a id i : Nat) (t : Txn) (ws : List Word) :
    (s.writeWords a id i t ws).1.vault.kept := by
  induction ws generalizing s i t with
  | nil => exact h
  | cons w ws ih => exact ih (State.accept_kept h ..) _ _

theorem State.hostWrite_kept {s : State} (h : s.vault.kept) (fr : Framing) (a : Nat) (ws : List Word) :
    (s.hostWrite fr a ws).vault.kept := by
  unfold State.hostWrite
  split
  · exact h
  · dsimp only
    split
    · exact State.answerHost_kept (State.newTxn_kept h) ..
    · split
      · exact State.answerHost_kept (by rw [State.accessError_vault]; exact State.newTxn_kept h) ..
      · exact State.answerHost_kept (State.writeWords_kept (by rw [State.hostWakes_vault]; exact State.newTxn_kept h) ..) ..

theorem State.hostRead_kept {s : State} (h : s.vault.kept) (fr : Framing) (a k : Nat) : (s.hostRead fr a k).vault.kept := by
  simp only [State.hostRead, apply_ite State.vault, apply_ite Vault.kept, ite_self, State.newTxn_kept, State.answerHost_kept,
    State.accessError_vault, State.readWords_vault, h]

theorem State.rowWrite_kept {s : State} (h : s.vault.kept) (m : Master) (a : Nat) (w : Word) :
    (s.rowWrite m a w).vault.kept := by
  simp only [State.rowWrite, apply_ite State.vault, apply_ite Vault.kept, ite_self, State.hostWrite_kept, State.write_kept, h]

theorem State.framingTxn_kept {s : State} (h : s.vault.kept) (read : Bool) : (s.framingTxn read).vault.kept := by
  simp only [State.framingTxn, State.newTxn_kept, State.answerHost_kept, h]

theorem State.passPage_kept {s : State} (h : s.vault.kept) (src n : Nat) : (s.passPage src n).vault.kept := by
  simp only [State.passPage, vault_host, State.updHost, h]

theorem State.markTorn_kept {s : State} (h : s.vault.kept) (src n : Nat) : (s.markTorn src n).vault.kept := by
  unfold State.markTorn
  dsimp only
  split
  · exact h
  · exact h
  · split
    · exact h
    · exact h
  · exact h
  · exact h

theorem State.releasePage_kept {s : State} (h : s.vault.kept) : s.releasePage.vault.kept := by
  unfold State.releasePage
  split
  next => exact h
  next p _ =>
    have ht : ((s.markTorn p.source p.seq).inc F.HOST_PAGE_STATUS_TORN_CNT |>.setB F.HOST_IRQ_TORN true).vault.kept := by
      simp only [State.setB_vault, State.inc_vault, State.markTorn_kept h]
    rw [State.showPage_vault]
    show (ite _ _ _ : State).vault.kept
    split
    · exact State.passPage_kept ht p.source p.seq
    · exact ht

theorem State.sendPage_kept {s : State} (h : s.vault.kept) (p : OpenPage) (k : Nat) : (s.sendPage p k).vault.kept := by
  simp only [State.sendPage, vault_host, apply_ite State.vault, apply_ite Vault.kept, ite_self, State.passPage_kept,
    State.showPage_vault, State.updHost, h]

theorem State.pageTxn_kept {s : State} (h : s.vault.kept) (status : Nat) (fr : Framing) (p : OpenPage) (k : Nat) :
    (s.pageTxn status fr p k).vault.kept :=
  State.answerHost_kept (State.sendPage_kept (State.newTxn_kept h) p k) ..

theorem State.pageRead_kept {s : State} (h : s.vault.kept) (fr : Framing) (k : Nat) : (s.pageRead fr k).vault.kept := by
  unfold State.pageRead
  dsimp only
  split
  · exact State.answerHost_kept (State.newTxn_kept (State.releasePage_kept h)) ..
  · exact State.pageTxn_kept (State.releasePage_kept h) ..

theorem State.captureSample_kept {s : State} (h : s.vault.kept) (idx : Nat) (x : Int) : (s.captureSample idx x).vault.kept := by
  simp only [State.captureSample, vault_host, apply_ite State.vault, ite_self, State.countOverrun_vault, State.updHost, h]

theorem State.stepCapture_kept {s : State} (h : s.vault.kept) : s.stepCapture.vault.kept := by
  unfold State.stepCapture
  split
  · exact h
  · split
    · exact h
    · exact foldl_kept (fun _ _ ht => State.captureSample_kept ht _ _) _ h

theorem State.loadAbort_kept {s : State} (h : s.vault.kept) : s.loadAbort.vault.kept := by
  unfold State.loadAbort
  extract_lets sink s1 s2 s3 _ s4
  have h2 : s2.vault.kept := by simp only [s2, s1, State.setB_vault, State.set_vault, h]
  have h3 : s3.vault.kept := { h2 with loadBuf := rfl }
  split
  · have h4 : s4.vault.kept := { h3 with swapBuf := rfl }
    split
    · rwa [State.set_vault]
    · exact h4
  · exact h3

theorem State.loadDone_kept {s : State} (h : s.vault.kept) : s.loadDone.vault.kept := by
  have hb : Memory.wf s.host.loadBuf = true := h.loadBuf
  unfold State.loadDone
  extract_lets b slot s1 s2 note _ _ s3
  have h1 : s1.vault.kept := by simp only [s1, State.set_vault, h]
  have h2 : s2.vault.kept := { h1 with loadBuf := rfl }
  split
  · exact { h2 with tack := wf_mem_set h2.tack hb slot }
  · have h3 : s3.vault.kept := { h2 with swapBuf := hb }
    split
    · rwa [State.set_vault]
    · exact h3
  · exact { h2 with fw := wf_mem_set h2.fw hb slot }
  · simp only [note, vault_boot, State.showBoot_vault]
    exact { h2 with wake := wf_mem_set h2.wake hb slot }

theorem State.loadBytes_kept {s : State} (h : s.vault.kept) (data : List Byte) : (s.loadBytes data).vault.kept := by
  unfold State.loadBytes
  extract_lets pos len part now s1
  have h1 : s1.vault.kept := { h with loadBuf := Memory.wf_writeAll _ _ _ h.loadBuf }
  split
  · exact State.loadDone_kept (by rwa [State.set_vault])
  · rwa [State.set_vault, State.set_vault]

theorem State.pageWrite_kept {s : State} (h : s.vault.kept) (cont : Bool) (fr : Framing) (bytes : List Byte) :
    (s.pageWrite cont fr bytes).vault.kept := by
  unfold State.pageWrite
  dsimp only
  split
  · exact State.answerHost_kept (State.newTxn_kept h) ..
  · split
    · exact State.answerHost_kept (State.loadAbort_kept (State.newTxn_kept h)) ..
    · exact State.answerHost_kept (State.loadBytes_kept (State.newTxn_kept h) _) ..

theorem State.takeDatagram_kept {s : State} (h : s.vault.kept) (d : NetHdr) (opOk : Bool) :
    (s.takeDatagram d opOk).1.vault.kept := by
  unfold State.takeDatagram
  split
  · rwa [State.inc_vault]
  · split
    · simp only [kept_mk, State.inc_vault]
      exact State.newTxn_kept h
    · rwa [State.inc_vault]

theorem State.datagramFor_kept {s : State} (h : s.vault.kept) (d : NetHdr) (opOk : Bool) :
    (s.datagramFor d opOk).1.vault.kept := by
  unfold State.datagramFor
  split
  · exact h
  · split
    · exact State.takeDatagram_kept h d opOk
    · exact h

theorem State.putGram_kept {s : State} (h : s.vault.kept) (g : NetGram) : (s.putGram g).vault.kept := by
  unfold State.putGram
  split
  · exact h
  · exact h

theorem State.settleNet_kept {s : State} (h : s.vault.kept) (id op word : Nat) (c : Code) :
    (s.settleNet id op word c).vault.kept := by
  unfold State.settleNet
  split
  · exact h
  · exact State.putGram_kept h _

theorem State.netWriteWords_kept {s : State} (h : s.vault.kept) (g : NetGram) (a i : Nat) (bad : List (Nat × Code)) (und : Nat)
    (ws : List Word) : (s.netWriteWords g a i bad und ws).1.vault.kept := by
  induction ws generalizing s i bad und with
  | nil => exact h
  | cons w ws ih => exact ih (State.accept_kept h ..) _ _ _

theorem State.netPlain_kept {s : State} (h : s.vault.kept) (d : NetHdr) (op addr : Nat) {f : State → State × Code}
    (hf : ∀ t : State, t.vault.kept → (f t).1.vault.kept) : (s.netPlain d op addr f).vault.kept := by
  unfold State.netPlain
  dsimp only
  split
  · exact State.datagramFor_kept h d true
  · exact State.putGram_kept (hf _ (State.datagramFor_kept h d true)) _

theorem State.openNet_kept {s : State} (h : s.vault.kept) (id role : Nat) : (s.openNet id role).vault.kept := by
  simp only [State.openNet, kept_mk, State.showSec_vault, h]

theorem State.fillSram_kept {s : State} (h : s.vault.kept) (l : List StallRec) : (s.fillSram l).vault.kept :=
  { h with
    sram := List.foldlRecOn (motive := fun m => Memory.wf m = true) l _ h.sram
      (fun _ hm _ _ => Memory.wf_writeAll _ _ _ (Memory.wf_filter _ hm)) }

theorem State.copyWrite_kept {s : State} (h : s.vault.kept) (ch : Nat) (m : Master) (a w : Nat) :
    (s.copyWrite ch m a w).1.vault.kept := by
  unfold State.copyWrite
  split
  · split
    · exact h
    · dsimp only
      rw [State.syncInit_vault]
      exact { h with sram := Memory.wf_writeAll _ _ _ h.sram }
  · exact State.accept_kept h ..

theorem State.copyWriteRow_kept {s : State} (h : s.vault.kept) (ch : Nat) (m : Master) (a und : Nat) (ws : List Nat) :
    (s.copyWriteRow ch m a und ws).1.vault.kept := by
  induction ws generalizing s a und with
  | nil => exact h
  | cons w ws ih =>
    unfold State.copyWriteRow
    dsimp only
    split
    · exact State.copyWrite_kept h ..
    · exact ih (State.copyWrite_kept h ..) _ _

theorem State.serveRow_kept {s : State} (h : s.vault.kept) (n : Nat) : (s.serveRow n).vault.kept := by
  unfold State.serveRow
  extract_lets _ t
  have ht : t.vault.kept := h
  split
  · exact ht
  · split
    · rwa [State.copyEnd_vault]
    · split
      · rwa [State.copyEnd_vault]
      · extract_lets rd wr u
        have hrd : rd.2.2.vault.kept := by simpa only [rd, State.copyReadRow_vault] using ht
        have hwr : wr.1.vault.kept := State.copyWriteRow_kept hrd ..
        split
        · rwa [State.copyEnd_vault]
        · split
          · rwa [State.copyEnd_vault]
          · have hu : u.vault.kept := by rwa [State.updRun_vault]
            split
            · rwa [State.rowDone_vault]
            · exact hu

theorem State.loadRefused_kept {s : State} (h : s.vault.kept) (t code : Nat) : (s.loadRefused t code).vault.kept := by
  unfold State.loadRefused
  extract_lets s1 waits _ _ s2 s3 s4 r
  have h1 : s1.vault.kept := by simp only [s1, State.logImageRefused_vault, h]
  have h2 : s2.vault.kept := h1
  have h4 : s4.vault.kept := by
    simp only [s4, s3, apply_ite State.vault, State.trialFailed_vault, State.badTack_vault, ite_self, State.powerGroups_vault,
      h2]
  have hr : r.1.vault.kept := by simp only [r, State.nextPair_vault, h4]
  split
  · simp only [State.showBoot_vault, State.set_vault, h4]
  · split
    · simp only [State.setB_vault, State.enterHalter_kept hr]
    · split
      · rwa [State.startPair_vault]
      · exact State.wdtReset_kept hr

theorem State.buildImage_kept {s : State} (h : s.vault.kept) (im : Image) (digest : List Byte) :
    (s.buildImage im digest).vault.kept := by
  unfold State.buildImage
  extract_lets strap p r s1 s2 _ s3 s4 _ s5 s6 s7 s8 _ s9 s10 s11
  have h2 : s2.vault.kept := by simp only [s2, s1, State.set_vault, State.setB_vault, State.setCaps_vault, h]
  clear_value s2
  have h4 : s4.vault.kept := by
    simp only [s4, State.set_vault]
    exact h2
  clear_value s4
  have h5 : s5.vault.kept := { h4 with swapBuf := rfl }
  have h6 : s6.vault.kept := State.fillSram_kept (by rwa [State.showFabric_vault, State.installFabric_vault]) im.stalls
  have h9 : s9.vault.kept := by
    show s8.vault.kept
    simp only [s8, s7, State.startAllEchoes_vault, State.clearHistory_vault, State.loadDomains_vault, h6]
  simp only [s11, s10, State.loadLine_vault, State.setB_vault, State.loadRing_vault, State.loadQueues_vault,
    State.loadTdm_vault, State.syncKeys_vault, State.loadPanel_vault, State.loadTg_vault, h9]

theorem State.stewardWrite_kept {s : State} (h : s.vault.kept) (addr value mask : Nat) :
    (s.stewardWrite addr value mask).vault.kept := by
  simp only [State.stewardWrite, State.decideWrites_kept, h]

theorem State.applyParam_kept {s : State} (h : s.vault.kept) (p : ParamRec) : (s.applyParam p).vault.kept := by
  unfold State.applyParam
  split
  · rwa [State.addLog_vault]
  · split
    · exact h
    · exact State.stewardWrite_kept h ..

theorem State.replayOne_kept {s : State} (h : s.vault.kept) (j : JRec) : (s.replayOne j).vault.kept := by
  have refused (d : Nat) : (s.addLog Ev.writeRefused.type 0 d j.addr j.value 0).vault.kept := by rwa [State.addLog_vault]
  unfold State.replayOne
  dsimp only
  split
  · split
    · rwa [State.xpWrite_vault]
    · exact refused _
  · split
    · exact refused _
    · split
      · exact State.stewardWrite_kept h ..
      · exact refused _

theorem State.replay_kept {s : State} (h : s.vault.kept) : s.replay.vault.kept := by
  unfold State.replay
  split
  · exact h
  · exact foldl_kept (fun _ j ht => State.replayOne_kept ht j) _ h

theorem State.swapRefused_kept {s : State} (h : s.vault.kept) (code : Nat) : (s.swapRefused code).vault.kept := by
  unfold State.swapRefused
  rw [State.powerGroups_vault]
  have hl : (s.logImageRefused code (u32 s.swap.cur 0x10) 2).vault.kept := by rwa [State.logImageRefused_vault]
  simp only [SwapState.ended, kept_swap, State.set_vault, hl]

theorem State.startCommitLoad_kept {s : State} (h : s.vault.kept) (slot : Nat) : (s.startCommitLoad slot).vault.kept := by
  simp only [State.startCommitLoad, vault_boot, apply_ite State.vault, apply_ite Vault.kept, ite_self, State.set_vault,
    State.startRamp_kept, h]

theorem State.commitTack_kept {s : State} (h : s.vault.kept) (m slot : Nat) (now sigOk : Bool) :
    (s.commitTack m slot now sigOk).vault.kept := by
  simp only [State.commitTack, apply_ite State.vault, apply_ite Vault.kept, ite_self, State.commitRefused_vault,
    State.commitSlot_vault, State.startCommitLoad_kept, h]

theorem State.commitFw_kept {s : State} (h : s.vault.kept) (m slot : Nat) (restart sigOk : Bool) :
    (s.commitFw m slot restart sigOk).vault.kept := by
  simp only [State.commitFw, vault_boot, apply_ite State.vault, apply_ite Vault.kept, ite_self, State.commitRefused_vault,
    State.commitSlot_vault, State.wdtReset_kept, h]

theorem State.commit_kept {s : State} (h : s.vault.kept) (sigOk : Bool) : (s.commit sigOk).vault.kept := by
  unfold State.commit
  split
  · exact h
  · dsimp only
    split
    · exact h
    · split
      · exact State.commitTack_kept (by exact h) ..
      · split
        · exact State.commitFw_kept (by exact h) ..
        · rw [State.commitModel_vault]
          exact h

theorem State.commitFree_kept {s : State} (h : s.vault.kept) : s.commitFree.vault.kept := by
  simp only [State.commitFree, apply_ite State.vault, apply_ite Vault.kept, ite_self, State.freeBool_vault, State.commit_kept,
    h]

theorem State.commitRow_kept {s : State} (h : s.vault.kept) (m : Master) (w : Word) (kind : Nat → Bool) (sigOk : Bool) :
    (s.commitRow m w kind sigOk).vault.kept := by
  have hw : (s.commitFree.rowWrite m 0x10020 w).vault.kept := State.rowWrite_kept (State.commitFree_kept h) ..
  unfold State.commitRow
  dsimp only
  split
  · exact State.commit_kept hw sigOk
  · exact hw

theorem State.rampEnded_kept {s : State} (h : s.vault.kept) : s.rampEnded.vault.kept := by
  simp only [State.rampEnded, apply_ite State.vault, apply_ite Vault.kept, ite_self, State.stopStalls_vault,
    State.softReset_kept, h]

theorem State.settle_kept {s : State} (h : s.vault.kept) (src : WSrc) (c : Code) : (s.settle src c).vault.kept := by
  unfold State.settle
  split
  · exact h
  · exact State.settleHost_kept h ..
  · exact State.settleNet_kept h ..
  · rwa [State.settleCopy_vault]

theorem State.decideStride_kept {s : State} (h : s.vault.kept) : s.decideStride.vault.kept := by
  refine foldl_kept (fun _ _ ht => State.settle_kept ht _ _) _ (State.decideWrites_kept ?_ _)
  exact h

theorem State.stageTack_kept {s : State} (h : s.vault.kept) (b : List Byte) : (s.stageTack b).vault.kept := by
  have hs : (s.setSlot (2 + (1 - s.boot.active.2)) 0).vault.kept := by rwa [State.setSlot_vault]
  unfold State.stageTack
  dsimp only
  split
  · exact h
  · generalize s.setSlot (2 + (1 - s.boot.active.2)) 0 = t at hs ⊢
    exact { hs with tack := wf_mem_set hs.tack (Memory.wf_writeAll _ _ _ rfl) _ }

theorem State.appFrames_kept {s : State} (h : s.vault.kept) (x : StrideIn) : (s.appFrames x).vault.kept := by
  unfold State.appFrames
  simp only [foldl_vault, State.sendFrom_vault, State.readFrames_vault, implies_true]
  split
  · exact h
  · exact State.stageTack_kept h _

theorem State.adoptStride_kept {s : State} (h : s.vault.kept) : s.adoptStride.vault.kept := by
  simp only [State.adoptStride, apply_ite State.vault, apply_ite Vault.kept, ite_self, State.adoptBoundary_vault,
    State.swapRefused_kept, h]

theorem State.netStride_kept {s : State} (h : s.vault.kept) (x : StrideIn) : (s.netStride x).vault.kept := by
  simp only [State.netStride, State.updNet_vault, State.openBypass_vault, State.adoptStride_kept, State.ringBoundary_vault,
    State.appFrames_kept, State.latchTalk_vault, h]

theorem State.fabStride_kept {s : State} (h : s.vault.kept) (adc : List (List Sample)) (frames : List (List (List Sample))) :
    (s.fabStride adc frames).vault.kept := by
  simp only [State.fabStride, State.stepSwap_vault, State.stepCatchup_vault, State.applyClocks_vault, State.stepCapture_kept,
    State.commitSources_vault, State.beginStride_vault, h]

end Sys2Proof.Machine

end KeptMemories

section
/-! Every command keeps the memories in canonical form, and with it every step: the settlement of O4 (log entry 3). -/

namespace Sys2Proof.Machine

/-- A command's answer is a state whose memories are in canonical form. -/
def KeptOutcome : Host.Outcome State Fault Refusal → Prop
  | .next t => t.vault.kept
  | _ => True

theorem keptOutcome_done (s t : State) : KeptOutcome (s.done t) = t.vault.kept := rfl

theorem State.coService_kept {s : State} (h : s.vault.kept) {r : State × Nat × List Byte} (hr : r.1.vault.kept) :
    (s.coService r).1.vault.kept := by
  unfold State.coService
  split
  · exact hr
  · exact h

theorem execLayerEnd_kept {s : State} (h : s.vault.kept) (k : Fin 8) : KeptOutcome (execLayerEnd k s) := by
  simp only [execLayerEnd, keptOutcome_done, apply_ite State.vault, ite_self, State.layerEnd_vault, h]

theorem execBlockCommit_kept {s : State} (h : s.vault.kept) (n : Fin 128) (commitAt mhz2 : Nat) :
    KeptOutcome (execBlockCommit n commitAt mhz2 s) := by
  simp only [execBlockCommit, keptOutcome_done, State.commitStall_vault, h]

theorem execClockSlackCheck1S_kept {s : State} (h : s.vault.kept) (n : Fin 128) : KeptOutcome (execClockSlackCheck1S n s) := by
  unfold execClockSlackCheck1S
  split
  · exact h
  · simp only [keptOutcome_done, apply_ite State.vault, State.updStall_vault, ite_self, h]

theorem execClockSlackCheck64_kept {s : State} (h : s.vault.kept) (n : Fin 128) : KeptOutcome (execClockSlackCheck64 n s) := by
  unfold execClockSlackCheck64
  split
  · exact h
  · simp only [keptOutcome_done, apply_ite State.vault, State.updStall_vault, ite_self, h]

theorem execDuckHangExpiry_kept {s : State} (h : s.vault.kept) (kind : Fin 3) (output : Fin 256) :
    KeptOutcome (execDuckHangExpiry kind output s) := by
  simp only [execDuckHangExpiry, keptOutcome_done, vault_mk, apply_ite KeptOutcome, ite_self, State.stepTargets_vault, h]

theorem execKeyDebounce_kept {s : State} (h : s.vault.kept) (gpio : Fin 32) (level : Bool) (stableUs : Nat) :
    KeptOutcome (execKeyDebounce gpio level stableUs s) := by
  simp only [execKeyDebounce, keptOutcome_done, apply_ite State.vault, ite_self, State.panelChange_vault, State.setBit_vault,
    State.keyInput_vault, h]

theorem execMicStuck_kept {s : State} (h : s.vault.kept) (pair : Fin 4) (us : Nat) : KeptOutcome (execMicStuck pair us s) := by
  simp only [execMicStuck, keptOutcome_done, apply_ite State.vault, ite_self, State.setBit_vault, h]

theorem execMicUnstuck_kept {s : State} (h : s.vault.kept) (pair : Fin 4) (us : Nat) :
    KeptOutcome (execMicUnstuck pair us s) := by
  simp only [execMicUnstuck, keptOutcome_done, apply_ite State.vault, ite_self, State.setBit_vault, h]

theorem execWakeFrameEnd_kept {s : State} (h : s.vault.kept) (f : WakeFrame) : KeptOutcome (execWakeFrameEnd f s) := by
  simp only [execWakeFrameEnd, keptOutcome_done, vault_mk, apply_ite State.vault, ite_self, foldl_vault, implies_true,
    State.moveFloor_vault, State.stageFrame_vault, State.showStageMuted_vault, State.promote_vault, h]

theorem execStageReady_kept {s : State} (h : s.vault.kept) (stage : Fin 5) : KeptOutcome (execStageReady stage s) := by
  simp only [execStageReady, keptOutcome_done, vault_mk, apply_ite State.vault, ite_self, State.setBit_vault, h]

theorem execStageTimeout_kept {s : State} (h : s.vault.kept) (stage : Fin 5) : KeptOutcome (execStageTimeout stage s) := by
  simp only [execStageTimeout, keptOutcome_done, apply_ite State.vault, ite_self, State.stageDown_vault, h]

theorem execWakeHangExpiry_kept {s : State} (h : s.vault.kept) : KeptOutcome (execWakeHangExpiry s) := by
  simp only [execWakeHangExpiry, keptOutcome_done, apply_ite State.vault, ite_self, State.releaseWake_vault,
    State.stageDown_vault, h]

theorem execCatchupStart_kept {s : State} (h : s.vault.kept) : KeptOutcome (execCatchupStart s) := by
  unfold execCatchupStart
  rw [keptOutcome_done]
  repeat' split
  all_goals simp only [vault_mk, State.set_vault, h]

theorem execCatchupRingSwitch_kept {s : State} (h : s.vault.kept) : KeptOutcome (execCatchupRingSwitch s) := by
  simp only [execCatchupRingSwitch, keptOutcome_done, apply_ite State.vault, ite_self, State.set_vault, h]

theorem execCatchupLive_kept {s : State} (h : s.vault.kept) : KeptOutcome (execCatchupLive s) := by
  simp only [execCatchupLive, keptOutcome_done, apply_ite State.vault, ite_self, State.goLive_vault, h]

theorem execCatchupTalkClosed_kept {s : State} (h : s.vault.kept) : KeptOutcome (execCatchupTalkClosed s) := by
  simp only [execCatchupTalkClosed, keptOutcome_done, vault_mk, apply_ite State.vault, ite_self, h]

theorem execMicMuteAssert_kept {s : State} (h : s.vault.kept) : KeptOutcome (execMicMuteAssert s) := by
  simp only [execMicMuteAssert, keptOutcome_done, vault_mk, apply_ite State.vault, ite_self, State.setB_vault,
    State.showMuted_vault, State.releaseWake_vault, h]

theorem execMicMuteRelease_kept {s : State} (h : s.vault.kept) (us : Nat) : KeptOutcome (execMicMuteRelease us s) := by
  simp only [execMicMuteRelease, keptOutcome_done, vault_mk, apply_ite State.vault, ite_self, State.setB_vault,
    State.showMuted_vault, h]

theorem execMuteSilenceEnd_kept {s : State} (h : s.vault.kept) (us : Nat) : KeptOutcome (execMuteSilenceEnd us s) := by
  simp only [execMuteSilenceEnd, keptOutcome_done, vault_mk, apply_ite State.vault, ite_self, State.showMuted_vault, h]

theorem execDtdHangExpiry_kept {s : State} (h : s.vault.kept) (inst : Fin 20) : KeptOutcome (execDtdHangExpiry inst s) := by
  unfold execDtdHangExpiry
  rw [keptOutcome_done]
  repeat' split
  all_goals simp only [State.setB_vault, State.updEcho_vault, h]

theorem execEchoDiverge_kept {s : State} (h : s.vault.kept) (inst : Fin 20) : KeptOutcome (execEchoDiverge inst s) := by
  unfold execEchoDiverge
  rw [keptOutcome_done]
  repeat' split
  all_goals simp only [State.setB_vault, State.inc_vault, State.updEcho_vault, State.ev_vault, h]

theorem execEchoConverged_kept {s : State} (h : s.vault.kept) (inst : Fin 20) : KeptOutcome (execEchoConverged inst s) := by
  unfold execEchoConverged
  rw [keptOutcome_done]
  repeat' split
  all_goals simp only [State.set_vault, h]

theorem execEchoResult_kept {s : State} (h : s.vault.kept) (inst : Fin 20) : KeptOutcome (execEchoResult inst s) := by
  unfold execEchoResult
  rw [keptOutcome_done]
  repeat' split
  all_goals simp only [State.freeNat_vault, State.perMille_vault, State.writeCell_vault, State.updEcho_vault, h]

theorem execBalanceSilence_kept {s : State} (h : s.vault.kept) (c : Fin 4) : KeptOutcome (execBalanceSilence c s) := by
  simp only [execBalanceSilence, keptOutcome_done, apply_ite State.vault, ite_self, State.set_vault, State.updBal_vault,
    State.muteDac_vault, h]

theorem execBalanceNoiseCheck_kept {s : State} (h : s.vault.kept) (c : Fin 4) (level : Int) :
    KeptOutcome (execBalanceNoiseCheck c level s) := by
  simp only [execBalanceNoiseCheck, keptOutcome_done, apply_ite State.vault, ite_self, State.balAbort_vault, State.set_vault, h]

theorem execBalanceFit_kept {s : State} (h : s.vault.kept) (c : Fin 4) (lineR lineC : Nat) :
    KeptOutcome (execBalanceFit c lineR lineC s) := by
  simp only [execBalanceFit, keptOutcome_done, vault_mk, apply_ite State.vault, ite_self, State.balAbort_vault,
    State.nearest_vault, State.set_vault, State.updBal_vault, h]

theorem execBalanceMeasure_kept {s : State} (h : s.vault.kept) (c : Fin 4) : KeptOutcome (execBalanceMeasure c s) := by
  simp only [execBalanceMeasure, keptOutcome_done, apply_ite State.vault, ite_self, State.set_vault, h]

theorem execBalanceResult_kept {s : State} (h : s.vault.kept) (c : Fin 4) (thl : Nat) :
    KeptOutcome (execBalanceResult c thl s) := by
  simp only [execBalanceResult, keptOutcome_done, vault_mk, apply_ite State.vault, ite_self, State.writeCell_vault,
    State.setB_vault, State.set_vault, State.clearBound_vault, State.updBal_vault, h]

theorem execAutoBalance_kept {s : State} (h : s.vault.kept) (c : Fin 4) : KeptOutcome (execAutoBalance c s) := by
  unfold execAutoBalance
  rw [keptOutcome_done]
  repeat' split
  all_goals simp only [vault_mk, State.balRequest_vault, h]

theorem execSpkOvercurrent_kept {s : State} (h : s.vault.kept) (ma : Nat) : KeptOutcome (execSpkOvercurrent ma s) := by
  simp only [execSpkOvercurrent, keptOutcome_done, vault_mk, apply_ite State.vault, ite_self, State.setB_vault,
    State.syncSpeaker_vault, h]

theorem execSpkRestart_kept {s : State} (h : s.vault.kept) (ms : Nat) : KeptOutcome (execSpkRestart ms s) := by
  simp only [execSpkRestart, keptOutcome_done, vault_mk, apply_ite State.vault, ite_self, State.syncSpeaker_vault, h]

theorem execHsmicGainStep_kept {s : State} (h : s.vault.kept) (zeroCross : Bool) (ms : Nat) :
    KeptOutcome (execHsmicGainStep zeroCross ms s) := by
  simp only [execHsmicGainStep, keptOutcome_done, vault_mk, apply_ite State.vault, ite_self, h]

theorem execHpLoadSense_kept {s : State} (h : s.vault.kept) (left right : Nat) :
    KeptOutcome (execHpLoadSense left right s) := by
  simp only [execHpLoadSense, keptOutcome_done, State.setB_vault, h]

theorem execHpShort_kept {s : State} (h : s.vault.kept) (right : Bool) : KeptOutcome (execHpShort right s) := by
  simp only [execHpShort, keptOutcome_done, State.setB_vault, h]

theorem execHpShortEnd_kept {s : State} (h : s.vault.kept) (right : Bool) : KeptOutcome (execHpShortEnd right s) := by
  simp only [execHpShortEnd, keptOutcome_done, State.setB_vault, h]

theorem execTdmFrame_kept {s : State} (h : s.vault.kept) (t : Fin 4) (bclks : Nat) (slots : List Nat) :
    KeptOutcome (execTdmFrame t bclks slots s) := by
  simp only [execTdmFrame, keptOutcome_done, apply_ite State.vault, ite_self, State.setB_vault, State.inc_vault,
    State.tdmSlip_vault, State.updTdm_vault, h]

theorem execCallSendTimeout_kept {s : State} (h : s.vault.kept) (g : Fin 64) : KeptOutcome (execCallSendTimeout g s) := by
  unfold execCallSendTimeout
  rw [keptOutcome_done]
  repeat' split
  all_goals simp only [State.setBit_vault, State.setB_vault, State.stepSends_vault, State.ev_vault, h]

theorem execCallGenMinEnd_kept {s : State} (h : s.vault.kept) (c : Fin 4) : KeptOutcome (execCallGenMinEnd c s) := by
  unfold execCallGenMinEnd
  rw [keptOutcome_done]
  repeat' split
  all_goals simp only [vault_mk, State.stopGen_vault, h]

theorem execBlankEnd_kept {s : State} (h : s.vault.kept) (c : Fin 4) : KeptOutcome (execBlankEnd c s) := by
  unfold execBlankEnd
  rw [keptOutcome_done]
  repeat' split
  all_goals simp only [vault_mk, State.setB_vault, h]

theorem execCallStart_kept {s : State} (h : s.vault.kept) (input : Fin 20) (dc : Bool) :
    KeptOutcome (execCallStart input dc s) := by
  simp only [execCallStart, keptOutcome_done, apply_ite State.vault, ite_self, State.putDet_vault, State.callResult_vault,
    State.setB_vault, State.showCall_vault, State.showCalls_vault, h]

theorem execCallEnd_kept {s : State} (h : s.vault.kept) (input : Fin 20) (dc : Bool) :
    KeptOutcome (execCallEnd input dc s) := by
  simp only [execCallEnd, keptOutcome_done, apply_ite State.vault, ite_self, State.endCall_vault, State.showCalls_vault, h]

theorem execCallStuck_kept {s : State} (h : s.vault.kept) (c : Fin 4) : KeptOutcome (execCallStuck c s) := by
  unfold execCallStuck
  rw [keptOutcome_done]
  repeat' split
  all_goals simp only [State.setB_vault, State.callResult_vault, State.showCalls_vault, h]

theorem execLampFoldback_kept {s : State} (h : s.vault.kept) (n : Fin 4) (mv us : Nat) :
    KeptOutcome (execLampFoldback n mv us s) := by
  simp only [execLampFoldback, keptOutcome_done, apply_ite State.vault, ite_self, State.setBit_vault, State.setB_vault, h]

theorem execLampFoldbackEnd_kept {s : State} (h : s.vault.kept) (n : Fin 4) (mv : Nat) :
    KeptOutcome (execLampFoldbackEnd n mv s) := by
  simp only [execLampFoldbackEnd, keptOutcome_done, apply_ite State.vault, ite_self, State.setBit_vault, h]

theorem execJournalSettingWrite_kept {s : State} (h : s.vault.kept) (addr mask value : Nat) :
    KeptOutcome (execJournalSettingWrite addr mask value s) := by
  unfold execJournalSettingWrite
  rw [keptOutcome_done]
  repeat' split
  all_goals simp only [vault_mk, apply_ite State.vault, ite_self, State.journalWrite_vault, h]

theorem execAutoListenEnd_kept {s : State} (h : s.vault.kept) (p : Fin 2) (maxMv : Nat) :
    KeptOutcome (execAutoListenEnd p maxMv s) := by
  simp only [execAutoListenEnd, keptOutcome_done, apply_ite State.vault, ite_self, State.setRole_vault, State.softStart_vault,
    h]

theorem execAutoRelisten_kept {s : State} (h : s.vault.kept) (p : Fin 2) (mv ms : Nat) :
    KeptOutcome (execAutoRelisten p mv ms s) := by
  simp only [execAutoRelisten, keptOutcome_done, apply_ite State.vault, ite_self, State.listen_vault, h]

theorem execInputQualify_kept {s : State} (h : s.vault.kept) (i : Fin 4) (mv ms : Nat) :
    KeptOutcome (execInputQualify i mv ms s) := by
  simp only [execInputQualify, keptOutcome_done, vault_mk, apply_ite State.vault, ite_self, State.setBit_vault,
    State.syncPower_vault, h]

theorem execInputDisqualify_kept {s : State} (h : s.vault.kept) (i : Fin 4) (mv : Nat) :
    KeptOutcome (execInputDisqualify i mv s) := by
  simp only [execInputDisqualify, keptOutcome_done, apply_ite State.vault, ite_self, State.setBit_vault, State.syncPower_vault,
    h]

theorem execPdClassify_kept {s : State} (h : s.vault.kept) (req grant : Fin 9) : KeptOutcome (execPdClassify req grant s) := by
  simp only [execPdClassify, keptOutcome_done, vault_mk, apply_ite State.vault, ite_self, State.set_vault, State.setB_vault,
    State.syncPower_vault, h]

theorem execPdInrushEnd_kept {s : State} (h : s.vault.kept) (ms : Nat) : KeptOutcome (execPdInrushEnd ms s) := by
  simp only [execPdInrushEnd, keptOutcome_done, vault_mk, apply_ite State.vault, ite_self, State.syncPower_vault, h]

theorem execOutputRequest_kept {s : State} (h : s.vault.kept) (outs : List (Fin 4)) :
    KeptOutcome (execOutputRequest outs s) := by
  simp only [execOutputRequest, keptOutcome_done, State.grantOutputs_vault, State.syncPower_vault, h]

theorem execBudgetShed_kept {s : State} (h : s.vault.kept) : KeptOutcome (execBudgetShed s) := by
  simp only [execBudgetShed, keptOutcome_done, State.syncPower_vault, h]

theorem execBudgetRecheck_kept {s : State} (h : s.vault.kept) (steadyMs : Nat) :
    KeptOutcome (execBudgetRecheck steadyMs s) := by
  simp only [execBudgetRecheck, keptOutcome_done, State.grantOutputs_vault, State.syncPower_vault, h]

theorem execInputOverload_kept {s : State} (h : s.vault.kept) (watts ms : Nat) :
    KeptOutcome (execInputOverload watts ms s) := by
  unfold execInputOverload
  rw [keptOutcome_done]
  repeat' split
  all_goals simp only [State.shedOutput_vault, State.syncPower_vault, State.setB_vault, h]

theorem execVinValid_kept {s : State} (h : s.vault.kept) (mv : Nat) (self : Bool) : KeptOutcome (execVinValid mv self s) := by
  simp only [execVinValid, keptOutcome_done, vault_mk, apply_ite State.vault, ite_self, State.setB_vault, State.set_vault, h]

theorem execRailTimeout_kept {s : State} (h : s.vault.kept) (r : Fin 6) (ms : Nat) : KeptOutcome (execRailTimeout r ms s) := by
  simp only [execRailTimeout, keptOutcome_done, vault_mk, apply_ite State.vault, ite_self, State.set_vault, h]

theorem execRailRetry_kept {s : State} (h : s.vault.kept) (ms : Nat) : KeptOutcome (execRailRetry ms s) := by
  simp only [execRailRetry, keptOutcome_done, vault_mk, apply_ite State.vault, ite_self, h]

theorem execSeqViolation_kept {s : State} (h : s.vault.kept) (r : Fin 5) : KeptOutcome (execSeqViolation r s) := by
  simp only [execSeqViolation, keptOutcome_done, vault_mk, apply_ite State.vault, ite_self, h]

theorem execSeqLegal_kept {s : State} (h : s.vault.kept) : KeptOutcome (execSeqLegal s) := by
  simp only [execSeqLegal, keptOutcome_done, vault_mk, apply_ite State.vault, ite_self, State.setB_vault, State.set_vault, h]

theorem execAvsAdjust_kept {s : State} (h : s.vault.kept) (ms : Nat) : KeptOutcome (execAvsAdjust ms s) := by
  simp only [execAvsAdjust, keptOutcome_done, vault_mk, apply_ite State.vault, ite_self, State.set_vault, h]

theorem execAppSleep_kept {s : State} (h : s.vault.kept) : KeptOutcome (execAppSleep s) := by
  simp only [execAppSleep, keptOutcome_done, apply_ite State.vault, ite_self, State.dropDomain_vault, h]

theorem execAppWake_kept {s : State} (h : s.vault.kept) : KeptOutcome (execAppWake s) := by
  simp only [execAppWake, keptOutcome_done, State.requestDomain_vault, h]

theorem execDomainPowerUpDone_kept {s : State} (h : s.vault.kept) (us : Nat) : KeptOutcome (execDomainPowerUpDone us s) := by
  unfold execDomainPowerUpDone
  rw [keptOutcome_done]
  repeat' split
  all_goals simp only [vault_mk, State.setBit_vault, State.wakeSync_vault, State.syncPower_vault, h]

theorem execBrownoutWarning_kept {s : State} (h : s.vault.kept) (mv us : Nat) : KeptOutcome (execBrownoutWarning mv us s) := by
  simp only [execBrownoutWarning, keptOutcome_done, vault_mk, apply_ite State.vault, ite_self, State.setB_vault,
    State.inc_vault, State.set_vault, State.journalPowerFail_vault, State.syncPower_vault, h]

theorem execBrownoutEnd_kept {s : State} (h : s.vault.kept) (mv ms : Nat) : KeptOutcome (execBrownoutEnd mv ms s) := by
  simp only [execBrownoutEnd, keptOutcome_done, vault_mk, apply_ite State.vault, ite_self, State.set_vault,
    State.syncPower_vault, h]

theorem execVinLoss_kept {s : State} (h : s.vault.kept) (mv us : Nat) : KeptOutcome (execVinLoss mv us s) := by
  simp only [execVinLoss, keptOutcome_done, vault_mk, apply_ite State.vault, ite_self, State.set_vault,
    State.lineDieReset_vault, h]

theorem execTetherLoss_kept {s : State} (h : s.vault.kept) (us crc : Nat) : KeptOutcome (execTetherLoss us crc s) := by
  simp only [execTetherLoss, keptOutcome_done, vault_mk, apply_ite State.vault, ite_self, State.setB_vault, State.ev_vault,
    State.lineDieReset_vault, h]

theorem execTetherRetrain_kept {s : State} (h : s.vault.kept) : KeptOutcome (execTetherRetrain s) := by
  simp only [execTetherRetrain, keptOutcome_done, apply_ite State.vault, ite_self, State.setB_vault, State.inc_vault,
    State.reconfigure_vault, h]

theorem execSourceStart_kept {s : State} (h : s.vault.kept) (p : Fin 2) : KeptOutcome (execSourceStart p s) := by
  simp only [execSourceStart, keptOutcome_done, apply_ite State.vault, ite_self, State.portCallsEnd_vault, State.setLine_vault,
    h]

theorem execSourceListenEnd_kept {s : State} (h : s.vault.kept) (p : Fin 2) (maxMv : Nat) :
    KeptOutcome (execSourceListenEnd p maxMv s) := by
  simp only [execSourceListenEnd, keptOutcome_done, apply_ite State.vault, ite_self, State.listenEnd_vault, h]

theorem execAlreadyPoweredRelisten_kept {s : State} (h : s.vault.kept) (p : Fin 2) (maxMv : Nat) :
    KeptOutcome (execAlreadyPoweredRelisten p maxMv s) := by
  simp only [execAlreadyPoweredRelisten, keptOutcome_done, apply_ite State.vault, ite_self, State.listenEnd_vault, h]

theorem execSoftStartDone_kept {s : State} (h : s.vault.kept) (p : Fin 2) (mv vin ms : Nat) :
    KeptOutcome (execSoftStartDone p mv vin ms s) := by
  simp only [execSoftStartDone, keptOutcome_done, apply_ite State.vault, ite_self, State.set_vault, State.setLine_vault,
    State.syncPower_vault, h]

theorem execSoftStartTimeout_kept {s : State} (h : s.vault.kept) (p : Fin 2) (mv ms : Nat) :
    KeptOutcome (execSoftStartTimeout p mv ms s) := by
  simp only [execSoftStartTimeout, keptOutcome_done, apply_ite State.vault, ite_self, State.lineFault_vault, h]

theorem execLineOverload_kept {s : State} (h : s.vault.kept) (p : Fin 2) (limitMs lowMs : Nat) :
    KeptOutcome (execLineOverload p limitMs lowMs s) := by
  simp only [execLineOverload, keptOutcome_done, apply_ite State.vault, ite_self, State.lineFault_vault, h]

theorem execLineContention_kept {s : State} (h : s.vault.kept) (p : Fin 2) (ma ms : Nat) :
    KeptOutcome (execLineContention p ma ms s) := by
  simp only [execLineContention, keptOutcome_done, apply_ite State.vault, ite_self, State.lineFault_vault, h]

theorem execRetryWaitEnd_kept {s : State} (h : s.vault.kept) (p : Fin 2) (ms maxMv : Nat) :
    KeptOutcome (execRetryWaitEnd p ms maxMv s) := by
  simp only [execRetryWaitEnd, keptOutcome_done, apply_ite State.vault, ite_self, State.setRole_vault, State.listenEnd_vault,
    State.resolvedAgain_vault, State.incSat_vault, State.softStart_vault, State.setLine_vault, State.syncPower_vault, h]

theorem execRetryReset_kept {s : State} (h : s.vault.kept) (p : Fin 2) : KeptOutcome (execRetryReset p s) := by
  unfold execRetryReset
  rw [keptOutcome_done]
  repeat' split
  all_goals simp only [State.set_vault, h]

theorem execShortToSupplyBegin_kept {s : State} (h : s.vault.kept) (pin : Fin 10) (mv ms : Nat) :
    KeptOutcome (execShortToSupplyBegin pin mv ms s) := by
  simp only [execShortToSupplyBegin, keptOutcome_done, vault_mk, apply_ite State.vault, ite_self, State.setBit_vault,
    State.setB_vault, State.ev_vault, State.stopGen_vault, State.syncPower_vault, h]

theorem execShortToSupplyEnd_kept {s : State} (h : s.vault.kept) (pin : Fin 10) (mv ms : Nat) :
    KeptOutcome (execShortToSupplyEnd pin mv ms s) := by
  simp only [execShortToSupplyEnd, keptOutcome_done, apply_ite State.vault, ite_self, State.setBit_vault, h]

theorem execShortRecover_kept {s : State} (h : s.vault.kept) (pin : Fin 10) (ms : Nat) :
    KeptOutcome (execShortRecover pin ms s) := by
  simp only [execShortRecover, keptOutcome_done, vault_mk, apply_ite State.vault, ite_self, h]

theorem execPseDetection_kept {s : State} (h : s.vault.kept) (n : Fin 2) (maxMv sig : Nat) :
    KeptOutcome (execPseDetection n maxMv sig s) := by
  simp only [execPseDetection, keptOutcome_done, apply_ite State.vault, ite_self, State.setB_vault, State.pseWait_vault,
    State.syncPower_vault, State.set_vault, State.setPse_vault, h]

theorem execPseClassification_kept {s : State} (h : s.vault.kept) (n : Fin 2) (cls : Fin 5) :
    KeptOutcome (execPseClassification n cls s) := by
  simp only [execPseClassification, keptOutcome_done, apply_ite State.vault, ite_self, State.set_vault, State.updPse_vault,
    State.setPse_vault, State.syncPower_vault, h]

theorem execPsePowerUp_kept {s : State} (h : s.vault.kept) (n : Fin 2) (mv vin ms : Nat) :
    KeptOutcome (execPsePowerUp n mv vin ms s) := by
  simp only [execPsePowerUp, keptOutcome_done, apply_ite State.vault, ite_self, State.setPse_vault, State.syncPower_vault,
    State.pseFaulted_vault, h]

theorem execPseFault_kept {s : State} (h : s.vault.kept) (n : Fin 2) (kind : Fin 4) (value ms : Nat) :
    KeptOutcome (execPseFault n kind value ms s) := by
  unfold execPseFault
  rw [keptOutcome_done]
  repeat' split
  all_goals simp only [State.pseFaulted_vault, State.setB_vault, State.pseWait_vault, State.syncPower_vault, h]

theorem execPseDisconnect_kept {s : State} (h : s.vault.kept) (n : Fin 2) (ma ms : Nat) :
    KeptOutcome (execPseDisconnect n ma ms s) := by
  simp only [execPseDisconnect, keptOutcome_done, apply_ite State.vault, ite_self, State.pseWait_vault, State.syncPower_vault,
    h]

theorem execPseRetryWaitEnd_kept {s : State} (h : s.vault.kept) (n : Fin 2) (ms : Nat) :
    KeptOutcome (execPseRetryWaitEnd n ms s) := by
  simp only [execPseRetryWaitEnd, keptOutcome_done, apply_ite State.vault, ite_self, State.updPse_vault, State.setPse_vault,
    State.syncPower_vault, h]

theorem execThermSample_kept {s : State} (h : s.vault.kept) (logic line : List Int) :
    KeptOutcome (execThermSample logic line s) := by
  simp only [execThermSample, keptOutcome_done, State.thermDie_vault, h]

theorem execThermLevelChange_kept {s : State} (h : s.vault.kept) (die : Fin 2) : KeptOutcome (execThermLevelChange die s) := by
  unfold execThermLevelChange
  rw [keptOutcome_done]
  repeat' split
  all_goals simp only [apply_ite State.vault, ite_self, foldl_vault, implies_true, State.set_vault, State.setDie_vault,
    State.inc_vault, State.setB_vault, State.ev_vault, State.setPse_vault, State.syncPower_vault, h]

theorem execThermShutdown_kept {s : State} (h : s.vault.kept) (hottest : Int) : KeptOutcome (execThermShutdown hottest s) := by
  simp only [execThermShutdown, keptOutcome_done, apply_ite State.vault, ite_self, State.setB_vault, State.lineDieReset_vault,
    h]

theorem execThermShutdownEnd_kept {s : State} (h : s.vault.kept) (hottest : Int) :
    KeptOutcome (execThermShutdownEnd hottest s) := by
  simp only [execThermShutdownEnd, keptOutcome_done, apply_ite State.vault, ite_self, State.setB_vault,
    State.reconfigure_vault, h]

theorem execSsrcTimeout_kept {s : State} (h : s.vault.kept) (k : Fin 32) : KeptOutcome (execSsrcTimeout k s) := by
  simp only [execSsrcTimeout, keptOutcome_done, apply_ite State.vault, ite_self, State.setB_vault, h]

theorem execPtpLock_kept {s : State} (h : s.vault.kept) (nowNs : Int) (maxNs ms path : Nat) (state : Fin 9) :
    KeptOutcome (execPtpLock nowNs maxNs ms path state s) := by
  simp only [execPtpLock, keptOutcome_done, apply_ite State.vault, ite_self, State.setI_vault, State.set_vault,
    State.setB_vault, h]

theorem execPtpClockStep_kept {s : State} (h : s.vault.kept) (sec ns : Nat) : KeptOutcome (execPtpClockStep sec ns s) := by
  simp only [execPtpClockStep, keptOutcome_done, apply_ite State.vault, ite_self, State.setB_vault, State.updNet_vault,
    State.checkSlip_vault, h]

theorem execBeamLaunch_kept {s : State} (h : s.vault.kept) : KeptOutcome (execBeamLaunch s) := by
  simp only [execBeamLaunch, keptOutcome_done, apply_ite State.vault, ite_self, State.launch_vault, h]

theorem execIcvVerdict_kept {s : State} (h : s.vault.kept) (p : Fin 2) (ok : Bool) : KeptOutcome (execIcvVerdict p ok s) := by
  unfold execIcvVerdict
  rw [keptOutcome_done]
  repeat' split
  all_goals simp only [apply_ite State.vault, ite_self, State.updRing_vault, State.beamEnd_vault, h]

theorem execMusterSend_kept {s : State} (h : s.vault.kept) : KeptOutcome (execMusterSend s) := by
  simp only [execMusterSend, keptOutcome_done, apply_ite State.vault, ite_self, State.sendMuster_vault, h]

theorem execNodeIdRelease_kept {s : State} (h : s.vault.kept) (id : Fin 256) : KeptOutcome (execNodeIdRelease id s) := by
  unfold execNodeIdRelease
  rw [keptOutcome_done]
  repeat' split
  all_goals simp only [State.updRing_vault, h]

theorem execFoghornRepeat_kept {s : State} (h : s.vault.kept) : KeptOutcome (execFoghornRepeat s) := by
  simp only [execFoghornRepeat, keptOutcome_done, apply_ite State.vault, ite_self, State.updRing_vault,
    State.sendFoghorn_vault, h]

theorem execFoghornRelease_kept {s : State} (h : s.vault.kept) : KeptOutcome (execFoghornRelease s) := by
  simp only [execFoghornRelease, keptOutcome_done, apply_ite State.vault, ite_self, State.updRing_vault,
    State.sendFoghorn_vault, h]

theorem execFoghornExpiry_kept {s : State} (h : s.vault.kept) (origin : Nat) : KeptOutcome (execFoghornExpiry origin s) := by
  simp only [execFoghornExpiry, keptOutcome_done, State.updRing_vault, State.showFogLive_vault, h]

theorem execOutReceived_kept {s : State} (h : s.vault.kept) (p : Fin 2) (f : RxFrame) (at_ : Nat) :
    KeptOutcome (execOutReceived p f at_ s) := by
  simp only [execOutReceived, keptOutcome_done, State.wilnanOf_vault, h]

theorem execRetReceived_kept {s : State} (h : s.vault.kept) (p : Fin 2) (f : RxFrame) (at_ : Nat) :
    KeptOutcome (execRetReceived p f at_ s) := by
  simp only [execRetReceived, keptOutcome_done, State.wilnanOf_vault, h]

theorem execTurnReceived_kept {s : State} (h : s.vault.kept) (p : Fin 2) (f : RxFrame) (at_ : Nat) :
    KeptOutcome (execTurnReceived p f at_ s) := by
  simp only [execTurnReceived, keptOutcome_done, State.wilnanOf_vault, h]

theorem execGateReceived_kept {s : State} (h : s.vault.kept) (p : Fin 2) (f : RxFrame) :
    KeptOutcome (execGateReceived p f s) := by
  simp only [execGateReceived, keptOutcome_done, State.wilnanOf_vault, h]

theorem execMusterReceived_kept {s : State} (h : s.vault.kept) (p : Fin 2) (f : RxFrame) :
    KeptOutcome (execMusterReceived p f s) := by
  simp only [execMusterReceived, keptOutcome_done, State.wilnanOf_vault, h]

theorem execFoghornReceived_kept {s : State} (h : s.vault.kept) (p : Fin 2) (f : RxFrame) :
    KeptOutcome (execFoghornReceived p f s) := by
  simp only [execFoghornReceived, keptOutcome_done, State.wilnanOf_vault, h]

theorem execMusterPhaseCheck_kept {s : State} (h : s.vault.kept) : KeptOutcome (execMusterPhaseCheck s) := by
  simp only [execMusterPhaseCheck, keptOutcome_done, apply_ite State.vault, ite_self, State.updRing_vault,
    State.checkPhases_vault, h]

theorem execAdmissionEffect_kept {s : State} (h : s.vault.kept) : KeptOutcome (execAdmissionEffect s) := by
  unfold execAdmissionEffect
  rw [keptOutcome_done]
  repeat' split
  all_goals simp only [State.joinRing_vault, h]

theorem execPeerDelay_kept {s : State} (h : s.vault.kept) (p : Fin 2) (ns : Nat) : KeptOutcome (execPeerDelay p ns s) := by
  simp only [execPeerDelay, keptOutcome_done, apply_ite State.vault, ite_self, State.set_vault, h]

theorem execRingLocked_kept {s : State} (h : s.vault.kept) (maxNs nowNs ms : Nat) :
    KeptOutcome (execRingLocked maxNs nowNs ms s) := by
  simp only [execRingLocked, keptOutcome_done, apply_ite State.vault, ite_self, State.setB_vault, h]

theorem execLighthouseClaim_kept {s : State} (h : s.vault.kept) : KeptOutcome (execLighthouseClaim s) := by
  simp only [execLighthouseClaim, keptOutcome_done, apply_ite State.vault, ite_self, State.takeRingId_vault,
    State.updRing_vault, State.sendClaim_vault, h]

theorem execClaimSend_kept {s : State} (h : s.vault.kept) : KeptOutcome (execClaimSend s) := by
  simp only [execClaimSend, keptOutcome_done, apply_ite State.vault, ite_self, State.sendClaim_vault, h]

theorem execSlackEnter_kept {s : State} (h : s.vault.kept) : KeptOutcome (execSlackEnter s) := by
  simp only [execSlackEnter, keptOutcome_done, apply_ite State.vault, ite_self, State.setB_vault, State.updRing_vault, h]

theorem execSlackLeave_kept {s : State} (h : s.vault.kept) : KeptOutcome (execSlackLeave s) := by
  simp only [execSlackLeave, keptOutcome_done, apply_ite State.vault, ite_self, State.setB_vault, State.updRing_vault, h]

theorem execLinkDown_kept {s : State} (h : s.vault.kept) (p : Fin 3) (cut : Cut) : KeptOutcome (execLinkDown p cut s) := by
  simp only [execLinkDown, keptOutcome_done, State.linkDrop_vault, h]

theorem execLinkUp_kept {s : State} (h : s.vault.kept) (p : Fin 3) (speed : Fin 3) (full : Bool) :
    KeptOutcome (execLinkUp p speed full s) := by
  simp only [execLinkUp, keptOutcome_done, apply_ite State.vault, ite_self, State.setB_vault, State.set_vault,
    State.evalPort_vault, h]

theorem execSilentPort_kept {s : State} (h : s.vault.kept) (p : Fin 2) : KeptOutcome (execSilentPort p s) := by
  simp only [execSilentPort, keptOutcome_done, apply_ite State.vault, ite_self, State.addCause_vault, h]

theorem execWrapEntry_kept {s : State} (h : s.vault.kept) : KeptOutcome (execWrapEntry s) := by
  simp only [execWrapEntry, keptOutcome_done, apply_ite State.vault, ite_self, State.wrapRing_vault, h]

theorem execRingHealClose_kept {s : State} (h : s.vault.kept) : KeptOutcome (execRingHealClose s) := by
  simp only [execRingHealClose, keptOutcome_done, apply_ite State.vault, ite_self, State.closeRing_vault, h]

theorem execRetMissing_kept {s : State} (h : s.vault.kept) (k : Nat) : KeptOutcome (execRetMissing k s) := by
  simp only [execRetMissing, keptOutcome_done, apply_ite State.vault, ite_self, State.noRet_vault, State.updRing_vault, h]

theorem execLighthouseLoss_kept {s : State} (h : s.vault.kept) : KeptOutcome (execLighthouseLoss s) := by
  simp only [execLighthouseLoss, keptOutcome_done, apply_ite State.vault, ite_self, State.loseLighthouse_vault, h]

theorem execSaSwitch_kept {s : State} (h : s.vault.kept) (p : Fin 3) : KeptOutcome (execSaSwitch p s) := by
  unfold execSaSwitch
  rw [keptOutcome_done]
  repeat' split
  all_goals simp only [State.set_vault, State.setSecured_vault, State.updSec_vault, State.afterSec_vault, h]

theorem execMkaHello_kept {s : State} (h : s.vault.kept) : KeptOutcome (execMkaHello s) := by
  refine foldl_kept (fun _ p ht => ?_) _ h
  split
  · split
    · rwa [State.enqueue_vault]
    · exact ht
  · exact ht

theorem execMkaLifeExpiry_kept {s : State} (h : s.vault.kept) (p : Fin 3) (ms : Nat) :
    KeptOutcome (execMkaLifeExpiry p ms s) := by
  simp only [execMkaLifeExpiry, keptOutcome_done, apply_ite State.vault, ite_self, State.endSecure_vault, State.afterSec_vault,
    h]

theorem execFrameReceived_kept {s : State} (h : s.vault.kept) (p : Fin 3) (f : RxFrame) (at_ : Nat) (mka : Option MkaSeen) :
    KeptOutcome (execFrameReceived p f at_ mka s) := by
  simp only [execFrameReceived, keptOutcome_done, apply_ite State.vault, ite_self, State.receiveFrame_vault, h]

theorem execPauseExpiry_kept {s : State} (h : s.vault.kept) (bitTimes : Nat) : KeptOutcome (execPauseExpiry bitTimes s) := by
  simp only [execPauseExpiry, keptOutcome_done, apply_ite State.vault, ite_self, State.setB_vault, State.set_vault, h]

theorem execPauseWatchdog_kept {s : State} (h : s.vault.kept) (ms : Nat) : KeptOutcome (execPauseWatchdog ms s) := by
  simp only [execPauseWatchdog, keptOutcome_done, apply_ite State.vault, ite_self, State.setB_vault, State.set_vault,
    State.stat_vault, State.updMac_vault, h]

theorem execTxFrameStart_kept {s : State} (h : s.vault.kept) (p : Fin 3) (queued : Nat) (dry : Bool) (beamNs at_ : Nat) :
    KeptOutcome (execTxFrameStart p queued dry beamNs at_ s) := by
  unfold execTxFrameStart
  rw [keptOutcome_done]
  repeat' split
  all_goals simp only [apply_ite State.vault, ite_self, State.updMac_vault, State.stampPtp_vault, State.sendFrame_vault,
    State.stat_vault, State.setB_vault, State.set_vault, h]

theorem execLpiEnter_kept {s : State} (h : s.vault.kept) (us : Nat) : KeptOutcome (execLpiEnter us s) := by
  simp only [execLpiEnter, keptOutcome_done, apply_ite State.vault, ite_self, State.enterLpi_vault, h]

theorem execLpiLeave_kept {s : State} (h : s.vault.kept) (p : Fin 3) (cause : Fin 4) (at_ us : Nat) :
    KeptOutcome (execLpiLeave p cause at_ us s) := by
  unfold execLpiLeave
  rw [keptOutcome_done]
  repeat' split
  all_goals simp only [State.leaveLpi_vault, State.setB_vault, h]

theorem execPhyRxLpiEntry_kept {s : State} (h : s.vault.kept) (p : Fin 3) : KeptOutcome (execPhyRxLpiEntry p s) := by
  simp only [execPhyRxLpiEntry, keptOutcome_done, apply_ite State.vault, ite_self, State.setB_vault, State.stat_vault, h]

theorem execSnapshotDone_kept {s : State} (h : s.vault.kept) : KeptOutcome (execSnapshotDone s) := by
  simp only [execSnapshotDone, keptOutcome_done, apply_ite State.vault, ite_self, foldl_vault, implies_true, State.set_vault,
    State.setBit_vault, State.setB_vault, State.inc_vault, State.updNet_vault, h]

theorem execWatchdogExpiry_kept {s : State} (h : s.vault.kept) : KeptOutcome (execWatchdogExpiry s) := by
  simp only [execWatchdogExpiry, keptOutcome_done, kept_mk, apply_ite State.vault, apply_ite Vault.kept, ite_self,
    State.wdtBase_kept, State.enterHalter_kept, State.showFw_vault, State.set_vault, State.showSec_vault, State.wdtReset_kept,
      h]

theorem execZeroisationComplete_kept {s : State} (h : s.vault.kept) : KeptOutcome (execZeroisationComplete s) := by
  unfold execZeroisationComplete
  rw [keptOutcome_done]
  repeat' split
  all_goals simp only [State.zeroReset_kept, h]

theorem execPowerOnReset_kept {s : State} (h : s.vault.kept) (straps : Straps) (flash : List (Nat × Byte)) (serial mac : Nat)
    (self : Bool) :
    KeptOutcome (execPowerOnReset straps flash serial mac self s) := by
  unfold execPowerOnReset
  extract_lets zero seq s1 _ _ s2 s3 s4 s5 s6 s7 s8 s9 s10
  have h1 : s1.vault.kept := by
    simp only [s1, State.restore_vault, vault_mk, h]
  have h2 : s2.vault.kept := h1
  have h9 : s9.vault.kept := by
    simp only [s9, s8, s7, s6, s5, s4, s3, foldl_vault, apply_ite State.vault, State.setB_vault, State.set_vault, ite_self,
      implies_true, h2]
  have h10 : s10.vault.kept := State.coldBase_kept h9 straps flash 0
  rw [keptOutcome_done]
  clear_value zero
  split
  · exact State.chooseImages_kept h10
  · exact State.zeroReset_kept h10 _

theorem execPinReset_kept {s : State} (h : s.vault.kept) (us : Nat) (straps : Straps) (flash : List (Nat × Byte)) :
    KeptOutcome (execPinReset us straps flash s) := by
  unfold execPinReset
  rw [keptOutcome_done]
  split
  · exact h
  · extract_lets d s1 s2 s3 s4
    have h1 : s1.vault.kept := by simp only [s1, d, apply_ite Prod.snd, apply_ite State.vault, State.freeBool_vault, ite_self,
      h]
    have h2 : s2.vault.kept := by
      show (match s1.isle.zeroing with | none => s1 | some c => s1.zeroReset c : State).vault.kept
      split
      · exact h1
      · exact State.zeroReset_kept h1 _
    have h4 : s4.vault.kept := by
      simp only [s4, s3, foldl_vault, State.setB_vault, State.set_vault, implies_true, State.restore_vault, h2]
    split
    · exact h1
    · exact State.chooseImages_kept (State.coldBase_kept h4 straps flash 1)

theorem execSelfTestsComplete_kept {s : State} (h : s.vault.kept) (failed : Fin 11) (osc : Nat) (ident : List Byte) (pairOk :
    Bool) :
    KeptOutcome (execSelfTestsComplete failed osc ident pairOk s) := by
  simp only [execSelfTestsComplete, keptOutcome_done, kept_mk, apply_ite State.vault, apply_ite Vault.kept, ite_self,
    State.hardError_kept, State.showOsc_vault, State.drbgStart_vault, State.drbgDraw_vault, State.showKeys_vault,
      State.syncCaks_vault, State.set_vault, State.showSec_vault, h]

theorem execEntropyHealthFail_kept {s : State} (h : s.vault.kept) (osc : Fin 16) (run count : Nat) :
    KeptOutcome (execEntropyHealthFail osc run count s) := by
  simp only [execEntropyHealthFail, keptOutcome_done, kept_mk, apply_ite State.vault, apply_ite Vault.kept, ite_self,
    State.showOsc_vault, State.hardError_kept, h]

theorem execMboxServiceDone_kept {s : State} (h : s.vault.kept) : KeptOutcome (execMboxServiceDone s) := by
  unfold execMboxServiceDone
  rw [keptOutcome_done]
  repeat' split
  all_goals simp only [State.endService_kept, h]

theorem execGetChallenge_kept {s : State} (h : s.vault.kept) (out : Challenge) : KeptOutcome (execGetChallenge out s) :=
  State.service_kept h 0x10 (fun _ ht => State.challenge_kept ht _ out)

theorem execAuthenticate_kept {s : State} (h : s.vault.kept) (sigOk : Bool) (session : Nat) :
    KeptOutcome (execAuthenticate sigOk session s) := by
  refine State.service_kept h 0x11 (fun t ht => ?_)
  have ha := State.authenticate_kept (s := t.set F.SEC_SESSIONS_HOST 0) (by rwa [State.set_vault])
    (t.set F.SEC_SESSIONS_HOST 0).hostCode (t.set F.SEC_SESSIONS_HOST 0).mboxIn sigOk
  dsimp only
  split
  · rwa [State.set_vault, State.drbgReseed_vault]
  · exact ha

theorem execCloseSession_kept {s : State} (h : s.vault.kept) : KeptOutcome (execCloseSession s) := by
  refine State.service_kept h 0x12 (fun t ht => ?_)
  split
  · exact ht
  · rwa [State.set_vault]

theorem execGetIdentity_kept {s : State} (h : s.vault.kept) : KeptOutcome (execGetIdentity s) :=
  State.service_kept h 0x13 (fun _ ht => ht)

theorem execEnrolOperator_kept {s : State} (h : s.vault.kept) : KeptOutcome (execEnrolOperator s) := by
  refine State.service_kept h 0x20 (fun t ht => ?_)
  dsimp only
  split
  · exact ht
  · split
    · exact ht
    · split
      · exact ht
      · rwa [State.showKeys_vault]

theorem execRemoveOperator_kept {s : State} (h : s.vault.kept) : KeptOutcome (execRemoveOperator s) := by
  refine State.service_kept h 0x21 (fun t ht => State.coService_kept ht ?_)
  dsimp only
  split
  · exact ht
  · split
    · exact ht
    · split
      · exact ht
      · rwa [State.showKeys_vault]

theorem execEnrolImageKey_kept {s : State} (h : s.vault.kept) : KeptOutcome (execEnrolImageKey s) := by
  refine State.service_kept h 0x22 (fun t ht => State.coService_kept ht ?_)
  dsimp only
  split
  · exact ht
  · split
    · exact ht
    · rwa [State.showKeys_vault]

theorem execLoadKey_kept {s : State} (h : s.vault.kept) (unwrapOk : Bool) : KeptOutcome (execLoadKey unwrapOk s) := by
  refine State.service_kept h 0x23 (fun t ht => State.coService_kept ht ?_)
  dsimp only
  split
  · split
    · exact ht
    · split
      · exact ht
      · rwa [State.showKeys_vault]
  · split
    · split
      · exact ht
      · split
        · exact ht
        · rwa [State.syncCaks_vault, State.showKeys_vault]
    · exact ht

theorem execDeleteKey_kept {s : State} (h : s.vault.kept) : KeptOutcome (execDeleteKey s) := by
  refine State.service_kept h 0x24 (fun t ht => State.coService_kept ht ?_)
  dsimp only
  split
  · exact ht
  · split
    · split
      · exact ht
      · rwa [State.showKeys_vault]
    · split
      · split
        · exact ht
        · rwa [State.syncCaks_vault, State.showKeys_vault]
      · exact ht

theorem execGenIdentity_kept {s : State} (h : s.vault.kept) (pub : List Byte) (pairOk : Bool) :
    KeptOutcome (execGenIdentity pub pairOk s) := by
  refine State.service_kept h 0x25 (fun t ht => State.coService_kept ht ?_)
  have hd : t.drbgDraw.vault.kept := by rwa [State.drbgDraw_vault]
  dsimp only
  split
  · exact State.hardError_kept hd 11
  · rwa [State.showKeys_vault]

theorem execSetMacsec_kept {s : State} (h : s.vault.kept) : KeptOutcome (execSetMacsec s) := by
  refine State.service_kept h 0x26 (fun t ht => State.coService_kept ht ?_)
  dsimp only
  split
  · exact ht
  · split
    · exact ht
    · split
      · exact ht
      · simp only [State.afterSec_vault, State.syncCaks_vault, State.updSec_vault, kept_mk, State.set_vault,
        State.endSecure_vault, ht]

theorem execCommitApproved_kept {s : State} (h : s.vault.kept) : KeptOutcome (execCommitApproved s) := by
  refine State.service_kept h 0x27 (fun t ht => State.coService_kept ht ?_)
  split
  · exact ht
  · rwa [State.showSec_vault]

theorem execZeroise_kept {s : State} (h : s.vault.kept) : KeptOutcome (execZeroise s) :=
  State.service_kept h 0x28 (fun _ ht => State.coService_kept ht (State.startZero_kept ht 2))

theorem execZeroPin_kept {s : State} (h : s.vault.kept) (cycles : Nat) : KeptOutcome (execZeroPin cycles s) := by
  simp only [execZeroPin, keptOutcome_done, apply_ite State.vault, apply_ite Vault.kept, ite_self, State.startZero_kept, h]

theorem execShieldBreach_kept {s : State} (h : s.vault.kept) : KeptOutcome (execShieldBreach s) := by
  simp only [execShieldBreach, keptOutcome_done, State.startZero_kept, h]

theorem execEnvFailure_kept {s : State} (h : s.vault.kept) (kind : Fin 4) (value : Int) (us : Nat) :
    KeptOutcome (execEnvFailure kind value us s) := by
  unfold execEnvFailure
  rw [keptOutcome_done]
  repeat' split
  all_goals simp only [State.closeSessions_kept, State.endChannels_vault, State.islandStart_kept, State.startZero_kept, h]

theorem execChallengeExpiry_kept {s : State} (h : s.vault.kept) (m : Master) (ms : Nat) :
    KeptOutcome (execChallengeExpiry m ms s) := by
  simp only [execChallengeExpiry, keptOutcome_done, kept_mk, apply_ite State.vault, apply_ite Vault.kept, ite_self, h]

theorem execLockoutEnd_kept {s : State} (h : s.vault.kept) (m : Master) (ms : Nat) : KeptOutcome (execLockoutEnd m ms s) := by
  simp only [execLockoutEnd, keptOutcome_done, kept_mk, apply_ite State.vault, apply_ite Vault.kept, ite_self, h]

theorem execHostWrite_kept {s : State} (h : s.vault.kept) (fr : Framing) (addr : Nat) (words : List Word) :
    KeptOutcome (execHostWrite fr addr words s) := by
  simp only [execHostWrite, keptOutcome_done, State.hostWrite_kept, h]

theorem execHostRead_kept {s : State} (h : s.vault.kept) (fr : Framing) (addr count : Nat) :
    KeptOutcome (execHostRead fr addr count s) := by
  simp only [execHostRead, keptOutcome_done, State.hostRead_kept, h]

theorem execEnterQuad_kept {s : State} (h : s.vault.kept) : KeptOutcome (execEnterQuad s) := by
  simp only [execEnterQuad, keptOutcome_done, apply_ite State.vault, apply_ite Vault.kept, ite_self, State.framingTxn_kept,
    State.newTxn_kept, State.answerHost_kept, State.setB_vault, h]

theorem execExitQuad_kept {s : State} (h : s.vault.kept) : KeptOutcome (execExitQuad s) := by
  simp only [execExitQuad, keptOutcome_done, apply_ite State.vault, apply_ite Vault.kept, ite_self, State.framingTxn_kept,
    State.newTxn_kept, State.answerHost_kept, State.setB_vault, h]

theorem execPageRead_kept {s : State} (h : s.vault.kept) (fr : Framing) (count : Nat) :
    KeptOutcome (execPageRead fr count s) := by
  simp only [execPageRead, keptOutcome_done, apply_ite State.vault, apply_ite Vault.kept, ite_self, State.framingTxn_kept,
    State.pageRead_kept, h]

theorem execReadContinue_kept {s : State} (h : s.vault.kept) (fr : Framing) (count : Nat) :
    KeptOutcome (execReadContinue fr count s) := by
  unfold execReadContinue
  rw [keptOutcome_done]
  repeat' split
  all_goals simp only [State.framingTxn_kept, State.pageRead_kept, State.pageTxn_kept, h]

theorem execPageHoldExpiry_kept {s : State} (h : s.vault.kept) (ms : Nat) : KeptOutcome (execPageHoldExpiry ms s) := by
  simp only [execPageHoldExpiry, keptOutcome_done, apply_ite State.vault, apply_ite Vault.kept, ite_self,
    State.releasePage_kept, h]

theorem execPageWrite_kept {s : State} (h : s.vault.kept) (fr : Framing) (bytes : List Byte) :
    KeptOutcome (execPageWrite fr bytes s) := by
  simp only [execPageWrite, keptOutcome_done, apply_ite State.vault, apply_ite Vault.kept, ite_self, State.framingTxn_kept,
    State.pageWrite_kept, h]

theorem execWriteContinue_kept {s : State} (h : s.vault.kept) (fr : Framing) (bytes : List Byte) :
    KeptOutcome (execWriteContinue fr bytes s) := by
  simp only [execWriteContinue, keptOutcome_done, apply_ite State.vault, apply_ite Vault.kept, ite_self, State.framingTxn_kept,
    State.pageWrite_kept, h]

theorem execLoadHoldExpiry_kept {s : State} (h : s.vault.kept) (ms : Nat) : KeptOutcome (execLoadHoldExpiry ms s) := by
  simp only [execLoadHoldExpiry, keptOutcome_done, apply_ite State.vault, apply_ite Vault.kept, ite_self, State.loadAbort_kept,
    State.addLog_vault, h]

theorem execRegisterWrite_kept {s : State} (h : s.vault.kept) (m : Master) (addr : Nat) (w : Word) (rivals : List (Master × Nat
    × Word)) :
    KeptOutcome (execRegisterWrite m addr w rivals s) := by
  unfold execRegisterWrite
  rw [keptOutcome_done]
  extract_lets all
  split
  · split
    · exact h
    · exact State.answerHost_kept (State.accept_kept (by rw [State.hostWakes_vault]; exact State.newTxn_kept h) ..) ..
  · split
    · exact State.accept_kept h ..
    · exact h

theorem execIopStreamEnable_kept {s : State} (h : s.vault.kept) (m : Master) (tx : Bool) (k : Fin 32) (w : Word) :
    KeptOutcome (execIopStreamEnable m tx k w s) := by
  simp only [execIopStreamEnable, keptOutcome_done, State.rowWrite_kept, h]

theorem execPtpCapture_kept {s : State} (h : s.vault.kept) (m : Master) (w : Word) (sec ns : Nat) :
    KeptOutcome (execPtpCapture m w sec ns s) := by
  have hw : (({ s with clk := { s.clk with ptpDue := false } } : State).rowWrite m F.PTP_CAPTURE_GO.addr w).vault.kept :=
    State.rowWrite_kept (by exact h) m _ w
  unfold execPtpCapture
  simp only [keptOutcome_done, apply_ite State.vault, State.set_vault, ite_self, hw]

theorem execNetRead_kept {s : State} (h : s.vault.kept) (d : NetHdr) (addr count : Nat) :
    KeptOutcome (execNetRead d addr count s) := by
  unfold execNetRead
  rw [keptOutcome_done]
  dsimp only
  split
  · exact State.datagramFor_kept h ..
  · exact State.putGram_kept (by rw [State.netReadWords_vault]; exact State.datagramFor_kept h ..) _

theorem execNetWrite_kept {s : State} (h : s.vault.kept) (d : NetHdr) (addr : Nat) (words : List Word) :
    KeptOutcome (execNetWrite d addr words s) := by
  unfold execNetWrite
  rw [keptOutcome_done]
  dsimp only
  split
  · exact State.datagramFor_kept h ..
  · exact State.putGram_kept (State.netWriteWords_kept (State.datagramFor_kept h ..) ..) _

theorem execNetKey_kept {s : State} (h : s.vault.kept) (d : NetHdr) (addr : Word) : KeptOutcome (execNetKey d addr s) :=
  State.netPlain_kept h d 3 addr.toNat (fun _ ht => ht)

theorem execNetReinsTake_kept {s : State} (h : s.vault.kept) (d : NetHdr) (addr : Word) :
    KeptOutcome (execNetReinsTake d addr s) :=
  State.netPlain_kept h d 4 addr.toNat (fun _ ht => by rwa [State.takeReins_vault])

theorem execNetReinsGive_kept {s : State} (h : s.vault.kept) (d : NetHdr) (addr : Word) :
    KeptOutcome (execNetReinsGive d addr s) :=
  State.netPlain_kept h d 5 addr.toNat (fun _ ht => by rwa [State.giveReins_vault])

theorem execNetGetChallenge_kept {s : State} (h : s.vault.kept) (d : NetHdr) (out : Challenge) :
    KeptOutcome (execNetGetChallenge d out s) := by
  unfold execNetGetChallenge
  rw [keptOutcome_done]
  have hc := State.challenge_kept h 4 out
  split
  · exact h
  · split
    · rwa [State.inc_vault]
    · split
      · rwa [State.answerOpening_vault]
      · dsimp only
        split
        · rwa [State.answerOpening_vault]
        · rwa [State.answerOpening_vault]

theorem execNetAuthenticate_kept {s : State} (h : s.vault.kept) (d : NetHdr) (body : List Byte) (sigOk : Bool) (session : Nat) :
    KeptOutcome (execNetAuthenticate d body sigOk session s) := by
  unfold execNetAuthenticate
  rw [keptOutcome_done]
  have ha := State.authenticate_kept h 4 body sigOk
  split
  · exact h
  · split
    · rwa [State.inc_vault]
    · split
      · rwa [State.answerOpening_vault]
      · dsimp only
        split
        · rw [State.answerOpening_vault]
          exact State.openNet_kept (by rwa [State.drbgReseed_vault]) _ _
        · rwa [State.answerOpening_vault]

theorem execNetSessionExpiry_kept {s : State} (h : s.vault.kept) (session secs : Nat) :
    KeptOutcome (execNetSessionExpiry session secs s) := by
  simp only [execNetSessionExpiry, keptOutcome_done, kept_mk, apply_ite State.vault, apply_ite Vault.kept, ite_self,
    State.giveReins_vault, State.setB_vault, State.showSec_vault, h]

theorem execHostWdogExpiry_kept {s : State} (h : s.vault.kept) (ms : Nat) : KeptOutcome (execHostWdogExpiry ms s) := by
  unfold execHostWdogExpiry
  simp only [keptOutcome_done, apply_ite State.vault, apply_ite Vault.kept, kept_mk, State.set_vault, State.giveReins_vault,
    State.addLog_vault, State.setB_vault, State.updHost, kept_host, h, ite_self]

theorem execCopyRow_kept {s : State} (h : s.vault.kept) : KeptOutcome (execCopyRow s) := by
  unfold execCopyRow
  rw [keptOutcome_done]
  repeat' split
  all_goals simp only [State.serveRow_kept, h]

theorem execGpioEdge_kept {s : State} (h : s.vault.kept) (gpio : Fin 32) (level : Bool) (us : Nat) :
    KeptOutcome (execGpioEdge gpio level us s) := by
  simp only [execGpioEdge, keptOutcome_done, apply_ite State.vault, ite_self, State.setBit_vault, h]

theorem execEncoderDetent_kept {s : State} (h : s.vault.kept) (k : Fin 4) (clockwise : Bool) :
    KeptOutcome (execEncoderDetent k clockwise s) := by
  simp only [execEncoderDetent, keptOutcome_done, vault_mk, apply_ite State.vault, ite_self, State.setI_vault,
    State.requestDomain_vault, h]

theorem execMediaPllLock_kept {s : State} (h : s.vault.kept) : KeptOutcome (execMediaPllLock s) := by
  simp only [execMediaPllLock, keptOutcome_done, State.setB_vault, h]

theorem execMediaModeChange_kept {s : State} (h : s.vault.kept) (phaseNs ppm : Int) :
    KeptOutcome (execMediaModeChange phaseNs ppm s) := by
  simp only [execMediaModeChange, keptOutcome_done, vault_mk, State.steer_vault, h]

theorem execMediaAlign_kept {s : State} (h : s.vault.kept) (d : Nat) : KeptOutcome (execMediaAlign d s) := by
  simp only [execMediaAlign, keptOutcome_done, apply_ite State.vault, ite_self, State.setB_vault, h]

theorem execRefLost_kept {s : State} (h : s.vault.kept) (us : Nat) (loss : RefLoss) : KeptOutcome (execRefLost us loss s) := by
  simp only [execRefLost, keptOutcome_done, vault_mk, apply_ite State.vault, ite_self, foldl_vault, implies_true,
    State.setB_vault, State.ev_vault, State.steer_vault, State.linkDrop_vault, h]

theorem execRefRestored_kept {s : State} (h : s.vault.kept) (ms : Nat) : KeptOutcome (execRefRestored ms s) := by
  simp only [execRefRestored, keptOutcome_done, apply_ite State.vault, ite_self, State.setB_vault, State.steer_vault, h]

theorem execRtcXtalSwitch_kept {s : State} (h : s.vault.kept) (ms : Nat) : KeptOutcome (execRtcXtalSwitch ms s) := by
  simp only [execRtcXtalSwitch, keptOutcome_done, apply_ite State.vault, ite_self, State.setB_vault, h]

theorem execAccessTimeout_kept {s : State} (h : s.vault.kept) (m : Master) (addr : Nat) :
    KeptOutcome (execAccessTimeout m addr s) := by
  unfold execAccessTimeout
  rw [keptOutcome_done]
  repeat' split
  all_goals simp only [vault_mk, State.set_vault, State.incSat_vault, State.addLog_vault, h]

theorem execStallStart_kept {s : State} (h : s.vault.kept) (n : Fin 128) : KeptOutcome (execStallStart n s) := by
  simp only [execStallStart, keptOutcome_done, State.startStall_vault, h]

theorem execFullLoad_kept {s : State} (h : s.vault.kept) (ev : ImgEv) : KeptOutcome (execFullLoad ev s) := by
  unfold execFullLoad
  rw [keptOutcome_done]
  split
  · exact h
  · split
    · exact h
    · split
      next im _ =>
        have hp : (((s.buildImage im (digest8 ev))).vault.kept) := State.buildImage_kept h im _
        have hq := foldl_kept (fun t p ht => State.applyParam_kept ht p) im.params hp
        have hr := State.replay_kept (s := (((im.params.foldl State.applyParam (s.buildImage im (digest8 ev))).setB
          F.MIC_PRIV_LOCKED true).checkLayers im)) (by rwa [State.checkLayers_vault, State.setB_vault])
        simp only [kept_boot, hr]
      next => exact State.loadRefused_kept h _ _

theorem execStallsStart_kept {s : State} (h : s.vault.kept) (ms : Nat) (models : List Bool) :
    KeptOutcome (execStallsStart ms models s) := by
  unfold execStallsStart
  rw [keptOutcome_done]
  repeat' split
  all_goals simp only [vault_boot, apply_ite State.vault, ite_self, foldl_vault, implies_true, State.set_vault,
    State.showImage_vault, State.setB_vault, State.showApi_vault, State.markVetted_vault, State.showBoot_vault,
      State.syncPower_vault, State.startMix_vault, State.verifyModels_vault, State.wakeSync_vault, h]

theorem execSwapLanded_kept {s : State} (h : s.vault.kept) (ev : ImgEv) : KeptOutcome (execSwapLanded ev s) := by
  unfold execSwapLanded
  rw [keptOutcome_done]
  split
  · exact h
  · split
    · dsimp only
      split
      · exact State.swapRefused_kept h 14
      · rw [State.set_vault, State.powerGroups_vault]
        exact State.fillSram_kept (by exact h) _
    · exact State.swapRefused_kept h _

theorem execSwapBoundary_kept {s : State} (h : s.vault.kept) : KeptOutcome (execSwapBoundary s) := by
  unfold execSwapBoundary
  rw [keptOutcome_done]
  split
  · split
    · exact h
    · extract_lets ids whole lay hist new links _ _ s1 s2 s3 s4 s5
      have h1 : s1.vault.kept := h
      clear_value s1
      have h2 : s2.vault.kept := by
        refine foldl_kept (fun t r ht => ?_) _ h1
        simp only [apply_ite State.vault, State.set_vault, State.showStall_vault, ite_self, ht]
      have h4 : s4.vault.kept := by
        simp only [s4, s3, apply_ite State.vault, State.clearHistory_vault, State.enterInstances_vault, State.swapXps_vault,
          ite_self, h2]
      rw [State.wakeSync_vault, State.set_vault]
      exact foldl_kept (fun _ p ht => State.applyParam_kept ht p) _ h4
  · exact h

theorem execSwapCrossfadeEnd_kept {s : State} (h : s.vault.kept) : KeptOutcome (execSwapCrossfadeEnd s) := by
  unfold execSwapCrossfadeEnd
  rw [keptOutcome_done]
  split
  · exact h
  · split
    · exact h
    · extract_lets s1 _ s2 s3
      have h1 : s1.vault.kept := by
        refine foldl_kept (fun t r ht => ?_) _ h
        simp only [apply_ite State.vault, State.setBit_vault, State.set_vault, ite_self, ht]
      clear_value s1
      have h2 : s2.vault.kept := by
        refine { h1 with swapBuf := ?_ }
        show Memory.wf (ite _ _ _ : SwapState).buf = true
        split
        · exact h1.swapBuf
        · rfl
      clear_value s2
      simp only [s3, State.powerGroups_vault, State.set_vault, foldl_vault, State.setBit_vault, implies_true, h2]

theorem execCommitTackNow_kept {s : State} (h : s.vault.kept) (m : Master) (w : Word) (ev : ImgEv) :
    KeptOutcome (execCommitTackNow m w ev s) := by
  simp only [execCommitTackNow, keptOutcome_done, State.commitRow_kept, h]

theorem execCommitTackNextBoot_kept {s : State} (h : s.vault.kept) (m : Master) (w : Word) (ev : ImgEv) :
    KeptOutcome (execCommitTackNextBoot m w ev s) := by
  simp only [execCommitTackNextBoot, keptOutcome_done, State.commitRow_kept, h]

theorem execCommitFirmware_kept {s : State} (h : s.vault.kept) (m : Master) (w : Word) (sigOk : Bool) :
    KeptOutcome (execCommitFirmware m w sigOk s) := by
  simp only [execCommitFirmware, keptOutcome_done, State.commitRow_kept, h]

theorem execCommitWakeModel_kept {s : State} (h : s.vault.kept) (m : Master) (w : Word) (sigOk : Bool) :
    KeptOutcome (execCommitWakeModel m w sigOk s) := by
  simp only [execCommitWakeModel, keptOutcome_done, State.commitRow_kept, h]

theorem execTrialAutoConfirm_kept {s : State} (h : s.vault.kept) : KeptOutcome (execTrialAutoConfirm s) := by
  unfold execTrialAutoConfirm
  rw [keptOutcome_done]
  repeat' split
  all_goals simp only [State.confirmTrials_vault, h]

theorem execStrideBoundary_kept {s : State} (h : s.vault.kept) (x : StrideIn) : KeptOutcome (execStrideBoundary x s) := by
  unfold execStrideBoundary
  rw [keptOutcome_done]
  split
  · exact h
  · extract_lets s1 raw adc s2 s3 s4 s5 t s6 s7
    have h2 : s2.vault.kept := State.decideStride_kept (by
      simp only [s1, State.rtcTicks_vault, State.micStride_vault, State.stepAdc_vault,
        State.rampEnded_kept (s := s.finishWork.stepStride) (by simp only [State.stepStride_vault, State.finishWork_vault, h])])
    have h4 : s4.vault.kept := by
      simp only [s4, s3, State.mixStride_vault]
      exact State.netStride_kept (by simp only [State.rampSinks_vault, State.latchSinks_vault, h2]) x
    have h6 : s6.vault.kept := by
      simp only [s6, t, s5, State.trackMedia_vault, State.ringLpi_vault, State.stepPause_vault, State.tdmStride_vault,
        State.lineStride_vault, h4]
    have h7 : s7.vault.kept := by
      simp only [s7, State.stepPwm_vault]
      exact State.fabStride_kept h6 _ _
    exact State.commitFree_kept (by simp only [State.loadModel_vault, h7])

/-- Every command keeps the memories in canonical form. -/
theorem exec_kept {s : State} (h : s.vault.kept) (c : Instr) : KeptOutcome (exec c s) :=
  match c with
  | .powerOnReset straps flash serial mac self => execPowerOnReset_kept h straps flash serial mac self
  | .pinReset us straps flash => execPinReset_kept h us straps flash
  | .watchdogExpiry => execWatchdogExpiry_kept h
  | .softReset .. => State.rowWrite_kept h ..
  | .selfTestsComplete failed osc ident pairOk => execSelfTestsComplete_kept h failed osc ident pairOk
  | .fullLoad ev => execFullLoad_kept h ev
  | .stallsStart ms models => execStallsStart_kept h ms models
  | .swapGo .. => State.rowWrite_kept h ..
  | .swapLanded ev => execSwapLanded_kept h ev
  | .swapBoundary => execSwapBoundary_kept h
  | .swapCrossfadeEnd => execSwapCrossfadeEnd_kept h
  | .strideBoundary x => execStrideBoundary_kept h x
  | .stallStart n => execStallStart_kept h n
  | .blockCommit n commitAt mhz2 => execBlockCommit_kept h n commitAt mhz2
  | .layerEnd k => execLayerEnd_kept h k
  | .clockSlackCheck1S n => execClockSlackCheck1S_kept h n
  | .clockSlackCheck64 n => execClockSlackCheck64_kept h n
  | .micStuck pair us => execMicStuck_kept h pair us
  | .micUnstuck pair us => execMicUnstuck_kept h pair us
  | .wakeFrameEnd f => execWakeFrameEnd_kept h f
  | .stageReady stage => execStageReady_kept h stage
  | .stageTimeout stage => execStageTimeout_kept h stage
  | .wakeHangExpiry => execWakeHangExpiry_kept h
  | .wakeForce .. => State.rowWrite_kept h ..
  | .catchupStart => execCatchupStart_kept h
  | .catchupRingSwitch => execCatchupRingSwitch_kept h
  | .catchupLive => execCatchupLive_kept h
  | .catchupTalkClosed => execCatchupTalkClosed_kept h
  | .micMuteAssert => execMicMuteAssert_kept h
  | .micMuteRelease us => execMicMuteRelease_kept h us
  | .muteSilenceEnd us => execMuteSilenceEnd_kept h us
  | .termWrite .. => State.rowWrite_kept h ..
  | .trimWrite .. => State.rowWrite_kept h ..
  | .levelWrite .. => State.rowWrite_kept h ..
  | .balanceStart .. => State.rowWrite_kept h ..
  | .balanceSilence c => execBalanceSilence_kept h c
  | .balanceNoiseCheck c level => execBalanceNoiseCheck_kept h c level
  | .balanceFit c lineR lineC => execBalanceFit_kept h c lineR lineC
  | .balanceMeasure c => execBalanceMeasure_kept h c
  | .balanceResult c thl => execBalanceResult_kept h c thl
  | .autoBalance c => execAutoBalance_kept h c
  | .hsmicGainStep zeroCross ms => execHsmicGainStep_kept h zeroCross ms
  | .hpLoadSense left right => execHpLoadSense_kept h left right
  | .hpShort right => execHpShort_kept h right
  | .spkOvercurrent ma => execSpkOvercurrent_kept h ma
  | .spkRestart ms => execSpkRestart_kept h ms
  | .tdmFrame t bclks slots => execTdmFrame_kept h t bclks slots
  | .dtdHangExpiry inst => execDtdHangExpiry_kept h inst
  | .echoDiverge inst => execEchoDiverge_kept h inst
  | .echoConverged inst => execEchoConverged_kept h inst
  | .echoResult inst => execEchoResult_kept h inst
  | .echoReset .. => State.rowWrite_kept h ..
  | .keyDebounce gpio level stableUs => execKeyDebounce_kept h gpio level stableUs
  | .keyToggle .. => State.rowWrite_kept h ..
  | .talkClose .. => State.rowWrite_kept h ..
  | .xpWrite .. => State.rowWrite_kept h ..
  | .sidetoneWrite .. => State.rowWrite_kept h ..
  | .foghornAck .. => State.rowWrite_kept h ..
  | .duckHangExpiry kind output => execDuckHangExpiry_kept h kind output
  | .beamLaunch => execBeamLaunch_kept h
  | .outReceived p f at_ => execOutReceived_kept h p f at_
  | .icvVerdict p ok => execIcvVerdict_kept h p ok
  | .retReceived p f at_ => execRetReceived_kept h p f at_
  | .turnReceived p f at_ => execTurnReceived_kept h p f at_
  | .gateReceived p f => execGateReceived_kept h p f
  | .musterReceived p f => execMusterReceived_kept h p f
  | .musterSend => execMusterSend_kept h
  | .musterPhaseCheck => execMusterPhaseCheck_kept h
  | .admissionEffect => execAdmissionEffect_kept h
  | .nodeIdRelease id => execNodeIdRelease_kept h id
  | .peerDelay p ns => execPeerDelay_kept h p ns
  | .ringLocked maxNs nowNs ms => execRingLocked_kept h maxNs nowNs ms
  | .lighthouseClaim => execLighthouseClaim_kept h
  | .claimSend => execClaimSend_kept h
  | .ringDisable .. => State.rowWrite_kept h ..
  | .slackEnter => execSlackEnter_kept h
  | .slackLeave => execSlackLeave_kept h
  | .linkDown p receiving => execLinkDown_kept h p receiving
  | .silentPort p => execSilentPort_kept h p
  | .wrapEntry => execWrapEntry_kept h
  | .retMissing k => execRetMissing_kept h k
  | .ringHealClose => execRingHealClose_kept h
  | .lighthouseLoss => execLighthouseLoss_kept h
  | .foghornRepeat => execFoghornRepeat_kept h
  | .foghornRelease => execFoghornRelease_kept h
  | .foghornReceived p f => execFoghornReceived_kept h p f
  | .foghornExpiry origin => execFoghornExpiry_kept h origin
  | .callStart input dc => execCallStart_kept h input dc
  | .callEnd input dc => execCallEnd_kept h input dc
  | .callStuck c => execCallStuck_kept h c
  | .callGenMinEnd c => execCallGenMinEnd_kept h c
  | .blankEnd c => execBlankEnd_kept h c
  | .callSendTimeout g => execCallSendTimeout_kept h g
  | .lampFoldback n mv us => execLampFoldback_kept h n mv us
  | .lampFoldbackEnd n mv => execLampFoldbackEnd_kept h n mv
  | .frameReceived p f at_ mka => execFrameReceived_kept h p f at_ mka
  | .pauseExpiry bitTimes => execPauseExpiry_kept h bitTimes
  | .pauseWatchdog ms => execPauseWatchdog_kept h ms
  | .txFrameStart p queued dry beamNs at_ => execTxFrameStart_kept h p queued dry beamNs at_
  | .saSwitch p => execSaSwitch_kept h p
  | .lpiEnter us => execLpiEnter_kept h us
  | .lpiLeave p cause at_ us => execLpiLeave_kept h p cause at_ us
  | .statSnapshot .. => State.rowWrite_kept h ..
  | .snapshotDone => execSnapshotDone_kept h
  | .iopStreamEnable m tx k w => execIopStreamEnable_kept h m tx k w
  | .ssrcTimeout k => execSsrcTimeout_kept h k
  | .ptpLock nowNs maxNs ms path state => execPtpLock_kept h nowNs maxNs ms path state
  | .mediaAlign d => execMediaAlign_kept h d
  | .ptpClockStep sec ns => execPtpClockStep_kept h sec ns
  | .ptpCapture m w sec ns => execPtpCapture_kept h m w sec ns
  | .hostWrite fr addr words => execHostWrite_kept h fr addr words
  | .hostRead fr addr count => execHostRead_kept h fr addr count
  | .pageRead fr count => execPageRead_kept h fr count
  | .readContinue fr count => execReadContinue_kept h fr count
  | .pageWrite fr bytes => execPageWrite_kept h fr bytes
  | .writeContinue fr bytes => execWriteContinue_kept h fr bytes
  | .enterQuad => execEnterQuad_kept h
  | .exitQuad => execExitQuad_kept h
  | .pageHoldExpiry ms => execPageHoldExpiry_kept h ms
  | .loadStart .. => State.rowWrite_kept h ..
  | .loadHoldExpiry ms => execLoadHoldExpiry_kept h ms
  | .resultAck .. => State.rowWrite_kept h ..
  | .reinsTake .. => State.rowWrite_kept h ..
  | .reinsGive .. => State.rowWrite_kept h ..
  | .netRead d addr count => execNetRead_kept h d addr count
  | .netWrite d addr words => execNetWrite_kept h d addr words
  | .netKey d addr => execNetKey_kept h d addr
  | .netReinsTake d addr => execNetReinsTake_kept h d addr
  | .netReinsGive d addr => execNetReinsGive_kept h d addr
  | .netGetChallenge d out => execNetGetChallenge_kept h d out
  | .netAuthenticate d body sigOk session => execNetAuthenticate_kept h d body sigOk session
  | .netSessionExpiry session secs => execNetSessionExpiry_kept h session secs
  | .copyGo .. => State.rowWrite_kept h ..
  | .copyAbort .. => State.rowWrite_kept h ..
  | .copyRow => execCopyRow_kept h
  | .gpioEdge gpio level us => execGpioEdge_kept h gpio level us
  | .gpioOutSet .. => State.rowWrite_kept h ..
  | .gpioOutClr .. => State.rowWrite_kept h ..
  | .encoderDetent k clockwise => execEncoderDetent_kept h k clockwise
  | .getChallenge out => execGetChallenge_kept h out
  | .authenticate sigOk session => execAuthenticate_kept h sigOk session
  | .closeSession => execCloseSession_kept h
  | .getIdentity => execGetIdentity_kept h
  | .enrolOperator => execEnrolOperator_kept h
  | .removeOperator => execRemoveOperator_kept h
  | .enrolImageKey => execEnrolImageKey_kept h
  | .loadKey unwrapOk => execLoadKey_kept h unwrapOk
  | .deleteKey => execDeleteKey_kept h
  | .genIdentity pub pairOk => execGenIdentity_kept h pub pairOk
  | .setMacsec => execSetMacsec_kept h
  | .commitApproved => execCommitApproved_kept h
  | .zeroise => execZeroise_kept h
  | .challengeExpiry m ms => execChallengeExpiry_kept h m ms
  | .lockoutEnd m ms => execLockoutEnd_kept h m ms
  | .entropyHealthFail osc run count => execEntropyHealthFail_kept h osc run count
  | .mkaLifeExpiry p ms => execMkaLifeExpiry_kept h p ms
  | .zeroPin cycles => execZeroPin_kept h cycles
  | .shieldBreach => execShieldBreach_kept h
  | .envFailure kind value us => execEnvFailure_kept h kind value us
  | .zeroisationComplete => execZeroisationComplete_kept h
  | .commitTackNow m w ev => execCommitTackNow_kept h m w ev
  | .commitTackNextBoot m w ev => execCommitTackNextBoot_kept h m w ev
  | .commitFirmware m w sigOk => execCommitFirmware_kept h m w sigOk
  | .commitWakeModel m w sigOk => execCommitWakeModel_kept h m w sigOk
  | .bootConfirm .. => State.rowWrite_kept h ..
  | .trialAutoConfirm => execTrialAutoConfirm_kept h
  | .recover .. => State.rowWrite_kept h ..
  | .hostApiDeclare .. => State.rowWrite_kept h ..
  | .journalSettingWrite addr mask value => execJournalSettingWrite_kept h addr mask value
  | .autoListenEnd p maxMv => execAutoListenEnd_kept h p maxMv
  | .autoRelisten p mv ms => execAutoRelisten_kept h p mv ms
  | .hostWdogExpiry ms => execHostWdogExpiry_kept h ms
  | .hostAlive .. => State.rowWrite_kept h ..
  | .inputQualify n mv ms => execInputQualify_kept h n mv ms
  | .inputDisqualify n mv => execInputDisqualify_kept h n mv
  | .pdClassify req grant => execPdClassify_kept h req grant
  | .pdInrushEnd ms => execPdInrushEnd_kept h ms
  | .outputRequest outs => execOutputRequest_kept h outs
  | .budgetShed => execBudgetShed_kept h
  | .budgetRecheck steadyMs => execBudgetRecheck_kept h steadyMs
  | .inputOverload watts ms => execInputOverload_kept h watts ms
  | .vinValid mv self => execVinValid_kept h mv self
  | .railTimeout r ms => execRailTimeout_kept h r ms
  | .railRetry ms => execRailRetry_kept h ms
  | .seqViolation r => execSeqViolation_kept h r
  | .seqLegal => execSeqLegal_kept h
  | .avsAdjust ms => execAvsAdjust_kept h ms
  | .appSleep => execAppSleep_kept h
  | .appWake => execAppWake_kept h
  | .brownoutWarning mv us => execBrownoutWarning_kept h mv us
  | .brownoutEnd mv ms => execBrownoutEnd_kept h mv ms
  | .vinLoss mv us => execVinLoss_kept h mv us
  | .tetherLoss us crc => execTetherLoss_kept h us crc
  | .tetherRetrain => execTetherRetrain_kept h
  | .sourceStart p => execSourceStart_kept h p
  | .sourceListenEnd p maxMv => execSourceListenEnd_kept h p maxMv
  | .alreadyPoweredRelisten p maxMv => execAlreadyPoweredRelisten_kept h p maxMv
  | .softStartDone p mv vin ms => execSoftStartDone_kept h p mv vin ms
  | .softStartTimeout p mv ms => execSoftStartTimeout_kept h p mv ms
  | .lineOverload p limitMs lowMs => execLineOverload_kept h p limitMs lowMs
  | .lineContention p ma ms => execLineContention_kept h p ma ms
  | .retryWaitEnd p ms maxMv => execRetryWaitEnd_kept h p ms maxMv
  | .retryReset p => execRetryReset_kept h p
  | .lineLatchClear .. => State.rowWrite_kept h ..
  | .shortToSupplyBegin pin mv ms => execShortToSupplyBegin_kept h pin mv ms
  | .shortToSupplyEnd pin mv ms => execShortToSupplyEnd_kept h pin mv ms
  | .shortRecover pin ms => execShortRecover_kept h pin ms
  | .pseDetection n maxMv sig => execPseDetection_kept h n maxMv sig
  | .pseClassification n cls => execPseClassification_kept h n cls
  | .psePowerUp n mv vin ms => execPsePowerUp_kept h n mv vin ms
  | .pseFault n kind value ms => execPseFault_kept h n kind value ms
  | .pseDisconnect n ma ms => execPseDisconnect_kept h n ma ms
  | .pseRetryWaitEnd n ms => execPseRetryWaitEnd_kept h n ms
  | .pseLatchClear .. => State.rowWrite_kept h ..
  | .thermSample logic line => execThermSample_kept h logic line
  | .thermLevelChange die => execThermLevelChange_kept h die
  | .thermShutdown hottest => execThermShutdown_kept h hottest
  | .thermShutdownEnd hottest => execThermShutdownEnd_kept h hottest
  | .mediaPllLock => execMediaPllLock_kept h
  | .mediaModeChange phaseNs ppm => execMediaModeChange_kept h phaseNs ppm
  | .refLost us ppm => execRefLost_kept h us ppm
  | .refRestored ms => execRefRestored_kept h ms
  | .accessTimeout m addr => execAccessTimeout_kept h m addr
  | .rtcSet .. => State.rowWrite_kept h ..
  | .rtcXtalSwitch ms => execRtcXtalSwitch_kept h ms
  | .strideCapture .. => State.rowWrite_kept h ..
  | .registerWrite m addr w rivals => execRegisterWrite_kept h m addr w rivals
  | .linkUp p speed full => execLinkUp_kept h p speed full
  | .hpShortEnd right => execHpShortEnd_kept h right
  | .phyRxLpiEntry p => execPhyRxLpiEntry_kept h p
  | .mkaHello => execMkaHello_kept h
  | .mboxServiceDone => execMboxServiceDone_kept h
  | .domainPowerUpDone us => execDomainPowerUpDone_kept h us

/-- A step keeps the memories, whether a command waits or not. -/
theorem step_kept {s : State} (h : s.vault.kept) : KeptOutcome (step s) := by
  unfold step
  split
  next => exact h
  next c rest _ =>
    have hs : ({ s with pending := rest } : State).vault.kept := h
    exact exec_kept hs c

/-- Settles O4 (it holds): no operation lists a byte that reads as 0 or an address out of order, so no command does. -/
theorem stepKeepsMemories : Obligations.StepKeepsMemories := by
  intro s t h ht
  have hk := step_kept ((State.memoriesKept_iff s).1 h)
  simp only [ht, KeptOutcome] at hk
  exact (State.memoriesKept_iff t).2 hk

end Sys2Proof.Machine

end

section
/-! Writes that wait for the stride boundary (R591): what joins the boundary's queue, and what the boundary does with a lone
waiting write. The settlement of O9. -/

namespace Sys2Proof.Machine

variable {s : State} {m : Master} {a : Nat} {w : Word} {r : RegRow} {f : FieldRow}

/-! ### A write joins the queue -/

/-- An address whose rows have no effect of their own beside that of their fields, and whose fields no retiring stall refuses. -/
def quietAddr (a : Nat) : Bool :=
  decide (a ∉ [0x30, 0x1C, 0x80108, 0x8010C]) && !decide (0x100000 ≤ a ∧ a < 0x108000) && !decide (0x150000 ≤ a ∧ a < 0x151000)

/-- A field that the word writes as it is: it is read-only, or read/write with its present value. -/
def FieldRow.kept (s : State) (w : Nat) (f : FieldRow) : Prop :=
  f.acc = .rw ∧ f.quiet = none ∧ bitsOf w f.fld.lo f.fld.width = s.get f.fld

/-- A field written as it is is never refused. -/
theorem State.admitField_kept (ha : ¬ (0x100000 ≤ a ∧ a < 0x108000)) (m : Master) {w : Nat} (hf : f.kept s w) :
    s.admitField m a w f (bitsOf w f.fld.lo f.fld.width) = .take ∨ s.admitField m a w f (bitsOf w f.fld.lo f.fld.width) = .skip := by
  obtain ⟨hacc, -, hv⟩ := hf
  have hen : s.enables f.fld (s.get f.fld) = false := by
    unfold State.enables
    by_cases h : s.get f.fld = 0 <;> simp [h]
  simp only [State.admitField, hv, hacc, hen, decide_eq_false ha, Bool.false_and, Bool.false_eq_true, if_false, reduceCtorEq, false_and,
    if_true]
  split_ifs <;> simp

/-- Such a field has no unit to decide. -/
theorem State.fieldUnits_kept {p : PWrite} (hp : ¬ (p.addr = 0x80108 ∨ p.addr = 0x8010C)) (hf : f.kept s p.val) (i : Nat)
    (rein : Option Nat) : s.fieldUnits i p rein f = [] := by
  obtain ⟨hacc, hq, hv⟩ := hf
  simp [State.fieldUnits, if_neg hp, hacc, hq, hv]

/-- One write decided alone is prepared and carried. -/
theorem State.decideWrites_one (s : State) (p : PWrite) :
    (s.decideWrites [p]).1 = (s.carry s (lastStands (s.prepare 0 p).units) (s.prepare 0 p)).1 := by
  simp [State.decideWrites, List.range_succ]

/-- A lone write with a part that waits joins the queue, and its other part is decided. -/
theorem Writable.write_queues (h : Writable s m a r) (hs : r.fields.any (·.stride) = true) (w : Word) :
    s.write m a w =
      (({ s with queued := s.queued ++ [⟨m, a, w, .direct⟩] } : State).decideWrites [⟨m, a, w.toNat, cycleMask a, .direct⟩]).1 := by
  have hw := h.waits_some hs w.toNat (cycleMask a)
  simp [State.write, State.accept, h.1, hw]

/-- A write whose fields that do not wait are written as they are joins the boundary's queue and changes nothing else (R591). -/
theorem Writable.write_waits (h : Writable s m a r) (ha : quietAddr a = true) (hs : r.fields.any (·.stride) = true)
    (hside : a = F.TG_SIDETONE_IN.addr → bitOf (cycleMask a) F.TG_SIDETONE_IN.lo = false)
    (hkeep : ∀ f ∈ coveredFields r (cycleMask a), f.kept s w.toNat) :
    s.write m a w = { s with queued := s.queued ++ [⟨m, a, w, .direct⟩] } := by
  simp only [quietAddr, List.mem_cons, List.not_mem_nil, or_false, not_or, Bool.and_eq_true, Bool.not_eq_true',
    decide_eq_true_eq, decide_eq_false_iff_not] at ha
  obtain ⟨⟨⟨hbank, hapi, hset, hclr⟩, hstall⟩, hstream⟩ := ha
  have hgpio : ¬ (a = 0x80108 ∨ a = 0x8010C) := by simp [hset, hclr]
  rw [h.write_queues hs, State.decideWrites_one]
  generalize hs' : ({ s with queued := s.queued ++ [⟨m, a, w, .direct⟩] } : State) = s'
  have h' : Writable s' m a r := hs' ▸ h
  have hkeep' : ∀ f ∈ coveredFields r (cycleMask a), f.kept s' w.toNat := hs' ▸ hkeep
  have hunits : (s'.prepare 0 ⟨m, a, w.toNat, cycleMask a, .direct⟩).units = [] := by
    rw [h'.prepare]
    refine List.flatMap_eq_nil_iff.mpr fun x hx => ?_
    have hf := (List.of_mem_zip hx).1
    split
    · exact State.fieldUnits_kept hgpio (hkeep' x.1 hf) _ _
    · rfl
  have hrefused : s'.logRefusals ⟨m, a, w.toNat, cycleMask a, .direct⟩ r
      (s'.prepare 0 ⟨m, a, w.toNat, cycleMask a, .direct⟩).admits = s' := by
    have hadm : ∀ x ∈ (s'.prepare 0 ⟨m, a, w.toNat, cycleMask a, .direct⟩).admits, x = .take ∨ x = .skip := by
      rw [h'.prepare]
      intro x hx
      obtain ⟨f, hf, rfl⟩ := List.mem_map.mp hx
      exact State.admitField_kept hstall m (hkeep' f hf)
    have hno : ∀ y : Admit, y ≠ .take → y ≠ .skip →
        (s'.prepare 0 ⟨m, a, w.toNat, cycleMask a, .direct⟩).admits.contains y = false := fun y ht hk => by
      rw [← Bool.not_eq_true, List.contains_iff_mem]
      exact fun hy => (hadm y hy).elim ht hk
    simp only [State.logRefusals, hno .refuse (by simp) (by simp), hno .persona (by simp) (by simp), Bool.false_eq_true, if_false]
  have hstream' : s'.streamErr a w.toNat r = false := by simp [State.streamErr, hstream]
  have hside' : s'.sidetoneErr m a w.toNat (cycleMask a) r = false := by
    by_cases hi : a = F.TG_SIDETONE_IN.addr
    · simp [State.sidetoneErr, hside hi]
    · simp [State.sidetoneErr, hi]
  have hrow := (State.prepare_of h'.2.1 w.toNat h'.2.2.1).1
  have hp := (State.prepare_of h'.2.1 w.toNat h'.2.2.1).2.1
  rw [State.carry_sole hrow (by rw [hp]; exact hbank) (by simp [hunits]), hunits, hp]
  simp [hrefused, hapi, hstream', hside']

/-! ### The rows that wait (chapter 19) -/

/-- The row at `a` has a field that waits for the boundary, `fs` are its fields that do not, and a write of it has no effect at once
beside that of its fields. -/
def waitsBut (a : Nat) (fs : List FieldRow) : Bool :=
  quietAddr a && (a != F.TG_SIDETONE_IN.addr || !bitOf (cycleMask a) F.TG_SIDETONE_IN.lo) &&
  decide ((regRow a).map (fun r => (r.fields.any (·.stride), coveredFields r (cycleMask a))) = some (true, fs))

theorem Writable.write_row (h : Writable s m a r) {fs : List FieldRow} (hw : waitsBut a fs = true)
    (hkeep : ∀ f ∈ fs, f.kept s w.toNat) : s.write m a w = { s with queued := s.queued ++ [⟨m, a, w, .direct⟩] } := by
  simp only [waitsBut, Bool.and_eq_true, decide_eq_true_eq, Bool.or_eq_true, bne_iff_ne, Bool.not_eq_true', h.row,
    Option.map_some, Option.some.injEq, Prod.mk.injEq] at hw
  obtain ⟨⟨ha, hside⟩, hs, hfs⟩ := hw
  exact h.write_waits ha hs (fun hi => hside.resolve_left fun hne => hne hi) (hfs ▸ hkeep)

/-- The row of a command, alone in its cycle, whose fields that do not wait are written as they are. -/
theorem exec_waits {c : Instr} (hrow : rowOf c = some (m, a, w)) (h : Alone s m a) {fs : List FieldRow}
    (hw : waitsBut a fs = true) (hkeep : ∀ f ∈ fs, f.kept s w.toNat) :
    exec c s = .next { s with queued := s.queued ++ [⟨m, a, w, .direct⟩] } := by
  obtain ⟨hm, r, hr⟩ := h
  rw [exec_row_direct hrow hm, hr.write_row hw hkeep]
  rfl

theorem waitsBut_tg : ∀ a ∈ [0x110184, 0x110188, 0x1101A0, 0x1101E8, 0x1101E4], waitsBut a [] = true := by decide

theorem waitsBut_trim : ∀ c : Fin 4, waitsBut (0xC0004 + 0x100 * c) [] = true := by decide

theorem waitsBut_hybrid : ∀ c : Fin 4, waitsBut (0xC0000 + 0x100 * c)
    [⟨F.HYB_CH_CFG_AUTO_BAL c, .rw, .soft, .any, false, none⟩, ⟨F.HYB_CH_CFG_ADAPT c, .rw, .soft, .any, false, none⟩] = true := by
  decide

theorem waitsBut_balance : ∀ c : Fin 4, waitsBut (0xC0010 + 0x100 * c)
    [⟨F.HYB_BAL_CTRL_PROBE c, .rw, .soft, .range 0 4, false, none⟩] = true := by decide

theorem waitsBut_echo : ∀ i : Fin 20, waitsBut (0xD0000 + 0x100 * i)
    [⟨F.ECHO_CTRL_STEP i, .rw, .soft, .range 1 256, false, none⟩, ⟨F.ECHO_CTRL_FREEZE i, .rw, .soft, .any, false, none⟩] = true := by
  decide

theorem bitsOf_toNat_one (w : Word) (n : Nat) : bitsOf w.toNat n 1 = bit1 (w.getLsbD n) := bitsOf_one w.toNat n

/-- The command's word has for each field that does not wait what that field reads. -/
def KeepsTheRest (s : State) (w : Word) : Instr → Prop
  | .keyToggle .. | .talkClose .. | .xpWrite .. | .sidetoneWrite .. | .foghornAck .. | .trimWrite .. => True
  | .termWrite _ n _ | .levelWrite _ n _ =>
    bit1 (w.getLsbD 16) = s.get (F.HYB_CH_CFG_ADAPT n) ∧ bit1 (w.getLsbD 17) = s.get (F.HYB_CH_CFG_AUTO_BAL n)
  | .balanceStart _ n _ => bitsOf w.toNat 4 3 = s.get (F.HYB_BAL_CTRL_PROBE n)
  | .echoReset _ i _ => bitsOf w.toNat 8 9 = s.get (F.ECHO_CTRL_STEP i) ∧ bit1 (w.getLsbD 0) = s.get (F.ECHO_CTRL_FREEZE i)
  | _ => False

/-- The commands whose writes wait join the queue (R591). -/
theorem waiting_rows_join {c : Instr} (hrow : rowOf c = some (m, a, w)) (h : Alone s m a) (hc : KeepsTheRest s w c) :
    exec c s = .next { s with queued := s.queued ++ [⟨m, a, w, .direct⟩] } := by
  have hybrid (n : Fin 4) (ha : a = 0xC0000 + 0x100 * n) (hn : bit1 (w.getLsbD 16) = s.get (F.HYB_CH_CFG_ADAPT n) ∧
      bit1 (w.getLsbD 17) = s.get (F.HYB_CH_CFG_AUTO_BAL n)) :
      exec c s = .next { s with queued := s.queued ++ [⟨m, a, w, .direct⟩] } := by
    refine exec_waits hrow h (ha ▸ waitsBut_hybrid n) fun f hf => ?_
    rcases List.mem_pair.mp hf with rfl | rfl
    · exact ⟨rfl, rfl, (bitsOf_toNat_one w 17).trans hn.2⟩
    · exact ⟨rfl, rfl, (bitsOf_toNat_one w 16).trans hn.1⟩
  cases c
  case keyToggle | talkClose | xpWrite | sidetoneWrite | foghornAck =>
    obtain ⟨rfl, rfl, rfl⟩ := hrow
    exact exec_waits rfl h (waitsBut_tg _ (by simp)) (by simp)
  case trimWrite m' n w' =>
    obtain ⟨rfl, rfl, rfl⟩ := hrow
    exact exec_waits rfl h (waitsBut_trim n) (by simp)
  case termWrite m' n w' => exact hybrid n (Prod.mk.inj (Prod.mk.inj (Option.some.inj hrow)).2).1.symm hc
  case levelWrite m' n w' => exact hybrid n (Prod.mk.inj (Prod.mk.inj (Option.some.inj hrow)).2).1.symm hc
  case balanceStart m' n w' =>
    obtain ⟨rfl, rfl, rfl⟩ := hrow
    refine exec_waits rfl h (waitsBut_balance n) fun f hf => ?_
    rw [List.mem_singleton.mp hf]
    exact ⟨rfl, rfl, hc⟩
  case echoReset m' i w' =>
    obtain ⟨rfl, rfl, rfl⟩ := hrow
    refine exec_waits rfl h (waitsBut_echo i) fun f hf => ?_
    rcases List.mem_pair.mp hf with rfl | rfl
    · exact ⟨rfl, rfl, hc.1⟩
    · exact ⟨rfl, rfl, (bitsOf_toNat_one w 0).trans hc.2⟩
  all_goals exact hc.elim

/-! ### A lone write decided at the boundary -/

/-- The state in which the boundary decides what waited: nothing waits any more, and the detents are taken. -/
def State.emptied (s : State) : State := { s with gpio := { s.gpio with detents := [] }, queued := [] }

/-- The part of the write that waited. -/
def strideWrite (m : Master) (a : Nat) (w : Word) (r : RegRow) : PWrite := ⟨m, a, w.toNat, strideMask r, .direct⟩

theorem Writable.emptied (h : Writable s m a r) : Writable s.emptied m a r := h

theorem Writable.decideStride_one (h : Writable s m a r) (hq : s.queued = [⟨m, a, w, .direct⟩]) (hd : s.takeDetents.1 = []) :
    s.decideStride = (s.emptied.decideWrites [strideWrite m a w r]).1 := by
  have hp : queuedWrite ⟨m, a, w, .direct⟩ = strideWrite m a w r := by simp only [queuedWrite, strideWrite, h.row]
  unfold State.decideStride
  simp only [hq, hd, List.map_cons, List.map_nil, List.append_nil, hp]
  have hone : (s.emptied.decideWrites [strideWrite m a w r]).2.length = 1 := by
    simp [State.decideWrites, List.range_succ]
  obtain ⟨c, hc⟩ := List.length_eq_one_iff.mp hone
  show ([strideWrite m a w r].zip (s.emptied.decideWrites [strideWrite m a w r]).2).foldl _ _ = _
  rw [hc]
  rfl

/-- A sole write that nothing keeps out, whatever part of it is decided. -/
theorem Writable.prepare_part (h : Writable s m a r) (w c : Nat) :
    s.prepare 0 ⟨m, a, w, c, .direct⟩ =
      (let p : PWrite := ⟨m, a, w, c, .direct⟩
       let ads := (coveredFields r c).map (fun f => s.admitField m a w f (bitsOf w f.fld.lo f.fld.width))
       ⟨p, some r, .ok, ads,
        ((coveredFields r c).zip ads).flatMap (fun x => if x.2 = .take then s.fieldUnits 0 p r.rein x.1 else [])⟩) := by
  have hbar : s.bar ⟨m, a, w, c, .direct⟩ r = none := h.2.2.1
  unfold State.prepare
  rw [show viaCopy WSrc.direct = false from rfl]
  simp only [h.2.1, hbar]

theorem Writable.decide_part (h : Writable s m a r) (ha : a ≠ 0x30) (w c : Nat) {x : Prepared}
    (hx : x = s.prepare 0 ⟨m, a, w, c, .direct⟩) :
    (s.decideWrites [⟨m, a, w, c, .direct⟩]).1 =
      if soleMask x.units ≠ 0 ∨ a = 0x1C ∨ s.streamErr a w r ∨ s.sidetoneErr m a w c r then
        ((s.logRefusals ⟨m, a, w, c, .direct⟩ r x.admits).applyWrite m a w (soleMask x.units) r).1
      else s.logRefusals ⟨m, a, w, c, .direct⟩ r x.admits := by
  have hp : x.p = ⟨m, a, w, c, .direct⟩ ∧ x.row = some r := by
    rw [hx, h.prepare_part]
    exact ⟨rfl, rfl⟩
  have hu : ∀ u ∈ x.units, u.master = m.code ∧ u.rein = r.rein := by
    rw [hx, h.prepare_part]
    intro u hu
    obtain ⟨y, -, hy⟩ := List.mem_flatMap.mp hu
    split at hy
    · exact s.fieldUnits_of _ _ _ _ u hy
    · simp at hy
  have hv : ∀ u ∈ x.units, s.verdict (lastStands x.units) u = .stands := fun u hmem =>
    State.verdict_sole (hu u hmem).1 (fun v hv => (hu v (mem_lastStands hv)).1) (by rw [(hu u hmem).2]; exact h.2.2.2)
  rw [State.decideWrites_one, ← hx, State.carry_sole hp.2 (by rw [hp.1]; exact ha) hv, hp.1]
  rfl

/-! ### Deciding a write queues none -/

theorem queued_of_vault {s t : State} (h : t.vault = s.vault) : t.queued = s.queued := congrArg Vault.queued h

theorem State.loadStart_queued (s : State) : s.loadStart.1.queued = s.queued := by
  unfold State.loadStart
  extract_lets sink len slot _ s1 _ s2 s3 _ s4
  have h3 : s3.queued = s.queued := queued_of_vault (t := s3) (s := s2) (by
    simp only [s3, apply_ite State.vault, State.setSlot_vault, ite_self])
  have h4 : s4.queued = s.queued := by
    rw [← h3]
    simp only [s4, apply_ite State.queued, State.set_queued, ite_self]
  split
  · rfl
  · split
    · rfl
    · simpa only [State.set_queued] using h4

theorem State.mboxGo_queued (s : State) : s.mboxGo.queued = s.queued := by
  simp only [State.mboxGo, apply_ite State.queued, State.set_queued, State.setB_queued, ite_self]

/-- No register's rule but that of SYS_RESET touches the boundary's queue. -/
theorem State.hook_queued {old : State} (hold : old.vault = s.vault) (ha : a ≠ 0x10) (m : Master) (w : Nat) :
    (s.hook old m a w).1.queued = s.queued := by
  unfold State.hook
  split
  · exact queued_of_vault (s.ackCell_vault _ _)
  · split
    · refine queued_of_vault ?_
      simp only [State.hookSys, if_neg ha, vault_mk, vault_host, apply_ite Prod.fst, apply_ite State.vault, ite_self,
        State.apiDeclared_vault, State.setB_vault, State.commitGo_vault, State.confirmTrials_vault, State.avsWritten_vault,
        State.threshWritten_vault, State.syncPower_vault, State.set_vault, State.inc_vault, State.takeReins_vault,
        State.giveReins_vault]
    · split
      · have hgo (t : State) (n : Nat) : (t.copyGo n m).1.queued = t.queued := queued_of_vault (t.copyGo_vault n m)
        have habort (t : State) (n : Nat) : (t.copyAbort n).queued = t.queued := queued_of_vault (t.copyAbort_vault n)
        simp only [State.hookHost, apply_ite Prod.fst, apply_ite State.queued, State.loadStart_queued, State.mboxGo_queued,
          hgo, habort, State.set_queued, ite_self]
      · split
        · exact queued_of_vault (s.hookLine_vault ..)
        · split
          · exact queued_of_vault (State.hookTg_vault hold ..)
          · split
            · exact queued_of_vault (s.hookAudio_vault ..)
            · exact queued_of_vault (s.hookNet_vault ..)

theorem State.applyWrite_queued (ha : a ≠ 0x10) (m : Master) (w mask : Nat) (r : RegRow) :
    (s.applyWrite m a w mask r).1.queued = s.queued := by
  unfold State.applyWrite
  extract_lets t u eff x
  have hu : u.vault = s.vault := by
    simp only [u, t, apply_ite State.vault, State.setB_vault, State.setFields_vault, ite_self]
  have hx : x.1.queued = u.queued := State.hook_queued hu.symm ha m _
  exact ((queued_of_vault (x.1.noteChanges_vault s m r)).trans hx).trans (queued_of_vault hu)

/-- What is decided of a write changes the boundary's queue only where SYS_RESET is decided. -/
theorem State.carry_queued {x : Prepared} (hrow : x.row = some r) (h10 : x.p.addr = 0x10 → x.units = []) (s s0 : State)
    (us : List UWrite) : (s.carry s0 us x).1.queued = s.queued := by
  unfold State.carry
  split
  next hnone => simp [hrow] at hnone
  next row _ =>
    extract_lets s1 mine lost kept mask s2 s3 d
    have h2 : s2.vault = s.vault := by
      refine (foldl_vault_fst (fun p u => ?_) _ _).trans (State.logRefusals_vault ..)
      split
      · rfl
      · exact State.conflict_vault ..
    have h3 : s3.queued = s.queued := queued_of_vault (by
      simp only [s3, apply_ite State.vault, State.clearBank_vault, ite_self, h2])
    have hd : d.1.queued = s3.queued := by
      by_cases ha : x.p.addr = 0x10
      · have hmask : mask = 0 := by simp [mask, mine, h10 ha]
        simp [d, hmask, ha, State.streamErr, State.sidetoneErr, F.TG_SIDETONE_IN]
      · simp only [d, apply_ite Prod.fst, apply_ite State.queued, State.applyWrite_queued ha, ite_self]
    exact hd.trans h3

theorem fields_reset_now : (regRow 0x10).map (fun r => r.fields.all (fun f => !f.stride)) = some true := by decide

/-- What waits for the boundary of a write of SYS_RESET is nothing. -/
theorem Writable.reset_none (h : Writable s m 0x10 r) (w : Word) : (s.prepare 0 (strideWrite m 0x10 w r)).units = [] := by
  have hnow := fields_reset_now
  rw [h.row, Option.map_some, Option.some.injEq, List.all_eq_true] at hnow
  have hmask : strideMask r = 0 := strideMask_now fun f hf => by simpa using hnow f hf
  have hcover : coveredFields r 0 = [] := by simp [coveredFields, bitsOf]
  unfold strideWrite
  rw [h.prepare_part, hmask, hcover]
  rfl

/-- The boundary decides a lone write, and nothing waits any more (R591). -/
theorem Writable.decideStride_queued (h : Writable s m a r) (hq : s.queued = [⟨m, a, w, .direct⟩]) (hd : s.takeDetents.1 = []) :
    s.decideStride.queued = [] := by
  rw [h.decideStride_one hq hd, State.decideWrites_one]
  have hprep := h.emptied.prepare_part w.toNat (strideMask r)
  refine State.carry_queued (r := r) (by rw [strideWrite, hprep]) (fun ha => ?_) s.emptied _ _
  have haddr : a = 0x10 := by rwa [strideWrite, hprep] at ha
  subst haddr
  exact h.emptied.reset_none w

/-! ### Keys and crosspoints at the boundary -/

theorem flatMap_zip_const {α β γ : Type} [DecidableEq β] (l : List α) (c : β) (g : α → List γ) :
    (l.zip (l.map (fun _ => c))).flatMap (fun x => if x.2 = c then g x.1 else []) = l.flatMap g := by
  induction l with
  | nil => rfl
  | cons x l ih => rw [List.map_cons, List.zip_cons_cons, List.flatMap_cons, List.flatMap_cons, ih, if_pos rfl]

/-- A row of the mix whose fields are all write-only, wait for the boundary and take every value. -/
structure MixRow (a : Nat) (r : RegRow) : Prop where
  addr : openAddr a = true
  quiet : quietAddr a = true
  rule : ∀ f ∈ r.fields, f.acc = .wo ∧ f.chk = .any ∧ f.fld.addr = a ∧ journalled f = false
  covered : coveredFields r (strideMask r) = r.fields

/-- The bits of the word that the units of a mix row's lone write stand for. -/
def mixMask (s : State) (m : Master) (a : Nat) (w : Word) (r : RegRow) : Nat :=
  soleMask (r.fields.flatMap (s.fieldUnits 0 (strideWrite m a w r) r.rein))

theorem Writable.decide_mix (h : Writable s m a r) (hr : MixRow a r) (w : Word) :
    (s.decideWrites [strideWrite m a w r]).1 =
      if mixMask s m a w r ≠ 0 then (s.hook s m a (Nat.land w.toNat (mixMask s m a w r))).1 else s := by
  have ha := hr.quiet
  simp only [quietAddr, List.mem_cons, List.not_mem_nil, or_false, not_or, Bool.and_eq_true, Bool.not_eq_true',
    decide_eq_true_eq, decide_eq_false_iff_not] at ha
  obtain ⟨⟨⟨hbank, hapi, -, -⟩, -⟩, hstream⟩ := ha
  have hside : a ≠ F.TG_SIDETONE_IN.addr := fun e => absurd (e ▸ hr.addr) (by decide)
  have hadm : Admits s m a w.toNat r.fields := fun f hf => by
    obtain ⟨hacc, hchk, haddr, -⟩ := hr.rule f hf
    exact State.admitField_open hr.addr haddr (by simp [hacc]) (by rw [hchk]; rfl)
  have htake : r.fields.map (fun f => s.admitField m a w.toNat f (bitsOf w.toNat f.fld.lo f.fld.width)) =
      r.fields.map (fun _ => Admit.take) := List.map_congr_left fun f hf => by
    rw [hadm f hf, if_neg (by simp [(hr.rule f hf).1])]
  have hunits : (s.prepare 0 (strideWrite m a w r)).units = r.fields.flatMap (s.fieldUnits 0 (strideWrite m a w r) r.rein) := by
    rw [strideWrite, h.prepare_part, hr.covered]
    simp only [htake, flatMap_zip_const]
  have hrefused : s.logRefusals (strideWrite m a w r) r (s.prepare 0 (strideWrite m a w r)).admits = s := by
    rw [strideWrite, h.prepare_part, hr.covered]
    exact hadm.logRefusals s _ r
  have hstill (mask : Nat) : s.setFields r w.toNat mask = s := by
    rw [State.setFields_eq]
    refine foldl_of_fixed fun f hf => ?_
    simp [State.setField, (hr.rule f hf).1]
  have hstream' : s.streamErr a w.toNat r = false := by simp [State.streamErr, hstream]
  have hside' (c : Nat) : s.sidetoneErr m a w.toNat c r = false := by simp [State.sidetoneErr, hside]
  have hd := h.decide_part hbank w.toNat (strideMask r) rfl
  rw [← strideWrite, hunits, hrefused] at hd
  rw [hd, State.applyWrite_of hapi hstream (fun f hf => (hr.rule f hf).2.2.2), hstill]
  exact if_congr (by simp only [hapi, hstream', hside', mixMask, Bool.false_eq_true, or_false]) rfl rfl

/-- The fields of a mix row. -/
def mixFields (a : Nat) (fs : List FieldRow) : Bool :=
  openAddr a && quietAddr a &&
    fs.all (fun f => decide (f.acc = .wo ∧ f.chk = .any ∧ f.fld.addr = a) && !journalled f) &&
    fs.all (fun f => bitsOf (fs.foldl (fun n f => if f.stride then Nat.lor n ((2 ^ f.fld.width - 1) * 2 ^ f.fld.lo) else n) 0)
      f.fld.lo f.fld.width != 0)

theorem MixRow.of_fields {fs : List FieldRow} (hf : r.fields = fs) (hc : mixFields a fs = true) : MixRow a r := by
  subst hf
  simp only [mixFields, Bool.and_eq_true, List.all_eq_true, decide_eq_true_eq, Bool.not_eq_true'] at hc
  obtain ⟨⟨⟨haddr, hquiet⟩, hrule⟩, hcov⟩ := hc
  exact ⟨haddr, hquiet, fun f hf => ⟨(hrule f hf).1.1, (hrule f hf).1.2.1, (hrule f hf).1.2.2, (hrule f hf).2⟩,
    List.filter_eq_self.mpr hcov⟩

/-- A field of a key or crosspoint word. -/
def mixField (f : Fld) (quiet : Option Nat) : FieldRow := ⟨f, .wo, .soft, .any, true, quiet⟩

theorem fields_toggle : (regRow 0x110184).map (·.fields) = some [mixField F.TG_KEY_TOGGLE_TOGGLE none] := by decide

theorem fields_close : (regRow 0x110188).map (·.fields) = some [mixField F.TG_KEY_CLOSE_CLOSE (some 0xFFFFFFFF)] := by decide

theorem fields_xpWrite : (regRow 0x1101A0).map (·.fields) =
    some [mixField F.TG_XP_WRITE_INPUT none, mixField F.TG_XP_WRITE_OUTPUT none, mixField F.TG_XP_WRITE_GAIN none] := by decide

theorem Writable.mixMask_toggle (h : Writable s m 0x110184 r) (w : Word) : mixMask s m 0x110184 w r = 2 ^ 32 - 1 := by
  have hplain : (mixField F.TG_KEY_TOGGLE_TOGGLE none).plain 0x110184 = true := by decide
  have hmoves : (mixField F.TG_KEY_TOGGLE_TOGGLE none).moves s w.toNat = true := by
    simp [FieldRow.moves, mixField, F.TG_KEY_TOGGLE_TOGGLE]
  have hunits := State.fieldUnits_plain (p := strideWrite m 0x110184 w r) rfl hplain s 0 r.rein
  have hmask : (plainUnit 0 (strideWrite m 0x110184 w r) r.rein (mixField F.TG_KEY_TOGGLE_TOGGLE none)).wordMask = 2 ^ 32 - 1 :=
    (plainUnit_wordMask rfl hplain).trans (by decide)
  rw [show (strideWrite m 0x110184 w r).val = w.toNat from rfl, if_pos hmoves] at hunits
  rw [mixMask, h.fields fields_toggle, List.flatMap_singleton, hunits]
  generalize plainUnit 0 (strideWrite m 0x110184 w r) r.rein (mixField F.TG_KEY_TOGGLE_TOGGLE none) = u at hmask ⊢
  simp [soleMask, lastStands, hmask]

theorem State.fieldUnits_xp (s : State) (m : Master) (w : Word) (r : RegRow) :
    ∃ u : UWrite, u.wordMask = 0x00FFFFFF ∧
      ([mixField F.TG_XP_WRITE_INPUT none, mixField F.TG_XP_WRITE_OUTPUT none, mixField F.TG_XP_WRITE_GAIN none].flatMap
        (s.fieldUnits 0 (strideWrite m 0x1101A0 w r) r.rein)) = [u] := by
  refine ⟨_, ?_, rfl⟩
  simp [UWrite.wordMask]

theorem Writable.mixMask_xp (h : Writable s m 0x1101A0 r) (w : Word) : mixMask s m 0x1101A0 w r = 0x00FFFFFF := by
  obtain ⟨u, hu, hunits⟩ := s.fieldUnits_xp m w r
  rw [mixMask, h.fields fields_xpWrite, hunits]
  simp [soleMask, lastStands, hu]

/-- Units of different places all stand. -/
theorem lastStands_of_nodup_lo : ∀ {us : List UWrite}, (us.map (·.lo)).Nodup → lastStands us = us
  | [], _ => rfl
  | u :: us, h => by
    obtain ⟨hu, hus⟩ := List.nodup_cons.mp h
    have hlast : us.any (fun v => v.master == u.master && v.key == u.key && v.lo == u.lo && v.width == u.width) = false := by
      rw [List.any_eq_false]
      intro v hv
      have hlo : ¬ v.lo = u.lo := fun e => hu (List.mem_map.mpr ⟨v, hv, e⟩)
      simp [hlo]
    rw [lastStands, hlast, Bool.and_false, if_neg Bool.false_ne_true, lastStands_of_nodup_lo hus]

theorem testBit_foldl_lorBy {α : Type} (g : α → Nat) (l : List α) (n i : Nat) :
    (l.foldl (fun n x => Nat.lor n (g x)) n).testBit i = (n.testBit i || l.any (fun x => (g x).testBit i)) := by
  induction l generalizing n with
  | nil => simp
  | cons x l ih =>
    have hor : (Nat.lor n (g x)).testBit i = (n.testBit i || (g x).testBit i) := Nat.testBit_or n (g x) i
    rw [List.foldl_cons, ih, hor, List.any_cons, Bool.or_assoc]

/-- The bits that a word sets, put together, are the word. -/
theorem foldl_lor_bits (w : Word) :
    ((List.range 32).filter (fun b => w.toNat.testBit b)).foldl (fun n b => Nat.lor n (2 ^ b)) 0 = w.toNat := by
  refine Nat.eq_of_testBit_eq fun i => ?_
  rw [testBit_foldl_lorBy, Nat.zero_testBit, Bool.false_or, List.any_filter, Bool.eq_iff_iff, List.any_eq_true]
  constructor
  · rintro ⟨b, -, hb⟩
    rw [Bool.and_eq_true, Nat.testBit_two_pow, decide_eq_true_eq] at hb
    exact hb.2 ▸ hb.1
  · intro hi
    have hlt : i < 32 := by
      by_contra hge
      have : w.toNat < 2 ^ i := lt_of_lt_of_le w.isLt (Nat.pow_le_pow_right (by decide) (by omega))
      rw [Nat.testBit_lt_two_pow this] at hi
      exact absurd hi (by decide)
    exact ⟨i, List.mem_range.mpr hlt, by simp [hi]⟩

/-- The unit of the talk of slot `b` in a close word. -/
def closeUnit (m : Master) (rein : Option Nat) (b : Nat) : UWrite :=
  ⟨0, m.code, F.TG_KEY_CLOSE_CLOSE.key, b, 1, 1, true, false, 0x110188, 0, 32, rein⟩

theorem State.fieldUnits_close (s : State) (m : Master) (w : Word) (r : RegRow) :
    s.fieldUnits 0 (strideWrite m 0x110188 w r) r.rein (mixField F.TG_KEY_CLOSE_CLOSE (some 0xFFFFFFFF)) =
      ((List.range 32).filter (fun b => w.toNat.testBit b)).map (closeUnit m r.rein) := by
  have hval : bitsOf w.toNat 0 32 = w.toNat := bitsOf_word w.isLt
  simp [State.fieldUnits, strideWrite, mixField, closeUnit, F.TG_KEY_CLOSE_CLOSE, F.TG_XP_WRITE_GAIN, hval]

theorem Writable.mixMask_close (h : Writable s m 0x110188 r) (w : Word) : mixMask s m 0x110188 w r = w.toNat := by
  have hnodup : ((((List.range 32).filter (fun b => w.toNat.testBit b)).map (closeUnit m r.rein)).map (·.lo)).Nodup := by
    rw [List.map_map]
    exact (List.nodup_range.filter _).map (fun _ _ e => e)
  have hmask (b : Nat) : (closeUnit m r.rein b).wordMask = 2 ^ b := by
    simp [UWrite.wordMask, closeUnit, Fld.key, F.TG_KEY_CLOSE_CLOSE]
  rw [mixMask, h.fields fields_close, List.flatMap_singleton, State.fieldUnits_close, soleMask, lastStands_of_nodup_lo hnodup,
    List.filter_eq_self.mpr fun u hu => List.contains_iff_mem.mpr hu, List.foldl_map]
  simp only [hmask, foldl_lor_bits]

theorem tg_noCell : ∀ a ∈ [0x110184, 0x110188, 0x1101A0],
    (resultCells 0 ++ resultCells 1 ++ resultCells 2 ++ resultCells 3).contains (a - 0x10) = false := by decide

/-- The mix's rows follow the mix's rule. -/
theorem State.hook_tg (ha : a ∈ [0x110184, 0x110188, 0x1101A0]) (s old : State) (m : Master) (w : Nat) :
    (s.hook old m a w).1 = s.hookTg old m a w := by
  have hcell := tg_noCell a ha
  simp only [List.mem_cons, List.not_mem_nil, or_false] at ha
  unfold State.hook
  rw [if_neg (by rw [hcell]; simp)]
  rcases ha with rfl | rfl | rfl <;> rfl

theorem Writable.boundary_mix (h : Writable s m a r) (ha : a ∈ [0x110184, 0x110188, 0x1101A0]) (hr : MixRow a r)
    (hq : s.queued = [⟨m, a, w, .direct⟩]) (hd : s.takeDetents.1 = []) :
    s.decideStride = if mixMask s.emptied m a w r ≠ 0 then
      s.emptied.hookTg s.emptied m a (Nat.land w.toNat (mixMask s.emptied m a w r)) else s.emptied := by
  rw [h.decideStride_one hq hd, h.emptied.decide_mix hr, State.hook_tg ha]

theorem State.hookTg_toggle (s old : State) (m : Master) (w : Nat) :
    (s.hookTg old m 0x110184 w).tg = { s.tg with toggles := Nat.lor s.tg.toggles w } := rfl

theorem State.hookTg_close (s old : State) (m : Master) (w : Nat) :
    (s.hookTg old m 0x110188 w).tg = { s.tg with closes := Nat.lor s.tg.closes w } := rfl

theorem State.hookTg_xp (s old : State) (w : Nat) :
    s.hookTg old .steward 0x1101A0 w = s.xpWrite (bitsOf w 16 8) (bitsOf w 8 8) (bitsOf w 0 8) := rfl

/-- A crosspoint write reads neither the boundary's queue nor the detents. -/
theorem State.xpWrite_emptied (s : State) (i o g : Nat) : (s.emptied.xpWrite i o g).tg = (s.xpWrite i o g).tg := by
  have hcond : (!s.emptied.pairInMix i o || decide (216 < g) || s.emptied.isSidetone i o) =
      (!s.pairInMix i o || decide (216 < g) || s.isSidetone i o) := rfl
  have hset : (s.emptied.setStored i o g).tg = (s.setStored i o g).tg := by
    unfold State.setStored
    rw [show s.emptied.xp i o = s.xp i o from rfl]
    cases s.xp i o <;> rfl
  unfold State.xpWrite
  rw [hcond]
  split
  · rfl
  · exact hset

theorem land_word (w : Word) : Nat.land w.toNat (2 ^ 32 - 1) = w.toNat :=
  (Nat.and_two_pow_sub_one_eq_mod w.toNat 32).trans (Nat.mod_eq_of_lt w.isLt)

/-- The bits of a crosspoint word that its write stands for are those that its rule reads. -/
theorem bitsOf_land_xp (w lo : Nat) (h : lo + 8 ≤ 24) : bitsOf (Nat.land w 0x00FFFFFF) lo 8 = bitsOf w lo 8 := by
  have hmod : Nat.land w 0x00FFFFFF = w % 2 ^ 24 := Nat.and_two_pow_sub_one_eq_mod w 24
  refine Nat.eq_of_testBit_eq fun i => ?_
  rw [hmod, testBit_bitsOf, testBit_bitsOf, Nat.testBit_mod_two_pow]
  by_cases hi : i < 8
  · have : i + lo < 24 := by omega
    simp [this]
  · simp [hi]

/-- Settles O9 (it holds): a waiting write is prepared with no unit of its own cycle, and the boundary decides its waiting part
against nothing. -/
theorem waitingWritesAreDecidedAtTheBoundary : Obligations.WaitingWritesAreDecidedAtTheBoundary := by
  refine ⟨fun s c m a w hrow h hc => waiting_rows_join hrow h (by cases c <;> exact hc), fun s m a w h hq hd => ?_⟩
  obtain ⟨-, r, hr⟩ := h
  refine ⟨hr.decideStride_queued hq hd, ?_, ?_, ?_⟩
  · rintro rfl
    have hmix : MixRow 0x110184 r := MixRow.of_fields (hr.fields fields_toggle) (by decide)
    rw [hr.boundary_mix (by simp) hmix hq hd, hr.emptied.mixMask_toggle, if_pos (by decide), State.hookTg_toggle, land_word]
    rfl
  · rintro rfl
    have hmix : MixRow 0x110188 r := MixRow.of_fields (hr.fields fields_close) (by decide)
    rw [hr.boundary_mix (by simp) hmix hq hd, hr.emptied.mixMask_close]
    by_cases hw : w.toNat = 0
    · have hzero : Nat.lor s.tg.closes 0 = s.tg.closes := Nat.or_zero _
      simp only [hw, ne_eq, not_true, if_false, hzero]
      rfl
    · have hself : Nat.land w.toNat w.toNat = w.toNat := Nat.and_self _
      rw [if_pos hw, State.hookTg_close, hself]
      rfl
  · rintro rfl rfl
    have hmix : MixRow 0x1101A0 r := MixRow.of_fields (hr.fields fields_xpWrite) (by decide)
    rw [hr.boundary_mix (by simp) hmix hq hd, hr.emptied.mixMask_xp, if_pos (by decide), State.hookTg_xp,
      State.xpWrite_emptied, bitsOf_land_xp _ _ (by decide), bitsOf_land_xp _ _ (by decide), bitsOf_land_xp _ _ (by decide)]

end Sys2Proof.Machine
end

section
/-! What the lighthouse answers and sends (R362, R383, R385, R389, R390, R393, R655), and the settlement of O52. -/

namespace Sys2Proof.Machine

variable {s : State}

theorem foldl_keeps {α β γ : Type} (p : β → γ) {g : β → α → β} (h : ∀ b a, p (g b a) = p b) (l : List α) (b : β) :
    p (l.foldl g b) = p b := by
  induction l generalizing b with
  | nil => rfl
  | cons a l ih => exact (ih (g b a)).trans (h b a)

/-! ### Sending a frame leaves the ring's state and the time -/

/-- The ring's state and the stride: what sending a frame leaves. -/
def State.ringAt (s : State) : RingNode × Nat := (s.ring, s.stride)

theorem State.stat_ringAt (s : State) (p k n : Nat) : (s.stat p k n).ringAt = s.ringAt := by
  simp only [State.stat, apply_ite State.ringAt]
  simp only [State.ringAt, State.setBit, State.set_ring, State.set_stride, ite_self]

theorem State.drbgDraw_ringAt (s : State) : s.drbgDraw.ringAt = s.ringAt := by
  obtain ⟨d, b, hd⟩ := s.drbgDraw_frame
  rw [hd]
  rfl

theorem State.setSecured_ringAt (s : State) (p : Nat) (rx tx : Bool) : (s.setSecured p rx tx).ringAt = s.ringAt := by
  simp only [State.setSecured, State.ringAt, State.setB_ring, State.setB_stride, apply_ite State.ring, apply_ite State.stride,
    ite_self]

theorem State.installSak_ringAt (s : State) (p an : Nat) : (s.installSak p an).ringAt = s.ringAt := by
  unfold State.installSak
  rw [State.setSecured_ringAt]
  simp only [State.ringAt, State.inc, State.set_ring, State.set_stride]
  rfl

theorem State.distributeSak_ringAt (s : State) (p : Nat) : (s.distributeSak p).ringAt = s.ringAt :=
  (State.installSak_ringAt ..).trans s.drbgDraw_ringAt

theorem State.sendFrame_ringAt (s : State) (p : Nat) (bytes : List Byte) (poisoned wilnan : Bool) :
    (s.sendFrame p bytes poisoned wilnan).ringAt = s.ringAt := by
  unfold State.sendFrame
  extract_lets b h sec n _ s1 s2 s3 s4
  have h3 : s3.ringAt = s.ringAt := by
    simp only [s3, s2, apply_ite State.ringAt, State.stat_ringAt, ite_self]
    rfl
  have h4 : s4.ringAt = s.ringAt := (s3.stat_ringAt p 44 1).trans h3
  simp only [apply_ite State.ringAt, State.distributeSak_ringAt, h3, h4, ite_self]

theorem State.sendBeam_ringAt (s : State) (p at_ : Nat) (bytes : List Byte) : (s.sendBeam p at_ bytes).ringAt = s.ringAt := by
  have hstat (t : State) (x : Nat) : (if t.awakeAt x at_ then t else t.stat x 47 1 : State).ringAt = t.ringAt := by
    split
    · rfl
    · exact t.stat_ringAt x 47 1
  refine (foldl_keeps State.ringAt (fun t o => t.sendFrame_ringAt _ _ _ _) _ _).trans ?_
  exact foldl_keeps State.ringAt hstat _ s

/-! ### Launching a beam -/

/-- What a half of a launch leaves: the launches, what awaits return, and the time. -/
def State.launchMarks (s : State) : Option Nat × List Nat × Nat := (s.ring.launchedAt, s.ring.unreturned, s.stride)

theorem State.launchMarks_of_ringAt {t u : State} (h : t.ringAt = u.ringAt) : t.launchMarks = u.launchMarks := by
  have hring : t.ring = u.ring := congrArg Prod.fst h
  have hstride : t.stride = u.stride := congrArg Prod.snd h
  simp only [State.launchMarks, hring, hstride]

theorem State.sendBeam_marks (s : State) (p at_ : Nat) (bytes : List Byte) : (s.sendBeam p at_ bytes).launchMarks = s.launchMarks :=
  State.launchMarks_of_ringAt (s.sendBeam_ringAt p at_ bytes)

theorem State.keepBusy_marks (s : State) (p sfd n : Nat) : (s.keepBusy p sfd n).launchMarks = s.launchMarks := rfl

theorem State.rememberOut_marks (s : State) (b : Beam) (p : Nat) : (s.rememberOut b p).launchMarks = s.launchMarks := rfl

theorem State.storeBeam_marks (s : State) (b : Beam) (words : List (Nat × List Nat)) :
    (s.storeBeam b words).launchMarks = s.launchMarks := rfl

theorem State.launchHalf_marks (s : State) (ports : List Nat) (beamB wrapped : Bool) :
    (s.launchHalf ports beamB wrapped).launchMarks = s.launchMarks := by
  unfold State.launchHalf
  extract_lets r u
  refine (foldl_keeps State.launchMarks (fun t p => ?_) ports u).trans (s.storeBeam_marks ..)
  simp only [State.keepBusy_marks, State.sendBeam_marks, State.rememberOut_marks]

theorem State.launch_launchedAt (s : State) : s.launch.ring.launchedAt = some s.stride := by
  unfold State.launch
  extract_lets wrapped ports s1 s2
  have h2 : s2.launchMarks = s1.launchMarks := (State.launchHalf_marks ..).trans (State.launchHalf_marks ..)
  split
  · rfl
  · have hl : s2.ring.launchedAt = some s.stride := congrArg Prod.fst h2
    show (ite _ _ _ : RingNode).launchedAt = _
    split
    · exact hl
    · exact hl

/-- In an unwrapped ring with a live first port the beam awaits its return (R418). -/
theorem State.launch_unreturned (hw : s.getB F.RING_WRAP_WRAPPED = false) (hp : s.portDead 0 = false) :
    s.launch.ring.unreturned = s.ring.unreturned ++ [s.stride] := by
  unfold State.launch
  extract_lets wrapped ports s1 s2
  have h2 : s2.launchMarks = s1.launchMarks := (State.launchHalf_marks ..).trans (State.launchHalf_marks ..)
  have hu : s2.ring.unreturned = s.ring.unreturned := congrArg (fun x => x.2.1) h2
  have hs : s2.stride = s.stride := congrArg (fun x => x.2.2) h2
  have hwrapped : wrapped = false := hw
  have hports : ports = [0] := by simp [ports, hwrapped, hp]
  rw [if_neg (by simp [hports])]
  simp only [hwrapped, State.updRing, Bool.false_eq_true, if_false, hu, hs]

/-! ### Sending a MUSTER -/

/-- Answering the waiting requests leaves when the last MUSTER was sent. -/
theorem State.answerGates_musterAt (s : State) (n : Nat) (before : List GateReq) (acc : List (Nat × Nat × Nat)) :
    (s.answerGates n before acc).1.ring.musterAt = s.ring.musterAt := by
  induction n generalizing s before acc with
  | zero => rfl
  | succ n ih =>
    unfold State.answerGates
    split
    · rfl
    · split
      · rfl
      · exact ih _ _ _

theorem State.setMap_ring (s : State) (m : Nat) : (s.setMap m).ring = s.ring := by
  refine (foldl_keeps State.ring (fun t g => t.setB_ring _ _) _ _).trans ?_
  rw [State.set_ring, State.set_ring]

theorem State.sendMuster_musterAt (s : State) : s.sendMuster.ring.musterAt = some s.stride := by
  unfold State.sendMuster
  extract_lets rel s1 r entries s2 map s3 s4 c s5 ports s6
  have h2 : s2.ring.musterAt = some s.stride := s1.answerGates_musterAt ..
  have h4 : s4.ring = s2.ring := by simp only [s4, s3, State.set_ring, State.setMap_ring]
  have h5 : s5.ring.musterAt = some s.stride := (congrArg RingNode.musterAt h4).trans h2
  have h6 : s6.ring.musterAt = some s.stride := by
    show (ite _ _ _ : State).ring.musterAt = _
    split
    · exact h5
    · exact h5
  obtain ⟨n, hn⟩ := s6.sendOwnCtl_net ports c.2
  rw [hn]
  exact h6

/-! ### A GATE at the lighthouse -/

/-- What every GATE does first: it wakes the ring from slack and counts for its member's presence. -/
def State.gateHeard (s : State) (mac : Nat) : State :=
  s.updRing (fun r => { r with
    slackWake := some (r.slackWake.getD s.stride)
    members := r.members.map (fun m => if m.mac = mac then { m with lastGate := s.stride } else m) })

theorem State.gateHeard_present (s : State) (mac : Nat) :
    ∀ m ∈ (s.gateHeard mac).ring.members, m.mac = mac → m.lastGate = s.stride := by
  intro m hm hmac
  obtain ⟨x, -, rfl⟩ := List.mem_map.mp hm
  by_cases hx : x.mac = mac
  · simp [hx]
  · simp [hx] at hmac

theorem State.lighthouseGate_leave (c : Ctl) (h : bitOf (beAt c.body 9 1) 6 = true) (s : State) :
    s.lighthouseGate c = (s.gateHeard (beAt c.body 0 6)).updRing (fun r => { r with
      members := r.members.filter (fun m => m.mac ≠ beAt c.body 0 6)
      released := r.released ++ (r.members.filter (fun m => m.mac = beAt c.body 0 6)).map (fun m => (m.mac, m.id)) }) :=
  if_pos h

theorem State.lighthouseGate_stay (c : Ctl) (h : bitOf (beAt c.body 9 1) 6 = false) (s : State)
    (hw : bitOf (beAt c.body 9 1) 5 = true ∨ ∃ g ∈ s.ring.gates, g.mac = beAt c.body 0 6) :
    s.lighthouseGate c = s.gateHeard (beAt c.body 0 6) := by
  have hcond : (bitOf (beAt c.body 9 1) 5 || s.ring.gates.any (fun g => g.mac == beAt c.body 0 6)) = true := by
    simpa [List.any_eq_true] using hw
  exact (if_neg (by simp [h])).trans (if_pos hcond)

theorem State.lighthouseGate_request (c : Ctl) (h : bitOf (beAt c.body 9 1) 6 = false) (s : State)
    (h5 : bitOf (beAt c.body 9 1) 5 = false) (hnew : ∀ g ∈ s.ring.gates, g.mac ≠ beAt c.body 0 6) :
    (s.lighthouseGate c).ring = { (s.gateHeard (beAt c.body 0 6)).ring with
      gates := s.ring.gates ++
        [⟨beAt c.body 0 6, beAt c.body 6 2, beAt c.body 9 1, beAt c.body 10 1, beAt c.body 12 8, c.sender, s.stride⟩] } := by
  have hcond : ¬ (bitOf (beAt c.body 9 1) 5 || s.ring.gates.any (fun g => g.mac == beAt c.body 0 6)) = true := by
    simpa [h5] using hnew
  have hstep : s.lighthouseGate c = _ := (if_neg (by simp [h])).trans (if_neg hcond)
  rw [hstep, State.set_ring]
  rfl

/-- Every GATE wakes the ring from slack (R393). -/
theorem State.lighthouseGate_wakes (s : State) (c : Ctl) :
    (s.lighthouseGate c).ring.slackWake = some (s.ring.slackWake.getD s.stride) := by
  cases h6 : bitOf (beAt c.body 9 1) 6
  · by_cases hw : bitOf (beAt c.body 9 1) 5 = true ∨ ∃ g ∈ s.ring.gates, g.mac = beAt c.body 0 6
    · rw [State.lighthouseGate_stay c h6 s hw]
      rfl
    · rw [not_or, Bool.not_eq_true, not_exists] at hw
      rw [State.lighthouseGate_request c h6 s hw.1 fun g hg => not_and.mp (hw.2 g) hg]
      rfl
  · rw [State.lighthouseGate_leave c h6 s]
    rfl

/-- Any GATE but a LEAVE counts for its member's presence (R389). -/
theorem State.lighthouseGate_members (c : Ctl) (h6 : bitOf (beAt c.body 9 1) 6 = false) (s : State) :
    (s.lighthouseGate c).ring.members = (s.gateHeard (beAt c.body 0 6)).ring.members := by
  by_cases hw : bitOf (beAt c.body 9 1) 5 = true ∨ ∃ g ∈ s.ring.gates, g.mac = beAt c.body 0 6
  · rw [State.lighthouseGate_stay c h6 s hw]
  · rw [not_or, Bool.not_eq_true, not_exists] at hw
    rw [State.lighthouseGate_request c h6 s hw.1 fun g hg => not_and.mp (hw.2 g) hg]

/-- Settles O52 (it holds): each clause is a branch of the GATE's handling, or a mark that sending frames leaves. -/
theorem lighthouseLaunchesAndAnswers : Obligations.LighthouseLaunchesAndAnswers := by
  refine ⟨fun s c => ⟨s.lighthouseGate_wakes c, fun h6 => ?_, fun h6 => ?_, fun h6 h5 => ⟨fun hw => ?_, fun hnew => ?_⟩⟩,
    fun s hon hst hstr hl hsl => ?_, fun s hon hst hstr hm hl hma => ?_, fun s id m hf hst hg => ?_, fun s p ok e hf hon => ?_⟩
  · rw [State.lighthouseGate_leave c h6 s]
    refine ⟨rfl, fun m hm => ?_⟩
    simpa using (List.mem_filter.mp hm).2
  · rw [State.lighthouseGate_members c h6 s]
    exact s.gateHeard_present _
  · rw [State.lighthouseGate_stay c h6 s (.inr hw)]
    rfl
  · rw [State.lighthouseGate_request c h6 s h5 hnew]
  · refine ⟨{ s.launch with pending := s.pending }, congrArg s.done (if_pos ?_), rfl, s.launch_launchedAt,
      fun hw hp => State.launch_unreturned hw hp⟩
    simpa [hon, hst, hstr, hl] using hsl
  · refine ⟨{ s.sendMuster with pending := s.pending }, congrArg s.done (if_pos ?_), rfl, s.sendMuster_musterAt⟩
    simp [hon, hst, hstr, hm, hl, hma]
  · simp only [exec, execNodeIdRelease, hf]
    exact congrArg s.done (if_pos ⟨hst, hg⟩)
  · simp only [exec, execIcvVerdict, hf]
    exact congrArg s.done (if_pos hon)

end Sys2Proof.Machine
end

section
/-! Links that come and go, the ring's wraps, and what heals it (R412, R418, R422, R423, R428, R430, R470, R472, R517, R518):
the settlement of O55. -/

namespace Sys2Proof.Machine

variable {s t : State} {fs : List Fld}

/-! ### What a link's end leaves -/

/-- The registers that say whether the node takes part in the ring. -/
def ringOnFields : List Fld := [F.RING_CTRL_ENABLE, F.SYS_PERSONA_HALTER, F.PWR_DOM_ON_ON]

/-- The ports of the MAC, the waiting commands, and whether the node takes part in the ring. -/
def State.linkMarks (s : State) : List MacPort × List Instr × Bool := (s.net.ports, s.pending, s.ringOn)

theorem Only.ringOn (h : Only fs s t) (hk : ∀ f ∈ ringOnFields, f.key ∉ fs.map Fld.key) : t.ringOn = s.ringOn := by
  have hring : t.ring = s.ring := by
    have := congrArg State.ring h.1
    exact this
  have hen : t.getB F.RING_CTRL_ENABLE = s.getB F.RING_CTRL_ENABLE := h.settles.getB (hk _ (by simp [ringOnFields]))
  have hhalt : t.halter = s.halter := h.settles.getB (hk F.SYS_PERSONA_HALTER (by simp [ringOnFields]))
  have hdom : t.domOn 5 = s.domOn 5 := by
    simp only [State.domOn, State.bit, h.2 _ (hk F.PWR_DOM_ON_ON (by simp [ringOnFields])), if_pos (show 5 < 32 by decide)]
  simp only [State.ringOn, hring, hen, hhalt, hdom]

theorem Only.linkMarks (h : Only fs s t) (hk : ∀ f ∈ ringOnFields, f.key ∉ fs.map Fld.key) : t.linkMarks = s.linkMarks := by
  have hports : t.net.ports = s.net.ports := by
    have := congrArg (fun u : State => u.net.ports) h.1
    exact this
  simp only [State.linkMarks, hports, h.pending, h.ringOn hk]

theorem State.stat_only (s : State) (p k n : Nat) :
    Only [F.STAT_CNT_COUNT p k, F.STAT_HALF_LO_HALF p, F.STAT_HALF_HI_HALF p] s (s.stat p k n) := by
  have hset := (Only.refl [F.STAT_CNT_COUNT p k, F.STAT_HALF_LO_HALF p, F.STAT_HALF_HI_HALF p] s).set List.mem_cons_self
    (s.get (F.STAT_CNT_COUNT p k) + n)
  unfold State.stat
  extract_lets old u
  split
  · split
    · exact hset.setBit (by simp) k true
    · exact hset.setBit (by simp) (k - 32) true
  · exact hset

theorem ringOnFields_ne_stat (p k : Nat) : ∀ f ∈ ringOnFields,
    f.key ∉ [F.STAT_CNT_COUNT p k, F.STAT_HALF_LO_HALF p, F.STAT_HALF_HI_HALF p].map Fld.key := by
  simp [ringOnFields, Fld.key, F.RING_CTRL_ENABLE, F.SYS_PERSONA_HALTER, F.PWR_DOM_ON_ON, F.STAT_CNT_COUNT, F.STAT_HALF_LO_HALF,
    F.STAT_HALF_HI_HALF]
  omega

theorem State.stat_marks (s : State) (p k n : Nat) : (s.stat p k n).linkMarks = s.linkMarks :=
  (s.stat_only p k n).linkMarks (ringOnFields_ne_stat p k)

theorem State.unstat_marks (s : State) (p k n : Nat) : (s.unstat p k n).linkMarks = s.linkMarks :=
  ((Only.refl [F.STAT_CNT_COUNT p k, F.STAT_HALF_LO_HALF p, F.STAT_HALF_HI_HALF p] s).set List.mem_cons_self _).linkMarks
    (ringOnFields_ne_stat p k)

theorem State.unsend_marks (s : State) (x : Sent) : (s.unsend x).linkMarks = s.linkMarks := by
  simp only [State.unsend, apply_ite State.linkMarks, State.unstat_marks, ite_self]

/-- A frame cut off leaves the queues and the ring as they were. -/
theorem State.abandonFrame_marks (s : State) (p : Nat) : (s.abandonFrame p).linkMarks = s.linkMarks := by
  unfold State.abandonFrame
  split
  · exact s.stat_marks p 47 1
  · simp only [State.stat_marks, apply_ite State.linkMarks, State.unstat_marks, State.unsend_marks, ite_self]
    rfl

/-! ### LINK_UP and LINK_DOWN -/

/-- What a link that comes up shows. -/
def State.linkShown (s : State) (p speed : Nat) (full : Bool) : State :=
  ((((s.setB (F.MAC_STATUS_LINK p) true).set (F.MAC_STATUS_SPEED p) speed).setB (F.MAC_STATUS_HALF_DUPLEX p) (!full)).setB
    (F.MAC_IRQ_LINK p) true)

/-- What a link that dropped shows. -/
def State.linkLost (s : State) (p : Nat) : State :=
  (((s.setB (F.MAC_STATUS_LINK p) false).setB (F.MAC_IRQ_LINK p) true).setB (F.MAC_STATUS_LPI_TX p) false).setB
    (F.MAC_STATUS_LPI_RX p) false

/-- The registers that show a link. -/
def linkFields (p : Nat) : List Fld :=
  [F.MAC_STATUS_LINK p, F.MAC_STATUS_SPEED p, F.MAC_STATUS_HALF_DUPLEX p, F.MAC_IRQ_LINK p, F.MAC_STATUS_LPI_TX p,
    F.MAC_STATUS_LPI_RX p]

theorem linkFields_keys : ∀ p : Fin 3, ((linkFields p).map Fld.key).Nodup ∧ ∀ f ∈ ringOnFields, f.key ∉ (linkFields p).map Fld.key := by
  decide

theorem State.linkShown_only (s : State) (p speed : Nat) (full : Bool) :
    Only [F.MAC_STATUS_LINK p, F.MAC_STATUS_SPEED p, F.MAC_STATUS_HALF_DUPLEX p, F.MAC_IRQ_LINK p] s (s.linkShown p speed full) :=
  ((((Only.refl _ s).setB (by simp) true).set (by simp) speed).setB (by simp) (!full)).setB (by simp) true

theorem State.linkShown_shows (s : State) (p speed : Fin 3) (full : Bool) :
    (s.linkShown p speed full).getB (F.MAC_STATUS_LINK p) = true ∧ (s.linkShown p speed full).get (F.MAC_STATUS_SPEED p) = speed.val ∧
    (s.linkShown p speed full).getB (F.MAC_STATUS_HALF_DUPLEX p) = !full ∧
    (s.linkShown p speed full).getB (F.MAC_IRQ_LINK p) = true := by
  have hkeys := (linkFields_keys p).1
  simp only [linkFields, List.map_cons, List.map_nil, List.nodup_cons, List.mem_cons, List.not_mem_nil, or_false, not_or] at hkeys
  obtain ⟨⟨hls, hlh, hli, -, -⟩, ⟨hsh, hsi, -, -⟩, ⟨hhi, -, -⟩, -⟩ := hkeys
  unfold State.linkShown
  refine ⟨?_, ?_, ?_, State.getB_setB_self _ _ true rfl⟩
  · rw [State.getB_setB_other _ _ _ _ hli, State.getB_setB_other _ _ _ _ hlh, State.getB, State.get_set_other _ _ _ _ hls]
    exact State.getB_setB_self _ _ true rfl
  · rw [State.get_setB_other _ _ _ _ hsi, State.get_setB_other _ _ _ _ hsh, State.get_set_self]
    exact Nat.mod_eq_of_lt (lt_of_lt_of_le speed.isLt (show 3 ≤ 2 ^ 2 by decide))
  · rw [State.getB_setB_other _ _ _ _ hhi]
    exact State.getB_setB_self _ _ (!full) rfl

theorem State.linkLost_only (s : State) (p : Nat) :
    Only [F.MAC_STATUS_LINK p, F.MAC_IRQ_LINK p, F.MAC_STATUS_LPI_TX p, F.MAC_STATUS_LPI_RX p] s (s.linkLost p) :=
  ((((Only.refl _ s).setB (by simp) false).setB (by simp) true).setB (by simp) false).setB (by simp) false

theorem State.linkLost_shows (s : State) (p : Fin 3) :
    (s.linkLost p).getB (F.MAC_STATUS_LINK p) = false ∧ (s.linkLost p).getB (F.MAC_IRQ_LINK p) = true ∧
    (s.linkLost p).getB (F.MAC_STATUS_LPI_TX p) = false ∧ (s.linkLost p).getB (F.MAC_STATUS_LPI_RX p) = false := by
  have hkeys := (linkFields_keys p).1
  simp only [linkFields, List.map_cons, List.map_nil, List.nodup_cons, List.mem_cons, List.not_mem_nil, or_false, not_or] at hkeys
  obtain ⟨⟨-, -, hli, hlt, hlr⟩, -, -, ⟨hit, hir⟩, htr, -⟩ := hkeys
  unfold State.linkLost
  refine ⟨?_, ?_, ?_, State.getB_setB_self _ _ false rfl⟩
  · rw [State.getB_setB_other _ _ _ _ hlr, State.getB_setB_other _ _ _ _ hlt, State.getB_setB_other _ _ _ _ hli]
    exact State.getB_setB_self _ _ false rfl
  · rw [State.getB_setB_other _ _ _ _ hir, State.getB_setB_other _ _ _ _ hit]
    exact State.getB_setB_self _ _ true rfl
  · rw [State.getB_setB_other _ _ _ _ htr]
    exact State.getB_setB_self _ _ false rfl

theorem State.mac_updMac (s : State) {p : Nat} (hp : p < s.net.ports.length) (f : MacPort → MacPort) :
    (s.updMac p f).mac p = f (s.mac p) := by
  simp [State.mac, State.updMac, List.getD_eq_getElem?_getD, List.getElem?_set_self hp]

/-- The state of a port whose link dropped, before the ring judges it: its frames, but those that wait for the ring, are gone. -/
theorem State.linkDrop_eq {p : Fin 3} (hd : s.domOn (5 + p) = true) (hl : s.getB (F.MAC_STATUS_LINK p) = true)
    (hn : s.net.ports.length = 3) (cut : Cut) :
    ∃ t : State, t.linkMarks.2 = s.linkMarks.2 ∧ (t.mac p).txq = (s.mac p).txq.filter (fun x => decide (p.val < 2) && x.1 == 0) ∧
      s.linkDrop p cut = if p.val < 2 ∧ s.ringOn = true then (t.linkLost p).evalPort p else t.linkLost p := by
  unfold State.linkDrop
  rw [if_neg (by simp [hd, hl])]
  extract_lets s1 s2 gone n s3
  have h2 : s2.linkMarks = s.linkMarks := by
    simp only [s2, s1, apply_ite State.linkMarks, State.abandonFrame_marks, State.stat_marks, ite_self]
  have hstat : (s2.stat p 47 n).linkMarks = s.linkMarks := (s2.stat_marks p 47 n).trans h2
  have hports : (s2.stat p 47 n).net.ports = s.net.ports := congrArg Prod.fst hstat
  have h3 : s3.linkMarks.2 = s.linkMarks.2 := (show s3.linkMarks.2 = (s2.stat p 47 n).linkMarks.2 from rfl).trans (congrArg Prod.snd hstat)
  have hmac : (s2.stat p 47 n).mac p = s.mac p := by simp only [State.mac, hports]
  refine ⟨s3, h3, ?_, ?_⟩
  · have hlen : p.val < (s2.stat p 47 n).net.ports.length := by rw [hports, hn]; exact p.isLt
    rw [State.mac_updMac _ hlen, hmac]
    exact List.filter_congr fun x _ => by simp [gone]
  · have hon : (s3.linkLost p).ringOn = s.ringOn :=
      ((s3.linkLost_only p).ringOn fun f hf hmem => (linkFields_keys p).2 f hf (by
        simp only [linkFields, List.map_cons, List.map_nil, List.mem_cons, List.not_mem_nil, or_false] at hmem ⊢
        tauto)).trans (congrArg Prod.snd h3)
    rw [← hon]
    rfl

theorem exec_linkUp {p : Fin 3} (speed : Fin 3) (full : Bool) (hd : s.domOn (5 + p) = true)
    (hr : s.getB F.CLK_STATUS_REF_LOST = false) :
    exec (.linkUp p speed full) s = .next (if p.val < 2 ∧ s.ringOn = true then
      { (s.linkShown p speed full).evalPort p with pending := s.pending } else s.linkShown p speed full) := by
  have hon : (s.linkShown p speed full).ringOn = s.ringOn :=
    (s.linkShown_only p speed full).ringOn fun f hf hmem => (linkFields_keys p).2 f hf (by
      simp only [linkFields, List.map_cons, List.map_nil, List.mem_cons, List.not_mem_nil, or_false] at hmem ⊢
      tauto)
  have heff : exec (.linkUp p speed full) s = s.done (if p.val < 2 ∧ (s.linkShown p speed full).ringOn = true then
      (s.linkShown p speed full).evalPort p else s.linkShown p speed full) :=
    congrArg s.done (if_neg (by simp [hd, hr]))
  rw [heff, hon]
  split
  · rfl
  · exact State.done_next (s.linkShown_only p speed full).pending

/-! ### Wraps -/

theorem faultIrq_apart : F.RING_FAULT_IRQ_WRAP.key ∉ logFields.map Fld.key ∧ F.RING_WRAP_WRAPPED.key ∉ logFields.map Fld.key ∧
    (F.RING_FAULT_CNT_COUNT 6).key ∉ logFields.map Fld.key := by decide

/-- A wrap shows, raises its interrupt and is counted (R412). -/
theorem State.wrapRing_shows (s : State) : s.wrapRing.getB F.RING_WRAP_WRAPPED = true ∧ s.wrapRing.getB F.RING_FAULT_IRQ_WRAP = true ∧
    s.wrapRing.get (F.RING_FAULT_CNT_COUNT 6) =
      (s.get (F.RING_FAULT_CNT_COUNT 6) + 1) % 2 ^ (F.RING_FAULT_CNT_COUNT 6).width := by
  obtain ⟨hirq, hwrapped, hcnt⟩ := faultIrq_apart
  unfold State.wrapRing
  dsimp only
  refine ⟨?_, ?_, ?_⟩
  · rw [State.getB_updRing, State.getB, State.ev, State.get_addLog _ _ _ _ _ _ _ hwrapped, State.get_setB_other _ _ _ _ (by decide),
      State.faultCnt, State.inc, State.get_set_other _ _ _ _ (by decide)]
    exact State.getB_setB_self _ _ true rfl
  · rw [State.getB_updRing, State.getB, State.ev, State.get_addLog _ _ _ _ _ _ _ hirq]
    exact State.getB_setB_self _ _ true rfl
  · rw [State.get_updRing, State.ev, State.get_addLog _ _ _ _ _ _ _ hcnt, State.get_setB_other _ _ _ _ (by decide),
      State.faultCnt, State.inc, State.get_set_self, State.get_setB_other _ _ _ _ (by decide)]

/-- A launch that did not come back is counted once. -/
theorem State.noRet_counts {k : Nat} {l : Launch} (hl : l ∈ s.ring.launches) (hk : l.stride = k) (hc : l.counted = false) :
    (s.noRet k).get (F.RING_FAULT_CNT_COUNT 5) =
      (s.get (F.RING_FAULT_CNT_COUNT 5) + 1) % 2 ^ (F.RING_FAULT_CNT_COUNT 5).width := by
  have hany : s.ring.launches.any (fun l => l.stride == k && !l.counted) = true :=
    List.any_eq_true.mpr ⟨l, hl, by simp [hk, hc]⟩
  rw [State.noRet, if_pos hany, State.updLaunch, State.get_updRing, State.faultCnt, State.inc, State.get_set_self]

/-- Settles O55 (it holds): each clause is the branch of its command that its conditions select. -/
theorem linksWrapsAndHeals : Obligations.LinksWrapsAndHeals := by
  refine ⟨⟨fun s p speed full hd hr => ?_, fun s p cut hd hl hn => ?_⟩,
    fun s p a b hon hdead ha hb hua hub hstep hseg => ?_, fun s hon hst hw hc => ?_, fun s k l hl hk hdone hlate => ?_,
    fun s a b c rest hon hst hw hm hcr ha hb hc => ?_, fun s hon hst hk hl => ?_⟩
  · obtain ⟨h1, h2, h3, h4⟩ := s.linkShown_shows p speed full
    exact ⟨_, exec_linkUp speed full hd hr, h1, h2, h3, h4, s.linkShown_only p speed full⟩
  · obtain ⟨t, hmarks, hq, heq⟩ := State.linkDrop_eq hd hl hn cut
    obtain ⟨h1, h2, h3, h4⟩ := t.linkLost_shows p
    have hp : (t.linkLost p).pending = s.pending := (t.linkLost_only p).pending.trans (congrArg Prod.fst hmarks)
    have hmac : (t.linkLost p).mac p = t.mac p := by
      have := congrArg (fun u : State => u.mac p) (t.linkLost_only p).1
      exact this
    refine ⟨t.linkLost p, ?_, hp, h1, h2, h3, h4, by rw [hmac, hq]⟩
    show s.done (s.linkDrop p cut) = _
    rw [heq]
    split
    · rfl
    · exact State.done_next hp
  · refine congrArg s.done (if_pos ?_)
    have hmem : ∀ {x : OutSeen}, x ∈ s.ring.outs → s.unturned p x = true → x ∈ s.ring.outs.filter (s.unturned p) :=
      fun h1 h2 => List.mem_filter.mpr ⟨h1, h2⟩
    simp only [hon, hdead, Bool.not_false, Bool.true_and, List.any_eq_true]
    exact ⟨a, hmem ha hua, b, hmem hb hub, by simp [hstep, hseg]⟩
  · obtain ⟨h1, h2, h3⟩ := s.wrapRing_shows
    have hexec : exec .wrapEntry s = s.done s.wrapRing := by
      refine congrArg s.done (if_pos ?_)
      rcases hc with h | h | h | h | ⟨m, hm, hle⟩
      · simp [hon, hst, hw, h]
      · simp [hon, hst, hw, h]
      · simp [hon, hst, hw, h]
      · simp [hon, hst, hw, h]
      · simp [hon, hst, hw, hm, hle]
    generalize s.wrapRing = u at h1 h2 h3 hexec ⊢
    exact ⟨_, hexec, rfl, h1, h2, h3⟩
  · have hany : s.ring.launches.any (fun l => l.stride == k && !(l.doneA && l.doneB) && decide (l.stride + 16 ≤ s.stride)) = true :=
      List.any_eq_true.mpr ⟨l, hl, by simp only [hk, hdone, beq_self_eq_true, Bool.not_false, Bool.true_and, decide_eq_true_eq]; omega⟩
    have hcount := fun hc : l.counted = false => State.noRet_counts hl hk hc
    have hexec : exec (.retMissing k) s = s.done ((s.noRet k).updRing (fun r => { r with
        launches := r.launches.filter (fun l => l.stride ≠ k) })) := congrArg s.done (if_pos hany)
    generalize s.noRet k = u at hcount hexec
    exact ⟨_, hexec, fun x hx => by simpa using (List.mem_filter.mp hx).2, hcount⟩
  · have hall : (List.take 3 s.ring.crossed).length = 3 ∧ (List.take 3 s.ring.crossed).all (fun t => !t.back.isEmpty) = true := by
      simp [hcr, ha, hb, hc]
    refine congrArg s.done (if_pos ?_)
    simp [hon, hst, hw, hm, hall.1, hall.2]
  · exact congrArg s.done (if_pos (by simp [hon, hst, hk, hl]))

end Sys2Proof.Machine
end

section
/-! Frames through the MAC, its pauses and its low-power idle (R475, R485, R486, R500–R512, R537, R538): the settlement of O58. -/

namespace Sys2Proof.Machine

variable {s t : State} {fs : List Fld}

theorem Only.mac (h : Only fs s t) (p : Nat) : t.mac p = s.mac p := by
  have := congrArg (fun u : State => u.mac p) h.1
  exact this

theorem Only.ports (h : Only fs s t) : t.net.ports = s.net.ports := by
  have := congrArg (fun u : State => u.net.ports) h.1
  exact this

theorem Only.stride (h : Only fs s t) : t.stride = s.stride := by
  have := congrArg State.stride h.1
  exact this

/-! ### Counts -/

/-- The registers of a port's counts, and of its half-way marks. -/
theorem State.get_stat_self {p k : Nat} (hp : p < 3) (hk : k < 64) (s : State) (n : Nat) :
    (s.stat p k n).get (F.STAT_CNT_COUNT p k) = (s.get (F.STAT_CNT_COUNT p k) + n) % 2 ^ (F.STAT_CNT_COUNT p k).width := by
  have hlo : (F.STAT_CNT_COUNT p k).key ≠ (F.STAT_HALF_LO_HALF p).key := by
    simp only [Fld.key, F.STAT_CNT_COUNT, F.STAT_HALF_LO_HALF]
    omega
  have hhi : (F.STAT_CNT_COUNT p k).key ≠ (F.STAT_HALF_HI_HALF p).key := by
    simp only [Fld.key, F.STAT_CNT_COUNT, F.STAT_HALF_HI_HALF]
    omega
  unfold State.stat
  extract_lets old u
  have hu : u.get (F.STAT_CNT_COUNT p k) = (s.get (F.STAT_CNT_COUNT p k) + n) % 2 ^ (F.STAT_CNT_COUNT p k).width :=
    State.get_set_self ..
  split
  · split
    · rw [State.setBit, State.get_set_other _ _ _ _ hlo, hu]
    · rw [State.setBit, State.get_set_other _ _ _ _ hhi, hu]
  · exact hu

/-- A register of the MAC's ports. -/
def MacField (f : Fld) : Prop := 0x130000 ≤ f.addr ∧ f.addr < 0x140000 ∧ f.lo < 32

theorem State.get_stat_mac {f : Fld} (hf : MacField f) (s : State) (p k n : Nat) : (s.stat p k n).get f = s.get f := by
  obtain ⟨hlo, hhi, hbit⟩ := hf
  refine (s.stat_only p k n).2 f ?_
  simp only [List.map_cons, List.map_nil, List.mem_cons, List.not_mem_nil, or_false, not_or, Fld.key, F.STAT_CNT_COUNT,
    F.STAT_HALF_LO_HALF, F.STAT_HALF_HI_HALF]
  omega

theorem State.getB_stat_mac {f : Fld} (hf : MacField f) (s : State) (p k n : Nat) : (s.stat p k n).getB f = s.getB f := by
  rw [State.getB, State.get_stat_mac hf, State.getB]

theorem macFields_port : ∀ p : Fin 3, MacField (F.MAC_STATUS_LPI_TX p) ∧ MacField (F.MAC_STATUS_LPI_RX p) ∧
    MacField (F.MAC_STATUS_PAUSED p) ∧ MacField (F.MAC_PAUSE_REMAIN p) ∧ MacField (F.MAC_CFG_MAX_LEN p) := by
  unfold MacField
  decide

theorem statCount_ne_mac {p k : Nat} (hp : p < 3) (hk : k < 64) {f : Fld} (hf : MacField f) : (F.STAT_CNT_COUNT p k).key ≠ f.key := by
  obtain ⟨hlo, hhi, hbit⟩ := hf
  simp only [Fld.key, F.STAT_CNT_COUNT]
  omega

/-! ### Sending a frame leaves the MAC's settings -/

theorem State.setSecured_mac {f : Fld} (hf : MacField f) (s : State) {p : Nat} (hp : p < 3) (rx tx : Bool) :
    (s.setSecured p rx tx).get f = s.get f := by
  obtain ⟨hlo, hhi, hbit⟩ := hf
  have hirq : f.key ≠ F.SEC_IRQ_MACSEC.key := by simp only [Fld.key, F.SEC_IRQ_MACSEC]; omega
  have hrx : f.key ≠ (F.SEC_MACSEC_RX_SECURED p).key := by simp only [Fld.key, F.SEC_MACSEC_RX_SECURED]; omega
  have htx : f.key ≠ (F.SEC_MACSEC_TX_SECURED p).key := by simp only [Fld.key, F.SEC_MACSEC_TX_SECURED]; omega
  unfold State.setSecured
  rw [State.get_setB_other _ _ _ _ htx, State.get_setB_other _ _ _ _ hrx]
  split
  · exact State.get_setB_other _ _ _ _ hirq
  · rfl

theorem State.distributeSak_mac {f : Fld} (hf : MacField f) (s : State) {p : Nat} (hp : p < 3) :
    (s.distributeSak p).get f = s.get f := by
  have hkeys : f.key ≠ (F.SEC_MACSEC_REKEYS p).key := by
    obtain ⟨hlo, hhi, hbit⟩ := hf
    simp only [Fld.key, F.SEC_MACSEC_REKEYS]
    omega
  obtain ⟨d, b, hd⟩ := s.drbgDraw_frame
  unfold State.distributeSak State.installSak
  rw [State.setSecured_mac hf _ hp, State.inc, State.get_set_other _ _ _ _ hkeys, hd]
  rfl

theorem State.sendFrame_mac {f : Fld} (hf : MacField f) (s : State) {p : Nat} (hp : p < 3) (bytes : List Byte) (poisoned wilnan : Bool) :
    (s.sendFrame p bytes poisoned wilnan).get f = s.get f := by
  unfold State.sendFrame
  extract_lets b h sec n _ s1 s2 s3 s4
  have h3 : s3.get f = s.get f := by
    simp only [s3, s2, apply_ite (State.get · f), State.get_stat_mac hf, ite_self]
    rfl
  have h4 : s4.get f = s.get f := (State.get_stat_mac hf s3 p 44 1).trans h3
  split
  · split
    · exact (State.distributeSak_mac hf s4 hp).trans h4
    · exact h4
  · exact h3

theorem State.getB_set_ne {f g : Fld} (s : State) (v : Nat) (h : f.key ≠ g.key) : (s.set g v).getB f = s.getB f := by
  rw [State.getB, State.get_set_other _ _ _ _ h, State.getB]

/-! ### Received frames -/

theorem exec_frameReceived_uncarried {p : Fin 3} (hc : s.carries p = false) (f : RxFrame) (at_ : Nat) (mka : Option MkaSeen) :
    exec (.frameReceived p f at_ mka) s = .next s :=
  congrArg s.done (if_neg (by simp [hc]))

theorem exec_frameReceived_carried {p : Fin 3} (hc : s.carries p = true) {f : RxFrame} {at_ : Nat} {mka : Option MkaSeen}
    (hr : s.receiveFrame p f at_ mka = t) : exec (.frameReceived p f at_ mka) s = s.done t :=
  congrArg s.done ((if_pos hc).trans hr)

theorem State.receiveFrame_wilnan {p : Nat} {f : RxFrame} (hp : p < 2) (he : (ethHdr f.bytes).etype = s.get F.RING_ETYPE_ETYPE)
    (at_ : Nat) (mka : Option MkaSeen) : s.receiveFrame p f at_ mka = s.receiveWilnan p f at_ :=
  if_pos ⟨hp, he⟩

theorem State.receiveFrame_plain {p : Fin 3} {f : RxFrame} (hpe : p.val = 2 ∨ (ethHdr f.bytes).etype ≠ s.get F.RING_ETYPE_ETYPE)
    (at_ : Nat) (mka : Option MkaSeen) :
    s.receiveFrame p f at_ mka =
      if !(s.acceptFrame p f).2 then (s.acceptFrame p f).1
      else if (ethHdr f.bytes).etype = 0x8808 ∧ !(ethHdr f.bytes).secTag then
        (s.acceptFrame p f).1.controlFrame p f.bytes (ethHdr f.bytes)
      else if !((s.acceptFrame p f).1.macsecCheck p f).2 then ((s.acceptFrame p f).1.macsecCheck p f).1
      else (((s.acceptFrame p f).1.macsecCheck p f).1.stampPtp p false f.bytes (ethHdr f.bytes) at_).parseAndQueue
        p f.bytes (ethHdr f.bytes) mka :=
  if_neg (by omega)

/-! ### Pauses and low-power idle -/

theorem State.pauseBroken_facts (hn : s.net.ports.length = 3) {u : State}
    (hu : u = (((s.setB (F.MAC_STATUS_PAUSED 2) false).set (F.MAC_PAUSE_REMAIN 2) 0).stat 2 51 1).setB
      (F.MAC_IRQ_PAUSE_BROKEN 2) true) :
    u.getB (F.MAC_STATUS_PAUSED 2) = false ∧ u.get (F.MAC_PAUSE_REMAIN 2) = 0 ∧ u.getB (F.MAC_IRQ_PAUSE_BROKEN 2) = true ∧
      u.stride = s.stride ∧ u.net.ports.length = 3 ∧
      u.get (F.STAT_CNT_COUNT 2 51) = (s.get (F.STAT_CNT_COUNT 2 51) + 1) % 2 ^ (F.STAT_CNT_COUNT 2 51).width := by
  have hpaused : MacField (F.MAC_STATUS_PAUSED 2) := (macFields_port 2).2.2.1
  have hremain : MacField (F.MAC_PAUSE_REMAIN 2) := (macFields_port 2).2.2.2.1
  have hstat := State.stat_only ((s.setB (F.MAC_STATUS_PAUSED 2) false).set (F.MAC_PAUSE_REMAIN 2) 0) 2 51 1
  have honly : u.stride = s.stride ∧ u.net.ports = s.net.ports := hu ▸ ⟨hstat.stride, hstat.ports⟩
  refine ⟨?_, ?_, ?_, honly.1, honly.2 ▸ hn, ?_⟩ <;> subst hu
  · rw [State.getB_setB_other _ _ _ _ (by decide), State.getB_stat_mac hpaused, State.getB_set_ne _ _ (by decide)]
    exact State.getB_setB_self _ _ _ rfl
  · rw [State.get_setB_other _ _ _ _ (by decide), State.get_stat_mac hremain]
    exact State.get_set_self ..
  · exact State.getB_setB_self _ _ _ rfl
  · rw [State.get_setB_other _ _ _ _ (by decide), State.get_stat_self (by decide) (by decide),
      State.get_set_other _ _ _ _ (by decide), State.get_setB_other _ _ _ _ (by decide)]

theorem exec_pauseWatchdog_broken {ms : Nat} (hp : s.getB (F.MAC_STATUS_PAUSED 2) = true)
    (hms : s.get (F.MAC_PAUSE_WATCHDOG_MS 2) ≤ ms) (hn : s.net.ports.length = 3) :
    ∃ t, exec (.pauseWatchdog ms) s = .next t ∧ t.getB (F.MAC_STATUS_PAUSED 2) = false ∧ t.get (F.MAC_PAUSE_REMAIN 2) = 0 ∧
      t.getB (F.MAC_IRQ_PAUSE_BROKEN 2) = true ∧ (t.mac 2).brokenAt = some s.stride ∧
      t.get (F.STAT_CNT_COUNT 2 51) = (s.get (F.STAT_CNT_COUNT 2 51) + 1) % 2 ^ (F.STAT_CNT_COUNT 2 51).width := by
  have hexec : exec (.pauseWatchdog ms) s = s.done ((((((s.setB (F.MAC_STATUS_PAUSED 2) false).set (F.MAC_PAUSE_REMAIN 2) 0).stat
      2 51 1).setB (F.MAC_IRQ_PAUSE_BROKEN 2) true)).updMac 2 (fun m => { m with
          brokenAt := some (((s.setB (F.MAC_STATUS_PAUSED 2) false).set (F.MAC_PAUSE_REMAIN 2) 0).stat 2 51 1).stride })) :=
    congrArg s.done (if_pos (by simp [hp, hms]))
  have hstride : (((s.setB (F.MAC_STATUS_PAUSED 2) false).set (F.MAC_PAUSE_REMAIN 2) 0).stat 2 51 1).stride = s.stride :=
    (State.stat_only _ 2 51 1).stride
  rw [hstride] at hexec
  have hfacts := State.pauseBroken_facts hn rfl
  generalize ((((s.setB (F.MAC_STATUS_PAUSED 2) false).set (F.MAC_PAUSE_REMAIN 2) 0).stat 2 51 1).setB
    (F.MAC_IRQ_PAUSE_BROKEN 2) true) = u at hfacts hexec
  obtain ⟨hpaused, hremain, hirq, -, hports, hcount⟩ := hfacts
  refine ⟨_, hexec, hpaused, hremain, hirq, ?_, hcount⟩
  have hmac := State.mac_updMac u (p := 2) (by rw [hports]; decide) fun m => { m with brokenAt := some s.stride }
  exact congrArg MacPort.brokenAt hmac

theorem State.enterLpi_facts {p : Fin 3} (hon : s.eeeOn p = true) (hl : s.getB (F.MAC_STATUS_LPI_TX p) = false) :
    (s.enterLpi p).getB (F.MAC_STATUS_LPI_TX p) = true ∧
      (s.enterLpi p).get (F.STAT_CNT_COUNT p 48) = (s.get (F.STAT_CNT_COUNT p 48) + 1) % 2 ^ (F.STAT_CNT_COUNT p 48).width := by
  obtain ⟨htx, -⟩ := macFields_port p
  have henter : s.enterLpi p = ((s.setB (F.MAC_STATUS_LPI_TX p) true).stat p 48 1).updMac p (fun q => { q with lpiSince := s.stride }) :=
    if_pos (by simp [hon, hl])
  rw [henter]
  constructor
  · exact (State.getB_stat_mac htx ..).trans (State.getB_setB_self _ _ _ rfl)
  · refine (State.get_stat_self p.isLt (by decide) _ 1).trans ?_
    rw [State.get_setB_other _ _ _ _ (statCount_ne_mac p.isLt (by decide) htx)]

theorem lpiKeys (p : Fin 3) : MacField (F.MAC_EEE_TW_APPLIED p) ∧ (F.MAC_STATUS_LPI_TX p).key ≠ (F.MAC_EEE_TW_APPLIED p).key ∧
    (F.MAC_STATUS_LPI_RX p).key ≠ (F.MAC_EEE_TW_APPLIED p).key ∧ (F.MAC_STATUS_LPI_TX p).key ≠ (F.MAC_STATUS_LPI_RX p).key := by
  revert p
  unfold MacField
  decide

/-- What leaving low-power idle shows and keeps. -/
theorem State.leaveLpi_facts {p : Fin 3} (hl : s.getB (F.MAC_STATUS_LPI_TX p) = true) (hn : s.net.ports.length = 3) (at_ us : Nat) :
    (s.leaveLpi p at_ us).getB (F.MAC_STATUS_LPI_TX p) = false ∧
      (s.leaveLpi p at_ us).getB (F.MAC_STATUS_LPI_RX p) = s.getB (F.MAC_STATUS_LPI_RX p) ∧
      (s.leaveLpi p at_ us).get (F.STAT_CNT_COUNT p 49) =
        (s.get (F.STAT_CNT_COUNT p 49) + us) % 2 ^ (F.STAT_CNT_COUNT p 49).width ∧
      ((s.leaveLpi p at_ us).mac p).lpiLeft = some (s.stride, at_) := by
  obtain ⟨htx, hrx, -⟩ := macFields_port p
  obtain ⟨htw, htxTw, hrxTw, htxRx⟩ := lpiKeys p
  have hstat := State.stat_only (s.setB (F.MAC_STATUS_LPI_TX p) false) p 49 us
  have hstride : ((s.setB (F.MAC_STATUS_LPI_TX p) false).stat p 49 us).stride = s.stride := hstat.stride
  have hleave : s.leaveLpi p at_ us =
      (((s.setB (F.MAC_STATUS_LPI_TX p) false).stat p 49 us).set (F.MAC_EEE_TW_APPLIED p)
        (((s.setB (F.MAC_STATUS_LPI_TX p) false).stat p 49 us).lpiTw p)).updMac p (fun q => { q with
          lpiLeft := some (((s.setB (F.MAC_STATUS_LPI_TX p) false).stat p 49 us).stride, at_) }) :=
    if_pos hl
  rw [hleave, hstride]
  generalize hw : ((s.setB (F.MAC_STATUS_LPI_TX p) false).stat p 49 us).lpiTw p = w
  refine ⟨?_, ?_, ?_, ?_⟩
  · exact (State.getB_set_ne _ _ htxTw).trans ((State.getB_stat_mac htx ..).trans (State.getB_setB_self _ _ _ rfl))
  · exact (State.getB_set_ne _ _ hrxTw).trans ((State.getB_stat_mac hrx ..).trans
      (State.getB_setB_other _ _ _ _ (Ne.symm htxRx)))
  · refine (State.get_set_other _ _ _ _ (statCount_ne_mac p.isLt (by decide) htw)).trans ?_
    rw [State.get_stat_self p.isLt (by decide), State.get_setB_other _ _ _ _ (statCount_ne_mac p.isLt (by decide) htx)]
  · have hports : ((((s.setB (F.MAC_STATUS_LPI_TX p) false).stat p 49 us).set (F.MAC_EEE_TW_APPLIED p) w)).net.ports = s.net.ports :=
      hstat.ports
    exact congrArg MacPort.lpiLeft (State.mac_updMac _ (by rw [hports, hn]; exact p.isLt) _)

theorem exec_lpiLeave_left {p : Fin 3} {cause : Fin 4} (at_ us : Nat)
    (hqueue : cause = 0 → (s.mac p).txq ≠ [] ∧ (p.val = 2 → s.getB (F.MAC_STATUS_PAUSED 2) = false))
    (hother : cause = 2 → p.val < 2 ∧ s.getB (F.MAC_STATUS_LPI_TX (1 - p)) = false)
    (hslack : cause = 3 → p.val < 2 ∧ s.getB F.RING_STATE_SLACK = false) :
    exec (.lpiLeave p cause at_ us) s =
      s.done (if cause = 1 then (s.setB (F.MAC_STATUS_LPI_RX p) false).leaveLpi p at_ us else s.leaveLpi p at_ us) := by
  match cause with
  | 0 =>
    obtain ⟨hq, hp⟩ := hqueue rfl
    exact congrArg s.done (if_pos (by
      simp only [Bool.and_eq_true, Bool.not_eq_true', List.isEmpty_eq_false_iff, Bool.and_eq_false_imp, beq_iff_eq]
      exact ⟨hq, hp⟩))
  | 1 => rfl
  | 2 =>
    obtain ⟨hp, hl⟩ := hother rfl
    exact congrArg s.done (if_pos ⟨hp, by simp [hl]⟩)
  | 3 =>
    obtain ⟨hp, hl⟩ := hslack rfl
    exact congrArg s.done (if_pos ⟨hp, by simp [hl]⟩)

theorem exec_lpiLeave_shows {p : Fin 3} {cause : Fin 4} (at_ us : Nat)
    (hqueue : cause = 0 → (s.mac p).txq ≠ [] ∧ (p.val = 2 → s.getB (F.MAC_STATUS_PAUSED 2) = false))
    (hother : cause = 2 → p.val < 2 ∧ s.getB (F.MAC_STATUS_LPI_TX (1 - p)) = false)
    (hslack : cause = 3 → p.val < 2 ∧ s.getB F.RING_STATE_SLACK = false)
    (hl : s.getB (F.MAC_STATUS_LPI_TX p) = true) (hn : s.net.ports.length = 3) :
    ∃ t, exec (.lpiLeave p cause at_ us) s = .next t ∧ t.getB (F.MAC_STATUS_LPI_TX p) = false ∧
      (cause = 1 → t.getB (F.MAC_STATUS_LPI_RX p) = false) ∧
      t.get (F.STAT_CNT_COUNT p 49) = (s.get (F.STAT_CNT_COUNT p 49) + us) % 2 ^ (F.STAT_CNT_COUNT p 49).width ∧
      (t.mac p).lpiLeft = some (s.stride, at_) := by
  obtain ⟨-, hrxField, -⟩ := macFields_port p
  obtain ⟨-, -, -, htxRx⟩ := lpiKeys p
  have hexec := exec_lpiLeave_left at_ us hqueue hother hslack
  by_cases hphy : cause = 1
  · rw [if_pos hphy] at hexec
    obtain ⟨htx, hrx, hcount, hleft⟩ := State.leaveLpi_facts (s := s.setB (F.MAC_STATUS_LPI_RX p) false) (p := p)
      ((State.getB_setB_other _ _ _ _ htxRx).trans hl) hn at_ us
    rw [State.getB_setB_self _ _ _ rfl] at hrx
    rw [State.get_setB_other _ _ _ _ (statCount_ne_mac p.isLt (by decide) hrxField)] at hcount
    generalize (s.setB (F.MAC_STATUS_LPI_RX p) false).leaveLpi p at_ us = u at hexec htx hrx hcount hleft
    exact ⟨_, hexec, htx, fun _ => hrx, hcount, hleft⟩
  · rw [if_neg hphy] at hexec
    obtain ⟨htx, -, hcount, hleft⟩ := State.leaveLpi_facts hl hn at_ us
    generalize s.leaveLpi p at_ us = u at hexec htx hcount hleft
    exact ⟨_, hexec, htx, fun h => absurd h hphy, hcount, hleft⟩

theorem exec_phyRxLpiEntry_shows {p : Fin 3} (hc : s.carries p = true) (hl : s.getB (F.MAC_STATUS_LPI_RX p) = false) :
    ∃ t, exec (.phyRxLpiEntry p) s = .next t ∧ t.getB (F.MAC_STATUS_LPI_RX p) = true ∧
      t.get (F.STAT_CNT_COUNT p 36) = (s.get (F.STAT_CNT_COUNT p 36) + 1) % 2 ^ (F.STAT_CNT_COUNT p 36).width := by
  obtain ⟨-, hrx, -⟩ := macFields_port p
  have hexec : exec (.phyRxLpiEntry p) s = s.done ((s.setB (F.MAC_STATUS_LPI_RX p) true).stat p 36 1) :=
    congrArg s.done (if_pos (by simp [hc, hl]))
  refine ⟨_, hexec, ?_, ?_⟩
  · exact (State.getB_stat_mac hrx ..).trans (State.getB_setB_self _ _ _ rfl)
  · refine (State.get_stat_self p.isLt (by decide) _ 1).trans ?_
    rw [State.get_setB_other _ _ _ _ (statCount_ne_mac p.isLt (by decide) hrx)]

/-! ### A frame's start -/

theorem State.stampPtp_regs (s : State) (p : Nat) (sent : Bool) (l : List Byte) (h : EthHdr) (at_ : Nat) :
    (s.stampPtp p sent l h at_).regs = s.regs := by
  unfold State.stampPtp
  split <;> rfl

/-- The frame that may start leaves its queue, is stamped, and is sent, or ends poisoned where it ran dry. -/
theorem exec_txFrameStart_started {u : State} {p : Fin 3} {queued beamNs at_ q : Nat} {l x : List Byte} (dry : Bool)
    (hnext : s.nextTx p = some (q, l)) (hc : s.carries p = true) (ha : s.awakeAt p at_ = true)
    (hpause : p.val = 2 → s.getB (F.MAC_STATUS_PAUSED 2) = false)
    (henough : l.length ≤ queued ∨ (¬ (p.val < 2 ∧ q = 0) ∧ s.get (F.MAC_TXQ_THRESH_CURRENT p q) ≠ 0 ∧
      64 * s.get (F.MAC_TXQ_THRESH_CURRENT p q) ≤ queued))
    (hbeam : p.val < 2 → s.wireNs p (s.wireLength p l.length) + 1000 ≤ beamNs)
    (hx : x = s.stampedFrame p l at_)
    (hu : u = (s.updMac p (fun m => { m with txq := dropFirst q m.txq })).stampPtp p true x (ethHdr x) at_) :
    exec (.txFrameStart p queued dry beamNs at_) s = s.done
      (if dry && decide (queued < x.length) then
        (((u.sendFrame p (x.take queued) true false).stat p 46 1).setB (F.MAC_IRQ_UNDERRUN p) true).set
          (F.MAC_TXQ_THRESH_CURRENT p q) (if (s.get (F.MAC_TXQ_THRESH_CURRENT p q) + 4) * 64 <
            (((u.sendFrame p (x.take queued) true false).stat p 46 1).setB (F.MAC_IRQ_UNDERRUN p) true).get (F.MAC_CFG_MAX_LEN p)
            then s.get (F.MAC_TXQ_THRESH_CURRENT p q) + 4 else 0)
      else u.sendFrame p x false (decide (p.val < 2) && q == 0)) := by
  subst hu hx
  change execTxFrameStart p queued dry beamNs at_ s = _
  unfold execTxFrameStart
  rw [hnext]
  refine congrArg s.done (if_neg ?_)
  simp only [Bool.or_eq_true, Bool.and_eq_true, Bool.not_eq_true', Bool.or_eq_false_iff, Bool.and_eq_false_imp, decide_eq_true_eq,
    decide_eq_false_iff_not, beq_iff_eq, bne_iff_ne, hc, ha, Bool.true_eq_false, false_or, not_or, not_and, not_lt,
    Bool.not_eq_true]
  refine ⟨⟨hpause, ?_⟩, hbeam⟩
  intro hlong
  obtain hall | ⟨hring, hcur, hthresh⟩ := henough
  · exact absurd hall hlong
  · exact fun hno => hno ⟨fun hp => beq_false_of_ne fun hq => hring ⟨hp, hq⟩, hcur⟩ hthresh

theorem State.underrun_maxLen {u : State} {p : Fin 3} (hu : u.regs = s.regs) (bytes : List Byte) :
    (((u.sendFrame p bytes true false).stat p 46 1).setB (F.MAC_IRQ_UNDERRUN p) true).get (F.MAC_CFG_MAX_LEN p) =
      s.get (F.MAC_CFG_MAX_LEN p) := by
  obtain ⟨-, -, -, -, hmax⟩ := macFields_port p
  have hkey : ∀ p : Fin 3, (F.MAC_CFG_MAX_LEN p).key ≠ (F.MAC_IRQ_UNDERRUN p).key := by decide
  rw [State.get_setB_other _ _ _ _ (hkey p), State.get_stat_mac hmax, State.sendFrame_mac hmax _ p.isLt, State.get, hu, State.get]

/-! ### The settlement -/

/-- Settles O58: each branch of the reception, and each rule of pauses, starts and low-power idle, on a state that meets its condition. -/
theorem framesPassTheMac : Obligations.FramesPassTheMac := by
  refine ⟨fun s p f at_ mka => ⟨fun hc => exec_frameReceived_uncarried hc f at_ mka, fun hc => ⟨?_, ?_⟩⟩, ⟨?_, ?_⟩, ?_, ?_, ?_, ?_⟩
  · exact fun hp he => exec_frameReceived_carried hc (State.receiveFrame_wilnan hp he at_ mka)
  · intro hpe
    have hplain := State.receiveFrame_plain hpe at_ mka
    refine ⟨?_, ?_, ?_⟩
    · intro ha
      exact exec_frameReceived_carried hc (hplain.trans (if_pos (by simp [ha])))
    · intro ha he ht
      rw [if_neg (by simp [ha]), if_pos ⟨he, by simp [ht]⟩] at hplain
      exact exec_frameReceived_carried hc hplain
    · intro u ha het
      have hdata : ¬((ethHdr f.bytes).etype = 0x8808 ∧ (!(ethHdr f.bytes).secTag) = true) := by
        rintro ⟨he, ht⟩
        obtain hn | hn := het
        · exact hn he
        · simp [hn] at ht
      rw [if_neg (by simp [ha]), if_neg hdata] at hplain
      constructor
      · intro hm
        rw [hm] at hplain
        exact exec_frameReceived_carried hc hplain
      · intro hm
        rw [hm] at hplain
        exact exec_frameReceived_carried hc hplain
  · exact fun s bits hp hq => congrArg s.done (if_pos (by simp [hp, hq]))
  · exact fun s ms hp hms hn => exec_pauseWatchdog_broken hp hms hn
  · intro s u p queued beamNs at_ q dry l x hnext hc ha hpause henough hbeam hx hu
    have hexec := exec_txFrameStart_started dry hnext hc ha hpause henough hbeam hx hu
    constructor
    · intro hwhole
      rw [if_neg (by simp only [Bool.and_eq_true, decide_eq_true_eq]; rintro ⟨hd, hq⟩; simp_all; omega)] at hexec
      exact hexec
    · intro hd hq
      have hregs : u.regs = s.regs := hu ▸ State.stampPtp_regs ..
      rw [if_pos (by simp [hd, hq]), State.underrun_maxLen hregs] at hexec
      exact ⟨_, rfl, hexec⟩
  · intro s us hq hp hus hon hl
    have hexec : exec (.lpiEnter us) s = s.done (s.enterLpi 2) := congrArg s.done (if_pos (by simp [hq, hp, hus]))
    obtain ⟨htx, hcount⟩ := State.enterLpi_facts (p := 2) hon hl
    exact ⟨_, hexec, htx, hcount⟩
  · exact fun s p cause at_ us h0 h2 h3 hl hn => exec_lpiLeave_shows at_ us h0 h2 h3 hl hn
  · exact fun s p hc hl => exec_phyRxLpiEntry_shows hc hl

end Sys2Proof.Machine
end

section
/-! Zeroisation begins (R658, R659), and the expiries and tampers of the island (R632, R634, R663–R667): the settlement of O30. -/

namespace Sys2Proof.Machine

variable {s t : State} {f : Fld}

/-! ### The island beside its generator -/

/-- The island, beside its entropy source and generator. -/
def State.steadyIsle (s : State) : SecState := { s.isle with drbg := none, blocks := 0 }

theorem State.steadyIsle_of_vault (h : t.vault = s.vault) : t.steadyIsle = s.steadyIsle := congrArg Vault.isle h

theorem State.closeSessions_isle (s : State) :
    s.closeSessions.isle = { s.isle with challenges := [], locked := [], nets := [] } := State.showSec_isle _

/-- The mailbox's words once a service has ended: the input erased, the output in place (R638). -/
def State.answerWords (s : State) (out : List Byte) : State :=
  (List.range 64).foldl (fun s w =>
    (s.set (F.SEC_MBOX_IN_DATA w) 0).set (F.SEC_MBOX_OUT_DATA w) (beNat (padBytes 4 ((out.drop (4 * w)).take 4)))) s

theorem State.endService_eq (s : State) (code : Nat) (out : List Byte) : s.endService code out =
    ((((({ s with isle := { s.isle with mbox := none } } : State).setB F.SEC_MBOX_STATUS_BUSY false).set F.SEC_MBOX_STATUS_CODE
      code).set F.SEC_MBOX_STATUS_OUT_LENGTH out.length).answerWords out).setB F.SEC_IRQ_MBOX_DONE true := rfl

theorem State.answerWords_isle (s : State) (out : List Byte) : (s.answerWords out).isle = s.isle :=
  foldl_keeps State.isle (g := fun (s : State) w => (s.set (F.SEC_MBOX_IN_DATA w) 0).set (F.SEC_MBOX_OUT_DATA w)
    (beNat (padBytes 4 ((out.drop (4 * w)).take 4)))) (fun _ _ => rfl) _ _

theorem State.endService_isle (s : State) (code : Nat) (out : List Byte) :
    (s.endService code out).isle = { s.isle with mbox := none } := by
  rw [State.endService_eq, State.setB_isle, State.answerWords_isle, State.set_isle, State.set_isle, State.setB_isle]

theorem State.endLoads_steadyIsle (s : State) : s.endLoads.steadyIsle = s.steadyIsle := by
  unfold State.endLoads
  extract_lets t
  have ht : t.vault = s.vault := by
    simp only [t, apply_ite State.vault, State.dropEntering_vault, ite_self]
  exact State.steadyIsle_of_vault (t := t) ht

/-- The node with a zeroisation begun: beams cut, the cause marked, sessions and channels ended. -/
def State.zeroBegun (s : State) (c : Nat) : State :=
  ((({ s.spoilFrames.cutBeams with isle := { s.spoilFrames.cutBeams.isle with zeroing := some c } } : State).set
    F.SEC_STATUS_STATE 3).closeSessions).endChannels

theorem State.startZero_begun (hz : s.isle.zeroing = none) (c : Nat) {u : State} (hu : s.zeroBegun c = u) :
    (u.isle.mbox = none → s.startZero c = u.endLoads) ∧
      (∀ b, u.isle.mbox = some b → s.startZero c = (u.endService 11 []).endLoads) := by
  unfold State.startZero
  rw [if_neg (by simp [hz])]
  extract_lets s1 _ s2 s3 s4 s5
  have h4 : s4 = u := hu
  constructor
  · intro hnone
    have h5 : s5 = s4 := by
      simp only [s5]
      rw [h4, hnone]
    rw [h5, h4]
  · intro b hb
    have h5 : s5 = s4.endService 11 [] := by
      simp only [s5]
      rw [h4, hb]
    rw [h5, h4]

theorem State.zeroBegun_steadyIsle (s : State) (c : Nat) : (s.zeroBegun c).steadyIsle =
    { s.steadyIsle with zeroing := some c, challenges := [], locked := [], nets := [] } := by
  have hcut : s.spoilFrames.cutBeams.steadyIsle = s.steadyIsle :=
    State.steadyIsle_of_vault ((State.cutBeams_vault _).trans (State.spoilFrames_vault _))
  rw [State.zeroBegun, State.steadyIsle_of_vault (State.endChannels_vault _), ← hcut]
  generalize s.spoilFrames.cutBeams = u
  rw [State.steadyIsle, State.closeSessions_isle]
  rfl

/-- What a zeroisation makes of the island. -/
theorem State.startZero_isle (hz : s.isle.zeroing = none) (c : Nat) : (s.startZero c).steadyIsle =
    { s.steadyIsle with zeroing := some c, challenges := [], locked := [], nets := [], mbox := none } := by
  obtain ⟨u, hu⟩ : ∃ u, s.zeroBegun c = u := ⟨_, rfl⟩
  obtain ⟨hidle, hserving⟩ := State.startZero_begun hz c hu
  have hbegun := s.zeroBegun_steadyIsle c
  rw [hu] at hbegun
  have hended : { u.steadyIsle with mbox := none } =
      { s.steadyIsle with zeroing := some c, challenges := [], locked := [], nets := [], mbox := none } :=
    congrArg (fun i : SecState => { i with mbox := none }) hbegun
  rw [← hended]
  cases hm : u.isle.mbox with
  | none =>
    rw [hidle hm, State.endLoads_steadyIsle, ← hm]
    rfl
  | some b =>
    rw [hserving b hm, State.endLoads_steadyIsle, State.steadyIsle, State.endService_isle]
    rfl

/-! ### The island's own registers -/

/-- A register of the island's state, its sessions or its mailbox. -/
def IslandField (f : Fld) : Prop := (f.addr = 0x90000 ∨ f.addr = 0x90014 ∨ f.addr = 0x90104) ∧ f.lo < 32

theorem State.endSecure_island (hf : IslandField f) (s : State) {p : Nat} (hp : p < 3) : (s.endSecure p).get f = s.get f := by
  obtain ⟨haddr, hlo⟩ := hf
  have hlive : f.key ≠ (F.SEC_MACSEC_PEER_LIVE p).key := by simp only [Fld.key, F.SEC_MACSEC_PEER_LIVE]; omega
  have hirq : f.key ≠ F.SEC_IRQ_MACSEC.key := by simp only [Fld.key, F.SEC_IRQ_MACSEC]; omega
  have hrx : f.key ≠ (F.SEC_MACSEC_RX_SECURED p).key := by simp only [Fld.key, F.SEC_MACSEC_RX_SECURED]; omega
  have htx : f.key ≠ (F.SEC_MACSEC_TX_SECURED p).key := by simp only [Fld.key, F.SEC_MACSEC_TX_SECURED]; omega
  unfold State.endSecure State.setSecured
  rw [State.get_setB_other _ _ _ _ htx, State.get_setB_other _ _ _ _ hrx]
  split
  · rw [State.get_setB_other _ _ _ _ hirq, State.get_setB_other _ _ _ _ hlive]
    rfl
  · rw [State.get_setB_other _ _ _ _ hlive]
    rfl

theorem State.evalPort_island (hf : IslandField f) (s : State) (p : Nat) : (s.evalPort p).get f = s.get f := by
  obtain ⟨haddr, hlo⟩ := hf
  have hmended : f.key ≠ (F.RING_PORT_MENDED p).key := by simp only [Fld.key, F.RING_PORT_MENDED]; omega
  have hcause : f.key ≠ (F.RING_PORT_CAUSE p).key := by simp only [Fld.key, F.RING_PORT_CAUSE]; omega
  have hrole : f.key ≠ (F.RING_PORT_ROLE p).key := by simp only [Fld.key, F.RING_PORT_ROLE]; omega
  have hend : f.key ≠ (if p = 0 then F.RING_WRAP_END_A else F.RING_WRAP_END_B).key := by
    split <;> simp only [Fld.key, F.RING_WRAP_END_A, F.RING_WRAP_END_B] <;> omega
  have hirq : f.key ≠ F.RING_FAULT_IRQ_WRAP.key := by simp only [Fld.key, F.RING_FAULT_IRQ_WRAP]; omega
  unfold State.evalPort
  extract_lets up st mended s1 s2 c s3 down adrift silent leaving s4 s5
  have h4 : s4.get f = s.get f := by
    simp only [s4, s3, s2, s1, State.get_set_other _ _ _ _ hcause, apply_ite (State.get · f), State.setProbes, State.get_updRing,
      State.get_setB_other _ _ _ _ hmended, ite_self]
  split
  · simp only [s5, State.get_updRing, State.setProbes, State.setDead, State.get_setB_other _ _ _ _ hirq,
      State.get_setB_other _ _ _ _ hmended, State.get_setB_other _ _ _ _ hend, State.get_setB_other _ _ _ _ hrole, h4]
  · exact h4

theorem State.endChannels_island (hf : IslandField f) (s : State) : s.endChannels.get f = s.get f := by
  have hport : ∀ (s : State) {p : Nat}, p < 3 → ((s.endSecure p).afterSec p).get f = s.get f := fun s p hp => by
    rw [State.afterSec, apply_ite (State.get · f), State.evalPort_island hf, ite_self, State.endSecure_island hf s hp]
  unfold State.endChannels
  rw [show List.range 3 = [0, 1, 2] from rfl]
  simp only [List.foldl_cons, List.foldl_nil]
  rw [hport _ (by decide), hport _ (by decide), hport _ (by decide)]

theorem State.powerGroups_island (hf : IslandField f) (s : State) (groups : Nat) : (s.powerGroups groups).get f = s.get f := by
  obtain ⟨haddr, hlo⟩ := hf
  have hon : f.key ≠ F.FAB_GROUP_PWR_ON.key := by simp only [Fld.key, F.FAB_GROUP_PWR_ON]; omega
  have hdom : f.key ≠ F.PWR_DOM_ON_ON.key := by simp only [Fld.key, F.PWR_DOM_ON_ON]; omega
  exact (State.get_set_other _ _ _ _ hdom).trans (State.get_set_other _ _ _ _ hon)

theorem State.dropEntering_island (hf : IslandField f) (s : State) : s.dropEntering.get f = s.get f := by
  have hstate : ∀ n, f.key ≠ (F.FAB_STALL_STATUS_STATE n).key := fun n => by
    obtain ⟨haddr, hlo⟩ := hf
    simp only [Fld.key, F.FAB_STALL_STATUS_STATE]
    omega
  have hlame : ∀ n, f.key ≠ (F.FAB_LAME_MASK_LAME n).key := fun n => by
    obtain ⟨haddr, hlo⟩ := hf
    simp only [Fld.key, F.FAB_LAME_MASK_LAME]
    omega
  unfold State.dropEntering
  extract_lets s1 _ s2
  rw [State.powerGroups_island hf]
  refine foldl_keeps (State.get · f) (fun b a => ?_) _ _
  simp only [apply_ite (State.get · f), State.setBit, State.get_set_other _ _ _ _ (hstate _), State.get_set_other _ _ _ _ (hlame _),
    ite_self]

theorem State.endLoads_island (hf : IslandField f) (s : State) : s.endLoads.get f = s.get f := by
  have hload : f.key ≠ F.HOST_LOAD_STATUS_STATE.key := by
    obtain ⟨haddr, hlo⟩ := hf
    simp only [Fld.key, F.HOST_LOAD_STATUS_STATE]
    omega
  have hswap : f.key ≠ F.FAB_SWAP_STATUS_STATE.key := by
    obtain ⟨haddr, hlo⟩ := hf
    simp only [Fld.key, F.FAB_SWAP_STATUS_STATE]
    omega
  unfold State.endLoads
  extract_lets t
  rw [State.get_set_other _ _ _ _ hswap, State.get_set_other _ _ _ _ hload]
  change t.get f = s.get f
  rw [show t.get f = _ from apply_ite (State.get · f) .., State.dropEntering_island hf, ite_self]

/-- A load or a swap that does not go on leaves its state 0, and no image is wanted. -/
theorem State.endLoads_shows (s : State) : s.endLoads.boot.want = none ∧ s.endLoads.get F.HOST_LOAD_STATUS_STATE = 0 ∧
    s.endLoads.get F.FAB_SWAP_STATUS_STATE = 0 := by
  unfold State.endLoads
  extract_lets t
  refine ⟨rfl, ?_, State.get_set_self ..⟩
  rw [State.get_set_other _ _ _ _ (by decide)]
  exact State.get_set_self ..

theorem State.answerWords_island (hf : IslandField f) (s : State) (out : List Byte) : (s.answerWords out).get f = s.get f := by
  obtain ⟨haddr, hlo⟩ := hf
  refine foldl_keeps (State.get · f) (fun s w => ?_) _ _
  have hin : f.key ≠ (F.SEC_MBOX_IN_DATA w).key := by simp only [Fld.key, F.SEC_MBOX_IN_DATA]; omega
  have hout : f.key ≠ (F.SEC_MBOX_OUT_DATA w).key := by simp only [Fld.key, F.SEC_MBOX_OUT_DATA]; omega
  rw [State.get_set_other _ _ _ _ hout, State.get_set_other _ _ _ _ hin]

theorem State.endService_shows (s : State) (code : Nat) (out : List Byte) :
    (s.endService code out).getB F.SEC_MBOX_STATUS_BUSY = false ∧
      (s.endService code out).get F.SEC_MBOX_STATUS_CODE = code % 2 ^ F.SEC_MBOX_STATUS_CODE.width ∧
      (s.endService code out).get F.SEC_STATUS_STATE = s.get F.SEC_STATUS_STATE ∧
      (s.endService code out).get F.SEC_SESSIONS_HOST = s.get F.SEC_SESSIONS_HOST := by
  have hstate := State.answerWords_island (f := F.SEC_STATUS_STATE) (by unfold IslandField; decide)
  have hhost := State.answerWords_island (f := F.SEC_SESSIONS_HOST) (by unfold IslandField; decide)
  have hcode := State.answerWords_island (f := F.SEC_MBOX_STATUS_CODE) (by unfold IslandField; decide)
  have hbusy := State.answerWords_island (f := F.SEC_MBOX_STATUS_BUSY) (by unfold IslandField; decide)
  rw [State.endService_eq]
  refine ⟨?_, ?_, ?_, ?_⟩
  · rw [State.getB_setB_other _ _ _ _ (by decide), State.getB, hbusy, State.get_set_other _ _ _ _ (by decide),
      State.get_set_other _ _ _ _ (by decide)]
    exact State.getB_setB_self _ _ _ rfl
  · rw [State.get_setB_other _ _ _ _ (by decide), hcode, State.get_set_other _ _ _ _ (by decide)]
    exact State.get_set_self ..
  · rw [State.get_setB_other _ _ _ _ (by decide), hstate, State.get_set_other _ _ _ _ (by decide),
      State.get_set_other _ _ _ _ (by decide), State.get_setB_other _ _ _ _ (by decide)]
    rfl
  · rw [State.get_setB_other _ _ _ _ (by decide), hhost, State.get_set_other _ _ _ _ (by decide),
      State.get_set_other _ _ _ _ (by decide), State.get_setB_other _ _ _ _ (by decide)]
    rfl

theorem State.closeSessions_state (s : State) : s.closeSessions.get F.SEC_STATUS_STATE = s.get F.SEC_STATUS_STATE := by
  rw [State.closeSessions, (State.showSec_only _).2 _ (by decide), State.get_set_other _ _ _ _ (by decide)]
  rfl

/-- What a zeroisation that begins shows (R658, R659). -/
theorem State.startZero_shows (hz : s.isle.zeroing = none) (c : Nat) :
    (s.startZero c).get F.SEC_STATUS_STATE = 3 ∧ (s.startZero c).get F.SEC_SESSIONS_HOST = 0 ∧ (s.startZero c).boot.want = none ∧
      (s.startZero c).get F.HOST_LOAD_STATUS_STATE = 0 ∧ (s.startZero c).get F.FAB_SWAP_STATUS_STATE = 0 ∧
      (s.isle.mbox ≠ none →
        (s.startZero c).getB F.SEC_MBOX_STATUS_BUSY = false ∧ (s.startZero c).get F.SEC_MBOX_STATUS_CODE = 11) := by
  have hstateField : IslandField F.SEC_STATUS_STATE := by unfold IslandField; decide
  have hhostField : IslandField F.SEC_SESSIONS_HOST := by unfold IslandField; decide
  have hbusyField : IslandField F.SEC_MBOX_STATUS_BUSY := by unfold IslandField; decide
  have hcodeField : IslandField F.SEC_MBOX_STATUS_CODE := by unfold IslandField; decide
  have hstate : (s.zeroBegun c).get F.SEC_STATUS_STATE = 3 := by
    rw [State.zeroBegun, State.endChannels_island hstateField, State.closeSessions_state, State.get_set_self]
    decide
  have hhost : (s.zeroBegun c).get F.SEC_SESSIONS_HOST = 0 := by
    rw [State.zeroBegun, State.endChannels_island hhostField, State.closeSessions, (State.showSec_only _).2 _ (by decide),
      State.get_set_self]
    decide
  have hmbox : (s.zeroBegun c).isle.mbox = s.isle.mbox := by
    have hbegun := s.zeroBegun_steadyIsle c
    generalize s.zeroBegun c = u at hbegun ⊢
    have hmbox := congrArg SecState.mbox hbegun
    exact hmbox
  generalize hu : s.zeroBegun c = u at hstate hhost hmbox
  obtain ⟨hidle, hserving⟩ := State.startZero_begun hz c hu
  cases hm : u.isle.mbox with
  | none =>
    rw [hidle hm, State.endLoads_island hstateField, State.endLoads_island hhostField]
    obtain ⟨hwant, hload, hswap⟩ := u.endLoads_shows
    exact ⟨hstate, hhost, hwant, hload, hswap, fun h => absurd (hmbox.symm.trans hm) h⟩
  | some b =>
    obtain ⟨hbusy, hcode, hkeptState, hkeptHost⟩ := u.endService_shows 11 []
    rw [hserving b hm, State.getB, State.endLoads_island hstateField, State.endLoads_island hhostField,
      State.endLoads_island hbusyField, State.endLoads_island hcodeField]
    obtain ⟨hwant, hload, hswap⟩ := (u.endService 11 []).endLoads_shows
    exact ⟨hkeptState.trans hstate, hkeptHost.trans hhost, hwant, hload, hswap, fun _ => ⟨hbusy, hcode⟩⟩

/-- Settles O30: each expiry and tamper on its condition, and what the start of a zeroisation leaves. -/
theorem expiriesTampersAndZeroisation : Obligations.ExpiriesTampersAndZeroisation := by
  refine ⟨⟨?_, ?_, ?_, ?_, ?_⟩, ?_⟩
  · exact fun s m ms h => congrArg s.done (if_pos h)
  · exact fun s m ms h => congrArg s.done (if_pos h)
  · exact fun s cycles _ h => congrArg s.done (if_pos h)
  · exact fun s _ => rfl
  · intro s v us hz
    refine ⟨fun h => ?_, fun h hus => ?_, fun h => ?_, fun h hus => ?_⟩
    · exact congrArg s.done (if_pos ⟨h, by simp [hz]⟩)
    · exact congrArg s.done (if_pos ⟨h, hus⟩)
    · exact congrArg s.done (if_pos h)
    · exact congrArg s.done (if_pos ⟨h, hus⟩)
  · rintro s t c hz rfl
    have hisle := State.startZero_isle hz c
    obtain ⟨hstate, hhost, hwant, hload, hswap, hended⟩ := State.startZero_shows hz c
    generalize s.startZero c = t at *
    exact ⟨congrArg SecState.zeroing hisle, hstate, hhost, congrArg SecState.challenges hisle, congrArg SecState.nets hisle, hwant,
      hload, hswap, fun hm => ⟨congrArg SecState.mbox hisle, hended hm⟩⟩

end Sys2Proof.Machine
end

section
/-! The island's services (R632–R646, R658): how a service in progress answers, the sessions of the host, the operators and the
keys: the settlements of O27 and O28. -/

namespace Sys2Proof.Machine

variable {s t : State} {sv code : Nat} {out : List Byte}

/-! ### A service in progress -/

/-- A service in progress whose work leaves the mailbox waiting is answered. -/
theorem State.service_answers {f : State → State × Nat × List Byte} (h : Serving s sv) (hf : f s = (t, code, out))
    (ht : t.isle.mbox = some ⟨sv, none⟩) : s.service sv f = t.reply sv code out := by
  obtain ⟨hmbox, htested⟩ := h
  simp [State.service, hmbox, htested, hf, ht, State.reply]

/-- A service in progress whose work has ended the mailbox's wait leaves what its work left. -/
theorem State.service_over {f : State → State × Nat × List Byte} (h : Serving s sv) (hf : (f s).1 = t)
    (ht : ∀ b, t.isle.mbox = some b → b.result.isSome = true) : s.service sv f = t := by
  obtain ⟨hmbox, htested⟩ := h
  simp only [State.service, hmbox, htested, ne_eq, not_true_eq_false, Option.isSome_none, Bool.false_eq_true, Bool.not_true, or_self,
    if_false, hf]
  cases hm : t.isle.mbox with
  | none => rfl
  | some b => simp [ht b hm]

/-- A service whose work leaves the mailbox and the waiting commands alone. -/
theorem State.done_answers {f : State → State × Nat × List Byte} (h : Serving s sv) (hf : f s = (t, code, out))
    (ht : t.isle.mbox = s.isle.mbox) (hp : t.pending = s.pending) : s.done (s.service sv f) = .next (t.reply sv code out) := by
  rw [State.service_answers h hf (ht.trans h.1)]
  exact State.done_next hp

theorem State.done_service {f : State → State × Nat × List Byte} (h : Serving s sv) (hf : f s = (s, code, out)) :
    s.done (s.service sv f) = .next (s.reply sv code out) := State.done_answers h hf rfl rfl

/-! ### A hard error -/

/-- A state whose island is that of `t`. -/
theorem vault_isle_mk (t : State) (regs stride countAdj strideOn freeCtr pending answer queued log logTorn logOverrun banks fab swap
    mic line echo tg call host ring net boot journal power copy gpio clk) :
    (State.mk regs stride countAdj strideOn freeCtr pending answer queued log logTorn logOverrun banks fab swap mic line echo tg
      call host ring net t.isle boot journal power copy gpio clk).vault.isle = t.vault.isle := rfl

theorem State.enterHalter_steadyIsle (s : State) (cause : Nat) : (s.enterHalter cause).steadyIsle = s.steadyIsle := by
  change (s.enterHalter cause).vault.isle = s.vault.isle
  unfold State.enterHalter
  simp only [State.showBoot_vault, State.showSec_vault, State.reconfigure_vault, State.setRoleCode_vault, vault_mk, foldl_vault,
    implies_true, State.setB_vault, State.dropDomain_vault, State.set_vault, apply_ite State.vault, ite_self,
    State.dimReset_vault, State.powerGroups_vault, State.showFabric_vault, State.installFabric_vault, State.loadPanel_vault]
  refine (vault_isle_mk _ ..).trans ?_
  simp only [State.set_vault, State.setB_vault, State.setCaps_vault]

/-- After a hard error no service of the mailbox waits for an answer. -/
theorem State.hardError_answered (s : State) (test : Nat) (b : Mbox) (hb : (s.hardError test).isle.mbox = some b) :
    b.result.isSome = true := by
  have hkept : ∀ u : State, (u.enterHalter 2).isle.mbox = u.isle.mbox := fun u => by
    have h := u.enterHalter_steadyIsle 2
    generalize u.enterHalter 2 = v at h ⊢
    have hmbox := congrArg SecState.mbox h
    exact hmbox
  unfold State.hardError at hb
  extract_lets s1 s2 s3 s4 _ s5 at hb
  rw [hkept] at hb
  simp only [s5] at hb
  split at hb
  · next hnone =>
    rw [hnone] at hb
    cases hb
  · cases hb
    rfl

/-! ### Sessions of the host (R632–R635) -/

theorem State.mboxIn_sessionClosed (s : State) (v : Nat) : (s.set F.SEC_SESSIONS_HOST v).mboxIn = s.mboxIn := by
  have hword : ∀ w, (s.set F.SEC_SESSIONS_HOST v).get (F.SEC_MBOX_IN_DATA w) = s.get (F.SEC_MBOX_IN_DATA w) := fun w =>
    State.get_set_other _ _ _ _ (by simp only [Fld.key, F.SEC_MBOX_IN_DATA, F.SEC_SESSIONS_HOST]; omega)
  have hlength : (s.set F.SEC_SESSIONS_HOST v).get F.SEC_MBOX_CTRL_LENGTH = s.get F.SEC_MBOX_CTRL_LENGTH :=
    State.get_set_other _ _ _ _ (by decide)
  simp only [State.mboxIn, hword, hlength]

theorem State.hostCode_sessionClosed (s : State) (v : Nat) : (s.set F.SEC_SESSIONS_HOST v).hostCode = s.hostCode := by
  rw [State.hostCode, State.getB_set_ne _ _ (by decide), State.hostCode]

theorem State.drbgDraw_thrice_keeps (s : State) : s.drbgDraw.drbgDraw.drbgDraw.isle.mbox = s.isle.mbox ∧
    s.drbgDraw.drbgDraw.drbgDraw.pending = s.pending := by
  obtain ⟨d, b, hdraw⟩ := s.drbgDraw_thrice
  rw [hdraw]
  exact ⟨rfl, rfl⟩

/-- A challenge for a host that is not locked out. -/
theorem exec_getChallenge_free (h : Serving s 0x10) (hfree : s.hostCode ∉ s.isle.locked) (out : List Byte) {d : State}
    (hd : d = s.drbgDraw.drbgDraw.drbgDraw) :
    exec (.getChallenge ⟨out, true⟩) s = .next (({ d with isle := { d.isle with
        challenges := s.hostCode :: s.isle.challenges.filter (· ≠ s.hostCode) } } : State).reply 0x10 0 out) ∧
      exec (.getChallenge ⟨out, false⟩) s = .next { d.hardError 11 with pending := s.pending } := by
  subst hd
  obtain ⟨hgood, hbad⟩ := State.challenge_eq hfree out
  obtain ⟨hmbox, hpending⟩ := s.drbgDraw_thrice_keeps
  generalize s.drbgDraw.drbgDraw.drbgDraw = d at *
  exact ⟨State.done_answers h hgood hmbox hpending,
    congrArg s.done (State.service_over h (congrArg Prod.fst hbad) (d.hardError_answered 11))⟩

theorem State.authenticate_length {m : Nat} {body : List Byte} (hlength : body.length ≠ 195) (ok : Bool) :
    s.authenticate m body ok = (s, 6, 0) := if_pos hlength

theorem State.authenticate_unasked {m : Nat} {body : List Byte} (hlength : body.length = 195) (hasked : m ∉ s.isle.challenges)
    (ok : Bool) : s.authenticate m body ok = (s, 3, 0) := by
  simp only [State.authenticate, hlength, hasked, ne_eq, not_true_eq_false, if_false, not_false_eq_true, if_true]

/-- A bad signature uses the challenge up and locks its master out. -/
theorem State.authenticate_bad {m : Nat} {body : List Byte} {o : Operator} (hlength : body.length = 195)
    (hasked : m ∈ s.isle.challenges) (ho : s.isle.operators.find? (fun o => o.slot = beAt body 0 1) = some o) :
    s.authenticate m body false = ({ s with isle := { s.isle with
      challenges := s.isle.challenges.filter (· ≠ m), locked := m :: s.isle.locked.filter (· ≠ m) } }, 2, 0) := by
  simp only [State.authenticate, hlength, hasked, ho, ne_eq, not_true_eq_false, if_false, Bool.false_and, Bool.false_eq_true]

/-- An authentication that fails answers its code, the session closed. -/
theorem exec_authenticate_refused (h : Serving s 0x11) {ok : Bool} {session role : Nat}
    (hr : (s.set F.SEC_SESSIONS_HOST 0).authenticate s.hostCode s.mboxIn ok = (t, code, role)) (hc : code ≠ 0)
    (ht : t.isle.mbox = s.isle.mbox) (hp : t.pending = s.pending) :
    exec (.authenticate ok session) s = .next (t.reply 0x11 code []) := by
  refine State.done_answers h ?_ ht hp
  simp only [State.mboxIn_sessionClosed, State.hostCode_sessionClosed, hr, hc, if_false]

/-- A good signature opens the operator's session. -/
theorem exec_authenticate_opened (h : Serving s 0x11) {session role : Nat}
    (hr : (s.set F.SEC_SESSIONS_HOST 0).authenticate s.hostCode s.mboxIn true = (t, 0, role))
    (ht : t.isle.mbox = s.isle.mbox) (hp : t.pending = s.pending) :
    exec (.authenticate true session) s = .next ((t.drbgReseed.set F.SEC_SESSIONS_HOST role).reply 0x11 0
      (beBytes (65536 * (session % 65536) + role) 4)) := by
  obtain ⟨d, b, hreseed⟩ := t.drbgReseed_frame
  refine State.done_answers h (t := t.drbgReseed.set F.SEC_SESSIONS_HOST role) ?_ ?_ ?_
  · simp only [State.mboxIn_sessionClosed, State.hostCode_sessionClosed, hr, if_true]
  · rw [hreseed]
    exact ht
  · rw [hreseed]
    exact hp

/-! ### Services of a crypto officer -/

theorem State.coService_denied (h : s.co = false) (x : State × Nat × List Byte) : s.coService x = (s, 1, []) :=
  if_neg (by simp [h])

theorem State.coService_granted (h : s.co = true) (x : State × Nat × List Byte) : s.coService x = x := if_pos h

/-- Settles O27: the answers of the session services, and NO_ROLE of the officer's services without an officer. -/
theorem islandSessionsAndRoles : Obligations.IslandSessionsAndRoles := by
  refine ⟨⟨?_, ?_, ?_, ?_, ?_⟩, ?_⟩
  · intro s out h
    exact ⟨fun hlocked ok => State.done_service h (State.challenge_locked hlocked _),
      fun hfree => ⟨_, rfl, exec_getChallenge_free h hfree out rfl⟩⟩
  · intro s ok session h
    exact ⟨fun hlength => exec_authenticate_refused h (State.authenticate_length hlength ok) (by decide) rfl rfl,
      fun hlength hasked => exec_authenticate_refused h
        (State.authenticate_unasked (s := s.set F.SEC_SESSIONS_HOST 0) hlength hasked ok) (by decide) rfl rfl⟩
  · intro s session o h hlength hasked ho hmaster
    exact ⟨exec_authenticate_opened h (State.authenticate_good (s := s.set F.SEC_SESSIONS_HOST 0) hlength hasked ho hmaster) rfl rfl,
      exec_authenticate_refused h (State.authenticate_bad (s := s.set F.SEC_SESSIONS_HOST 0) hlength hasked ho) (by decide) rfl rfl⟩
  · exact fun s h hopen => State.done_answers h (if_neg hopen) rfl rfl
  · exact fun s h => State.done_service h rfl
  · intro s c sv ok pub hc h hco
    simp only [List.mem_cons, Prod.mk.injEq, List.not_mem_nil, or_false] at hc
    rcases hc with ⟨rfl, rfl⟩ | ⟨rfl, rfl⟩ | ⟨rfl, rfl⟩ | ⟨rfl, rfl⟩ |
      ⟨rfl, rfl⟩ | ⟨rfl, rfl⟩ | ⟨rfl, rfl⟩ | ⟨rfl, rfl⟩
    all_goals exact State.done_service h (State.coService_denied hco _)

/-! ### Operators and keys (R638–R643) -/

theorem State.showKeys_isle (s : State) : s.showKeys.isle = s.isle := rfl

theorem State.showKeys_pending (s : State) : s.showKeys.pending = s.pending := rfl

theorem State.syncCaks_isle (s : State) : s.syncCaks.isle = s.isle := by
  unfold State.syncCaks
  refine foldl_keeps State.isle (fun s p => ?_) _ _
  rfl

theorem State.syncCaks_pending (s : State) : s.syncCaks.pending = s.pending := by
  unfold State.syncCaks
  refine foldl_keeps State.pending (fun s p => ?_) _ _
  rfl

/-- A service that leaves another partition, which SEC_KEYS then shows. -/
theorem State.done_keys {f : State → State × Nat × List Byte} (h : Serving s sv) (i : SecState) (hi : i.mbox = s.isle.mbox)
    (hf : f s = (({ s with isle := i } : State).showKeys, code, out)) :
    s.done (s.service sv f) = .next ((({ s with isle := i } : State).showKeys).reply sv code out) :=
  State.done_answers h hf (by rw [State.showKeys_isle]; exact hi) rfl

/-- A service that leaves other CAKs, which the ports then take. -/
theorem State.done_caks {f : State → State × Nat × List Byte} (h : Serving s sv) (i : SecState) (hi : i.mbox = s.isle.mbox)
    (hf : f s = (({ s with isle := i } : State).showKeys.syncCaks, code, out)) :
    s.done (s.service sv f) = .next ((({ s with isle := i } : State).showKeys.syncCaks).reply sv code out) :=
  State.done_answers h hf (by rw [State.syncCaks_isle, State.showKeys_isle]; exact hi)
    (by rw [State.syncCaks_pending, State.showKeys_pending])

theorem exec_enrolOperator_enrolled (h : Serving s 0x20)
    (hco : s.co = true ∨ (beAt s.mboxIn 1 1 = 2 ∧ ∀ o ∈ s.isle.operators, o.role ≠ 2)) (hlength : s.mboxIn.length = 99)
    (hrole : beAt s.mboxIn 1 1 = 1 ∨ beAt s.mboxIn 1 1 = 2) (hslot : beAt s.mboxIn 0 1 < 12) :
    exec .enrolOperator s = .next ((({ s with isle := { s.isle with
      operators := s.isle.operators.filter (fun (o : Operator) => o.slot ≠ beAt s.mboxIn 0 1) ++
        [(⟨beAt s.mboxIn 0 1, beAt s.mboxIn 1 1, s.mboxIn.drop 2⟩ : Operator)] } } : State).showKeys).reply 0x20 0 []) := by
  have hmay : (s.co || (beAt s.mboxIn 1 1 == 2 && !s.isle.operators.any (fun o => o.role = 2))) = true := by
    obtain hofficer | ⟨htwo, hnone⟩ := hco
    · simp [hofficer]
    · simp only [htwo, beq_self_eq_true, Bool.true_and, Bool.or_eq_true, Bool.not_eq_true', List.any_eq_false, decide_eq_true_eq]
      exact .inr hnone
  refine State.done_keys h _ rfl ?_
  dsimp only
  rw [if_neg (by simp [hmay]), if_neg (by omega), if_neg (by omega)]

theorem State.endSecure_isle (s : State) (p : Nat) : (s.endSecure p).isle = s.isle := by
  have hsecured : ∀ u : State, (u.setSecured p false false).isle = u.isle := fun u => by
    simp only [State.setSecured, apply_ite State.isle, State.setB_isle, ite_self]
  exact hsecured _

theorem exec_setMacsec_set (h : Serving s 0x26) (hco : s.co = true) (hlength : s.mboxIn.length = 4) {p suite c : Nat}
    (hp : beAt s.mboxIn 0 1 = p) (hsuite : beAt s.mboxIn 1 1 = suite) (hc : beAt s.mboxIn 2 1 = c) (hp3 : p < 3)
    (hsuite3 : suite < 3) (hc4 : c < 4) (hsecure : suite ≠ 0 ∨ p = 2 ∨ s.approved = false) :
    exec .setMacsec s = .next { ((((({ (s.endSecure p).set (F.SEC_MACSEC_SUITE p) suite with
      isle := { s.isle with cakOf := s.isle.cakOf.set p (some c) } } : State).updSec p
        (fun q => { q with prio := beAt s.mboxIn 3 1 })).syncCaks).afterSec p)).reply 0x26 0 [] with pending := s.pending } := by
  have hisle : ((s.endSecure p).set (F.SEC_MACSEC_SUITE p) suite).isle = s.isle := s.endSecure_isle p
  refine congrArg s.done (State.service_answers h ((State.coService_granted hco _).trans ?_) ?_)
  · dsimp only
    rw [hp, hsuite, hc, if_neg (by omega), if_neg (by omega), if_neg, hisle]
    rintro ⟨hzero, hline, happroved⟩
    obtain hne | htwo | hopen := hsecure
    · exact hne hzero
    · omega
    · simp [hopen] at happroved
  · have hmbox := congrArg SecState.mbox (State.steadyIsle_of_vault (State.afterSec_vault ((({ (s.endSecure p).set
      (F.SEC_MACSEC_SUITE p) suite with isle := { s.isle with cakOf := s.isle.cakOf.set p (some c) } } : State).updSec p
        (fun q => { q with prio := beAt s.mboxIn 3 1 })).syncCaks) p))
    refine hmbox.trans ?_
    change (State.syncCaks _).isle.mbox = _
    rw [State.syncCaks_isle]
    exact h.1

/-- Settles O28: each service of the officer with its answer. -/
theorem islandKeysAndServices : Obligations.IslandKeysAndServices := by
  refine ⟨⟨?_, ?_, ?_⟩, ⟨?_, ?_, ?_, ?_⟩, ?_, ?_, ?_⟩
  · exact fun s h hco hlength hrole hslot => exec_enrolOperator_enrolled h hco hlength hrole hslot
  · intro s h hco hlength hslot hleft
    refine State.done_keys h _ rfl ((State.coService_granted hco _).trans ?_)
    dsimp only
    rw [if_neg (by omega), if_neg (by omega), if_neg (by rw [hleft]; decide)]
  · intro s h hco hslot
    constructor
    · intro hlength
      refine State.done_keys h _ rfl ((State.coService_granted hco _).trans ?_)
      dsimp only
      rw [if_neg (by omega), if_neg (by omega), if_neg (by omega)]
    · intro hlength
      refine State.done_keys h _ rfl ((State.coService_granted hco _).trans ?_)
      dsimp only
      rw [if_neg (by omega), if_neg (by omega), if_pos hlength]
  · intro s h hco hkind hlength hslot
    constructor
    · refine State.done_keys h _ rfl ((State.coService_granted hco _).trans ?_)
      dsimp only
      rw [if_pos ⟨hkind, hlength⟩, if_neg (by omega), if_neg (by simp)]
    · refine State.done_service h ((State.coService_granted hco _).trans ?_)
      dsimp only
      rw [if_pos ⟨hkind, hlength⟩, if_neg (by omega), if_pos (by simp)]
  · intro s h hco hkind hmin hmax hslot
    constructor
    · refine State.done_caks h _ rfl ((State.coService_granted hco _).trans ?_)
      dsimp only
      rw [if_neg (by omega), if_pos ⟨hkind, hmin, hmax⟩, if_neg (by omega), if_neg (by simp)]
    · refine State.done_service h ((State.coService_granted hco _).trans ?_)
      dsimp only
      rw [if_neg (by omega), if_pos ⟨hkind, hmin, hmax⟩, if_neg (by omega), if_pos (by simp)]
  · intro s h hco hlength
    constructor
    · intro hkind hslot
      refine State.done_keys h _ rfl ((State.coService_granted hco _).trans ?_)
      dsimp only
      rw [if_neg (by omega), if_pos hkind, if_neg (by omega)]
    · intro hkind hslot
      refine State.done_caks h _ rfl ((State.coService_granted hco _).trans ?_)
      dsimp only
      rw [if_neg (by omega), if_neg (by omega), if_pos hkind, if_neg (by omega)]
  · intro s pub h hco
    obtain ⟨k, n, hdraw⟩ := s.drbgDraw_frame
    obtain ⟨d, hd⟩ : ∃ d, d = s.drbgDraw := ⟨_, rfl⟩
    have hmbox : d.isle.mbox = s.isle.mbox := by rw [hd, hdraw]
    have hpending : d.pending = s.pending := by rw [hd, hdraw]
    refine ⟨d, hd, ?_, ?_⟩
    · refine State.done_answers h ((State.coService_granted hco _).trans ?_) hmbox hpending
      dsimp only
      rw [if_neg (by simp), hd]
    · refine congrArg s.done (State.service_over h ?_ (d.hardError_answered 11))
      rw [State.coService_granted hco, hd]
      rfl
  · exact fun s h hco hlength hp hsuite hc hsecure => exec_setMacsec_set h hco hlength rfl rfl rfl hp hsuite hc hsecure
  · intro s h hco hbody
    refine State.done_answers h ((State.coService_granted hco _).trans (if_neg (by simp [hbody]))) ?_ ?_
    · rw [State.showSec_isle]
    · exact (State.showSec_only _).pending
  · intro s h hco hz
    have hisle := State.startZero_isle hz 2
    obtain ⟨u, hu⟩ : ∃ u, s.startZero 2 = u := ⟨_, rfl⟩
    rw [hu] at hisle ⊢
    have hended : u.isle.mbox = none := congrArg SecState.mbox hisle
    refine ⟨congrArg s.done (State.service_over h ?_ fun b hb => ?_), congrArg SecState.zeroing hisle⟩
    · rw [State.coService_granted hco]
      exact hu
    · rw [hended] at hb
      cases hb

end Sys2Proof.Machine
end

section
/-! The mailbox's answer, the self-tests of the island and its entropy source (R622–R626, R638, R645, R661): the settlement of
O29. -/

namespace Sys2Proof.Machine

variable {s t : State} {f : Fld}

/-! ### The mailbox's words -/

/-- The words of a list of places, written as the end of a service writes them. -/
def State.wordsAnswered (l : List Nat) (out : List Byte) (s : State) : State :=
  l.foldl (fun s w =>
    (s.set (F.SEC_MBOX_IN_DATA w) 0).set (F.SEC_MBOX_OUT_DATA w) (beNat (padBytes 4 ((out.drop (4 * w)).take 4)))) s

theorem mboxKeys {g k : Nat} (hg : g < 64) (hk : k < 64) :
    (F.SEC_MBOX_IN_DATA k).key ≠ (F.SEC_MBOX_OUT_DATA g).key ∧ (F.SEC_MBOX_OUT_DATA k).key ≠ (F.SEC_MBOX_IN_DATA g).key ∧
      (k ≠ g → (F.SEC_MBOX_IN_DATA k).key ≠ (F.SEC_MBOX_IN_DATA g).key ∧
        (F.SEC_MBOX_OUT_DATA k).key ≠ (F.SEC_MBOX_OUT_DATA g).key) := by
  simp only [Fld.key, F.SEC_MBOX_IN_DATA, F.SEC_MBOX_OUT_DATA]
  omega

theorem State.wordsAnswered_other {k : Nat} (hk : k < 64) (out : List Byte) {l : List Nat} (hl : ∀ g ∈ l, g < 64) (hkl : k ∉ l)
    (s : State) : (s.wordsAnswered l out).get (F.SEC_MBOX_IN_DATA k) = s.get (F.SEC_MBOX_IN_DATA k) ∧
      (s.wordsAnswered l out).get (F.SEC_MBOX_OUT_DATA k) = s.get (F.SEC_MBOX_OUT_DATA k) := by
  induction l generalizing s with
  | nil => exact ⟨rfl, rfl⟩
  | cons g l ih =>
    obtain ⟨hio, hoi, hne⟩ := mboxKeys (hl g List.mem_cons_self) hk
    obtain ⟨hii, hoo⟩ := hne fun h => hkl (h ▸ List.mem_cons_self)
    obtain ⟨hin, hout⟩ := ih (fun g hg => hl g (List.mem_cons_of_mem _ hg)) (fun h => hkl (List.mem_cons_of_mem _ h))
      ((s.set (F.SEC_MBOX_IN_DATA g) 0).set (F.SEC_MBOX_OUT_DATA g) (beNat (padBytes 4 ((out.drop (4 * g)).take 4))))
    rw [State.get_set_other _ _ _ _ hio, State.get_set_other _ _ _ _ hii] at hin
    rw [State.get_set_other _ _ _ _ hoo, State.get_set_other _ _ _ _ hoi] at hout
    exact ⟨hin, hout⟩

theorem State.wordsAnswered_self {k : Nat} (hk : k < 64) (out : List Byte) {l : List Nat} (hl : ∀ g ∈ l, g < 64) (hd : l.Nodup)
    (hkl : k ∈ l) (s : State) : (s.wordsAnswered l out).get (F.SEC_MBOX_IN_DATA k) = 0 ∧
      (s.wordsAnswered l out).get (F.SEC_MBOX_OUT_DATA k) = beNat (padBytes 4 ((out.drop (4 * k)).take 4)) % 2 ^ 32 := by
  induction l generalizing s with
  | nil => cases hkl
  | cons g l ih =>
    obtain ⟨hgl, hd⟩ := List.nodup_cons.mp hd
    have hl' : ∀ g ∈ l, g < 64 := fun g hg => hl g (List.mem_cons_of_mem _ hg)
    obtain rfl | hkl := List.mem_cons.mp hkl
    · obtain ⟨hin, hout⟩ := State.wordsAnswered_other hk out hl' hgl
        ((s.set (F.SEC_MBOX_IN_DATA k) 0).set (F.SEC_MBOX_OUT_DATA k) (beNat (padBytes 4 ((out.drop (4 * k)).take 4))))
      rw [State.get_set_other _ _ _ _ (mboxKeys hk hk).1, State.get_set_self] at hin
      rw [State.get_set_self] at hout
      exact ⟨hin.trans (Nat.zero_mod _), hout⟩
    · exact ih hl' hd hkl _

/-- What the end of a service shows of its answer (R638). -/
theorem State.endService_answer (s : State) (code : Nat) (out : List Byte) :
    (s.endService code out).getB F.SEC_IRQ_MBOX_DONE = true ∧
      (s.endService code out).get F.SEC_MBOX_STATUS_OUT_LENGTH = out.length % 2 ^ F.SEC_MBOX_STATUS_OUT_LENGTH.width ∧
      ∀ w < 64, (s.endService code out).get (F.SEC_MBOX_IN_DATA w) = 0 ∧
        (s.endService code out).get (F.SEC_MBOX_OUT_DATA w) = beNat (padBytes 4 ((out.drop (4 * w)).take 4)) % 2 ^ 32 := by
  rw [State.endService_eq]
  refine ⟨State.getB_setB_self _ _ _ rfl, ?_, fun w hw => ?_⟩
  · rw [State.get_setB_other _ _ _ _ (by decide), State.answerWords_island (by unfold IslandField; decide), State.get_set_self]
  · have hin : (F.SEC_MBOX_IN_DATA w).key ≠ F.SEC_IRQ_MBOX_DONE.key := by
      simp only [Fld.key, F.SEC_MBOX_IN_DATA, F.SEC_IRQ_MBOX_DONE]
      omega
    have hout : (F.SEC_MBOX_OUT_DATA w).key ≠ F.SEC_IRQ_MBOX_DONE.key := by
      simp only [Fld.key, F.SEC_MBOX_OUT_DATA, F.SEC_IRQ_MBOX_DONE]
      omega
    rw [State.get_setB_other _ _ _ _ hin, State.get_setB_other _ _ _ _ hout]
    exact State.wordsAnswered_self hw out (fun g hg => List.mem_range.mp hg) List.nodup_range (List.mem_range.mpr hw) _

theorem exec_mboxServiceDone_answered {sv code : Nat} {out : List Byte} (hm : s.isle.mbox = some ⟨sv, some (code, out)⟩) :
    exec .mboxServiceDone s = s.done (s.endService code out) := by
  change execMboxServiceDone s = _
  simp only [execMboxServiceDone, hm]

/-! ### The generator once it is started -/

theorem State.drbgReseed_started (h : s.isle.drbg ≠ none) : s.drbgReseed.isle.drbg ≠ none := by
  unfold State.drbgReseed
  split
  · exact absurd ‹_› h
  · exact Option.some_ne_none _

theorem State.drbgDraw_started (h : s.isle.drbg ≠ none) : s.drbgDraw.isle.drbg ≠ none := by
  unfold State.drbgDraw
  split
  · exact absurd ‹_› h
  · next d _ =>
    dsimp only
    split
    · exact State.drbgReseed_started (Option.some_ne_none _)
    · exact Option.some_ne_none _

/-! ### Self-tests -/

theorem State.drbgStart_frame (s : State) : ∃ d b, s.drbgStart = { s with isle := { s.isle with drbg := some d, blocks := b } } :=
  ⟨_, _, rfl⟩

theorem State.drbgDraw_started_frame (h : s.isle.drbg ≠ none) :
    ∃ d b, s.drbgDraw = { s with isle := { s.isle with drbg := some d, blocks := b } } := by
  obtain ⟨d, b, hdraw⟩ := s.drbgDraw_frame
  have hsome := State.drbgDraw_started h
  cases d with
  | none => exact absurd (by rw [hdraw]) hsome
  | some d => exact ⟨d, b, hdraw⟩

/-- The island with its partition wrapping key. -/
def State.pwkMade (s : State) : State :=
  if s.isle.pwk then s else { s.drbgDraw with isle := { s.drbgDraw.isle with pwk := true } }

/-- The island with the identity it held, or with a new one. -/
def State.identityMade (s : State) (fresh : Bool) (ident : List Byte) : State :=
  if fresh then { s.drbgDraw with isle := { s.drbgDraw.isle with identity := ident } } else s

theorem State.pwkMade_frame (h : s.isle.drbg ≠ none) :
    ∃ d b, s.pwkMade = { s with isle := { s.isle with drbg := some d, blocks := b, pwk := true } } := by
  unfold State.pwkMade
  split
  · next hpwk =>
    obtain ⟨d, hd⟩ := Option.ne_none_iff_exists'.mp h
    exact ⟨d, s.isle.blocks, by rw [← hd, ← hpwk]⟩
  · obtain ⟨d, b, hdraw⟩ := State.drbgDraw_started_frame h
    exact ⟨d, b, by rw [hdraw]⟩

theorem State.identityMade_frame (h : s.isle.drbg ≠ none) (fresh : Bool) (ident : List Byte) :
    ∃ d b, s.identityMade fresh ident = { s with isle := { s.isle with
      drbg := some d, blocks := b, identity := if fresh then ident else s.isle.identity } } := by
  unfold State.identityMade
  cases fresh with
  | false =>
    obtain ⟨d, hd⟩ := Option.ne_none_iff_exists'.mp h
    exact ⟨d, s.isle.blocks, by rw [← hd]; rfl⟩
  | true =>
    obtain ⟨d, b, hdraw⟩ := State.drbgDraw_started_frame h
    exact ⟨d, b, by rw [hdraw]; rfl⟩

/-- What making its keys leaves of the island and of the node. -/
theorem State.keysMade_frame (s : State) (fresh : Bool) (ident : List Byte) :
    ∃ d b, s.drbgStart.pwkMade.identityMade fresh ident = { s with isle := { s.isle with
      drbg := some d, blocks := b, pwk := true, identity := if fresh then ident else s.isle.identity } } := by
  obtain ⟨d, b, hstart⟩ := s.drbgStart_frame
  obtain ⟨e, c, hpwk⟩ := State.pwkMade_frame (s := s.drbgStart) (by rw [hstart]; exact Option.some_ne_none _)
  obtain ⟨g, n, hident⟩ := State.identityMade_frame (s := s.drbgStart.pwkMade) (by rw [hpwk]; exact Option.some_ne_none _) fresh ident
  exact ⟨g, n, by rw [hident, hpwk, hstart]⟩

/-- The fields that show which keys the island holds. -/
def keyFields : List Fld :=
  [F.SEC_KEYS_OPERATORS, F.SEC_KEYS_IMAGE_KEYS, F.SEC_KEYS_CAKS, F.SEC_KEYS_TACK_KEY, F.SEC_KEYS_IDENTITY]

theorem State.showKeys_only (s : State) : Only keyFields s s.showKeys :=
  (((((Only.refl _ _).set (by simp [keyFields]) _).set (by simp [keyFields]) _).set (by simp [keyFields]) _).setB
    (by simp [keyFields]) _).setB (by simp [keyFields]) _

theorem State.syncCaks_regs (s : State) : s.syncCaks.regs = s.regs := by
  unfold State.syncCaks
  refine foldl_keeps State.regs (fun s p => ?_) _ _
  rfl

theorem State.get_keysShown (hf : f.key ∉ keyFields.map Fld.key) (s : State) : s.showKeys.syncCaks.get f = s.get f := by
  rw [State.get, State.syncCaks_regs]
  exact s.showKeys_only.2 f hf

/-- What the node shows and the island holds once its keys are made. -/
theorem State.keysShown_shows (v : State) (ident : List Byte) {fresh : Bool} {u : State}
    (hu : u = (v.drbgStart.pwkMade.identityMade fresh ident).showKeys.syncCaks) :
    u.getB F.SYS_PERSONA_HALTER = v.getB F.SYS_PERSONA_HALTER ∧ u.get F.SEC_ERROR_OSC_ON = v.get F.SEC_ERROR_OSC_ON ∧
      ∃ d b, u.isle = { v.isle with
        drbg := some d, blocks := b, pwk := true, identity := if fresh then ident else v.isle.identity } := by
  obtain ⟨d, b, hkeys⟩ := v.keysMade_frame fresh ident
  rw [hkeys] at hu
  subst hu
  refine ⟨?_, State.get_keysShown (by decide) _, d, b, ?_⟩
  · rw [State.getB, State.get_keysShown (by decide)]
    rfl
  · rw [State.syncCaks_isle]
    rfl

theorem exec_selfTestsComplete_tested {v : State} {osc : Nat} (hstate : s.get F.SEC_STATUS_STATE = 0) (hz : s.isle.zeroing = none)
    (hv : v = ({ s with isle := { s.isle with osc := Nat.land s.isle.osc (osc % 65536), tested := true } } : State).showOsc)
    (ident : List Byte) (ok : Bool) : exec (.selfTestsComplete 0 osc ident ok) s = s.done (
      if v.oscCount < 12 then v.hardError 12
      else if v.isle.identity.isEmpty && !ok then v.hardError 11
      else
        let u := (v.drbgStart.pwkMade.identityMade v.isle.identity.isEmpty ident).showKeys.syncCaks
        (u.set F.SEC_STATUS_STATE (if u.getB F.SYS_PERSONA_HALTER then 4 else 1)).showSec) := by
  subst hv
  refine congrArg s.done ((if_neg ?_).trans ((if_neg ?_).trans ?_))
  · simp [hstate, hz]
  · simp
  · rfl

/-- Settles O29: the answer of a service, the outcomes of the self-tests, and a failed oscillator. -/
theorem mailboxTestsAndEntropy : Obligations.MailboxTestsAndEntropy := by
  refine ⟨?_, ?_, ?_, ?_⟩
  · intro s sv code out hm
    obtain ⟨hbusy, hcode, -, -⟩ := s.endService_shows code out
    obtain ⟨hirq, hlength, hwords⟩ := s.endService_answer code out
    have hisle := s.endService_isle code out
    have hexec := exec_mboxServiceDone_answered hm
    generalize s.endService code out = u at *
    exact ⟨_, hexec, hisle, hbusy, hirq, hcode, hlength, hwords⟩
  · intro s v osc ident ok hstate hz hv
    have hexec := exec_selfTestsComplete_tested hstate hz hv ident ok
    have hident : v.isle.identity = s.isle.identity := by rw [hv]; rfl
    refine ⟨fun hfew => ?_, fun hmany hnone hok => ?_, fun hmany hgood => ?_⟩
    · rw [if_pos hfew] at hexec
      exact hexec
    · rw [if_neg (by omega), if_pos (by simp [hident, hnone, hok])] at hexec
      exact hexec
    · rw [if_neg (by omega), if_neg (by simpa [hident, imp_iff_not_or] using hgood)] at hexec
      obtain ⟨hhalter, hosc, hisle⟩ := v.keysShown_shows ident rfl
      generalize (v.drbgStart.pwkMade.identityMade v.isle.identity.isEmpty ident).showKeys.syncCaks = u at hexec hhalter hosc hisle
      obtain ⟨d, b, hisle⟩ := hisle
      have hpersona : v.getB F.SYS_PERSONA_HALTER = s.getB F.SYS_PERSONA_HALTER := by
        rw [hv, State.showOsc, State.getB_set_ne _ _ (by decide)]
        rfl
      dsimp only at hexec
      rw [hhalter, hpersona] at hexec
      have hshown : v.isle = { s.isle with osc := Nat.land s.isle.osc (osc % 65536), tested := true } := by rw [hv]; rfl
      rw [hshown] at hisle
      refine ⟨u, hexec, ?_, ?_, ?_, ?_, ?_, ?_, hosc⟩ <;> rw [hisle]
      · exact Option.some_ne_none _
      · simp only [List.isEmpty_iff]
  · exact fun s f osc ident ok hstate hz hf => congrArg s.done ((if_neg (by simp [hstate, hz])).trans (if_pos hf))
  · intro s v o run count hlimit hon hv
    have hgoes : ¬((run < 41 ∧ count < 800) ∨ (!s.isle.osc.testBit o) = true) := by
      rw [hon]
      simp only [Bool.not_true, Bool.false_eq_true, or_false]
      omega
    have hexec : exec (.entropyHealthFail o run count) s = s.done (if (if v.isle.tested then v.showOsc else v).oscCount < 12 ∧
        (if v.isle.tested then v.showOsc else v).get F.SEC_STATUS_STATE ≠ 2 ∧ (if v.isle.tested then v.showOsc else v).isle.tested
        then (if v.isle.tested then v.showOsc else v).hardError 12 else (if v.isle.tested then v.showOsc else v)) := by
      rw [hv]
      exact congrArg s.done (if_neg hgoes)
    have htested : v.isle.tested = s.isle.tested := by rw [hv]
    have hstate : v.showOsc.get F.SEC_STATUS_STATE = s.get F.SEC_STATUS_STATE := by
      rw [State.showOsc, State.get_set_other _ _ _ _ (by decide), hv]
      rfl
    have hnext : s.done v.showOsc = .next v.showOsc := State.done_next (by rw [hv]; rfl)
    rw [htested] at hexec
    refine ⟨fun hnone => ?_, fun hdone hfine => ?_, fun hdone hfew hbad => ?_⟩
    · rw [hnone, if_neg Bool.false_ne_true, if_neg (by simp [htested, hnone])] at hexec
      exact hexec.trans (State.done_next (by rw [hv]))
    · rw [hdone, if_pos rfl, if_neg] at hexec
      · exact hexec.trans hnext
      · rintro ⟨hfew, hbad, -⟩
        rw [hstate] at hbad
        obtain hmany | hhalt := hfine
        · exact absurd hfew (Nat.not_lt.mpr hmany)
        · exact hbad hhalt
    · rw [hdone, if_pos rfl, if_pos ⟨hfew, hstate ▸ hbad, htested.trans hdone⟩] at hexec
      exact hexec

end Sys2Proof.Machine
end

section
/-! Resets, the watchdog and the end of a zeroisation (R21–R23, R661, R668, R669, R671, R707): the settlement of O25. -/

namespace Sys2Proof.Machine

variable {s t : State} {fs : List Fld} {f : Fld}

/-! ### What restoring reset codes leaves -/

/-- A filter that decides by the key keeps all entries of a key or none. -/
theorem Sparse.find_filter {α : Type} {p : Nat × α → Bool} {k : Nat} {b : Bool} (hp : ∀ v, p (k, v) = b) (l : List (Nat × α)) :
    Sparse.find k (l.filter p) = if b then Sparse.find k l else none := by
  induction l with
  | nil => simp [Sparse.find]
  | cons e l ih =>
    obtain ⟨j, v⟩ := e
    by_cases hj : j = k
    · subst hj
      cases b with
      | true => simp [hp, Sparse.find]
      | false => simpa [hp] using ih
    · by_cases hpj : p (j, v) = true
      · simp only [List.filter_cons, hpj, if_true, Sparse.find, hj, if_false, ih]
      · simp only [List.filter_cons, hpj, if_false, Sparse.find, hj, ih, Bool.false_eq_true]

theorem State.get_dimReset (hf : f.key ≠ F.TG_PRIO_INTERRUPT_DIM.key) (s : State) (im : Option Image) :
    (s.dimReset im).get f = s.get f := by
  unfold State.dimReset
  split
  · rfl
  · exact State.get_set_other _ _ _ _ hf

/-- The registers once those that `p` drops are dropped. -/
theorem State.get_filter {p : Nat × Nat → Bool} {b : Bool} (hp : ∀ v, p (f.key, v) = b) (s : State) :
    ({ s with regs := s.regs.filter p } : State).get f = if b then s.get f else f.rst % 2 ^ f.width := by
  unfold State.get RegFile.get Sparse.get
  rw [Sparse.find_filter hp]
  cases b <;> rfl

/-- A field of the codes that are restored has its reset value, any other its value. -/
theorem State.get_restore {rs : List Rst} {r : Rst} (hr : rstOfKey f.key = some r)
    (hf : f.key ∉ [F.MIC_PRIV_STATUS_PIN, F.PWR_TETHER_LOST, F.TG_PRIO_INTERRUPT_DIM].map Fld.key) (s : State) :
    (s.restore rs).get f = if rs.contains r then f.rst % 2 ^ f.width else s.get f := by
  simp only [List.map_cons, List.map_nil, List.mem_cons, List.not_mem_nil, or_false, not_or] at hf
  obtain ⟨hpin, htether, hdim⟩ := hf
  unfold State.restore
  rw [State.get_dimReset hdim, State.get_filter (b := !rs.contains r)]
  · cases rs.contains r <;> rfl
  · intro v
    simp only [hr, beq_eq_false_iff_ne.mpr hpin, beq_eq_false_iff_ne.mpr htether, Bool.false_and, Bool.or_false]

/-- Restoring every code leaves no register but the microphones' pin. -/
theorem State.get_restore_all (hf : f.key ≠ F.MIC_PRIV_STATUS_PIN.key) (h : s.fab.image = none) :
    (s.restore [.por, .pin, .wdt, .zero, .soft]).get f = f.rst % 2 ^ f.width := by
  unfold State.restore State.dimReset
  rw [h]
  refine (State.get_filter (b := false) (fun v => ?_) s).trans (if_neg Bool.false_ne_true)
  dsimp only
  split
  · rfl
  · next r _ => cases r <;> simp [hf]

/-! ### The node's own addresses -/

/-- The MAC's filters with the node's own addresses, port `p`'s being `a` of the state and `p`. -/
def State.addressed (a : State → Nat → Nat) (s : State) : State :=
  (List.range 3).foldl (fun s p => ((s.set (F.MAC_UCAST_ADDR_2_5 p 0) (a s p)).set (F.MAC_UCAST_ADDR_0_1 p 0) (a s p / 2 ^ 32)).setB
    (F.MAC_UCAST_EN p 0) true) s

theorem State.addressed_only (a : State → Nat → Nat) (s : State) : Only ownAddressFields s (s.addressed a) := by
  refine (Only.refl _ s).foldl fun x p hp => ?_
  have hmem : ∀ f ∈ [F.MAC_UCAST_ADDR_2_5 p 0, F.MAC_UCAST_ADDR_0_1 p 0, F.MAC_UCAST_EN p 0], f ∈ ownAddressFields := fun f hf =>
    List.mem_flatMap.mpr ⟨p, hp, hf⟩
  exact (((Only.refl _ x).set (hmem _ (by simp)) _).set (hmem _ (by simp)) _).setB (hmem _ (by simp)) _

/-! ### The power-on reset -/

/-- The node with every code restored, and the parts that a power-on reset empties. -/
def State.porEmptied (s : State) (mac : Nat) (self : Bool) : State :=
  { ({ s with fab := FabState.reset } : State).restore [.por, .pin, .wdt, .zero, .soft] with
    power := { PowerState.reset with vinLost := s.power.vinLost && !self, seqBroken := 0 }
    net := { s.net with macs := [mac, mac + 1, mac + 2] }, clk := ClkState.reset }

/-- What power entry and the die supply after a power-on reset. -/
def State.porSupplied (s : State) (serial mac : Nat) (self : Bool) : State :=
  ((((s.set F.SYS_SERIAL_SERIAL serial).set F.SYS_MAC_HI_BASE_0_1 (mac / 2 ^ 32)).set F.SYS_MAC_LO_BASE_2_5 mac).setB
    F.SYS_STRAPS_SUPPLY_MODE self).setB F.PWR_RAILS_SELF self

/-- A broken power sequence shows after the power-on reset. -/
def State.seqShown (s : State) (seq : Nat) : State :=
  if seq = 0 then s else (s.setB F.PWR_AON_STATUS_SEQ_FAULT true).set F.PWR_AON_STATUS_SEQ_RULE seq

/-- The node after a power-on reset, before it starts cold. -/
def State.porBase (s : State) (serial mac : Nat) (self : Bool) : State :=
  (((s.porEmptied mac self).porSupplied serial mac self).seqShown s.power.seqBroken).addressed (fun _ p => mac + p)

theorem exec_powerOnReset_cold (hz : s.isle.zeroing = none) (straps : Straps) (flash : List (Nat × Byte)) (serial mac : Nat)
    (self : Bool) : exec (.powerOnReset straps flash serial mac self) s =
      s.done ((s.porBase serial mac self).coldBase straps flash 0).chooseImages := by
  change execPowerOnReset straps flash serial mac self s = _
  unfold execPowerOnReset
  rw [hz]
  rfl

theorem exec_powerOnReset_zeroing {c : Nat} (hz : s.isle.zeroing = some c) (straps : Straps) (flash : List (Nat × Byte))
    (serial mac : Nat) (self : Bool) : exec (.powerOnReset straps flash serial mac self) s =
      s.done (((s.porBase serial mac self).coldBase straps flash 0).zeroReset c) := by
  change execPowerOnReset straps flash serial mac self s = _
  unfold execPowerOnReset
  rw [hz]
  rfl

/-- The fields that a power-on reset may leave at another than their reset value. -/
def porFields : List Fld :=
  [F.SYS_SERIAL_SERIAL, F.SYS_MAC_HI_BASE_0_1, F.SYS_MAC_LO_BASE_2_5, F.SYS_STRAPS_SUPPLY_MODE, F.PWR_RAILS_SELF,
    F.PWR_AON_STATUS_SEQ_FAULT, F.PWR_AON_STATUS_SEQ_RULE, F.MIC_PRIV_STATUS_PIN] ++ ownAddressFields

theorem State.porSupplied_only (s : State) (serial mac : Nat) (self : Bool) : Only porFields s (s.porSupplied serial mac self) :=
  (((((Only.refl _ s).set (by simp [porFields]) _).set (by simp [porFields]) _).set (by simp [porFields]) _).setB
    (by simp [porFields]) _).setB (by simp [porFields]) _

theorem State.seqShown_only (s : State) (seq : Nat) :
    Only [F.PWR_AON_STATUS_SEQ_FAULT, F.PWR_AON_STATUS_SEQ_RULE] s (s.seqShown seq) := by
  unfold State.seqShown
  split
  · exact Only.refl _ s
  · exact ((Only.refl _ s).setB (by simp) _).set (by simp) _

theorem State.porBase_only (s : State) (serial mac : Nat) (self : Bool) :
    Only porFields (s.porEmptied mac self) (s.porBase serial mac self) :=
  ((State.porSupplied_only _ serial mac self).trans ((State.seqShown_only _ _).mono fun f hf => by
    simp only [List.mem_cons, List.not_mem_nil, or_false] at hf
    rcases hf with rfl | rfl <;> simp [porFields])).trans
      ((State.addressed_only _ _).mono fun f hf => List.mem_append_right _ hf)

/-- A field that neither power entry nor the die supplies has its reset value after a power-on reset. -/
theorem State.get_porBase (hf : f.key ∉ porFields.map Fld.key) (s : State) (serial mac : Nat) (self : Bool) :
    (s.porBase serial mac self).get f = f.rst % 2 ^ f.width := by
  refine ((s.porBase_only serial mac self).2 f hf).trans (State.get_restore_all (fun h => hf ?_) rfl)
  rw [h]
  exact List.mem_map_of_mem (by simp [porFields])

/-- What power entry and the die supply, nothing after it changes. -/
theorem State.get_porBase_supplied (hf : f.key ∉ ownAddressFields.map Fld.key)
    (hseq : f.key ∉ [F.PWR_AON_STATUS_SEQ_FAULT, F.PWR_AON_STATUS_SEQ_RULE].map Fld.key) (s : State) (serial mac : Nat) (self : Bool) :
    (s.porBase serial mac self).get f = ((s.porEmptied mac self).porSupplied serial mac self).get f := by
  rw [State.porBase, (State.addressed_only _ _).2 f hf, (State.seqShown_only _ _).2 f hseq]

theorem State.porSupplied_shows (s : State) (serial mac : Nat) (self : Bool) :
    (s.porSupplied serial mac self).get F.SYS_SERIAL_SERIAL = serial % 2 ^ 32 ∧
      (s.porSupplied serial mac self).getB F.SYS_STRAPS_SUPPLY_MODE = self ∧
      (s.porSupplied serial mac self).getB F.PWR_RAILS_SELF = self := by
  unfold State.porSupplied
  refine ⟨?_, ?_, State.getB_setB_self _ _ _ rfl⟩
  · rw [State.get_setB_other _ _ _ _ (by decide), State.get_setB_other _ _ _ _ (by decide), State.get_set_other _ _ _ _ (by decide),
      State.get_set_other _ _ _ _ (by decide), State.get_set_self]
    rfl
  · rw [State.getB_setB_other _ _ _ _ (by decide), State.getB_setB_self _ _ _ rfl]

theorem State.porBase_parts (s : State) (serial mac : Nat) (self : Bool) :
    (s.porBase serial mac self).net.macs = [mac, mac + 1, mac + 2] ∧ (s.porBase serial mac self).fab = FabState.reset ∧
      (s.porBase serial mac self).clk = ClkState.reset ∧
      (s.porBase serial mac self).power = { PowerState.reset with vinLost := s.power.vinLost && !self, seqBroken := 0 } := by
  have hnet := congrArg (fun u : State => u.net.macs) (s.porBase_only serial mac self).1
  have hfab := congrArg State.fab (s.porBase_only serial mac self).1
  have hclk := congrArg State.clk (s.porBase_only serial mac self).1
  have hpower := congrArg State.power (s.porBase_only serial mac self).1
  exact ⟨hnet, hfab, hclk, hpower⟩

/-! ### The pin's reset -/

theorem exec_pinReset_ignored {us : Nat} (h : s.porWaits = true ∨ us < 1) (straps : Straps) (flash : List (Nat × Byte)) :
    exec (.pinReset us straps flash) s = .next s :=
  congrArg s.done (if_pos (by simpa [or_comm] using h))

/-- The node that a reset finds, a zeroisation in progress completed first (R661). -/
def State.zeroFinished (s : State) : State :=
  match s.isle.zeroing with
  | none => s
  | some c => s.zeroReset c

theorem exec_pinReset_taken {us : Nat} (hp : s.porWaits = false) (hus : 10 ≤ us) (straps : Straps) (flash : List (Nat × Byte)) :
    exec (.pinReset us straps flash) s =
      s.done (((s.zeroFinished.restore [.pin, .wdt, .zero, .soft]).addressed State.macAddr).coldBase straps flash 1).chooseImages := by
  change execPinReset us straps flash s = _
  unfold execPinReset
  rw [if_neg (by simp [hp]; omega), if_pos hus]
  unfold State.zeroFinished State.addressed
  cases hz : s.isle.zeroing with
  | none => simp only [hz, Bool.not_true, Bool.false_eq_true, if_false]
  | some c => simp only [hz, Bool.not_true, Bool.false_eq_true, if_false]

theorem exec_pinReset_open {us : Nat} (hp : s.porWaits = false) (hmin : 1 ≤ us) (hmax : us < 10) (straps : Straps)
    (flash : List (Nat × Byte)) : exec (.pinReset us straps flash) s =
      (if s.freeBool.1 then exec (.pinReset 10 straps flash) s.freeBool.2 else .next s.freeBool.2) := by
  change execPinReset us straps flash s = _
  unfold execPinReset
  rw [if_neg (by simp [hp]; omega), if_neg (Nat.not_le.mpr hmax)]
  cases hfree : s.freeBool.1 with
  | false => simp only [hfree, Bool.not_false, if_true, Bool.false_eq_true, if_false]; rfl
  | true =>
    rw [if_pos rfl, exec_pinReset_taken (s := s.freeBool.2) hp (le_refl 10)]
    unfold State.zeroFinished State.addressed
    cases hz : s.freeBool.2.isle.zeroing with
    | none => simp only [hfree, hz, Bool.not_true, Bool.false_eq_true, if_false]; rfl
    | some c => simp only [hfree, hz, Bool.not_true, Bool.false_eq_true, if_false]; rfl

/-! ### The end of a zeroisation -/

theorem Settles.isle (h : Settles fs s t) : t.isle = s.isle := by
  have hisle := congrArg State.isle h.1
  exact hisle

theorem State.showBoot_isle (s : State) : s.showBoot.isle = s.isle := rfl

theorem State.recordReset_isle (s : State) (last : Nat) : (s.recordReset last).isle = s.isle :=
  (State.addLog_settles ..).isle

/-- The island without its keys, no session and no zeroisation under way (R661). -/
def Erased (i : SecState) : Prop :=
  i.zeroing = none ∧ i.wdtDue = false ∧ i.tackKey = false ∧ i.caks = [] ∧ i.identity = [] ∧ i.pwk = false ∧ i.drbg = none ∧
    i.nets = [] ∧ i.mbox = none

theorem State.islandStart_isle (s : State) : s.islandStart.isle =
    { s.isle with tested := false, challenges := [], locked := [], nets := [], mbox := none, drbg := none } :=
  State.showSec_isle _

theorem Erased.islandStart (h : Erased s.isle) : Erased s.islandStart.isle := by
  obtain ⟨hzeroing, hwdt, htack, hcaks, hident, hpwk, -⟩ := h
  rw [State.islandStart_isle]
  exact ⟨hzeroing, hwdt, htack, hcaks, hident, hpwk, rfl, rfl, rfl⟩

theorem Erased.clearRun (h : Erased s.isle) : Erased s.clearRun.isle := by
  obtain ⟨hzeroing, hwdt, htack, hcaks, hident, hpwk, hdrbg, -⟩ := h
  exact ⟨hzeroing, hwdt, htack, hcaks, hident, hpwk, hdrbg, rfl, rfl⟩

theorem State.restore_isle (s : State) (rs : List Rst) : (s.restore rs).isle = s.isle := by
  unfold State.restore State.dimReset
  split <;> rfl

/-- The codes that the end of a zeroisation restores leave the cause of it. -/
theorem State.zeroCause_restore (s : State) (wdt : Bool) :
    (s.restore (if wdt then [.zero, .wdt, .soft] else [.zero, .soft])).get F.SEC_ZERO_CAUSE_CAUSE = s.get F.SEC_ZERO_CAUSE_CAUSE := by
  rw [State.get_restore (r := .por) (by decide +kernel) (by decide)]
  cases wdt <;> rfl

theorem State.zeroCause_started (s : State) :
    (((s.islandStart).syncCaks).showBoot).syncPower.get F.SEC_ZERO_CAUSE_CAUSE = s.get F.SEC_ZERO_CAUSE_CAUSE := by
  rw [(State.syncPower_settles _).2 _ (by decide), (State.showBoot_only _).2 _ (by decide), State.get, State.syncCaks_regs]
  change s.islandStart.get F.SEC_ZERO_CAUSE_CAUSE = _
  rw [State.islandStart, (State.showSec_only _).2 _ (by decide), State.get_set_other _ _ _ _ (by decide)]
  rfl

theorem State.get_recordReset (s : State) (last : Nat) :
    (s.recordReset last).get F.SYS_RESET_CAUSE_LAST = last % 2 ^ F.SYS_RESET_CAUSE_LAST.width ∧
      (s.recordReset last).get F.SEC_ZERO_CAUSE_CAUSE = s.get F.SEC_ZERO_CAUSE_CAUSE := by
  unfold State.recordReset State.ev
  constructor
  · exact (State.get_addLog _ _ _ _ _ _ _ (by decide)).trans (State.get_set_self ..)
  · exact (State.get_addLog _ _ _ _ _ _ _ (by decide)).trans (State.get_set_other _ _ _ _ (by decide))

/-- What the end of a zeroisation leaves before HALTER. -/
theorem State.zeroReset_shows (s : State) (c : Nat) : ∃ u : State, s.zeroReset c = (u.enterHalter 3).showFw ∧ Erased u.isle ∧
    u.get F.SYS_RESET_CAUSE_LAST = 3 ∧ u.get F.SEC_ZERO_CAUSE_CAUSE = c % 2 ^ F.SEC_ZERO_CAUSE_CAUSE.width := by
  unfold State.zeroReset
  extract_lets wdt n s1 _ s2 s3 s4 s5 s6 s7 s8 s9 _ s10
  have hisle2 : Erased s2.isle := ⟨rfl, rfl, rfl, rfl, rfl, rfl, rfl, rfl, rfl⟩
  clear_value s2
  have hcause4 : s4.get F.SEC_ZERO_CAUSE_CAUSE = c % 2 ^ F.SEC_ZERO_CAUSE_CAUSE.width := by
    rw [State.get_setB_other _ _ _ _ (by decide)]
    exact State.get_set_self ..
  have hisle4 : Erased s4.isle := hisle2
  clear_value s4
  have hcause6 : s6.get F.SEC_ZERO_CAUSE_CAUSE = c % 2 ^ F.SEC_ZERO_CAUSE_CAUSE.width :=
    (s5.zeroCause_restore wdt).trans ((State.get_addLog s4 _ _ _ _ _ _ (by decide)).trans hcause4)
  have hisle6 : Erased s6.isle := by
    refine Erased.clearRun ?_
    rw [State.restore_isle, show s5.isle = s4.isle from (State.addLog_settles s4 ..).isle]
    exact hisle4
  clear_value s6
  have hisle7 : Erased s7.isle := by
    simp only [s7]
    split
    · exact hisle6
    · exact hisle6
  have hcause7 : s7.get F.SEC_ZERO_CAUSE_CAUSE = c % 2 ^ F.SEC_ZERO_CAUSE_CAUSE.width := by
    simp only [s7]
    split
    · rw [State.get_set_other _ _ _ _ (by decide), State.stopStride, State.get_setB_other _ _ _ _ (by decide)]
      exact hcause6
    · exact hcause6
  clear_value s7
  have hisle8 : Erased s8.isle := by
    rw [show s8.isle = _ from (State.syncPower_settles _).isle, State.showBoot_isle, State.syncCaks_isle]
    exact hisle7.islandStart
  have hcause8 : s8.get F.SEC_ZERO_CAUSE_CAUSE = c % 2 ^ F.SEC_ZERO_CAUSE_CAUSE.width := s7.zeroCause_started.trans hcause7
  clear_value s8
  have hlast : s9.get F.SYS_RESET_CAUSE_LAST = 3 := (s8.get_recordReset 3).1
  have hcause9 : s9.get F.SEC_ZERO_CAUSE_CAUSE = s8.get F.SEC_ZERO_CAUSE_CAUSE := (s8.get_recordReset 3).2
  have hisle9 : Erased s9.isle := (s8.recordReset_isle 3) ▸ hisle8
  clear_value s9
  exact ⟨s10, rfl, hisle9, hlast, hcause9.trans hcause8⟩

theorem exec_zeroisationComplete_ends {c : Nat} (hz : s.isle.zeroing = some c) :
    exec .zeroisationComplete s = s.done (s.zeroReset c) := by
  change execZeroisationComplete s = _
  simp only [execZeroisationComplete, hz]

/-! ### The watchdog -/

/-- An expiry in halter mode for a hard error or a zeroisation keeps that mode and its cause (R707). -/
theorem exec_watchdogExpiry_halter {cause : Nat} (hw : s.hardResetWaits = false) (hz : s.isle.zeroing = none)
    (hh : s.getB F.SYS_PERSONA_HALTER = true) (hc : s.get F.BOOT_STATUS_HALTER_CAUSE = cause) (hcause : cause = 2 ∨ cause = 3) :
    exec .watchdogExpiry s = s.done (if cause = 2 then ((s.wdtBase.enterHalter cause).showFw.set F.SEC_STATUS_STATE 2).showSec
      else (s.wdtBase.enterHalter cause).showFw) := by
  subst hc
  refine congrArg s.done ((if_neg (by simp [hw])).trans ((if_neg (by simp [hz])).trans (if_pos ?_)))
  simpa [hh] using hcause

/-! ### The settlement -/

/-- Settles O25: each reset as what it restores and where it starts, and the end of a zeroisation. -/
theorem resetsAndWatchdog : Obligations.ResetsAndWatchdog := by
  refine ⟨⟨?_, ?_⟩, ⟨?_, ?_⟩, ?_⟩
  · exact fun s rs f r hr hf => State.get_restore hr hf s
  · intro s straps flash serial mac self
    obtain ⟨hserial, hsupply, hself⟩ := (s.porEmptied mac self).porSupplied_shows serial mac self
    obtain ⟨hmacs, hfab, hclk, hpower⟩ := s.porBase_parts serial mac self
    refine ⟨s.porBase serial mac self, fun hz => exec_powerOnReset_cold hz .., fun c hz => exec_powerOnReset_zeroing hz ..,
      fun f hf => State.get_porBase hf s serial mac self, ?_, ?_, ?_, hmacs, hfab, hclk, hpower⟩
    · exact (State.get_porBase_supplied (by decide) (by decide) s serial mac self).trans hserial
    · rw [State.getB, State.get_porBase_supplied (by decide) (by decide)]
      exact hsupply
    · rw [State.getB, State.get_porBase_supplied (by decide) (by decide)]
      exact hself
  · intro s z us straps flash hz
    have hfinished : z = s.zeroFinished := hz
    refine ⟨fun h => exec_pinReset_ignored h straps flash, fun hp hus => ?_, fun hp hmin hmax => exec_pinReset_open hp hmin hmax ..⟩
    rw [hfinished]
    exact ⟨_, exec_pinReset_taken hp hus straps flash, State.addressed_only _ _⟩
  · intro s
    refine ⟨fun h => congrArg s.done (if_pos h), fun c hw hz => ?_, fun hw hz => ⟨fun h => ?_, fun hh hc => ?_, fun hh hc => ?_⟩⟩
    · exact congrArg s.done ((if_neg (by simp [hw])).trans (if_pos (by simp [hz])))
    · refine congrArg s.done ((if_neg (by simp [hw])).trans ((if_neg (by simp [hz])).trans (if_neg ?_)))
      obtain hrun | ⟨herror, hzero⟩ := h
      · simp [hrun]
      · simp [herror, hzero]
    · exact (exec_watchdogExpiry_halter hw hz hh hc (.inr rfl)).trans (congrArg s.done (if_neg (by decide)))
    · exact (exec_watchdogExpiry_halter hw hz hh hc (.inl rfl)).trans (congrArg s.done (if_pos rfl))
  · intro s c hz
    obtain ⟨u, heq, ⟨hzeroing, hwdt, htack, hcaks, hident, hpwk, hdrbg, hnets, hmbox⟩, hlast, hcause⟩ := s.zeroReset_shows c
    exact ⟨exec_zeroisationComplete_ends hz, u, heq, hzeroing, hwdt, htack, hcaks, hident, hpwk, hdrbg, hnets, hmbox, hlast, hcause⟩

end Sys2Proof.Machine
end
